-- ==== Sys2Proof/Word.lean ====
section
/-!
DEFINITION. The words, times and tables that every other file uses, and the shapes of the register
map's rows.
-/

namespace Sys2Proof

/-- A register is 32 bits wide (R7). -/
abbrev Word := BitVec 32

/-- A byte of memory. -/
abbrev Byte := BitVec 8

/-- An instant of the 64-bit timebase: 32 bits of seconds, 32 bits of binary fraction (R5). -/
abbrev Time := BitVec 64

/-- A word of a shelf queue: 128 bits (R114). -/
abbrev QWord := BitVec 128

/-- A drawer, 0 to 3. -/
abbrev Drawer := Fin 4

/-- A table of keyed entries, the keys strictly rising, with no entry equal to what an unlisted key
reads as. -/
abbrev Tab (α : Type) := List (Nat × α)

/-- The place of a field: the register's `CTL` offset, the field's high bit and its low bit (R11). -/
structure Fld where
  off : Nat
  hi : Nat
  lo : Nat
deriving DecidableEq, Repr

/-- Reset domains of R10. -/
inductive Dom where
  | a | b | c | d
deriving DecidableEq, Repr

/-- Filter codes of R493, a resource register naming its kind of resource. -/
inductive Filt where
  /-- `ALL`: every drawer reads, drawer 0 writes. -/
  | all
  /-- `D0`: drawer 0 alone. -/
  | d0
  /-- `SELF`: one instance for each drawer. -/
  | self
  /-- `RST_CMD`, under R77. -/
  | rstCmd
  /-- `JIG_NOTICE_c`, under R162. -/
  | jigNotice
  /-- `PLMB_HOST_SAMPLE`, under R397. -/
  | hostSample
  /-- `RING_FILTER_w`, which `RING_DRAWER` writes. -/
  | ringFilter
  /-- `DBG_*`, under R496. -/
  | dbg
  /-- `RES`, the resource being queue n. -/
  | queue
  /-- `RES`, the resource being event source n. -/
  | source
  /-- `RES`, the resource being Jig thread n. -/
  | thread
  /-- `RES`, the resource being general key slot n. -/
  | key
  /-- `RES`, the resource being namespace n. -/
  | ns
  /-- `RES`, the resource being `UART_n`. -/
  | uart
  /-- `RES`, the resource being check unit k. -/
  | chk
deriving DecidableEq, Repr

/-- One row of the register map: `count1` × `count2` registers at strides `stride1` and `stride2`
from `base`, their domain and filter, the bits of each access type of R9 (a bit in no mask is
`RO`, `WO` or reserved), and the reset value. -/
structure RegRow where
  name : String
  base : Nat
  count1 : Nat
  stride1 : Nat
  count2 : Nat
  stride2 : Nat
  dom : Dom
  filt : Filt
  rw : Nat
  w1c : Nat
  w1s : Nat
  reset : Nat
deriving DecidableEq, Repr

/-- Which aperture of R101 an access goes to; `cfg` stands for the function's PCIe configuration space (R97). -/
inductive Aperture where
  | ctl | qwin | bulk | cfg
deriving DecidableEq, Repr

/-- The reset sources of R61. -/
inductive Src where
  /-- power-on -/
  | por
  /-- brown-out of supply `i`: `VDD_CL`, `VDD_CA`, `VDD_PCIE`, `VDD_IO18`, `VDD_3V3` -/
  | bor (i : Nat)
  /-- `RESET_N` low -/
  | pin
  /-- `TCXO_IN` lost with no fallback -/
  | tcxoLost
  /-- a logic-die PLL lost lock -/
  | pllLost
  /-- Keeper watchdog -/
  | keeperWdt
  /-- Keeper lock-up -/
  | keeperLock
  /-- software device reset -/
  | swDevice
  /-- debug request, reach full -/
  | dbgFull
  /-- debug request, reach island -/
  | dbgIsland
  /-- Jig lock-up of a core -/
  | jigLock
  /-- Jig thread watchdog -/
  | jigWdt
  /-- clock failure of one island -/
  | islandClk
  /-- software reset of drawer d -/
  | swDrw (d : Nat)
  /-- function-level reset or `PERST_N` of drawer d -/
  | flr (d : Nat)
deriving DecidableEq, Repr

/-- A boot image as the ROM meets it (R88): the 256 bytes of its header, the digests that the ROM computes of
its two parts, and whether the two cores of the cluster differ over it (R359). -/
structure BootImg where
  header : List Byte
  kfw : BitVec 384
  ucode : BitVec 384
  mismatch : Bool
deriving DecidableEq, Repr

/-- What the test access port is asked for (R58): an instruction of boundary scan, or a debug request. -/
inductive TapOp where
  | bypass | idcode | sample | extest | debug
deriving DecidableEq, Repr

/-- Where a debug request comes from: a drawer's write of `DBG_REQ`, or the test access port (R58, R498). -/
inductive DbgFrom where
  | drawer (d : Drawer)
  | tap (op : TapOp)
deriving DecidableEq, Repr

/-- The units that take descriptors from host-to-device queues (R112, endpoints 1 to 4). -/
inductive QUnit where
  | storage | cipher | pager | serial
deriving DecidableEq, Repr

/-- What a NAND read shows (R383, R388): codewords corrected, a target that went into read retry (4 × channel
+ target), the first granule of the job that stayed uncorrectable, and the first one whose verification
lane differed. -/
structure NandRead where
  corr : Nat
  retry : Option (Fin 8)
  uncorr : Option Nat
  fault : Option Nat
deriving DecidableEq, Repr

/-- What the mount reads from the parts on the channels (R383, R385). -/
structure NandPart where
  pageBytes : Nat
  spareBytes : Nat
  nvddr2 : Bool
  suspends : Bool
  suspendUs : Nat
  trUs : Nat
  uniform : Bool
  /-- rated endurance, where the part declares one -/
  rated : Option Nat
  rawBytes : Nat
  ch0 : BitVec 4
  ch1 : BitVec 4
  spareBlocks : Nat
deriving DecidableEq, Repr

/-- What an AES job is given (R186, R342, R344). -/
structure AesArgs where
  mode : Nat
  decrypt : Bool
  pad : Nat
  tagLen : Nat
  key : List Byte
  iv : List Byte
  aad : List Byte
  input : List Byte
deriving DecidableEq, Repr

/-- A detection of a Mantis correlator (R238): family 0 native, 1 Sweep with its spreading factor,
2 compatibility; metric in 0.25 dB, power in dBµV, the sender's frequency offset in 0.01 ppm (R225), the
preamble's first instant at the ball and the instant of the declaration. -/
structure Det where
  fam : Nat
  sf : Nat
  metric : Nat
  power : Nat
  freq : Int
  start : Time
  seen : Time
deriving DecidableEq, Repr

/-- A line header whose `HCS` passes (R210, R260); of a Sweep header `mode` is 0, `tmapId` 0xF. -/
structure LineHdr where
  version : Nat
  mode : Nat
  length : Nat
  tmapId : Nat
  phaseCode : Nat
  longPrefix : Bool
  rep4 : Bool
  /-- the reserved bits -/
  reserved : Nat
  /-- `FRAME_CONTROL` (R280) -/
  fc : BitVec 24
deriving DecidableEq, Repr

/-- What the line shows of a received frame at its end (R280, R226): the fields after the header, the payload and
the MIC as they came. -/
structure LineRx where
  endAt : Time
  crcOk : Bool
  dest : Nat
  src : Nat
  far : Nat
  fc : Nat
  payload : List Byte
  mic : List Byte
  /-- the verification lane differed (R359) -/
  mismatch : Bool
  /-- the frame's mean offset on chains 0 to 5, signed, 0.01 ppm (R225) -/
  freqOfs : List (BitVec 16)
  /-- SNR of chains 0 to 5, signed, 0.5 dB units -/
  snr : List (BitVec 8)
deriving DecidableEq, Repr

/-- The addresses that follow a received line frame's header (R280), and the EUI-64 at the front of an
association request's payload (R287). -/
structure RxAddr where
  /-- the instant at which they have come -/
  at' : Time
  dest : Nat
  far : Nat
  eui : Nat
deriving DecidableEq, Repr

/-- A received compatibility frame (R233, R235): its address fields, and the whole MAC frame without its
frame check sequence. -/
structure CompatRx where
  endAt : Time
  fcsOk : Bool
  pan : Nat
  short : Option Nat
  eui : Option Nat
  /-- short source address -/
  src : Option Nat
  ackReq : Bool
  /-- the frame control asks for a tone-map response (R233) -/
  tmReq : Bool
  seq : Nat
  mode : Nat
  data : List Byte
  /-- mean offset and SNR on chains 0 to 5 -/
  freqOfs : List (BitVec 16)
  snr : List (BitVec 8)
deriving DecidableEq, Repr

/-- What the air shows of a received radio frame (R309 to R311, R315). -/
structure RfRx where
  start : Time
  refAt : Time
  endAt : Time
  chan : Nat
  opmode : Nat
  fec : Bool
  whiten : Bool
  phrOk : Bool
  length : Nat
  fcsOk : Bool
  ftype : Nat
  secLevel : Nat
  ackReq : Bool
  pending : Bool
  evtValid : Bool
  /-- `FCTL` [15:10]: two bits that are zero, and `VERSION` -/
  fctlTop : Nat
  seq : Nat
  dest : Nat
  src : Nat
  evt : Nat
  fc : Nat
  payload : List Byte
  mic : List Byte
  mismatch : Bool
  freqOfs : BitVec 16
  rssi : BitVec 8
  snr : BitVec 8
deriving DecidableEq, Repr

/-- What a chain measured of one noise-map bin in a cycle (R278): mean idle power in linear units and
blanker triggers in 1/16. -/
structure BinMeas where
  chain : Fin 6
  bin : Fin 32
  power : Nat
  triggers : Nat
deriving DecidableEq, Repr

/-- A line frame as it goes out (R210, R260, R280, R283, R292): the header's fields, `FRAME_CONTROL` by its
fields, and what follows the header; `hops` holds `RUNG_ADVICE` in an acknowledgement. -/
structure LineFrame where
  fam : Nat
  sf : Nat
  mode : Nat
  tmapId : Nat
  phaseCode : Nat
  longPrefix : Bool
  rep4 : Bool
  length : Nat
  ftype : Nat
  secLevel : Nat
  ackReq : Bool
  seq : Nat
  pending : Bool
  hops : Nat
  dest : Nat
  src : Nat
  far : Nat
  counter : Nat
  payload : List Byte
  mic : List Byte
deriving DecidableEq, Repr

/-- A radio frame as it goes out (R311, R313, R327). -/
structure RfFrame where
  chan : Nat
  opmode : Nat
  fec : Bool
  whiten : Bool
  level : Nat
  ftype : Nat
  secLevel : Nat
  ackReq : Bool
  pending : Bool
  evtValid : Bool
  seq : Nat
  dest : Nat
  src : Nat
  evt : Nat
  counter : Nat
  payload : List Byte
  mic : List Byte
deriving DecidableEq, Repr

/-- A radio frame being received since its SFD (R308): the first bit of its preamble as the receiver met it, and
its reference instant. -/
structure RfRecv where
  chan : Nat
  opmode : Nat
  fec : Bool
  whiten : Bool
  start : Time
  refAt : Time
deriving DecidableEq, Repr

/-- An acknowledgement as it is received (R236, R294, R327), its header or FCS good: the chain and the family it
came in, none for the radio; its type and `SEQ`; on the radio its channel and form. -/
structure AckSeen where
  line : Option (Fin 6 × Fin 3)
  ftype : Nat
  seq : Nat
  chan : Nat
  opmode : Nat
  fec : Bool
  whiten : Bool
deriving DecidableEq, Repr

/-- The straps `DRW_SEL_2` and `DRW_SEL_3` as they are sampled (R53). -/
structure DrwSel where
  sel2 : Bool
  sel3 : Bool
deriving DecidableEq, Repr

/-- The images of the boot flash, none where it does not answer (R87). -/
structure BootFlash where
  prim : Option BootImg
  sec : Option BootImg
deriving DecidableEq, Repr

/-- The opening of a QSPI transaction: command byte and address (R98). -/
structure QspiHead where
  cmd : Byte
  addr : Word
deriving DecidableEq, Repr

/-- A drawer whose reset may end, and the level of `PERST_N` then (R61, R110). -/
structure DrawerEnd where
  drawer : Drawer
  perstHigh : Bool
deriving DecidableEq, Repr

/-- A symbol of a native frame on a chain: its number after the preamble, and the error vectors of its data carriers,
each with its baseline (R252). -/
structure SymbolSeen where
  chain : Fin 6
  sym : Nat
  carriers : List (Nat × Nat)
deriving DecidableEq, Repr

/-- A job's run in the cipher cluster, and whether its two cores differed (R359). -/
structure CoreRun where
  id : Nat
  mismatch : Bool
deriving DecidableEq, Repr

/-- Whose emission: a program action's, or the acknowledgement of a place in the list of those due. -/
inductive Emitter where
  | act (th : Fin 32) (slot : Fin 4)
  | ack (i : Nat)
deriving DecidableEq, Repr

/-- Whose deadline of R23: an acknowledgement due, or a frame held for its context. -/
inductive DueOf where
  | ack (i : Nat)
  | held (i : Nat)
deriving DecidableEq, Repr

/-- What a read that captures companion words reads (R491). -/
inductive CapReg where
  | tbSec
  | zxTHi (x : Fin 3)
  | keyUseLo (n : Fin 256)
  | meas (n : Fin 8)
deriving DecidableEq, Repr

/-- A ring frame as it passes the node (R431): `whole` is false for a fragment. -/
structure RingFrame where
  src : Nat
  mark : Nat
  pid : Nat
  data : List Byte
  crcOk : Bool
  whole : Bool
deriving DecidableEq, Repr

/-- A Tenon flit as it is received (R457 to R459): class, `SEQ`, whether it is of the replay class, whether
`CPAR` passes, what the SECDED code finds (0 free of error, 1 corrected, 2 uncorrectable), stream index
of an ADC chain 0 to 5 or of radio receive 6, and whether it reports a declaration of loss. -/
structure Flit where
  cls : Fin 8
  seq : Fin 8
  replay : Bool
  parOk : Bool
  ecc : Fin 3
  stream : Option (Fin 7 × Nat)
  lossMsg : Bool
deriving DecidableEq, Repr

/-- What an SRAM word with an error holds (R472). -/
inductive EccLoc where
  /-- the entry at a place of a device-to-host or host-to-device queue, counted from the front -/
  | queue (n : Fin 64) (i : Nat)
  | bulk (d : Fin 4) (off : Nat)
  | ctx (c w : Nat)
  | imem (core : Fin 8) (i : Nat)
  | dmem (core : Fin 8) (a : Nat)
  | queueCfg (n : Fin 64)
  | evtRoute (n : Fin 288)
  | keySlot (n : Fin 256)
  | keeper
  /-- a word whose content the model does not hold apart: frame buffer, address index, map cache, DSP
  buffers -/
  | other
deriving DecidableEq, Repr

/-- An error that a read of SRAM finds: structure (R473), word index, whether it is uncorrectable. -/
structure EccHit where
  str : Fin 8
  word : Nat
  uncorr : Bool
  loc : EccLoc
deriving DecidableEq, Repr

end Sys2Proof
end

