-- ==== Sys2Proof/Syntax.lean ====
section
/-!
DEFINITION. The commands of the block: one constructor of `Instr` for each row of
spec/opcode_table.json.  The table gives its rows no operands, so a command carries what its rule
says the block observes: who accesses what and with which value, or what the wire, the line, the
radio or the memory device shows.  See assumption 1.
-/

namespace Sys2Proof


/-- A command the block takes from outside, or an event of its own clockwork. -/
inductive Instr where
  /-- `BROWN_OUT` (R503). A supply falls below its brown-out threshold for long enough to be taken, which asserts a level A reset. -/
  | brownOut (rail : Fin 5)
  /-- `ISLAND_CLOCK_FAILURE` (R71). One island's own clock fails, which causes a level D reset of that island, or a level B reset where level D is not admitted. -/
  | islandClockFailure (island : Fin 16)
  /-- `FUNCTION_LEVEL_RESET` (R52). A PCIe function-level reset or PERST_N low starts a level C reset of each affected drawer. -/
  | functionLevelReset (fn : Option Drawer)
  /-- `SW_DEVICE_RESET` (R77). Drawer 0 writes RST_CMD with OP 0x1 and the correct key, which causes a level B reset. -/
  | swDeviceReset (d : Drawer) (v : Word)
  /-- `SW_DRAWER_RESET` (R77). A permitted RST_CMD write with OP 0x2 and the correct key starts a level C reset of the target drawer. -/
  | swDrawerReset (d : Drawer) (v : Word)
  /-- `DBG_REQ_GO` (R498). A write of GO, or a debug request through the test access port, acts according to DBG_REACH: a level D or level B reset, or a refusal. -/
  | dbgReqGo (src : DbgFrom) (v : Word)
  /-- `RESET_RELEASE` (R66). The last source covering a resource ends, and the release sequence of the widest asserted level runs step by step. -/
  | resetRelease (ends : List Src) (sel : DrwSel)
  /-- `KEEPER_ROM_BOOT` (R89). The Keeper ROM raises the boot count, measures the ROM and the option image, and reads and checks the flash images in order. -/
  | keeperRomBoot (flash : BootFlash) (mismatch : Bool)
  /-- `FLASH_TIMEOUT` (R87). The boot flash does not answer within 10 ms, and ERROR reads FLASH_TIMEOUT. -/
  | flashTimeout (sec : Option BootImg)
  /-- `LEVEL_D_RELEASE` (R75). An island reset at level D is released once its CLK_OK holds, which sets its RST_ISLAND bit and raises ISLAND_RESET. -/
  | levelDRelease (island : Fin 16)
  /-- `OPT_STAGE_WRITE` (R83). A write to an option staging word after PREPARE returns the commit state to IDLE. -/
  | optStageWrite (d : Drawer) (n : Fin 26) (v : Word) (be : BitVec 4)
  /-- `PREPARE` (R84). The OPT_CMD PREPARE command checks the staged image and either sets READY with STAGE_CRC or refuses it with a reason. -/
  | prepare (d : Drawer) (v : Word)
  /-- `COMMIT` (R85). The OPT_CMD COMMIT command, with a matching CONFIRM in READY, starts writing the new image, or is refused with reason 10. -/
  | commit (d : Drawer) (v : Word)
  /-- `COMMIT_WRITE_DONE` (R85). The option copy writes complete with read-back, giving DONE, or WRITE_FAIL on a read-back failure. -/
  | commitWriteDone (firstOk secondOk : Bool)
  /-- `DISCARD` (R83). The OPT_CMD DISCARD command reloads the staging words from the active image and sets IDLE. -/
  | discard (d : Drawer) (v : Word)
  /-- `BOOT_PUSH` (R90). Drawer 0 writes an image length to BOOT_PUSH in WAIT_PUSH or FAILED, and the ROM checks and loads the pushed image. -/
  | bootPush (d : Drawer) (v : Word) (be : BitVec 4)
  /-- `ATT_REQUEST` (R94). A drawer writes REQUEST; the device latches the nonce and destination and sets PENDING, or refuses with BUSY or DEST. -/
  | attRequest (d : Drawer) (v : Word)
  /-- `ATT_DONE` (R96). The dual-core signature completes; the report is written and ATT_DONE raised, or the request is refused with KEY_FAULT. -/
  | attDone (match2 : Bool)
  /-- `QSPI_READ` (R99). A QSPI READ transaction waits for the data and drives it, popping a queue entry only after the sixteenth byte. -/
  | qspiRead (port : Fin 2) (head : QspiHead) (bytes : Nat)
  /-- `QSPI_READ_TIMEOUT` (R99). The data of a QSPI READ is not ready within 256 SCK cycles, so the port drives 0x5 and the read has no effect. -/
  | qspiReadTimeout (port : Fin 2) (addr : Word)
  /-- `QSPI_WRITE` (R100). A QSPI WRITE posts its words into the buffer, or is discarded whole with WRITE_DROPPED set when more than 192 bytes are held. -/
  | qspiWrite (port : Fin 2) (head : QspiHead) (data : List Byte)
  /-- `QSPI_POSTED_WRITE_APPLY` (R100). A posted word leaves the QSPI write buffer and takes effect in order. -/
  | qspiPostedWriteApply (port : Fin 2)
  /-- `QSPI_STATUS` (R98). A QSPI STATUS command returns the status byte and clears WRITE_DROPPED. -/
  | qspiStatus (port : Fin 2)
  /-- `REGISTER_WRITE` (R9). A write to a register with no row of its own, filtered by drawer and applied according to each field's access type. -/
  | registerWrite (d : Drawer) (ap : Aperture) (off : Nat) (v : Word) (be : BitVec 4)
  /-- `OWNERSHIP_WRITE` (R106). Drawer 0 writes an ownership register; the write is checked and either refused whole or applied, starting scrubs and BULK refills. -/
  | ownershipWrite (d : Drawer) (off : Nat) (v : Word) (be : BitVec 4)
  /-- `DRAWER_RESET_RELEASE` (R110). Every job of the drawer has ended and its scrubs are complete, so the drawer is released from its level C reset. -/
  | drawerResetRelease (e : DrawerEnd)
  /-- `QUEUE_ENABLE` (R113). A write of ENABLE 1 is checked and either refused with a reason or puts the queue in service, raising QUEUE_EPOCH. -/
  | queueEnable (d : Drawer) (n : Fin 64) (v : Word) (be : BitVec 4)
  /-- `QUEUE_DISABLE` (R126). A write of ENABLE 0 stops the queue, discarding untaken descriptors with their credits returned, or discarding every device-to-host entry. -/
  | queueDisable (d : Drawer) (n : Fin 64) (v : Word) (be : BitVec 4)
  /-- `DOORBELL` (R116). A write of DOORBELL submits the staged descriptor when credit allows; otherwise it is dropped and CREDIT_VIOL is set. -/
  | doorbell (d : Drawer) (n : Fin 64) (v : Word)
  /-- `QUEUE_POP` (R121). A read covering byte 0 of QR_ENTRY pops and latches the front word, or underruns on an empty queue. -/
  | queuePop (d : Drawer) (n : Fin 64) (first last : Fin 20)
  /-- `UNIT_TAKE` (R119). A unit takes the next descriptor in round-robin order once it can reserve a completion entry in the PAIR queue. -/
  | unitTake (u : QUnit)
  /-- `EVENT_TIMER_EXPIRE` (R131). An event source's coalescing timer expires and the source fires. -/
  | eventTimerExpire (src : Fin 288)
  /-- `EVT_ROUTE_WRITE` (R130). The owner writes EVT_ROUTE; ENABLE 0 clears the accumulator and timer, and a PIN_EN on an unowned pin is discarded as a violation. -/
  | evtRouteWrite (d : Drawer) (src : Fin 288) (v : Word) (be : BitVec 4)
  /-- `EVT_PEND_CLEAR` (R133). A W1C write clears pending bits, and each IRQ pin with no remaining routed pending bit falls. -/
  | evtPendClear (d : Drawer) (w : Fin 9) (v : Word) (be : BitVec 4)
  /-- `MSIX_UNMASK` (R132). Unmasking a vector whose pending bit is set sends its MSI-X message. -/
  | msixUnmask (d : Drawer) (vec : Fin 64)
  /-- `JIG_LOAD` (R155). A write of JIG_LOAD_CMD.LOAD checks the load record, extends MEAS, and loads or refuses it. -/
  | jigLoad (d : Drawer) (v : Word)
  /-- `JIG_LOAD_COMPLETE` (R155). The load finishes writing memories, windows and entries, and the named threads become IDLE and LOADED. -/
  | jigLoadComplete (d : Drawer)
  /-- `START` (R142). The JT_CTL START command clears the registers, flags and wake bits and runs the thread from its entry. -/
  | start (d : Drawer) (th : Fin 32) (v : Word)
  /-- `STOP` (R142). The JT_CTL STOP command cancels actions not yet started, releases pins and returns the thread to IDLE. -/
  | stop (d : Drawer) (th : Fin 32) (v : Word)
  /-- `RESUME` (R142). The JT_CTL RESUME command continues a halted thread at the instruction after HALT. -/
  | resume (d : Drawer) (th : Fin 32) (v : Word)
  /-- `ADD` (R168). rd := ra + rb, with flags written. -/
  | addR (th : Fin 32)
  /-- `SUB` (R168). rd := ra − rb, with flags written. -/
  | subR (th : Fin 32)
  /-- `AND` (R168). rd := ra AND rb. -/
  | andR (th : Fin 32)
  /-- `OR` (R168). rd := ra OR rb. -/
  | orR (th : Fin 32)
  /-- `XOR` (R168). rd := ra XOR rb. -/
  | xorR (th : Fin 32)
  /-- `SHL` (R168). Logical shift left by rb[4:0]. -/
  | shlR (th : Fin 32)
  /-- `SHR` (R168). Logical shift right by rb[4:0]. -/
  | shrR (th : Fin 32)
  /-- `SRA` (R168). Arithmetic shift right by rb[4:0]. -/
  | sraR (th : Fin 32)
  /-- `MUL` (R168). Low 32 bits of the unsigned product. -/
  | mulR (th : Fin 32)
  /-- `MULH` (R168). High 32 bits of the unsigned product. -/
  | mulhR (th : Fin 32)
  /-- `CMP` (R168). Compares ra with rb and writes the flags only. -/
  | cmpR (th : Fin 32)
  /-- `ADDI` (R166). Adds a sign-extended or prefixed immediate. -/
  | addi (th : Fin 32)
  /-- `SUBI` (R166). Subtracts a sign-extended or prefixed immediate. -/
  | subi (th : Fin 32)
  /-- `ANDI` (R166). ANDs a zero-extended or prefixed immediate. -/
  | andi (th : Fin 32)
  /-- `ORI` (R166). ORs a zero-extended or prefixed immediate. -/
  | ori (th : Fin 32)
  /-- `XORI` (R166). XORs a zero-extended or prefixed immediate. -/
  | xori (th : Fin 32)
  /-- `SHLI` (R166). Shifts left by an immediate amount. -/
  | shli (th : Fin 32)
  /-- `SHRI` (R166). Shifts right logically by an immediate amount. -/
  | shri (th : Fin 32)
  /-- `SRAI` (R166). Shifts right arithmetically by an immediate amount. -/
  | srai (th : Fin 32)
  /-- `CMPI` (R166). Compares ra with an immediate. -/
  | cmpi (th : Fin 32)
  /-- `MOVI` (R168). Loads an immediate into rd without writing flags. -/
  | movi (th : Fin 32)
  /-- `PFX` (R167). Sets the thread's prefix latch for its next instruction. -/
  | pfx (th : Fin 32)
  /-- `LD` (R169). Loads 4 bytes from data memory, faulting on FENCE, ALIGN or POISON. -/
  | ld (th : Fin 32)
  /-- `LDH` (R169). Loads 2 bytes, zero-extended. -/
  | ldh (th : Fin 32)
  /-- `LDB` (R169). Loads 1 byte, zero-extended. -/
  | ldb (th : Fin 32)
  /-- `ST` (R169). Stores 4 bytes to data memory. -/
  | st (th : Fin 32)
  /-- `STH` (R169). Stores 2 bytes. -/
  | sth (th : Fin 32)
  /-- `STB` (R169). Stores 1 byte. -/
  | stb (th : Fin 32)
  /-- `TLD` (R169). Loads 8 bytes into a time register. -/
  | tld (th : Fin 32)
  /-- `TST` (R169). Stores a time register's 8 bytes. -/
  | tst (th : Fin 32)
  /-- `BR` (R171). Branches to an absolute target when its condition holds. -/
  | br (th : Fin 32)
  /-- `CALL` (R172). Pushes the return index and branches, faulting with STACK when the stack is full. -/
  | call (th : Fin 32)
  /-- `BRR` (R171). Branches to the index held in ra when its condition holds. -/
  | brr (th : Fin 32)
  /-- `CALLR` (R172). Pushes the return index and branches to the index held in ra. -/
  | callr (th : Fin 32)
  /-- `RET` (R172). Pops the return stack and branches, faulting with STACK when it is empty. -/
  | ret (th : Fin 32)
  /-- `AT` (R143). Waits until the timebase reaches tK, or sets LATE when that instant has passed. -/
  | atTime (th : Fin 32)
  /-- `AFTER` (R143). Waits gA µs from issue. -/
  | after (th : Fin 32)
  /-- `AFTERI` (R143). Waits an immediate number of µs from issue. -/
  | afteri (th : Fin 32)
  /-- `ZXW` (R144). Computes an instant from a numbered crossing and an offset, writes tK and waits unless the no-wait form is used. -/
  | zxw (th : Fin 32)
  /-- `TGET` (R173). Reads the timebase copy into tK. -/
  | tget (th : Fin 32)
  /-- `TADD` (R174). Adds an interval in a unit to a time register, with saturation. -/
  | tadd (th : Fin 32)
  /-- `TSUB` (R174). Takes the difference of two time registers in a unit, with saturation. -/
  | tsub (th : Fin 32)
  /-- `TPACK` (R173). Packs two g registers into a time register. -/
  | tpack (th : Fin 32)
  /-- `TPART` (R173). Extracts the seconds or fraction word of a time register. -/
  | tpart (th : Fin 32)
  /-- `TIME_WAIT_END` (R142). The timebase copy reaches a WAIT_TIME target and the thread returns to RUN, writing WAKE_TIME. -/
  | timeWaitEnd (th : Fin 32)
  /-- `TXF` (R149). Issues a line transmission: checks ownership, slot, link, region, lead, transmitter, grant and frame counter, then makes the slot PENDING. -/
  | txf (th : Fin 32)
  /-- `RXW` (R179). Issues a line receive window on the named chains. -/
  | rxw (th : Fin 32)
  /-- `CANCEL` (R152). Cancels a pending action slot according to the action's progress. -/
  | cancel (th : Fin 32)
  /-- `RTX` (R180). Issues a radio transmission, including the airtime test. -/
  | rtx (th : Fin 32)
  /-- `RRX` (R181). Issues a radio receive window, widened when requested. -/
  | rrx (th : Fin 32)
  /-- `LDN` (R184). Reads a context word, waiting in WAIT_PAGE on a miss, or using the no-wait form. -/
  | ldn (th : Fin 32)
  /-- `STN` (R184). Writes a program-writable context word as one update. -/
  | stn (th : Fin 32)
  /-- `PREF` (R146). Starts a context fetch without waiting and sets MISS when the context was absent. -/
  | pref (th : Fin 32)
  /-- `PIN` (R146). Pins a context for the thread, refused with PIN_LIMIT at 512 pins. -/
  | pin (th : Fin 32)
  /-- `UNPIN` (R184). Releases the thread's pin on a context. -/
  | unpin (th : Fin 32)
  /-- `CYP` (R187). Submits a cipher job on a general key slot. -/
  | cyp (th : Fin 32)
  /-- `CYP_JOB_END` (R188). A CYP job finishes: the output is written and the slot records DONE or FAILED. -/
  | cypJobEnd (th : Fin 32) (slot : Fin 4) (mismatch : Bool)
  /-- `ENQ` (R190). Writes a descriptor to a device-to-host JIG queue, or fails with QUEUE_DIR, QUEUE_OFF or QUEUE_FULL. -/
  | enq (th : Fin 32)
  /-- `DEQ` (R191). Takes the front descriptor of a host-to-device JIG queue, waiting on an empty queue unless the no-wait form is used. -/
  | deq (th : Fin 32)
  /-- `EVT` (R193). Counts an occurrence on one of the core's program event sources. -/
  | evt (th : Fin 32)
  /-- `SIG` (R194). Sets a wake bit of a target thread. -/
  | sig (th : Fin 32)
  /-- `WSIG` (R195). Waits for a masked wake bit or a deadline. -/
  | wsig (th : Fin 32)
  /-- `WAKE_EVENT` (R142). A masked wake bit is set, or a queue becomes non-empty, and a thread in WAIT_EVENT returns to RUN. -/
  | wakeEvent (th : Fin 32)
  /-- `WSIG_DEADLINE` (R148). A WSIG deadline is reached, which sets wake bit 12 and wakes the thread. -/
  | wsigDeadline (th : Fin 32)
  /-- `HALT` (R196). Enters the HALT state. -/
  | halt (th : Fin 32)
  /-- `TRAP` (R196). Faults the thread with cause TRAP. -/
  | trap (th : Fin 32)
  /-- `YIELD` (R158). Passes the turn and restarts the thread watchdog count. -/
  | yield (th : Fin 32)
  /-- `PAGE_TIMEOUT` (R142). PAGE_TO_US elapses in WAIT_PAGE; FAIL is set with PAGE_TIMEOUT while the fetch continues. -/
  | pageTimeout (th : Fin 32)
  /-- `JIG_LOCKUP` (R157). A thread has run 2^20 cycles without a wait, or every thread holding a window has faulted, which causes a level D reset of the core. -/
  | jigLockup (c : Fin 8)
  /-- `JIG_WATCHDOG` (R158). A thread's WDOG_MS expires without a YIELD, which causes a level D reset of the core. -/
  | jigWatchdog (th : Fin 32)
  /-- `ACTION_START` (R150). At a pending action's instant, the hardware starts it, or records FAILED with LATE_INSTANT when preparation is incomplete. -/
  | actionStart (th : Fin 32) (slot : Fin 4) (ready : Bool)
  /-- `EMISSION_END` (R295). An emission ends: ACK_WAIT begins or the slot records DONE, and suspended chains apply take-up. -/
  | emissionEnd (e : Emitter) (clips : List Nat) (fault : Option Time)
  /-- `RX_WINDOW_CLOSE` (R179). A receive window's duration ends; the slot records NO_FRAME or waits for a detected frame, and a radio miss may be counted. -/
  | rxWindowClose (th : Fin 32) (slot : Fin 4) (begun : Bool)
  /-- `AGC_INTERVAL_END` (R201). A 128 µs interval ends and the AGC may lower or raise the PGA at the boundary. -/
  | agcIntervalEnd (c : Fin 6) (now : Time) (samples : List (BitVec 16))
  /-- `AGC_AUTO_WRITE` (R201). A write of AGC_AUTO or PGA_SET switches the chain between MANUAL and TRACK. -/
  | agcAutoWrite (d : Drawer) (c : Fin 6) (v : Word) (be : BitVec 4)
  /-- `LPHY_APPLY` (R205). Drawer 0 applies a band's staged plan and mask; they are checked and latched PENDING, or refused. -/
  | lphyApply (d : Drawer) (v : Word) (be : BitVec 4)
  /-- `BAND_APPLIED` (R205). The band falls quiet, so the latched plan and mask take effect and MASK_GEN advances. -/
  | bandApplied (b : Fin 2)
  /-- `FIR_SWAP` (R229). A write of SWAP makes the shadow coefficient bank active at the transmitter's next frame. -/
  | firSwap (d : Drawer) (t : Fin 3) (v : Word) (be : BitVec 4)
  /-- `COMPAT_ENABLE` (R234). Drawer 0 enables the compatibility profile, or the enable is refused by region. -/
  | compatEnable (d : Drawer) (v : Word) (be : BitVec 4)
  /-- `SWEEP_ENABLE` (R265). A write to SWP_CFG enables Sweep in a band, or is refused by region, plan or mask. -/
  | sweepEnable (d : Drawer) (v : Word) (be : BitVec 4)
  /-- `PREAMBLE_DETECTION` (R240). A Mantis correlator declares a detection; the decoder takes it up, keeps it as a candidate, re-synchronises or captures. -/
  | preambleDetection (c : Fin 6) (d : Det)
  /-- `HEADER_CHECK` (R240). A header's HCS and fields are judged, which moves the decoder to VALID or drops the reception with the take-up rule. -/
  | headerCheck (c : Fin 6) (dec : Fin 4) (now : Time) (combined : Option LineHdr) (each : List (Option LineHdr)) (addr : List (Option RxAddr))
  /-- `CHANNEL_STEP` (R253). A channel step is declared in a symbol and the equaliser re-estimates for the rest of the frame. -/
  | channelStep (m : SymbolSeen)
  /-- `FRAME_END` (R289). A line frame's last symbol ends and the frame is judged, delivered, and its context updated. -/
  | frameEnd (c : Fin 6) (dec : Fin 4) (rx : LineRx)
  /-- `COMPAT_FRAME_RX` (R235). A compatibility frame is received whole, filtered, acknowledged and delivered. -/
  | compatFrameRx (c : Fin 6) (rx : CompatRx)
  /-- `COMPAT_CSMA_ACCESS` (R477). A compatibility frame's CSMA/CA backoff ends, and channel access grants the medium or fails with CSMA_FAIL. -/
  | compatCsmaAccess (th : Fin 32) (slot : Fin 4) (granted : Bool) (now : Time)
  /-- `ACK_DEADLINE` (R23). The deadline 1.0 ms after a frame's end is reached; the acknowledgement starts, or CTX_LATE discards the frame. -/
  | ackDeadline (d : DueOf)
  /-- `ACK_RX` (R294). An acknowledgement that matches the SEQ arrives in time; the pending frame records DONE and the step-up count advances. -/
  | ackRx (th : Fin 32) (slot : Fin 4) (r : AckSeen) (advice : Nat) (start ref : Time) (now : Time)
  /-- `ACK_WAIT_END` (R295). The acknowledgement wait ends unacknowledged; FAIL_RUN rises and the frame steps down, retransmits or records NO_ACK. -/
  | ackWaitEnd (th : Fin 32) (slot : Fin 4)
  /-- `RETX_PLACE` (R298). At a slot boundary the device places a line retransmission if the slot, transmitter and grant allow, or fails after 64 boundaries. -/
  | retxPlace (th : Fin 32) (slot : Fin 4)
  /-- `LD_FAULT_ASSERT` (R255). LD_FLT counted as asserted during emission lowers the output by 6 dB. -/
  | ldFaultAssert (t : Fin 3) (now : Time)
  /-- `TX_ABORT` (R256). The fault persists for the hold time, so the emission stops and a 20 ms hold-off begins. -/
  | txAbort (t : Fin 3)
  /-- `HOLD_OFF_END` (R257). The 20 ms hold-off after a TX_ABORT ends. -/
  | holdOffEnd (t : Fin 3)
  /-- `MAINS_CROSSING` (R411). A zero-crossing edge is accepted and numbered, which drives the slot clocks, superframe openings and noise maps. -/
  | mainsCrossing (p : Fin 3) (raw est : Time) (per : Nat) (meas : List BinMeas)
  /-- `MAINS_CROSSING_MISSED` (R411). No edge arrives by the prediction plus 1/8 cycle, so the crossing is numbered at its predicted instant. -/
  | mainsCrossingMissed (p : Fin 3) (meas : List BinMeas)
  /-- `ZX_EDGE_REJECTED` (R411). An edge outside the acceptance window is rejected and counted. -/
  | zxEdgeRejected (p : Fin 3) (raw : Time)
  /-- `MAINS_HOLD_TIMEOUT` (R412). A tracker that has been 10 s in MAINS_HOLD moves to MAINS_LOST. -/
  | mainsHoldTimeout (p : Fin 3)
  /-- `NMAP_RESTART` (R279). A write of RESTART clears a chain's noise map. -/
  | nmapRestart (d : Drawer) (c : Fin 6) (v : Word) (be : BitVec 4)
  /-- `DLV_RING_ENABLE` (R290). A drawer enables its delivery ring, or the enable is refused when the ring would pass BULK_SIZE. -/
  | dlvRingEnable (d : Drawer) (v : Word) (be : BitVec 4)
  /-- `RADIO_ENABLE` (R336). A write of RADIO_CFG.ENABLE 1 starts the radio, or is refused by region. -/
  | radioEnable (d : Drawer) (v : Word) (be : BitVec 4)
  /-- `RF_FRAME_RX` (R325). A radio frame is received and judged, delivered, acknowledged and its connection updated. -/
  | rfFrameRx (r : RfRx)
  /-- `CONN_EVENT_ADVANCE` (R319). A connection event's nominal instant passes, and WAKE_NEXT and EVT_NEXT advance. -/
  | connEventAdvance (c : Nat)
  /-- `SUPERVISION_EXPIRE` (R322). The supervision timer expires; the connection ends with CONN_LOST. -/
  | supervisionExpire (c : Nat)
  /-- `RF_RETX_PLACE` (R328). RETX_DELAY_MS after the wait, a radio retransmission is placed, or the action fails. -/
  | rfRetxPlace (th : Fin 32) (slot : Fin 4)
  /-- `DC_CHECKPOINT` (R334). Every 60 s an airtime checkpoint is written to namespace 15. -/
  | dcCheckpoint (ok : Bool)
  /-- `AES` (R342). A host AES job in the chosen mode on a key slot. -/
  | aes (id : Nat) (mismatch : Bool)
  /-- `HASH` (R344). A host SHA-256 or SHA-384 job on the cluster. -/
  | hash (id : Nat) (mismatch : Bool)
  /-- `SIGN` (R344). A host ECDSA sign job with a slot's private key. -/
  | sign (id : Nat) (mismatch : Bool)
  /-- `VERIFY` (R344). A host ECDSA verify job. -/
  | verify (id : Nat) (mismatch : Bool)
  /-- `ECDH` (R344). A host ECDH job with a slot's private key. -/
  | ecdh (id : Nat) (mismatch : Bool)
  /-- `RANDOM` (R361). A host job for random bytes from the DRBG. -/
  | random (id : Nat) (mismatch : Bool)
  /-- `KEY_IMPORT` (R350). Unwraps an import record into a general slot or node key position, or refuses it. -/
  | keyImport (id : Nat) (mismatch : Bool)
  /-- `KEY_ERASE` (R353). Empties a slot or the non-CURRENT node key position. -/
  | keyErase (id : Nat) (mismatch : Bool)
  /-- `KEY_PROMOTE` (R357). Makes a node's NEXT key CURRENT and retires the former one. -/
  | keyPromote (id : Nat) (mismatch : Bool)
  /-- `CIPHER_JOB_COMPLETE` (R346). A host cipher or key job ends and its completion is written. -/
  | cipherJobComplete (id : Nat)
  /-- `KEY_LIMIT_WRITE` (R348). A write of KEY_LIMIT_LO applies the staged LIMIT_HI with it, and a raise on a loaded slot is discarded. -/
  | keyLimitWrite (d : Drawer) (n : Fin 256) (v : Word) (be : BitVec 4)
  /-- `CONTEXT_FILL_DONE` (R372). A context miss completes and the record becomes resident, or ends with PAGE_ERROR. -/
  | contextFillDone (c : Nat) (ok : Bool) (r : NandRead)
  /-- `CONTEXT_WRITEBACK` (R375). A dirty record is written back WB_PERIOD_S after its first change. -/
  | contextWriteback (c : Nat)
  /-- `REBUILD` (R378). A trigger or a write of NCP_CFG.REBUILD starts an index rebuild into a new generation. -/
  | rebuild (d : Drawer) (v : Word) (be : BitVec 4)
  /-- `CTX_READ` (R379). Copies a context record to BULK. -/
  | ctxRead (id : Nat)
  /-- `CTX_WRITE` (R379). Writes class W words of a record from BULK. -/
  | ctxWrite (id : Nat)
  /-- `CTX_INIT` (R380). Initialises a record and indexes its addresses. -/
  | ctxInit (id : Nat)
  /-- `CTX_FREE` (R382). Removes a record's index entries and zeroes it. -/
  | ctxFree (id : Nat)
  /-- `CTX_SHORT` (R379). Replaces a record's short address. -/
  | ctxShort (id : Nat)
  /-- `PAGER_JOB_COMPLETE` (R382). A host context job ends and its completion is written. -/
  | pagerJobComplete (id : Nat)
  /-- `READ` (R387). A storage job reads granules to BULK. -/
  | read (id : Nat) (r : NandRead)
  /-- `WRITE` (R387). A storage job writes granules from BULK. -/
  | write (id : Nat) (r : NandRead) (progs : List (Fin 2 × Fin 4))
  /-- `TRIM` (R387). A storage job unmaps granules. -/
  | trim (id : Nat)
  /-- `FLUSH` (R387). A storage job completes when earlier writes are durable. -/
  | flush (id : Nat)
  /-- `NS_CREATE` (R386). Drawer 0 creates a namespace with a new key pair. -/
  | nsCreate (run : CoreRun)
  /-- `NS_DELETE` (R386). Drawer 0 deletes a namespace and discards its key. -/
  | nsDelete (id : Nat)
  /-- `STORAGE_JOB_COMPLETE` (R388). A storage job ends, done or failed at a granule, and its completion is written. -/
  | storageJobComplete (id : Nat)
  /-- `NAND_OP_COMPLETE` (R385). A NAND program or erase ends; a failure retires the block and relocates its data. -/
  | nandOpComplete (ch : Fin 2) (target : Fin 4) (ok : Bool) (maxPe avgPe : BitVec 16)
  /-- `NS_ERASED` (R386). The background erase of a deleted namespace ends. -/
  | nsErased (n : Fin 15)
  /-- `STORAGE_MOUNT` (R390). The mount replays the journal, loads the index, applies TX_CEIL recovery and sets MOUNTED. -/
  | storageMount (p : NandPart)
  /-- `TOD_SET` (R394). Drawer 0 writes PLMB_TOD_SET while TB_VALID is 0. -/
  | todSet (d : Drawer) (v : Word) (be : BitVec 4)
  /-- `PPS_PULSE` (R396). A REF_PPS pulse is judged against its prediction for qualification or loss. -/
  | ppsPulse (t : Time) (freq : Int)
  /-- `TEN_EDGE_LOST` (R396). REF_10M shows no edge for 1 µs, or fails its frequency test. -/
  | tenEdgeLost (silent : Bool)
  /-- `TEN_QUALIFY` (R396). REF_10M completes 16 s within ±2 ppm. -/
  | tenQualify (freq : Int)
  /-- `HOST_SAMPLE` (R397). The host drawer writes a REF_HOST phase sample, which is judged or discarded as late. -/
  | hostSample (d : Drawer) (v : Word) (be : BitVec 4) (freq : Int)
  /-- `WTR_EXPIRE` (R398). A reference's wait-to-restore timer expires and it becomes ELIGIBLE. -/
  | wtrExpire (r : Fin 3)
  /-- `SLEW_DONE` (R403). The phase error crosses zero; the loop takes over and the state is LOCKED. -/
  | slewDone (t : Time)
  /-- `STEER_WRITE` (R406). A write of STEER_PPT adjusts the DCO within 1 µs. -/
  | steerWrite (d : Drawer) (v : Word) (be : BitVec 4)
  /-- `PLMB_ALIGN` (R409). A pulse output's ENABLE or align bit is written, which requests alignment. -/
  | plmbAlign (d : Drawer) (o : Option (Fin 4)) (v : Word) (be : BitVec 4)
  /-- `TIME_MESSAGE` (R410). A time flit arrives and the logic-die copy corrects its rate, or steps forward after retraining. -/
  | timeMessage (master copy : Time)
  /-- `UART_ENABLE` (R418). A write of ENABLE 1 starts the port, or is refused with CFG_REFUSED. -/
  | uartEnable (d : Drawer) (n : Fin 4) (v : Word) (be : BitVec 4)
  /-- `UART_DISABLE` (R441). A write of ENABLE 0 finishes the character, ends the running job with PORT_OFF and keeps the FIFO. -/
  | uartDisable (d : Drawer) (n : Fin 4) (v : Word) (be : BitVec 4)
  /-- `UART_CHAR_RX` (R419). A character completes at its stop bit and enters the FIFO, is discarded by policy, or overruns. -/
  | uartCharRx (n : Fin 4) (data : BitVec 9) (tag : Fin 4) (start fin : Time)
  /-- `UART_BREAK_RX` (R424). The line rises after a break; the break entry is stored and its length latched. -/
  | uartBreakRx (n : Fin 4) (len : Nat) (fin : Time)
  /-- `UART_LINE_STUCK` (R424). The break count reaches 65,535 with the line low, so LINE_STUCK sets. -/
  | uartLineStuck (n : Fin 4)
  /-- `UART_RX_IDLE` (R422). RX_IDLE character times pass, so held characters are written as a queue entry. -/
  | uartRxIdle (n : Fin 4)
  /-- `UART_RXDATA_POP` (R422). A read of UART_RXDATA pops one FIFO entry. -/
  | uartRxdataPop (d : Drawer) (n : Fin 4)
  /-- `UART_TXDATA` (R423). A character is written to the transmit FIFO, or discarded with TX_DROPPED. -/
  | uartTxdata (d : Drawer) (n : Fin 4) (v : Word) (be : BitVec 4)
  /-- `UART_CHAR_TX_END` (R423). A character's stop bit ends; the next character starts or the DE tail begins. -/
  | uartCharTxEnd (n : Fin 4) (back : BitVec 9)
  /-- `UART_DE_TAIL_END` (R423). The DE tail elapses and UART_DE falls. -/
  | uartDeTailEnd (n : Fin 4)
  /-- `UART_START_EDGE_WAKE` (R425). A start edge during host SLEEP starts the wake oscillator and requests the host island's wake. -/
  | uartStartEdgeWake (n : Fin 4) (t : Time)
  /-- `TX_CHARS` (R429). A serial job sends characters from BULK. -/
  | txChars (id : Nat)
  /-- `TX_BREAK` (R424). A serial job sends a break of LENGTH bit times. -/
  | txBreak (id : Nat)
  /-- `TX_FRAME` (R427). A serial job sends a commander frame, or a ring frame on port 4. -/
  | txFrame (id : Nat)
  /-- `SET_RESPONSE` (R428). A serial job writes a responder buffer and sets READY. -/
  | setResponse (id : Nat)
  /-- `SERIAL_JOB_COMPLETE` (R427). A serial job ends with OK, a response or checksum error, or BIT_ERROR. -/
  | serialJobComplete (id : Nat)
  /-- `FRAME_TIME_LIMIT` (R426). The response's frame time limit passes, giving NO_RESPONSE or RESP_TIMEOUT. -/
  | frameTimeLimit (n : Fin 4)
  /-- `LIN_HEADER_RX` (R428). A responder detects a header and ignores, publishes or subscribes on its identifier. -/
  | linHeaderRx (n : Fin 4) (pid : Byte) (ok : Bool) (t : Time)
  /-- `RING_ENABLE` (R50). Drawer 0 enables the ring port, which waits for 11 idle bit times, or is refused without RING_ALLOW. -/
  | ringEnable (d : Drawer) (v : Word) (be : BitVec 4)
  /-- `RING_DISABLE` (R50). Disabling the port turns the driver off and closes the bypass. -/
  | ringDisable (d : Drawer) (v : Word) (be : BitVec 4)
  /-- `RING_FRAME_RX` (R434). A ring frame passes the node, which forwards, marks, removes or copies it. -/
  | ringFrameRx (f : RingFrame) (t : Time)
  /-- `CHK_FEED8` (R438). Feeds one byte to a check unit. -/
  | chkFeed8 (d : Drawer) (k : Fin 4) (v : Word) (be : BitVec 4) (t : Time)
  /-- `CHK_FEED16` (R438). Feeds two bytes to a check unit. -/
  | chkFeed16 (d : Drawer) (k : Fin 4) (v : Word) (be : BitVec 4) (t : Time)
  /-- `CHK_FEED32` (R438). Feeds four bytes to a check unit. -/
  | chkFeed32 (d : Drawer) (k : Fin 4) (v : Word) (be : BitVec 4) (t : Time)
  /-- `CHK_RESULT` (R438). Returns the result after every earlier write is processed. -/
  | chkResult (d : Drawer) (k : Fin 4)
  /-- `CHK_EXPECTED` (R439). Compares the result with the written value and judges the alive counter. -/
  | chkExpected (d : Drawer) (k : Fin 4) (v : Word) (be : BitVec 4)
  /-- `RESTART` (R438). Restarts a check unit to INIT. -/
  | restart (d : Drawer) (k : Fin 4) (v : Word) (be : BitVec 4)
  /-- `CHK_CFG_WRITE` (R438). A write to CHK_CFG reconfigures and restarts the unit. -/
  | chkCfgWrite (d : Drawer) (k : Fin 4) (v : Word) (be : BitVec 4)
  /-- `LAST_GASP` (R454). The PWR_CMD LAST_GASP command enters last-gasp. -/
  | lastGasp (d : Drawer)
  /-- `EXIT` (R455). The PWR_CMD EXIT command ends last-gasp. -/
  | exit (d : Drawer)
  /-- `STANDBY` (R452). The PWR_CMD STANDBY command enters standby, or is refused. -/
  | standby (d : Drawer)
  /-- `WAKE` (R452). The PWR_CMD WAKE command wakes every island from standby. -/
  | wake (d : Drawer)
  /-- `PWR_SHARE_WRITE` (R450). A write of PWR_SHARE is applied or discarded with SHARE_REFUSED. -/
  | pwrShareWrite (d : Drawer) (v : Word) (be : BitVec 4)
  /-- `PWR_LTR_WRITE` (R446). A drawer writes latency tolerances, and islands re-settle or wake within 10 µs. -/
  | pwrLtrWrite (d : Drawer) (b : Bool) (v : Word) (be : BitVec 4)
  /-- `ISLAND_WAKE` (R445). A unit wakes an island in a lower state and waits out its wake time. -/
  | islandWake (i : Fin 16)
  /-- `FLIT_RX` (R460). A Tenon flit is received; a valid flit is delivered, an invalid or out-of-order one draws a NAK. -/
  | flitRx (r : Fin 2) (f : Flit) (t : Time)
  /-- `NAK_RX` (R460). A NAK arrives and the sender replays its kept flits. -/
  | nakRx (r : Fin 2) (seq : Fin 8) (t : Time)
  /-- `TX_STREAM_UNDERRUN` (R461). A transmit stream underruns at the DAC, which mutes the transmitter and truncates the frame. -/
  | txStreamUnderrun (t : Fin 4)
  /-- `LINK_SILENCE` (R465). 4 µs pass without a valid flit, so the die declares the link lost. -/
  | linkSilence (die : Fin 2) (wr : Option Nat)
  /-- `TRAINING_ATTEMPT` (R462). A link training attempt runs, entering UP or UP_MUTED on success. -/
  | trainingAttempt (ok : Bool)
  /-- `TNL_RESUME` (R470). Drawer 0 writes TNL_CMD.RESUME to leave UP_MUTED, or it is refused. -/
  | tnlResume (d : Drawer) (v : Word) (be : BitVec 4)
  /-- `ECC_SCRUB_PASS` (R471). The scrubber reads SRAM words and corrects or poisons them. -/
  | eccScrubPass (l : List EccHit)
  /-- `DBG_TRACE_CFG_WRITE` (R497). A write to DBG_TRACE_CFG clears the trace records and restarts capture. -/
  | dbgTraceCfgWrite (d : Drawer) (v : Word) (be : BitVec 4)
  /-- `LD_FLT_DEASSERT` (R256). LD_FLT_t falls during an emission, so FLT_NOW clears and the hold-time count toward TX_ABORT stops, to restart at the next assertion. -/
  | ldFltDeassert (t : Fin 3)
  /-- `SFD_DETECTED` (R308). The radio receiver finds a frame's SFD, which fixes its reference instant and starts the span in which program emissions are refused and windows stay PENDING. -/
  | sfdDetected (r : RfRecv)
  /-- `PULSE_OUTPUT_EDGE` (R408). A pulse output reaches an edge instant of its lattice, or the end of its WIDTH_US, and the pin changes level. -/
  | pulseOutputEdge (o : Fin 4)
  /-- `PCIE_LINK_CHANGE` (R444). A PCIe link trains, enters or leaves L0 or L1, or goes down, which changes the host island's holds and CLKREQ_N. -/
  | pcieLinkChange (st : Fin 3)
  /-- `READ_RETRY_EXIT` (R383). A NAND target leaves read retry or reset recovery, and HEALTHY returns to 1 when no target remains in either. -/
  | readRetryExit (t : Fin 8)
  /-- `CAPTURING_READ` (R491). A read of PLMB_TB_SEC, ZX_T_HI_x, KEY_USE_LO_n or word 0 of MEAS_n captures the companion words for the reading drawer. -/
  | capturingRead (d : Drawer) (r : CapReg)
  /-- `POWER_ON` (R61). Supplies pass their brown-out thresholds and, 2 ms later, the level A power-on reset source ends. -/
  | powerOn
  /-- `RESET_N_TAKEN` (R47). A low level on RESET_N is taken and requests a level B reset. -/
  | resetNTaken
  /-- `TCXO_LOST` (R62). TCXO_IN shows no edge for 2 µs; the device either falls back to a DCO-derived clock or takes a level B reset. -/
  | tcxoLost
  /-- `PLL_LOST_LOCK` (R61). A logic-die PLL loses lock, which causes a level B reset. -/
  | pllLostLock
  /-- `KEEPER_WATCHDOG` (R61). The Keeper watchdog expires and pulses a level B reset. -/
  | keeperWatchdog
  /-- `KEEPER_LOCKUP` (R61). Keeper locks up and pulses a level B reset. -/
  | keeperLockup
  /-- `FIRMWARE_BRINGUP` (R72). Keeper firmware brings up the PHY microcode, queues and events, loads the limit tables, and sets STAGE to READY. -/
  | firmwareBringup
  /-- `LINK_DOWN_BOOT` (R463). Training has not succeeded 50 ms after release, so the logic die boots alone under the failsafe image with LINK_DOWN set. -/
  | linkDownBoot
  /-- `ATT_SERVICE_START` (R95). The device starts serving the oldest pending attestation request and captures the values to be signed. -/
  | attServiceStart
  /-- `SCRUB_DONE` (R107). Every scrub started by an ownership change has ended, and BUSY clears. -/
  | scrubDone
  /-- `GRANT_GIVEN` (R450). The Clamp arbiter gives a waiting request its grant when it fits, and a thread in WAIT_GRANT completes its instruction. -/
  | grantGiven
  /-- `ROUTE_PASS` (R300). Every PERIOD minutes the route engine proposes routes for the nodes. -/
  | routePass
  /-- `RF_SF_START` (R316). A radio superframe begins at the timebase and RADIO_SF_NUM is written. -/
  | rfSfStart
  /-- `DC_SECOND_TICK` (R330). At each whole second the oldest airtime buckets leave the window. -/
  | dcSecondTick
  /-- `RNG_FAIL` (R361). An entropy health test fails and the degraded regime applies until a level B reset. -/
  | rngFail
  /-- `JOURNAL_COMMIT` (R375). The metadata journal is committed to NAND at least every 10 ms. -/
  | journalCommit
  /-- `IDX_REBUILT` (R378). The rebuild completes and lookups switch to the new generation. -/
  | idxRebuilt
  /-- `JOURNAL_FLUSHED` (R389). The last-gasp flush commits the FINAL journal, so LAST_GASP_FLUSHED sets and storage sleeps. -/
  | journalFlushed
  /-- `TOD_APPLY` (R394). At the next whole second the seconds word takes the written value and TB_VALID sets. -/
  | todApply
  /-- `PPS_MISS` (R396). No pulse arrives within ±1 µs of prediction. -/
  | ppsMiss
  /-- `HOST_SAMPLE_TIMEOUT` (R396). No host sample is accepted for 8 s, so REF_HOST is lost. -/
  | hostSampleTimeout
  /-- `HOLDOVER_READY` (R401). One unbroken LOCKED period reaches 900 s. -/
  | holdoverReady
  /-- `OUTPUT_ALIGN` (R409). At the next whole second the output aligns and ALIGNED sets. -/
  | outputAlign
  /-- `RING_BYPASS_OPEN` (R50). After the idle wait the bypass opens and the driver enables. -/
  | ringBypassOpen
  /-- `RING_INSERT` (R433). After GAP_BITS idle with an empty buffer, the node inserts its frame. -/
  | ringInsert
  /-- `RING_RETURN_TIMEOUT` (R435). RETURN_TO bit times pass without the frame's return, so the job completes RING_LOST. -/
  | ringReturnTimeout
  /-- `RING_STUCK` (R432). The ring input is held low 65,535 bit times. -/
  | ringStuck
  /-- `RING_SILENT` (R432). No character for SILENT_MS sets SILENT. -/
  | ringSilent
  /-- `VIN_MON_FALL` (R453). VIN_MON indicates a falling input, which enters last-gasp automatically when the trackers are out of lock. -/
  | vinMonFall
  /-- `VIN_MON_RISE` (R455). VIN_MON rises past reference plus hysteresis, which ends last-gasp when a tracker is locked. -/
  | vinMonRise
  /-- `LINK_LOSS_LAST_GASP` (R484). After 20 ms of link loss with LG_AUTO, the logic die enters last-gasp. -/
  | linkLossLastGasp
  /-- `REF_10M_EDGE_RETURN` (R398). Edges appear at REF_10M while it is ABSENT, which moves the reference to QUALIFYING and starts its 16 s frequency test. -/
  | ref10mEdgeReturn
deriving DecidableEq, Repr

end Sys2Proof
end

