-- ==== Sys2Proof/Config.lean ====
section
/-!
DEFINITION. What an implementation fixes and the spec does not state, and the free values: constants
with no body, so that a claim holds whatever they are.
-/

namespace Sys2Proof

/-- A value the spec leaves open, fresh for each counter value (assumption 2). -/
opaque Config.freeValue : Nat → Nat

/-- SHA-384 of a list of bytes (R92, R96; FIPS 180-4, not restated in the spec). -/
opaque Config.sha384 : List Byte → BitVec 384

/-- SHA-384 of the boot ROM (R92). -/
opaque Config.romDigest : BitVec 384

/-- The Oxelaka firmware key that the boot ROM holds, X then Y of a point of P-384 (R89). -/
opaque Config.romKey : List Byte

/-- The Vendor ID of the PCIe functions, which R97 does not give. -/
opaque Config.pcieVendor : BitVec 16

/-- The rest of the test port's identification code: version [31:28] and manufacturer [11:1] (R58 gives the
part number alone). -/
opaque Config.tapVersion : BitVec 4
opaque Config.tapMaker : BitVec 11

/-- CRC-32 of an option image with its generation (R78, R82): the spec gives no polynomial here. -/
opaque Config.optCrc32 : List Word → BitVec 32 → BitVec 32

/-- Key material of internal slots 0 to 7 as made (R347, R362). -/
opaque Config.internalKey : Nat → List Byte

/-- Bucket hash of the address index under generation `g` of a key's number (R377, R378): the spec
gives the buckets and a seed per generation, and no hash function. -/
opaque Config.idxHash : Nat → Nat → Nat

/-- One block of AES-128 or AES-256, by the key's length, encrypted and decrypted: the cipher itself, which the spec
names and does not restate. -/
opaque Config.aesEnc : List Byte → List Byte → List Byte
opaque Config.aesDec : List Byte → List Byte → List Byte

/-- SHA-256 of a list of bytes. -/
opaque Config.sha256 : List Byte → BitVec 256

/-- ECDSA signature, r then s, on a curve of 32 or 48 bytes: of a digest, under a private key, with a nonce (R341,
R344). -/
opaque Config.ecSign : Nat → List Byte → Nat → List Byte → List Byte

/-- The public key, X then Y, of a private key on a curve of 32 or 48 bytes (R93, R362). -/
opaque Config.ecPublic : Nat → List Byte → List Byte

/-- Whether a signature of a digest fits a public key (R344): curve, public key, digest, signature. -/
opaque Config.ecVerify : Nat → List Byte → List Byte → List Byte → Bool

/-- ECDH shared secret of a private key and a peer's public key (R344); none for a point not on the
curve. -/
opaque Config.ecdh : Nat → List Byte → List Byte → Option (List Byte)

/-- Duration in ns of a compatibility frame: its plan, the words of the tone mask, its mode and its length; and the
recommendation's largest MAC frame (R233, R236: ITU-T G.9903, not restated). -/
opaque Config.compatNs : Nat → List Word → Nat → Nat → Nat
opaque Config.compatMax : Nat

/-- NAND target, 4 × channel + target modulo 8, on which a granule of namespace 15 lies after its `n`-th write (R371,
R385: the layer places it). -/
opaque Config.ctxTarget : Nat → Nat → Nat

/-- Mode and MAC frame of the tone-map response that hardware builds on plan `p` from the requester's short address
and SNR (R233: ITU-T G.9903, not restated). -/
opaque Config.compatTmr : Nat → Option Nat → List (BitVec 8) → Nat × List Byte

/-- Weight of a member's SNR, in half dB, in the means of R247 and R293: the spec does not say in which scale. -/
opaque Config.snrWeight : Int → Nat

/-- Duration in ns of a compatibility acknowledgement wait. -/
opaque Config.compatAckNs : Nat

/-- Field of an offset after a crossing that lies in a lengthened slot 7 and passes 65,535 (R291): the spec states
no value. -/
opaque Config.longOffset : Nat → Nat

/-- Period in ns that an output keeps when `PERIOD_NS` holds a value below 100 ns (R408 gives none). -/
opaque Config.shortPeriod : Nat → Nat

end Sys2Proof
end

