-- ==== Sys2Proof/Machine/Crypto.lean ====
section
/-!
DEFINITION. What the cipher engines compute, over one block of AES, the hash functions and the curve operations,
which stay opaque: the modes of R342, the CCM* of R356, the key unwrap of R350 (RFC 3394) and the deterministic
nonce of R341 (RFC 6979).  The spec names the standards of the modes and restates them in part; what it does not
restate is taken from them (assumption 133).
-/

namespace Sys2Proof.Machine

/-! ### Bytes and blocks -/

/-- A list of bytes brought to a length, zeros added at the end. -/
def fit (n : Nat) (l : List Byte) : List Byte := (l ++ List.replicate n 0#8).take n

/-- The exclusive or of two lists of bytes, as long as the shorter. -/
def xorBytes (a b : List Byte) : List Byte := List.zipWith (· ^^^ ·) a b

/-- A list of bytes as a big-endian number. -/
def beNat (l : List Byte) : Nat := leNat l.reverse

/-- A list of bytes in blocks of 16, the last one as long as what is left. -/
def blocksOf (l : List Byte) : List (List Byte) :=
  (List.range (ceilDiv l.length 16)).map fun i => (l.drop (16 * i)).take 16

/-- Zeros added up to a whole block. -/
def padBlock (l : List Byte) : List Byte := fit (16 * ceilDiv l.length 16) l

/-- One block encrypted and decrypted. -/
def aesEnc (k b : List Byte) : List Byte := fit 16 (Config.aesEnc k (fit 16 b))
def aesDec (k b : List Byte) : List Byte := fit 16 (Config.aesDec k (fit 16 b))

/-! ### CBC with its three paddings, CFB-128, OFB and CTR (R342) -/

/-- CBC over blocks, after the block `v`. -/
def cbcEncBlocks (k : List Byte) : List Byte → List (List Byte) → List (List Byte)
  | _, [] => []
  | v, b :: l => aesEnc k (xorBytes v b) :: cbcEncBlocks k (aesEnc k (xorBytes v b)) l

def cbcDecBlocks (k : List Byte) : List Byte → List (List Byte) → List (List Byte)
  | _, [] => []
  | v, b :: l => xorBytes (aesDec k b) v :: cbcDecBlocks k b l

/-- Bytes of the last block of a text. -/
def lastBytes (l : List Byte) : Nat := l.length - 16 * (ceilDiv l.length 16 - 1)

/-- Ciphertext stealing in variant CS3: the last two blocks change places, and the one before last is cut. -/
def cs3Enc (k iv l : List Byte) : List Byte :=
  let c := cbcEncBlocks k iv (blocksOf (padBlock l))
  let n := c.length
  if n ≤ 1 then c.flatten else (c.take (n - 2)).flatten ++ c.getD (n - 1) [] ++ (c.getD (n - 2) []).take (lastBytes l)

def cs3Dec (k iv l : List Byte) : List Byte :=
  let b := blocksOf l
  let n := b.length
  let last := b.getD (n - 2) []
  let cut := b.getD (n - 1) []
  if n ≤ 1 then (cbcDecBlocks k iv b).flatten
  else (cbcDecBlocks k iv (b.take (n - 2) ++ [cut ++ (aesDec k last).drop cut.length, last])).flatten.take l.length

/-- PKCS#7 padding: one to 16 bytes, each their number. -/
def pkcs7Pad (l : List Byte) : List Byte :=
  l ++ List.replicate (16 - l.length % 16) (BitVec.ofNat 8 (16 - l.length % 16))

def cbcRun (dec : Bool) (pad : Nat) (k iv l : List Byte) : List Byte :=
  match dec, pad with
  | false, 0 => (cbcEncBlocks k iv (blocksOf (padBlock l))).flatten
  | false, 1 => (cbcEncBlocks k iv (blocksOf (pkcs7Pad l))).flatten
  | false, _ => cs3Enc k iv l
  | true, 2 => cs3Dec k iv l
  | true, _ => (cbcDecBlocks k iv (blocksOf l)).flatten

/-- CFB-128 over blocks, after the ciphertext block `v`. -/
def cfbBlocks (dec : Bool) (k : List Byte) : List Byte → List (List Byte) → List (List Byte)
  | _, [] => []
  | v, b :: l =>
    let o := xorBytes b (aesEnc k v)
    o :: cfbBlocks dec k (if dec then b else o) l

/-- OFB over blocks, after the keystream block `v`. -/
def ofbBlocks (k : List Byte) : List Byte → List (List Byte) → List (List Byte)
  | _, [] => []
  | v, b :: l => xorBytes b (aesEnc k v) :: ofbBlocks k (aesEnc k v) l

/-- A text under the keystream of counter blocks, number `i` for its `i`-th block. -/
def underCounters (k : List Byte) (counter : Nat → List Byte) (l : List Byte) : List Byte :=
  (List.range (ceilDiv l.length 16)).flatMap fun i => xorBytes ((l.drop (16 * i)).take 16) (aesEnc k (counter i))

/-- Counter block of CTR: the IV incremented as a 128-bit big-endian integer. -/
def ctrBlock (iv : List Byte) (i : Nat) : List Byte := beBytes 16 ((beNat iv + i) % 2 ^ 128)

/-! ### CCM and CCM* (R342, R356) -/

/-- The last block of a CBC over blocks that starts at zero. -/
def cbcMac (k : List Byte) (l : List (List Byte)) : List Byte :=
  l.foldl (fun v b => aesEnc k (xorBytes v b)) (List.replicate 16 0#8)

/-- Block B0 of a tag of `m` bytes, a nonce, `n` bytes of text, and whether there are authenticated data (R356); L is
15 less the nonce's length. -/
def ccmB0 (m : Nat) (nonce : List Byte) (n : Nat) (auth : Bool) : List Byte :=
  let len := 15 - nonce.length
  beBytes 1 ((if auth then 64 else 0) + 8 * ((m - 2) / 2) + (len - 1)) ++ nonce ++ beBytes len n

/-- Counter block A_i (R356). -/
def ccmCounter (nonce : List Byte) (i : Nat) : List Byte :=
  let len := 15 - nonce.length
  beBytes 1 (len - 1) ++ nonce ++ beBytes len i

/-- The blocks that the tag covers: B0, the authenticated data after their length, the text. -/
def ccmBlocks (m : Nat) (nonce aad text : List Byte) : List (List Byte) :=
  ccmB0 m nonce text.length (!aad.isEmpty) ::
    (blocksOf (if aad.isEmpty then [] else padBlock (beBytes 2 aad.length ++ aad)) ++ blocksOf (padBlock text))

/-- The tag of `m` bytes over the plain text. -/
def ccmTag (k : List Byte) (m : Nat) (nonce aad text : List Byte) : List Byte :=
  (xorBytes (cbcMac k (ccmBlocks m nonce aad text)) (aesEnc k (ccmCounter nonce 0))).take m

/-- The text under the keystream from A_1 on. -/
def ccmText (k nonce text : List Byte) : List Byte := underCounters k (fun i => ccmCounter nonce (i + 1)) text

/-! ### GCM (R342) -/

/-- One bit of a multiplication in the field of GCM. -/
def gmulStep (x : BitVec 128) (n : Nat) (z v : BitVec 128) : BitVec 128 :=
  match n with
  | 0 => z
  | n + 1 =>
    gmulStep x n (if x.getLsbD n then z ^^^ v else z)
      (if v.getLsbD 0 then (v >>> 1) ^^^ (0xE1#128 <<< 120) else v >>> 1)

def gmul (x y : BitVec 128) : BitVec 128 := gmulStep x 128 0#128 y

def ghash (h : BitVec 128) (l : List Byte) : BitVec 128 :=
  (blocksOf l).foldl (fun y b => gmul (y ^^^ BitVec.ofNat 128 (beNat b)) h) 0#128

/-- Counter block of GCM on an IV of 12 bytes. -/
def gcmCounter (iv : List Byte) (i : Nat) : List Byte := iv ++ beBytes 4 ((i + 1) % 2 ^ 32)

def gcmText (k iv text : List Byte) : List Byte := underCounters k (fun i => gcmCounter iv (i + 1)) text

/-- The tag of `m` bytes over the ciphertext. -/
def gcmTag (k : List Byte) (m : Nat) (iv aad cipher : List Byte) : List Byte :=
  let h := BitVec.ofNat 128 (beNat (aesEnc k (List.replicate 16 0#8)))
  let y := ghash h (padBlock aad ++ padBlock cipher ++ beBytes 8 (8 * aad.length) ++ beBytes 8 (8 * cipher.length))
  (xorBytes (beBytes 16 y.toNat) (aesEnc k (gcmCounter iv 0))).take m

/-! ### XTS (R342) -/

/-- A tweak times x, its bytes read as a little-endian number. -/
def xtsNext (t : List Byte) : List Byte :=
  let v := leNat t * 2
  leBytes 16 (if v < 2 ^ 128 then v else (v - 2 ^ 128) ^^^ 0x87)

/-- The tweak of block `n`. -/
def xtsTweak : Nat → List Byte → List Byte
  | 0, t => t
  | n + 1, t => xtsTweak n (xtsNext t)

/-- One block under its tweak. -/
def xtsBlock (dec : Bool) (k t b : List Byte) : List Byte :=
  xorBytes (if dec then aesDec k (xorBytes b t) else aesEnc k (xorBytes b t)) t

/-- One data unit: the first half of the key on the text, the second on the tweak; a partial last block is handled
by ciphertext stealing. -/
def xtsRun (dec : Bool) (key iv l : List Byte) : List Byte :=
  let k := key.take (key.length / 2)
  let t := aesEnc (key.drop (key.length / 2)) iv
  let n := l.length / 16
  let r := l.length % 16
  let blk (i : Nat) : List Byte := (l.drop (16 * i)).take 16
  let run (i : Nat) : List Byte := xtsBlock dec k (xtsTweak i t) (blk i)
  if r = 0 then (List.range n).flatMap run
  else
    let front := (List.range (n - 1)).flatMap run
    let rest := l.drop (16 * n)
    let a := xtsBlock dec k (xtsTweak (if dec then n else n - 1) t) (blk (n - 1))
    let b := xtsBlock dec k (xtsTweak (if dec then n - 1 else n) t) (rest ++ a.drop r)
    front ++ b ++ a.take r

/-! ### A job's mode (R342) -/

/-- Output and tag of a mode of R186 on a whole input. -/
def aesMode (a : AesArgs) : List Byte × List Byte :=
  match a.mode with
  | 1 => (cbcRun a.decrypt a.pad a.key a.iv a.input, [])
  | 2 => ((cfbBlocks a.decrypt a.key a.iv (blocksOf a.input)).flatten, [])
  | 3 => ((ofbBlocks a.key a.iv (blocksOf a.input)).flatten, [])
  | 4 => (underCounters a.key (ctrBlock a.iv) a.input, [])
  | 5 | 6 =>
    let out := ccmText a.key a.iv a.input
    (out, ccmTag a.key a.tagLen a.iv a.aad (if a.decrypt then out else a.input))
  | 7 =>
    let out := gcmText a.key a.iv a.input
    (out, gcmTag a.key a.tagLen a.iv a.aad (if a.decrypt then a.input else out))
  | 8 => (xtsRun a.decrypt a.key a.iv a.input, [])
  | _ => ([], [])

/-! ### Frames (R281, R356) -/

/-- MIC bytes of a security level (R281). -/
def micLen (level : Nat) : Nat :=
  match level % 4 with
  | 1 => 4
  | 2 => 8
  | 3 => 16
  | _ => 0

/-- The level encrypts the payload. -/
def levelEncrypts (level : Nat) : Bool := decide (5 ≤ level)

/-- The nonce of a frame: EUI-64 of its source, its counter, its level. -/
def frameNonce (eui counter level : Nat) : List Byte := beBytes 8 eui ++ beBytes 4 counter ++ beBytes 1 level

/-- The MIC over a frame's plain payload and authenticated data: at levels 1 to 3 the payload joins the data. -/
def frameMic (key nonce auth : List Byte) (level : Nat) (payload : List Byte) : List Byte :=
  if levelEncrypts level then ccmTag key (micLen level) nonce auth payload
  else ccmTag key (micLen level) nonce (auth ++ payload) []

/-- A payload as it is sent, and back. -/
def frameText (key nonce : List Byte) (level : Nat) (payload : List Byte) : List Byte :=
  if levelEncrypts level then ccmText key nonce payload else payload

/-- Authenticated data of a line frame (R356). -/
def lineAuth (ftype level : Nat) (ackReq : Bool) (seq far counter : Nat) : List Byte :=
  leBytes 1 (ftype % 16 + level % 8 * 16 + b2n ackReq * 128) ++ leBytes 1 seq ++ leBytes 2 far ++ leBytes 4 counter

/-- Authenticated data of a radio frame: header bytes 0 to 8 and `FC` (R311, R356). -/
def radioAuth (fctl seq dest src evt counter : Nat) : List Byte :=
  leBytes 2 fctl ++ leBytes 1 seq ++ leBytes 2 dest ++ leBytes 2 src ++ leBytes 2 evt ++ leBytes 4 counter

/-- `FCTL` of a radio frame (R311); `top` are its bits from 10 on. -/
def radioFctl (ftype level : Nat) (ackReq pending evtValid : Bool) (top : Nat) : Nat :=
  ftype % 16 + level % 8 * 16 + b2n ackReq * 2 ^ 7 + b2n pending * 2 ^ 8 + b2n evtValid * 2 ^ 9 + top % 64 * 2 ^ 10

/-! ### Key unwrap (R350) -/

/-- Steps `t` to 1 of the unwrap over `n` blocks of 8 bytes. -/
def unwrapSteps (k : List Byte) (n : Nat) : Nat → List Byte × List (List Byte) → List Byte × List (List Byte)
  | 0, x => x
  | t + 1, x =>
    let b := aesDec k (xorBytes x.1 (beBytes 8 (t + 1)) ++ x.2.getD (t % n) [])
    unwrapSteps k n t (b.take 8, x.2.set (t % n) (b.drop 8))

/-- RFC 3394: the key that bytes unwrap to. -/
def keyUnwrap (k l : List Byte) : Option (List Byte) :=
  let n := l.length / 8 - 1
  let x := unwrapSteps k n (6 * n) (l.take 8, (List.range n).map fun i => (l.drop (8 * i + 8)).take 8)
  if x.1 = List.replicate 8 0xA6#8 then some x.2.flatten else none

/-! ### Signatures (R341) -/

/-- The hash that goes with a curve of `b` bytes: SHA-256 for P-256, SHA-384 for P-384. -/
def curveHash (b : Nat) (l : List Byte) : List Byte :=
  if b = 32 then beBytes 32 (Config.sha256 l).toNat else beBytes 48 (Config.sha384 l).toNat

/-- HMAC under a curve's hash; the key is no longer than a block of it. -/
def hmac (b : Nat) (key l : List Byte) : List Byte :=
  let k := fit (if b = 32 then 64 else 128) key
  curveHash b (k.map (· ^^^ 0x5C#8) ++ curveHash b (k.map (· ^^^ 0x36#8) ++ l))

/-- Order of a curve of `b` bytes. -/
def curveOrder (b : Nat) : Nat :=
  if b = 32 then 0xFFFFFFFF00000000FFFFFFFFFFFFFFFFBCE6FAADA7179E84F3B9CAC2FC632551
  else 0xFFFFFFFFFFFFFFFFFFFFFFFFFFFFFFFFFFFFFFFFFFFFFFFFC7634D81F4372DDF581A0DB248B0A77AECEC196ACCC52973

/-- Candidates of RFC 6979 until one lies in 1 to the order less 1; 0 when `fuel` of them do not. -/
def nonceTry (b : Nat) : Nat → List Byte → List Byte → Nat
  | 0, _, _ => 0
  | fuel + 1, k, v =>
    let v := hmac b k v
    let n := beNat v
    if 1 ≤ n ∧ n < curveOrder b then n
    else
      let k := hmac b k (v ++ [0#8])
      nonceTry b fuel k (hmac b k v)

/-- The deterministic nonce for a private key and a digest. -/
def signNonce (b : Nat) (key digest : List Byte) : Nat :=
  let h := key ++ beBytes b (beNat digest % curveOrder b)
  let v := List.replicate b 1#8
  let k := hmac b (List.replicate b 0#8) (v ++ [0#8] ++ h)
  let v := hmac b k v
  let k := hmac b k (v ++ [1#8] ++ h)
  nonceTry b 64 k (hmac b k v)

/-- The signature of a digest, r then s. -/
def signDigest (b : Nat) (key digest : List Byte) : List Byte :=
  fit (2 * b) (Config.ecSign b key (signNonce b key digest) digest)

end Sys2Proof.Machine
end

