-- ==== Sys2Proof/Machine/Greune.lean ====
section
/-!
DEFINITION. The Greune instruction words of chapter 6: the instructions, the decoder of R163 and
R164 with the field rules of R163 to R196, and the encoder.  A bit that the spec says must be zero
is refused when it is not; a field an instruction does not use, and of which the spec says nothing,
is not looked at (assumption 6).
-/

namespace Sys2Proof.Machine

/-- ALU operations of R168, by fn. -/
inductive AluOp where
  | add | sub | and | or | xor | shl | shr | sra | mul | mulh | cmp
deriving DecidableEq, Repr

/-- Fields of format `FA` (R163). -/
structure FA where
  slot : BitVec 2
  nw : Bool
  asap : Bool
  ctx : Bool
  ra : BitVec 4
  rc : BitVec 4
  tk : BitVec 2
  doff : BitVec 10
deriving DecidableEq, Repr

/-- A Greune instruction. -/
inductive GInstr where
  /-- `ALU` opcode, register forms -/
  | alu (op : AluOp) (rd ra rb : BitVec 4)
  /-- `ADDI` … `CMPI` -/
  | alui (op : AluOp) (rd ra : BitVec 4) (imm : BitVec 16)
  | movi (rd : BitVec 4) (imm : BitVec 16)
  | pfx (imm : BitVec 16)
  /-- `LD`, `LDH`, `LDB`: size code 2, 1, 0 -/
  | load (sz : BitVec 2) (rd ra : BitVec 4) (imm : BitVec 16)
  /-- `ST`, `STH`, `STB` -/
  | store (sz : BitVec 2) (rd ra : BitVec 4) (imm : BitVec 16)
  | tld (tk : BitVec 2) (ra : BitVec 4) (imm : BitVec 16)
  | tst (tk : BitVec 2) (ra : BitVec 4) (imm : BitVec 16)
  | br (cond : BitVec 4) (target : BitVec 13)
  | call (target : BitVec 13)
  | brr (cond ra : BitVec 4)
  | callr (ra : BitVec 4)
  | ret
  | atTime (tk : BitVec 2)
  | after (ra : BitVec 4)
  | afteri (imm : BitVec 16)
  | zxw (tk : BitVec 2) (rn rm : BitVec 4) (phase : BitVec 2) (nw : Bool)
  | tget (tk : BitVec 2)
  | tadd (tk ta : BitVec 2) (rb : BitVec 4) (unit : BitVec 2)
  | tsub (rd : BitVec 4) (ta tb unit : BitVec 2)
  | tpack (tk : BitVec 2) (rh rl : BitVec 4)
  | tpart (rd : BitVec 4) (ta : BitVec 2) (hi : Bool)
  | txf (f : FA)
  | rxw (f : FA)
  | cancel (slot : BitVec 2)
  | rtx (f : FA)
  | rrx (f : FA)
  | ldn (rd rc : BitVec 4) (wide nw : Bool) (word : BitVec 9)
  | stn (rd rc : BitVec 4) (wide : Bool) (word : BitVec 9)
  | pref (rc : BitVec 4)
  | pin (rc : BitVec 4) (nw : Bool)
  | unpin (rc : BitVec 4)
  | cyp (f : FA)
  | enq (q : BitVec 6) (qreg : Bool) (ra rq : BitVec 4) (doff : BitVec 11)
  | deq (q : BitVec 6) (qreg : Bool) (ra rq : BitVec 4) (nw mem : Bool) (rd : BitVec 4)
  | evt (i : BitVec 2)
  | sig (rt : BitVec 4) (bit : BitVec 3)
  | wsig (rm : BitVec 4) (deadline : Bool) (tk : BitVec 2)
  | halt
  | trap (imm : BitVec 16)
  | yield
deriving DecidableEq, Repr

/-- The operation of an fn code; 11 to 15 are unassigned (R168). -/
def aluOfFn (fn : Nat) : Option AluOp :=
  match fn with
  | 0 => some .add | 1 => some .sub | 2 => some .and | 3 => some .or | 4 => some .xor
  | 5 => some .shl | 6 => some .shr | 7 => some .sra | 8 => some .mul | 9 => some .mulh
  | 10 => some .cmp | _ => none

/-- The fn code of an operation. -/
def fnOfAlu : AluOp → Nat
  | .add => 0 | .sub => 1 | .and => 2 | .or => 3 | .xor => 4 | .shl => 5 | .shr => 6 | .sra => 7
  | .mul => 8 | .mulh => 9 | .cmp => 10

/-- The operation of an immediate opcode 0x01 to 0x09 (R164). -/
def aluOfOpcode (op : Nat) : Option AluOp :=
  match op with
  | 1 => some .add | 2 => some .sub | 3 => some .and | 4 => some .or | 5 => some .xor
  | 6 => some .shl | 7 => some .shr | 8 => some .sra | 9 => some .cmp | _ => none

/-- The immediate opcode of an operation; `MUL` and `MULH` have none. -/
def opcodeOfAlui : AluOp → Nat
  | .add => 1 | .sub => 2 | .and => 3 | .or => 4 | .xor => 5 | .shl => 6 | .shr => 7 | .sra => 8
  | .cmp => 9 | .mul => 0 | .mulh => 0

/-- Bits [lo+n-1:lo] of an instruction word. -/
def fieldOf (w : BitVec 32) (lo n : Nat) : BitVec n := w.extractLsb' lo n

/-- Fields of format `FA`. -/
def faOf (w : BitVec 32) : FA :=
  ⟨fieldOf w 24 2, w.getLsbD 23, w.getLsbD 22, w.getLsbD 21, fieldOf w 16 4, fieldOf w 12 4,
   fieldOf w 10 2, fieldOf w 0 10⟩

/-- Bit 20 of format `FA` is zero, and tk is zero with asap (R163, R175). -/
def faOk (w : BitVec 32) (f : FA) : Bool := !w.getLsbD 20 && (!f.asap || f.tk == 0#2)

/-- An instruction kept when its field rules hold. -/
def keepIf (c : Bool) (i : GInstr) : Option GInstr := if c then some i else none

/-- Format `FI` with bits [17:16] zero (R163). -/
def fiOk (w : BitVec 32) : Bool := fieldOf w 16 2 == 0#2

/-- Format `FB` with bits [17:13] zero. -/
def fbOk (w : BitVec 32) : Bool := fieldOf w 13 5 == 0#5

/-- Format `FT` with bits [10:0] zero. -/
def ftOk (w : BitVec 32) : Bool := fieldOf w 0 11 == 0#11

/-- Format `FC` with bits [15:9] zero. -/
def fcOk (w : BitVec 32) : Bool := fieldOf w 9 7 == 0#7

/-- With T set, rd bits [3:2] are zero and word is even (R184). -/
def pairOk (w : BitVec 32) : Bool := !w.getLsbD 17 || (fieldOf w 24 2 == 0#2 && !w.getLsbD 0)

/-- ALU opcodes 0x00 to 0x0B. -/
def decodeAlu (w : BitVec 32) (op : Nat) : Option GInstr :=
  let rd := fieldOf w 22 4
  let ra := fieldOf w 18 4
  let imm := fieldOf w 0 16
  match op with
  | 0 =>
    match aluOfFn (fieldOf w 0 4).toNat with
    | some o => keepIf (fieldOf w 4 10 == 0#10 && (o != .cmp || rd == 0#4)) (.alu o rd ra (fieldOf w 14 4))
    | none => none
  | 10 => keepIf (fiOk w && ra == 0#4) (.movi rd imm)
  | 11 => keepIf (fiOk w) (.pfx imm)
  | _ =>
    match aluOfOpcode op with
    | some o =>
      keepIf (fiOk w && (o != .cmp || rd == 0#4) &&
        ((o != .shl && o != .shr && o != .sra) || fieldOf w 5 11 == 0#11)) (.alui o rd ra imm)
    | none => none

/-- Data memory opcodes 0x10 to 0x17 and branches 0x18 to 0x1C. -/
def decodeMem (w : BitVec 32) (op : Nat) : Option GInstr :=
  let rd := fieldOf w 22 4
  let ra := fieldOf w 18 4
  let imm := fieldOf w 0 16
  let tk := fieldOf w 22 2
  let cond := fieldOf w 22 4
  let tgt := fieldOf w 0 13
  match op with
  | 0x10 => keepIf (fiOk w) (.load 2#2 rd ra imm)
  | 0x11 => keepIf (fiOk w) (.load 1#2 rd ra imm)
  | 0x12 => keepIf (fiOk w) (.load 0#2 rd ra imm)
  | 0x13 => keepIf (fiOk w) (.store 2#2 rd ra imm)
  | 0x14 => keepIf (fiOk w) (.store 1#2 rd ra imm)
  | 0x15 => keepIf (fiOk w) (.store 0#2 rd ra imm)
  | 0x16 => keepIf (fiOk w && fieldOf w 24 2 == 0#2) (.tld tk ra imm)
  | 0x17 => keepIf (fiOk w && fieldOf w 24 2 == 0#2) (.tst tk ra imm)
  | 0x18 => keepIf (fbOk w && cond != 15#4) (.br cond tgt)
  | 0x19 => keepIf (fbOk w && cond == 0#4) (.call tgt)
  | 0x1A => keepIf (fbOk w && cond != 15#4) (.brr cond ra)
  | 0x1B => keepIf (fbOk w && cond == 0#4) (.callr ra)
  | 0x1C => keepIf (fbOk w && cond == 0#4) .ret
  | _ => none

/-- Time opcodes 0x20 to 0x28: a field not named for an instruction is zero (R173). -/
def decodeTime (w : BitVec 32) (op : Nat) : Option GInstr :=
  let tk := fieldOf w 24 2
  let ta := fieldOf w 22 2
  let r1 := fieldOf w 18 4
  let r2 := fieldOf w 14 4
  let sel := fieldOf w 12 2
  let nw := w.getLsbD 11
  let z (b : Bool) := ftOk w && b
  match op with
  | 0x20 => keepIf (z (ta == 0#2 && r1 == 0#4 && r2 == 0#4 && sel == 0#2 && !nw)) (.atTime tk)
  | 0x21 => keepIf (z (tk == 0#2 && ta == 0#2 && r2 == 0#4 && sel == 0#2 && !nw)) (.after r1)
  | 0x22 => keepIf (fieldOf w 16 10 == 0#10) (.afteri (fieldOf w 0 16))
  | 0x23 => keepIf (z (ta == 0#2 && sel != 3#2)) (.zxw tk r1 r2 sel nw)
  | 0x24 => keepIf (z (ta == 0#2 && r1 == 0#4 && r2 == 0#4 && sel == 0#2 && !nw)) (.tget tk)
  | 0x25 => keepIf (z (r2 == 0#4 && !nw)) (.tadd tk ta r1 sel)
  | 0x26 => keepIf (z (r2 == 0#4 && !nw)) (.tsub r1 ta tk sel)
  | 0x27 => keepIf (z (ta == 0#2 && sel == 0#2 && !nw)) (.tpack tk r1 r2)
  | 0x28 => keepIf (z (tk == 0#2 && r2 == 0#4 && !sel.getLsbD 1 && !nw)) (.tpart r1 ta (sel.getLsbD 0))
  | _ => none

/-- Action, context and cipher opcodes 0x2C to 0x36. -/
def decodeAct (w : BitVec 32) (op : Nat) : Option GInstr :=
  let f := faOf w
  let rd := fieldOf w 22 4
  let rc := fieldOf w 18 4
  let wide := w.getLsbD 17
  let nw := w.getLsbD 16
  let word := fieldOf w 0 9
  match op with
  | 0x2C => keepIf (faOk w f) (.txf f)
  | 0x2D => keepIf (faOk w f && !f.ctx) (.rxw f)
  | 0x2E => keepIf (fieldOf w 0 24 == 0#24) (.cancel f.slot)
  | 0x2F => keepIf (faOk w f) (.rtx f)
  | 0x30 => keepIf (faOk w f) (.rrx f)
  | 0x31 => keepIf (fcOk w && pairOk w) (.ldn rd rc wide nw word)
  | 0x32 => keepIf (fcOk w && pairOk w && !nw) (.stn rd rc wide word)
  | 0x33 => keepIf (fcOk w) (.pref rc)
  | 0x34 => keepIf (fcOk w) (.pin rc nw)
  | 0x35 => keepIf (fcOk w) (.unpin rc)
  | 0x36 => keepIf (faOk w f && !f.asap && !f.ctx && f.tk == 0#2) (.cyp f)
  | _ => none

/-- Queue, signal and system opcodes 0x37 to 0x3E. -/
def decodeSys (w : BitVec 32) (op : Nat) : Option GInstr :=
  let q := fieldOf w 20 6
  let qreg := w.getLsbD 19
  let ra := fieldOf w 15 4
  let rq := fieldOf w 11 4
  match op with
  | 0x37 => keepIf (!qreg || q == 0#6) (.enq q qreg ra rq (fieldOf w 0 11))
  | 0x38 =>
    keepIf ((!qreg || q == 0#6) && fieldOf w 0 5 == 0#5)
      (.deq q qreg ra rq (w.getLsbD 10) (w.getLsbD 9) (fieldOf w 5 4))
  | 0x39 => keepIf (fieldOf w 0 24 == 0#24 && fieldOf w 24 2 != 3#2) (.evt (fieldOf w 24 2))
  | 0x3A => keepIf (fieldOf w 0 19 == 0#19) (.sig (fieldOf w 22 4) (fieldOf w 19 3))
  | 0x3B => keepIf (fieldOf w 0 19 == 0#19) (.wsig (fieldOf w 22 4) (w.getLsbD 21) (fieldOf w 19 2))
  | 0x3C => keepIf (fieldOf w 0 26 == 0#26) .halt
  | 0x3D => keepIf (fieldOf w 16 10 == 0#10) (.trap (fieldOf w 0 16))
  | 0x3E => keepIf (fieldOf w 0 26 == 0#26) .yield
  | _ => none

/-- The instruction of a word; none for an unassigned opcode or a non-zero reserved field (R163, R164). -/
def gDecode (w : BitVec 32) : Option GInstr :=
  let op := (fieldOf w 26 6).toNat
  if op < 0x10 then decodeAlu w op
  else if op < 0x20 then decodeMem w op
  else if op < 0x2C then decodeTime w op
  else if op < 0x37 then decodeAct w op
  else decodeSys w op

/-- An opcode as the six high bits of a word. -/
def opWord (op : Nat) : BitVec 32 := BitVec.ofNat 32 op <<< 26

/-- A field placed at a bit position. -/
def place {n : Nat} (v : BitVec n) (lo : Nat) : BitVec 32 := v.setWidth 32 <<< lo

/-- A flag placed at a bit position. -/
def placeB (b : Bool) (lo : Nat) : BitVec 32 := if b then 1#32 <<< lo else 0#32

/-- The fields of format `FA` in their places. -/
def faWord (f : FA) : BitVec 32 :=
  place f.slot 24 ||| placeB f.nw 23 ||| placeB f.asap 22 ||| placeB f.ctx 21 ||| place f.ra 16 |||
    place f.rc 12 ||| place f.tk 10 ||| place f.doff 0

/-- Format `FI`. -/
def fiWord (rd ra : BitVec 4) (imm : BitVec 16) : BitVec 32 := place rd 22 ||| place ra 18 ||| place imm 0

/-- The word of an instruction (R163, R164). -/
def gEncode : GInstr → BitVec 32
  | .alu o rd ra rb => place rd 22 ||| place ra 18 ||| place rb 14 ||| BitVec.ofNat 32 (fnOfAlu o)
  | .alui o rd ra imm => opWord (opcodeOfAlui o) ||| fiWord rd ra imm
  | .movi rd imm => opWord 0x0A ||| fiWord rd 0#4 imm
  | .pfx imm => opWord 0x0B ||| place imm 0
  | .load sz rd ra imm => opWord (0x12 - sz.toNat) ||| fiWord rd ra imm
  | .store sz rd ra imm => opWord (0x15 - sz.toNat) ||| fiWord rd ra imm
  | .tld tk ra imm => opWord 0x16 ||| place tk 22 ||| place ra 18 ||| place imm 0
  | .tst tk ra imm => opWord 0x17 ||| place tk 22 ||| place ra 18 ||| place imm 0
  | .br c t => opWord 0x18 ||| place c 22 ||| place t 0
  | .call t => opWord 0x19 ||| place t 0
  | .brr c ra => opWord 0x1A ||| place c 22 ||| place ra 18
  | .callr ra => opWord 0x1B ||| place ra 18
  | .ret => opWord 0x1C
  | .atTime tk => opWord 0x20 ||| place tk 24
  | .after ra => opWord 0x21 ||| place ra 18
  | .afteri imm => opWord 0x22 ||| place imm 0
  | .zxw tk rn rm p nw => opWord 0x23 ||| place tk 24 ||| place rn 18 ||| place rm 14 ||| place p 12 ||| placeB nw 11
  | .tget tk => opWord 0x24 ||| place tk 24
  | .tadd tk ta rb u => opWord 0x25 ||| place tk 24 ||| place ta 22 ||| place rb 18 ||| place u 12
  | .tsub rd ta tb u => opWord 0x26 ||| place tb 24 ||| place ta 22 ||| place rd 18 ||| place u 12
  | .tpack tk rh rl => opWord 0x27 ||| place tk 24 ||| place rh 18 ||| place rl 14
  | .tpart rd ta hi => opWord 0x28 ||| place ta 22 ||| place rd 18 ||| placeB hi 12
  | .txf f => opWord 0x2C ||| faWord f
  | .rxw f => opWord 0x2D ||| faWord f
  | .cancel s => opWord 0x2E ||| place s 24
  | .rtx f => opWord 0x2F ||| faWord f
  | .rrx f => opWord 0x30 ||| faWord f
  | .ldn rd rc t nw w => opWord 0x31 ||| place rd 22 ||| place rc 18 ||| placeB t 17 ||| placeB nw 16 ||| place w 0
  | .stn rd rc t w => opWord 0x32 ||| place rd 22 ||| place rc 18 ||| placeB t 17 ||| place w 0
  | .pref rc => opWord 0x33 ||| place rc 18
  | .pin rc nw => opWord 0x34 ||| place rc 18 ||| placeB nw 16
  | .unpin rc => opWord 0x35 ||| place rc 18
  | .cyp f => opWord 0x36 ||| faWord f
  | .enq q qr ra rq d => opWord 0x37 ||| place q 20 ||| placeB qr 19 ||| place ra 15 ||| place rq 11 ||| place d 0
  | .deq q qr ra rq nw m rd =>
    opWord 0x38 ||| place q 20 ||| placeB qr 19 ||| place ra 15 ||| place rq 11 ||| placeB nw 10 ||| placeB m 9 ||| place rd 5
  | .evt i => opWord 0x39 ||| place i 24
  | .sig rt b => opWord 0x3A ||| place rt 22 ||| place b 19
  | .wsig rm d tk => opWord 0x3B ||| place rm 22 ||| placeB d 21 ||| place tk 19
  | .halt => opWord 0x3C
  | .trap imm => opWord 0x3D ||| place imm 0
  | .yield => opWord 0x3E

/-- The fields of format `FA` that R175 allows together. -/
def faWf (f : FA) : Bool := !f.asap || f.tk == 0#2

/-- An instruction whose fields obey the rules of R163 to R196. -/
def gWf : GInstr → Bool
  | .alu o rd _ _ => o != .cmp || rd == 0#4
  | .alui o rd _ imm =>
    o != .mul && o != .mulh && (o != .cmp || rd == 0#4) &&
      ((o != .shl && o != .shr && o != .sra) || imm.extractLsb' 5 11 == 0#11)
  | .load sz _ _ _ | .store sz _ _ _ => sz != 3#2
  | .br c _ | .brr c _ => c != 15#4
  | .zxw _ _ _ p _ => p != 3#2
  | .txf f | .rtx f | .rrx f => faWf f
  | .rxw f => faWf f && !f.ctx
  | .cyp f => !f.asap && !f.ctx && f.tk == 0#2
  | .ldn rd _ t _ w | .stn rd _ t w => !t || (rd.extractLsb' 2 2 == 0#2 && !w.getLsbD 0)
  | .enq q qr _ _ _ | .deq q qr _ _ _ _ _ => !qr || q == 0#6
  | .evt i => i != 3#2
  | _ => true

end Sys2Proof.Machine
end

