-- ==== Sys2Proof/Machine/Fields.lean ====
section
/-!
DEFINITION. The offset of every register (`R.…`) and the place of every field (`F.…`) of the
register tables, under the spec's own names (R11, R495).  Indices are those of R12.
-/

namespace Sys2Proof.Machine

/-! Register offsets. -/

def R.devId : Nat := 0x0
def R.devStep : Nat := 0x4
def R.drwSelf : Nat := 0x10
def R.violCnt : Nat := 0x14
def R.violLog : Nat := 0x18
def R.ownQue (i : Nat) : Nat := 0x100 + 0x4 * i
def R.ownKey (i : Nat) : Nat := 0x120 + 0x4 * i
def R.ownJig (i : Nat) : Nat := 0x1A0 + 0x4 * i
def R.ownNs0 : Nat := 0x1B0
def R.ownNs1 : Nat := 0x1B4
def R.ownMisc : Nat := 0x1B8
def R.ownPin : Nat := 0x1BC
def R.ownCtx (i : Nat) : Nat := 0x1C0 + 0x4 * i
def R.ownBulk : Nat := 0x200
def R.ownStatus : Nat := 0x204
def R.resetCause : Nat := 0x10000
def R.rstCmd : Nat := 0x10004
def R.rstStatus : Nat := 0x10008
def R.rstIsland : Nat := 0x1000C
def R.bootStatus : Nat := 0x10010
def R.bootPush : Nat := 0x10014
def R.bootCountLo : Nat := 0x10018
def R.bootCountHi : Nat := 0x1001C
def R.optActive0 : Nat := 0x10100
def R.optActive1 : Nat := 0x10104
def R.optActiveRsv (i : Nat) : Nat := 0x10108 + 0x4 * i
def R.optStage0 : Nat := 0x10180
def R.optStage1 : Nat := 0x10184
def R.optStageRsv (i : Nat) : Nat := 0x10188 + 0x4 * i
def R.optCmd : Nat := 0x101F0
def R.optStatus : Nat := 0x101F4
def R.optMfg : Nat := 0x101F8
def R.meas (i : Nat) (j : Nat) : Nat := 0x18000 + 0x40 * i + 0x4 * j
def R.measCnt (i : Nat) : Nat := 0x18200 + 0x4 * i
def R.attNonce (i : Nat) : Nat := 0x18300 + 0x4 * i
def R.attDest : Nat := 0x18320
def R.attCmd : Nat := 0x18324
def R.attStatus : Nat := 0x18328
def R.attPubkey (i : Nat) : Nat := 0x18400 + 0x4 * i
def R.evtRoute (i : Nat) : Nat := 0x20000 + 0x10 * i
def R.evtTime (i : Nat) : Nat := 0x20004 + 0x10 * i
def R.evtOwn (i : Nat) : Nat := 0x20008 + 0x10 * i
def R.evtPend (i : Nat) : Nat := 0x22000 + 0x4 * i
def R.fabricCause : Nat := 0x22040
def R.queueCfg (i : Nat) : Nat := 0x30000 + 0x20 * i
def R.queueCred (i : Nat) : Nat := 0x30004 + 0x20 * i
def R.queueWm (i : Nat) : Nat := 0x30008 + 0x20 * i
def R.queueStat (i : Nat) : Nat := 0x3000C + 0x20 * i
def R.queueUnderCnt (i : Nat) : Nat := 0x30010 + 0x20 * i
def R.queueDropCnt (i : Nat) : Nat := 0x30014 + 0x20 * i
def R.queueEpoch (i : Nat) : Nat := 0x30018 + 0x20 * i
def R.jigAir : Nat := 0x40000
def R.jigLoadSrc : Nat := 0x40010
def R.jigLoadCmd : Nat := 0x40014
def R.jigLoadStatus : Nat := 0x40018
def R.jigNotice (i : Nat) : Nat := 0x40100 + 0x4 * i
def R.jtCtl (i : Nat) : Nat := 0x41000 + 0x40 * i
def R.jtEntry (i : Nat) : Nat := 0x41004 + 0x40 * i
def R.jtWdog (i : Nat) : Nat := 0x41008 + 0x40 * i
def R.jtStat (i : Nat) : Nat := 0x4100C + 0x40 * i
def R.jtIwin (i : Nat) : Nat := 0x41010 + 0x40 * i
def R.jtDwin (i : Nat) : Nat := 0x41014 + 0x40 * i
def R.jtLateCnt (i : Nat) : Nat := 0x41018 + 0x40 * i
def R.jtFaultInfo (i : Nat) : Nat := 0x4101C + 0x40 * i
def R.jtProg (i : Nat) (j : Nat) : Nat := 0x41020 + 0x40 * i + 0x4 * j
def R.jtLastFault (i : Nat) (j : Nat) : Nat := 0x41028 + 0x40 * i + 0x4 * j
def R.lphyBandcfg : Nat := 0x80000
def R.lphyApply : Nat := 0x80004
def R.lphyStatus : Nat := 0x80008
def R.lphyRxcfg (i : Nat) : Nat := 0x80100 + 0x10 * i
def R.lphyRxstat (i : Nat) : Nat := 0x80104 + 0x10 * i
def R.lphyClipCnt (i : Nat) : Nat := 0x80108 + 0x10 * i
def R.lphyHdrDropCnt (i : Nat) : Nat := 0x8010C + 0x10 * i
def R.lphyTxcfg (i : Nat) : Nat := 0x80200 + 0x10 * i
def R.lphyTxstat (i : Nat) : Nat := 0x80204 + 0x10 * i
def R.lphyTxclipCnt (i : Nat) : Nat := 0x80208 + 0x10 * i
def R.lphyFirCtl (i : Nat) : Nat := 0x8020C + 0x10 * i
def R.lphyFir (i : Nat) (j : Nat) : Nat := 0x81000 + 0x100 * i + 0x4 * j
def R.lphyMask (i : Nat) (j : Nat) : Nat := 0x82000 + 0x10 * i + 0x4 * j
def R.lphyMaskGen : Nat := 0x82040
def R.lphyLimit (i : Nat) (j : Nat) : Nat := 0x83000 + 0x80 * i + 0x4 * j
def R.lphyTrim (i : Nat) (j : Nat) : Nat := 0x83100 + 0x80 * i + 0x4 * j
def R.lphyCompatCfg : Nat := 0x84000
def R.lphyCompatAddr : Nat := 0x84004
def R.lphyCompatEui (i : Nat) : Nat := 0x84008 + 0x4 * i
def R.lphyCompatCsma : Nat := 0x84010
def R.lphyCompatMask (i : Nat) : Nat := 0x84020 + 0x4 * i
def R.lphyCompatDropCnt : Nat := 0x84030
def R.lphyDetcfg : Nat := 0x85000
def R.lphyDetthr : Nat := 0x85004
def R.lphyCombCnt : Nat := 0x85008
def R.lphySplitCnt : Nat := 0x8500C
def R.lphyDetstat (i : Nat) : Nat := 0x85100 + 0x20 * i
def R.lphyFalseSyncCnt (i : Nat) : Nat := 0x85104 + 0x20 * i
def R.lphyResyncCnt (i : Nat) : Nat := 0x85108 + 0x20 * i
def R.lphyCapturedCnt (i : Nat) : Nat := 0x8510C + 0x20 * i
def R.lphyBlankCnt (i : Nat) : Nat := 0x85110 + 0x20 * i
def R.lphyStepCnt (i : Nat) : Nat := 0x85114 + 0x20 * i
def R.lphySelfDropCnt (i : Nat) : Nat := 0x85118 + 0x20 * i
def R.lphyLdflt (i : Nat) : Nat := 0x85200 + 0x10 * i
def R.lphyAbortCnt (i : Nat) : Nat := 0x85204 + 0x10 * i
def R.lphyAckHeldCnt (i : Nat) : Nat := 0x85208 + 0x10 * i
def R.swpCfg : Nat := 0xC0000
def R.swpStatus : Nat := 0xC0004
def R.swpRxCnt (i : Nat) : Nat := 0xC0010 + 0x4 * i
def R.lmacSfcfg : Nat := 0xD0000
def R.lmacSfNum : Nat := 0xD0004
def R.lmacSfOpen : Nat := 0xD0008
def R.lmacSfStat : Nat := 0xD000C
def R.lmacOwn : Nat := 0xD0010
def R.lmacArq : Nat := 0xD0014
def R.lmacAssocCfg : Nat := 0xD0018
def R.lmacPhaseid : Nat := 0xD001C
def R.lmacRouteCfg : Nat := 0xD0020
def R.lmacRouteStat : Nat := 0xD0024
def R.lmacDupRx : Nat := 0xD0040
def R.lmacMicFailCnt : Nat := 0xD0044
def R.lmacSecLowCnt : Nat := 0xD0048
def R.lmacNoAckCnt : Nat := 0xD004C
def R.lmacRetxCnt : Nat := 0xD0050
def R.lmacUnknownCnt : Nat := 0xD0054
def R.lmacSlotSkipCnt : Nat := 0xD0058
def R.lmacTmapRejCnt : Nat := 0xD005C
def R.lmacPhaseUncCnt : Nat := 0xD0060
def R.lmacQuietRefCnt : Nat := 0xD0064
def R.lmacAckBlockedCnt : Nat := 0xD0068
def R.lmacSlotmap (i : Nat) : Nat := 0xD0100 + 0x4 * i
def R.lmacNmap (i : Nat) (j : Nat) : Nat := 0xD1000 + 0x80 * i + 0x4 * j
def R.lmacNmapStat (i : Nat) : Nat := 0xD1300 + 0x4 * i
def R.dlvRingCfg : Nat := 0xD2000
def R.dlvRingWr : Nat := 0xD2004
def R.dlvRingRd : Nat := 0xD2008
def R.radioCfg : Nat := 0xE0000
def R.radioFem : Nat := 0xE0004
def R.radioSfcfg : Nat := 0xE0008
def R.radioAnchorS : Nat := 0xE000C
def R.radioSfNum : Nat := 0xE0010
def R.radioSfStat : Nat := 0xE0014
def R.radioGuard : Nat := 0xE0018
def R.radioPoll : Nat := 0xE001C
def R.radioStatus : Nat := 0xE0020
def R.rfMissCnt : Nat := 0xE0040
def R.rfWakeLostCnt : Nat := 0xE0044
def R.rfConnLostCnt : Nat := 0xE0048
def R.rfDutyDenyCnt : Nat := 0xE004C
def R.rfAckDeniedCnt : Nat := 0xE0050
def R.rfEvtMismatchCnt : Nat := 0xE0054
def R.rfDupRx : Nat := 0xE0058
def R.rfMicFailCnt : Nat := 0xE005C
def R.rfFcsFailCnt : Nat := 0xE0060
def R.rfNoAckCnt : Nat := 0xE0064
def R.radioChan (i : Nat) : Nat := 0xE0100 + 0x4 * i
def R.dcLo (i : Nat) : Nat := 0xE0400 + 0x20 * i
def R.dcHi (i : Nat) : Nat := 0xE0404 + 0x20 * i
def R.dcLimit (i : Nat) : Nat := 0xE0408 + 0x20 * i
def R.dcReserve (i : Nat) : Nat := 0xE040C + 0x20 * i
def R.dcUsed (i : Nat) : Nat := 0xE0410 + 0x20 * i
def R.dcDenyCnt (i : Nat) : Nat := 0xE0414 + 0x20 * i
def R.dcStatus : Nat := 0xE0500
def R.dcCkptS : Nat := 0xE0504
def R.ciphCfg : Nat := 0x100000
def R.ciphFcLimit : Nat := 0x100004
def R.ciphFcWarn : Nat := 0x100008
def R.ciphOwnEui (i : Nat) : Nat := 0x10000C + 0x4 * i
def R.ciphStatus : Nat := 0x100014
def R.ciphFaultCnt : Nat := 0x100020
def R.ciphAuthFailCnt : Nat := 0x100024
def R.ciphImportFailCnt : Nat := 0x100028
def R.ciphRekeyRefusedCnt : Nat := 0x10002C
def R.ciphFcInvalidCnt : Nat := 0x100030
def R.ciphXpub (i : Nat) : Nat := 0x100100 + 0x4 * i
def R.ciphXsig (i : Nat) : Nat := 0x100180 + 0x4 * i
def R.keyInfo (i : Nat) : Nat := 0x101000 + 0x10 * i
def R.keyUseLo (i : Nat) : Nat := 0x101004 + 0x10 * i
def R.keyLimitLo (i : Nat) : Nat := 0x101008 + 0x10 * i
def R.keyHi (i : Nat) : Nat := 0x10100C + 0x10 * i
def R.keyGen (i : Nat) : Nat := 0x103000 + 0x4 * i
def R.ncpCfg : Nat := 0x120000
def R.ncpStatus : Nat := 0x120004
def R.ncpIndexStat : Nat := 0x120008
def R.ncpMissMax : Nat := 0x12000C
def R.ncpMissCnt : Nat := 0x120020
def R.ncpMissSlowCnt : Nat := 0x120024
def R.ncpCtxLateCnt : Nat := 0x120028
def R.ncpBufFullCnt : Nat := 0x12002C
def R.delivRefusedCnt : Nat := 0x120030
def R.delivFullCnt : Nat := 0x120034
def R.ncpPageErrCnt : Nat := 0x120038
def R.storCfg : Nat := 0x140000
def R.storStatus : Nat := 0x140004
def R.storCap : Nat := 0x140008
def R.storFree : Nat := 0x14000C
def R.storWear : Nat := 0x140010
def R.storBad : Nat := 0x140014
def R.storJournalSeq : Nat := 0x140018
def R.storCorrCnt : Nat := 0x140040
def R.storUncorrCnt : Nat := 0x140044
def R.storRetryCnt : Nat := 0x140048
def R.storSuspendCnt : Nat := 0x14004C
def R.storNsSize (i : Nat) : Nat := 0x140100 + 0x10 * i
def R.storNsStat (i : Nat) : Nat := 0x140104 + 0x10 * i
def R.storNsUsed (i : Nat) : Nat := 0x140108 + 0x10 * i
def R.plmbCfg : Nat := 0x160000
def R.plmbBw : Nat := 0x160004
def R.plmbSwitch : Nat := 0x160008
def R.plmbSteer : Nat := 0x16000C
def R.plmbStatus : Nat := 0x160010
def R.plmbFunc : Nat := 0x160014
def R.plmbFreq : Nat := 0x160018
def R.plmbPhaseErr : Nat := 0x16001C
def R.plmbTbSec : Nat := 0x160020
def R.plmbTbFrac : Nat := 0x160024
def R.plmbTodSet : Nat := 0x160028
def R.plmbRelS : Nat := 0x16002C
def R.plmbHostSample : Nat := 0x160030
def R.plmbAlign : Nat := 0x160034
def R.plmbPpsOutlierCnt : Nat := 0x160040
def R.plmbHostLateCnt : Nat := 0x160044
def R.plmbSwitchCnt : Nat := 0x160048
def R.plmbOutCfg (i : Nat) : Nat := 0x160080 + 0x10 * i
def R.plmbOutPeriod (i : Nat) : Nat := 0x160084 + 0x10 * i
def R.plmbOutPhase (i : Nat) : Nat := 0x160088 + 0x10 * i
def R.plmbOutStat (i : Nat) : Nat := 0x16008C + 0x10 * i
def R.plmbZxCfg (i : Nat) : Nat := 0x160100 + 0x20 * i
def R.zxStat (i : Nat) : Nat := 0x160104 + 0x20 * i
def R.zxNum (i : Nat) : Nat := 0x160108 + 0x20 * i
def R.zxTLo (i : Nat) : Nat := 0x16010C + 0x20 * i
def R.zxTHi (i : Nat) : Nat := 0x160110 + 0x20 * i
def R.zxFreq (i : Nat) : Nat := 0x160114 + 0x20 * i
def R.zxPhase (i : Nat) : Nat := 0x160118 + 0x20 * i
def R.zxRejectCnt (i : Nat) : Nat := 0x16011C + 0x20 * i
def R.uartCfg (i : Nat) : Nat := 0x170000 + 0x100 * i
def R.uartBaud (i : Nat) : Nat := 0x170004 + 0x100 * i
def R.uartTiming (i : Nat) : Nat := 0x170008 + 0x100 * i
def R.uartFrame (i : Nat) : Nat := 0x17000C + 0x100 * i
def R.uartStatus (i : Nat) : Nat := 0x170010 + 0x100 * i
def R.uartBrkLen (i : Nat) : Nat := 0x170014 + 0x100 * i
def R.uartRxdata (i : Nat) : Nat := 0x170018 + 0x100 * i
def R.uartTxdata (i : Nat) : Nat := 0x17001C + 0x100 * i
def R.uartCause (i : Nat) : Nat := 0x170020 + 0x100 * i
def R.uartOvrCnt (i : Nat) : Nat := 0x170024 + 0x100 * i
def R.uartErrCnt (i : Nat) : Nat := 0x170028 + 0x100 * i
def R.uartBrkCnt (i : Nat) : Nat := 0x17002C + 0x100 * i
def R.uartResp (i : Nat) (j : Nat) : Nat := 0x170400 + 0x100 * i + 0x4 * j
def R.ringCfg : Nat := 0x171000
def R.ringCfg2 : Nat := 0x171004
def R.ringSilent : Nat := 0x171008
def R.ringFilter (i : Nat) : Nat := 0x17100C + 0x4 * i
def R.ringStatus : Nat := 0x171014
def R.ringCause : Nat := 0x171018
def R.ringRxCnt : Nat := 0x171020
def R.ringCrcCnt : Nat := 0x171024
def R.ringFragCnt : Nat := 0x171028
def R.ringOrphanCnt : Nat := 0x17102C
def R.ringRxLostCnt : Nat := 0x171030
def R.chkCfg (i : Nat) : Nat := 0x172000 + 0x40 * i
def R.chkInit (i : Nat) : Nat := 0x172004 + 0x40 * i
def R.chkXorout (i : Nat) : Nat := 0x172008 + 0x40 * i
def R.chkFeed8 (i : Nat) : Nat := 0x17200C + 0x40 * i
def R.chkFeed16 (i : Nat) : Nat := 0x172010 + 0x40 * i
def R.chkFeed32 (i : Nat) : Nat := 0x172014 + 0x40 * i
def R.chkResult (i : Nat) : Nat := 0x172018 + 0x40 * i
def R.chkExpected (i : Nat) : Nat := 0x17201C + 0x40 * i
def R.chkCtl (i : Nat) : Nat := 0x172020 + 0x40 * i
def R.chkAlive (i : Nat) : Nat := 0x172024 + 0x40 * i
def R.chkStatus (i : Nat) : Nat := 0x172028 + 0x40 * i
def R.chkMismatchCnt (i : Nat) : Nat := 0x17202C + 0x40 * i
def R.pwrBudget : Nat := 0x180000
def R.pwrLdCfg : Nat := 0x180004
def R.pwrLdMw (i : Nat) : Nat := 0x180008 + 0x4 * i
def R.pwrShare : Nat := 0x180014
def R.pwrLgCfg : Nat := 0x180018
def R.pwrLgThreads : Nat := 0x18001C
def R.pwrCmd : Nat := 0x180020
def R.pwrStatus : Nat := 0x180024
def R.pwrBase : Nat := 0x180028
def R.pwrHeld : Nat := 0x18002C
def R.pwrDrw (i : Nat) : Nat := 0x180030 + 0x4 * i
def R.pwrDenyCnt (i : Nat) : Nat := 0x180040 + 0x4 * i
def R.pwrIsland : Nat := 0x180050
def R.pwrCause : Nat := 0x180060
def R.pwrLtrA : Nat := 0x180100
def R.pwrLtrB : Nat := 0x180104
def R.tnlStatus : Nat := 0x190000
def R.tnlCmd : Nat := 0x190004
def R.tnlCause : Nat := 0x190008
def R.tnlLossInfo : Nat := 0x19000C
def R.eccScrub : Nat := 0x190010
def R.eccLog : Nat := 0x190014
def R.tnlCorrCnt (i : Nat) : Nat := 0x190020 + 0x4 * i
def R.tnlReplayCnt (i : Nat) : Nat := 0x190028 + 0x4 * i
def R.tnlEraseCnt : Nat := 0x190030
def R.tnlLossCnt : Nat := 0x190034
def R.tnlRegDropCnt : Nat := 0x190038
def R.ctxPoisonDropCnt : Nat := 0x19003C
def R.eccCorrCnt (i : Nat) : Nat := 0x190100 + 0x8 * i
def R.eccUncorrCnt (i : Nat) : Nat := 0x190104 + 0x8 * i
def R.tnlPoison : Nat := 0x190200
def R.dbgTraceCfg : Nat := 0x1A0000
def R.dbgReq : Nat := 0x1A0004
def R.dbgStatus : Nat := 0x1A0008
def R.dbgTrace (i : Nat) : Nat := 0x1A0100 + 0x4 * i

/-! Fields: register offset, high bit, low bit. -/

def F.devIdPart : Fld := ⟨R.devId, 31, 0⟩
def F.devStepStep : Fld := ⟨R.devStep, 7, 0⟩
def F.drwSelfDrawer : Fld := ⟨R.drwSelf, 1, 0⟩
def F.drwSelfEntrance : Fld := ⟨R.drwSelf, 2, 2⟩
def F.drwSelfViol : Fld := ⟨R.drwSelf, 3, 3⟩
def F.violCntCount : Fld := ⟨R.violCnt, 31, 0⟩
def F.violLogOffset : Fld := ⟨R.violLog, 22, 0⟩
def F.violLogDrawer : Fld := ⟨R.violLog, 24, 23⟩
def F.violLogAperture : Fld := ⟨R.violLog, 25, 25⟩
def F.violLogWrite : Fld := ⟨R.violLog, 26, 26⟩
def F.ownQueEntries (i : Nat) : Fld := ⟨R.ownQue i, 31, 0⟩
def F.ownKeyEntries (i : Nat) : Fld := ⟨R.ownKey i, 31, 0⟩
def F.ownJigEntries (i : Nat) : Fld := ⟨R.ownJig i, 31, 0⟩
def F.ownNs0Entries : Fld := ⟨R.ownNs0, 31, 0⟩
def F.ownNs1Entries : Fld := ⟨R.ownNs1, 27, 0⟩
def F.ownNs1Entry15 : Fld := ⟨R.ownNs1, 31, 28⟩
def F.ownMiscEntries : Fld := ⟨R.ownMisc, 31, 0⟩
def F.ownPinEntries : Fld := ⟨R.ownPin, 31, 0⟩
def F.ownCtxFirst (i : Nat) : Fld := ⟨R.ownCtx i, 13, 0⟩
def F.ownCtxLast (i : Nat) : Fld := ⟨R.ownCtx i, 27, 14⟩
def F.ownCtxDrawer (i : Nat) : Fld := ⟨R.ownCtx i, 29, 28⟩
def F.ownCtxValid (i : Nat) : Fld := ⟨R.ownCtx i, 31, 31⟩
def F.ownBulkSize0 : Fld := ⟨R.ownBulk, 2, 0⟩
def F.ownBulkSize1 : Fld := ⟨R.ownBulk, 10, 8⟩
def F.ownBulkSize2 : Fld := ⟨R.ownBulk, 18, 16⟩
def F.ownBulkSize3 : Fld := ⟨R.ownBulk, 26, 24⟩
def F.ownStatusBusy : Fld := ⟨R.ownStatus, 0, 0⟩
def F.ownStatusRefused : Fld := ⟨R.ownStatus, 1, 1⟩
def F.ownStatusReason : Fld := ⟨R.ownStatus, 5, 2⟩
def F.ownStatusOffset : Fld := ⟨R.ownStatus, 31, 16⟩
def F.resetCausePor : Fld := ⟨R.resetCause, 0, 0⟩
def F.resetCauseBor : Fld := ⟨R.resetCause, 5, 1⟩
def F.resetCausePin : Fld := ⟨R.resetCause, 6, 6⟩
def F.resetCauseTcxoLost : Fld := ⟨R.resetCause, 7, 7⟩
def F.resetCausePllLost : Fld := ⟨R.resetCause, 8, 8⟩
def F.resetCauseKeeperWdt : Fld := ⟨R.resetCause, 9, 9⟩
def F.resetCauseKeeperLock : Fld := ⟨R.resetCause, 10, 10⟩
def F.resetCauseSwDevice : Fld := ⟨R.resetCause, 11, 11⟩
def F.resetCauseDbgFull : Fld := ⟨R.resetCause, 12, 12⟩
def F.resetCauseDbgIsland : Fld := ⟨R.resetCause, 13, 13⟩
def F.resetCauseJigLock : Fld := ⟨R.resetCause, 14, 14⟩
def F.resetCauseJigWdt : Fld := ⟨R.resetCause, 15, 15⟩
def F.resetCauseIslandClk : Fld := ⟨R.resetCause, 16, 16⟩
def F.resetCauseSwDrw : Fld := ⟨R.resetCause, 23, 20⟩
def F.resetCauseFlr : Fld := ⟨R.resetCause, 27, 24⟩
def F.rstCmdTarget : Fld := ⟨R.rstCmd, 3, 0⟩
def F.rstCmdOp : Fld := ⟨R.rstCmd, 7, 4⟩
def F.rstCmdKey : Fld := ⟨R.rstCmd, 31, 16⟩
def F.rstStatusDrwInReset : Fld := ⟨R.rstStatus, 3, 0⟩
def F.rstStatusCmdRefused : Fld := ⟨R.rstStatus, 4, 4⟩
def F.rstStatusIslandHeld : Fld := ⟨R.rstStatus, 31, 16⟩
def F.rstIslandDSeen : Fld := ⟨R.rstIsland, 15, 0⟩
def F.bootStatusStage : Fld := ⟨R.bootStatus, 3, 0⟩
def F.bootStatusImage : Fld := ⟨R.bootStatus, 5, 4⟩
def F.bootStatusVerified : Fld := ⟨R.bootStatus, 6, 6⟩
def F.bootStatusMounted : Fld := ⟨R.bootStatus, 7, 7⟩
def F.bootStatusError : Fld := ⟨R.bootStatus, 11, 8⟩
def F.bootStatusLinkDown : Fld := ⟨R.bootStatus, 12, 12⟩
def F.bootPushLength : Fld := ⟨R.bootPush, 21, 0⟩
def F.bootCountLoCountLo : Fld := ⟨R.bootCountLo, 31, 0⟩
def F.bootCountHiCountHi : Fld := ⟨R.bootCountHi, 15, 0⟩
def F.optActive0RegionLock : Fld := ⟨R.optActive0, 1, 0⟩
def F.optActive0BootSrc : Fld := ⟨R.optActive0, 2, 2⟩
def F.optActive0SecureBoot : Fld := ⟨R.optActive0, 3, 3⟩
def F.optActive0DebugLock : Fld := ⟨R.optActive0, 5, 4⟩
def F.optActive0DbgReach : Fld := ⟨R.optActive0, 7, 6⟩
def F.optActive0RingAllow : Fld := ⟨R.optActive0, 8, 8⟩
def F.optActive0RingAutonomous : Fld := ⟨R.optActive0, 9, 9⟩
def F.optActive0DcStart : Fld := ⟨R.optActive0, 11, 10⟩
def F.optActive0DrawerEn : Fld := ⟨R.optActive0, 15, 12⟩
def F.optActive0AttKeySel : Fld := ⟨R.optActive0, 16, 16⟩
def F.optActive1ClampBudget : Fld := ⟨R.optActive1, 7, 0⟩
def F.optActive1FwMinSvn : Fld := ⟨R.optActive1, 31, 16⟩
def F.optStage0RegionLock : Fld := ⟨R.optStage0, 1, 0⟩
def F.optStage0BootSrc : Fld := ⟨R.optStage0, 2, 2⟩
def F.optStage0SecureBoot : Fld := ⟨R.optStage0, 3, 3⟩
def F.optStage0DebugLock : Fld := ⟨R.optStage0, 5, 4⟩
def F.optStage0DbgReach : Fld := ⟨R.optStage0, 7, 6⟩
def F.optStage0RingAllow : Fld := ⟨R.optStage0, 8, 8⟩
def F.optStage0RingAutonomous : Fld := ⟨R.optStage0, 9, 9⟩
def F.optStage0DcStart : Fld := ⟨R.optStage0, 11, 10⟩
def F.optStage0DrawerEn : Fld := ⟨R.optStage0, 15, 12⟩
def F.optStage0AttKeySel : Fld := ⟨R.optStage0, 16, 16⟩
def F.optStage1ClampBudget : Fld := ⟨R.optStage1, 7, 0⟩
def F.optStage1FwMinSvn : Fld := ⟨R.optStage1, 31, 16⟩
def F.optCmdOp : Fld := ⟨R.optCmd, 3, 0⟩
def F.optCmdConfirm : Fld := ⟨R.optCmd, 31, 16⟩
def F.optStatusState : Fld := ⟨R.optStatus, 2, 0⟩
def F.optStatusReason : Fld := ⟨R.optStatus, 11, 8⟩
def F.optStatusDegraded : Fld := ⟨R.optStatus, 12, 12⟩
def F.optStatusFailsafe : Fld := ⟨R.optStatus, 13, 13⟩
def F.optStatusStageCrc : Fld := ⟨R.optStatus, 31, 16⟩
def F.optMfgRegionFloor : Fld := ⟨R.optMfg, 1, 0⟩
def F.optMfgVariant : Fld := ⟨R.optMfg, 3, 2⟩
def F.optMfgIdKeys : Fld := ⟨R.optMfg, 5, 4⟩
def F.measDigest (i : Nat) (j : Nat) : Fld := ⟨R.meas i j, 31, 0⟩
def F.measCntCount (i : Nat) : Fld := ⟨R.measCnt i, 31, 0⟩
def F.attNonceNonce (i : Nat) : Fld := ⟨R.attNonce i, 31, 0⟩
def F.attDestOffset : Fld := ⟨R.attDest, 25, 6⟩
def F.attCmdRequest : Fld := ⟨R.attCmd, 0, 0⟩
def F.attStatusState : Fld := ⟨R.attStatus, 1, 0⟩
def F.attStatusReason : Fld := ⟨R.attStatus, 7, 4⟩
def F.attPubkeyKey (i : Nat) : Fld := ⟨R.attPubkey i, 31, 0⟩
def F.evtRouteVector (i : Nat) : Fld := ⟨R.evtRoute i, 5, 0⟩
def F.evtRoutePin (i : Nat) : Fld := ⟨R.evtRoute i, 8, 6⟩
def F.evtRoutePinEn (i : Nat) : Fld := ⟨R.evtRoute i, 9, 9⟩
def F.evtRouteEnable (i : Nat) : Fld := ⟨R.evtRoute i, 10, 10⟩
def F.evtRouteCount (i : Nat) : Fld := ⟨R.evtRoute i, 23, 16⟩
def F.evtTimeTimeUs (i : Nat) : Fld := ⟨R.evtTime i, 15, 0⟩
def F.evtOwnDrawer (i : Nat) : Fld := ⟨R.evtOwn i, 1, 0⟩
def F.evtOwnAssigned (i : Nat) : Fld := ⟨R.evtOwn i, 2, 2⟩
def F.evtPendPend (i : Nat) : Fld := ⟨R.evtPend i, 31, 0⟩
def F.fabricCauseViolation : Fld := ⟨R.fabricCause, 0, 0⟩
def F.fabricCauseStatOvf : Fld := ⟨R.fabricCause, 1, 1⟩
def F.fabricCauseOwnRefused : Fld := ⟨R.fabricCause, 2, 2⟩
def F.queueCfgEnable (i : Nat) : Fld := ⟨R.queueCfg i, 0, 0⟩
def F.queueCfgDir (i : Nat) : Fld := ⟨R.queueCfg i, 1, 1⟩
def F.queueCfgDepthLog2 (i : Nat) : Fld := ⟨R.queueCfg i, 5, 2⟩
def F.queueCfgEndpoint (i : Nat) : Fld := ⟨R.queueCfg i, 9, 6⟩
def F.queueCfgPair (i : Nat) : Fld := ⟨R.queueCfg i, 15, 10⟩
def F.queueCredCreditInit (i : Nat) : Fld := ⟨R.queueCred i, 12, 0⟩
def F.queueCredOutstanding (i : Nat) : Fld := ⟨R.queueCred i, 28, 16⟩
def F.queueWmHigh (i : Nat) : Fld := ⟨R.queueWm i, 12, 0⟩
def F.queueWmLow (i : Nat) : Fld := ⟨R.queueWm i, 28, 16⟩
def F.queueWmWmEn (i : Nat) : Fld := ⟨R.queueWm i, 31, 31⟩
def F.queueStatActive (i : Nat) : Fld := ⟨R.queueStat i, 0, 0⟩
def F.queueStatWmState (i : Nat) : Fld := ⟨R.queueStat i, 1, 1⟩
def F.queueStatCreditViol (i : Nat) : Fld := ⟨R.queueStat i, 2, 2⟩
def F.queueStatPoisonSeen (i : Nat) : Fld := ⟨R.queueStat i, 3, 3⟩
def F.queueStatEnableRefused (i : Nat) : Fld := ⟨R.queueStat i, 4, 4⟩
def F.queueStatRefuseReason (i : Nat) : Fld := ⟨R.queueStat i, 7, 5⟩
def F.queueStatLevel (i : Nat) : Fld := ⟨R.queueStat i, 20, 8⟩
def F.queueUnderCntCount (i : Nat) : Fld := ⟨R.queueUnderCnt i, 31, 0⟩
def F.queueDropCntCount (i : Nat) : Fld := ⟨R.queueDropCnt i, 31, 0⟩
def F.queueEpochEpoch (i : Nat) : Fld := ⟨R.queueEpoch i, 3, 0⟩
def F.jigAirLine : Fld := ⟨R.jigAir, 3, 0⟩
def F.jigAirRadio : Fld := ⟨R.jigAir, 7, 4⟩
def F.jigLoadSrcOffset : Fld := ⟨R.jigLoadSrc, 25, 6⟩
def F.jigLoadCmdLoad : Fld := ⟨R.jigLoadCmd, 0, 0⟩
def F.jigLoadStatusState : Fld := ⟨R.jigLoadStatus, 1, 0⟩
def F.jigLoadStatusReason : Fld := ⟨R.jigLoadStatus, 7, 4⟩
def F.jigLoadStatusIndex : Fld := ⟨R.jigLoadStatus, 20, 8⟩
def F.jigLoadStatusEntryFail : Fld := ⟨R.jigLoadStatus, 21, 21⟩
def F.jigLoadStatusEntryT : Fld := ⟨R.jigLoadStatus, 23, 22⟩
def F.jigNoticeLockup (i : Nat) : Fld := ⟨R.jigNotice i, 0, 0⟩
def F.jigNoticeWdog (i : Nat) : Fld := ⟨R.jigNotice i, 1, 1⟩
def F.jigNoticeLateAction (i : Nat) : Fld := ⟨R.jigNotice i, 2, 2⟩
def F.jtCtlCmd (i : Nat) : Fld := ⟨R.jtCtl i, 1, 0⟩
def F.jtEntryEntry (i : Nat) : Fld := ⟨R.jtEntry i, 12, 0⟩
def F.jtWdogWdogMs (i : Nat) : Fld := ⟨R.jtWdog i, 15, 0⟩
def F.jtWdogPageToUs (i : Nat) : Fld := ⟨R.jtWdog i, 31, 16⟩
def F.jtStatState (i : Nat) : Fld := ⟨R.jtStat i, 2, 0⟩
def F.jtStatLoaded (i : Nat) : Fld := ⟨R.jtStat i, 3, 3⟩
def F.jtStatFaultCause (i : Nat) : Fld := ⟨R.jtStat i, 7, 4⟩
def F.jtStatPc (i : Nat) : Fld := ⟨R.jtStat i, 20, 8⟩
def F.jtStatFlags (i : Nat) : Fld := ⟨R.jtStat i, 27, 21⟩
def F.jtStatCmdRefused (i : Nat) : Fld := ⟨R.jtStat i, 28, 28⟩
def F.jtIwinImemBase (i : Nat) : Fld := ⟨R.jtIwin i, 12, 0⟩
def F.jtIwinImemLast (i : Nat) : Fld := ⟨R.jtIwin i, 25, 13⟩
def F.jtDwinDmemBase (i : Nat) : Fld := ⟨R.jtDwin i, 13, 0⟩
def F.jtDwinDmemLast (i : Nat) : Fld := ⟨R.jtDwin i, 27, 14⟩
def F.jtLateCntCount (i : Nat) : Fld := ⟨R.jtLateCnt i, 31, 0⟩
def F.jtFaultInfoFaultPc (i : Nat) : Fld := ⟨R.jtFaultInfo i, 12, 0⟩
def F.jtFaultInfoDetail (i : Nat) : Fld := ⟨R.jtFaultInfo i, 31, 16⟩
def F.jtProgProgId (i : Nat) (j : Nat) : Fld := ⟨R.jtProg i j, 31, 0⟩
def F.jtLastFaultImage (i : Nat) (j : Nat) : Fld := ⟨R.jtLastFault i j, 31, 0⟩
def F.lphyBandcfgLowPlan : Fld := ⟨R.lphyBandcfg, 1, 0⟩
def F.lphyBandcfgHighPlan : Fld := ⟨R.lphyBandcfg, 3, 2⟩
def F.lphyApplyLow : Fld := ⟨R.lphyApply, 0, 0⟩
def F.lphyApplyHigh : Fld := ⟨R.lphyApply, 1, 1⟩
def F.lphyStatusRegionRefused : Fld := ⟨R.lphyStatus, 0, 0⟩
def F.lphyStatusMaskRefused : Fld := ⟨R.lphyStatus, 1, 1⟩
def F.lphyStatusLowPlan : Fld := ⟨R.lphyStatus, 3, 2⟩
def F.lphyStatusHighPlan : Fld := ⟨R.lphyStatus, 5, 4⟩
def F.lphyStatusLowPending : Fld := ⟨R.lphyStatus, 6, 6⟩
def F.lphyStatusHighPending : Fld := ⟨R.lphyStatus, 7, 7⟩
def F.lphyStatusLowD : Fld := ⟨R.lphyStatus, 14, 8⟩
def F.lphyStatusPlanInvalid : Fld := ⟨R.lphyStatus, 15, 15⟩
def F.lphyStatusHighD : Fld := ⟨R.lphyStatus, 22, 16⟩
def F.lphyRxcfgEnable (i : Nat) : Fld := ⟨R.lphyRxcfg i, 0, 0⟩
def F.lphyRxcfgAgcAuto (i : Nat) : Fld := ⟨R.lphyRxcfg i, 1, 1⟩
def F.lphyRxcfgPgaSet (i : Nat) : Fld := ⟨R.lphyRxcfg i, 4, 2⟩
def F.lphyRxcfgPgaMax (i : Nat) : Fld := ⟨R.lphyRxcfg i, 7, 5⟩
def F.lphyRxstatPgaNow (i : Nat) : Fld := ⟨R.lphyRxstat i, 2, 0⟩
def F.lphyRxstatFrozen (i : Nat) : Fld := ⟨R.lphyRxstat i, 3, 3⟩
def F.lphyRxstatAbsent (i : Nat) : Fld := ⟨R.lphyRxstat i, 4, 4⟩
def F.lphyRxstatClip (i : Nat) : Fld := ⟨R.lphyRxstat i, 5, 5⟩
def F.lphyRxstatSuspended (i : Nat) : Fld := ⟨R.lphyRxstat i, 6, 6⟩
def F.lphyClipCntCount (i : Nat) : Fld := ⟨R.lphyClipCnt i, 31, 0⟩
def F.lphyHdrDropCntCount (i : Nat) : Fld := ⟨R.lphyHdrDropCnt i, 31, 0⟩
def F.lphyTxcfgEnable (i : Nat) : Fld := ⟨R.lphyTxcfg i, 0, 0⟩
def F.lphyTxcfgRefAtten (i : Nat) : Fld := ⟨R.lphyTxcfg i, 6, 1⟩
def F.lphyTxcfgPathGainDb (i : Nat) : Fld := ⟨R.lphyTxcfg i, 13, 8⟩
def F.lphyTxcfgFirDelay (i : Nat) : Fld := ⟨R.lphyTxcfg i, 21, 16⟩
def F.lphyTxstatBusy (i : Nat) : Fld := ⟨R.lphyTxstat i, 0, 0⟩
def F.lphyTxstatHoldOff (i : Nat) : Fld := ⟨R.lphyTxstat i, 1, 1⟩
def F.lphyTxstatClip (i : Nat) : Fld := ⟨R.lphyTxstat i, 2, 2⟩
def F.lphyTxstatLimited (i : Nat) : Fld := ⟨R.lphyTxstat i, 3, 3⟩
def F.lphyTxstatFirBank (i : Nat) : Fld := ⟨R.lphyTxstat i, 4, 4⟩
def F.lphyTxstatMuted (i : Nat) : Fld := ⟨R.lphyTxstat i, 5, 5⟩
def F.lphyTxclipCntCount (i : Nat) : Fld := ⟨R.lphyTxclipCnt i, 31, 0⟩
def F.lphyFirCtlSwap (i : Nat) : Fld := ⟨R.lphyFirCtl i, 0, 0⟩
def F.lphyFirCoef (i : Nat) (j : Nat) : Fld := ⟨R.lphyFir i j, 15, 0⟩
def F.lphyMaskMask (i : Nat) (j : Nat) : Fld := ⟨R.lphyMask i j, 31, 0⟩
def F.lphyMaskGenLowGen : Fld := ⟨R.lphyMaskGen, 15, 0⟩
def F.lphyMaskGenHighGen : Fld := ⟨R.lphyMaskGen, 31, 16⟩
def F.lphyLimitLimit (i : Nat) (j : Nat) : Fld := ⟨R.lphyLimit i j, 31, 0⟩
def F.lphyTrimTrim0 (i : Nat) (j : Nat) : Fld := ⟨R.lphyTrim i j, 6, 0⟩
def F.lphyTrimTrim1 (i : Nat) (j : Nat) : Fld := ⟨R.lphyTrim i j, 14, 8⟩
def F.lphyTrimTrim2 (i : Nat) (j : Nat) : Fld := ⟨R.lphyTrim i j, 22, 16⟩
def F.lphyTrimTrim3 (i : Nat) (j : Nat) : Fld := ⟨R.lphyTrim i j, 30, 24⟩
def F.lphyCompatCfgEnable : Fld := ⟨R.lphyCompatCfg, 0, 0⟩
def F.lphyCompatCfgPlan : Fld := ⟨R.lphyCompatCfg, 1, 1⟩
def F.lphyCompatCfgDelivQueue : Fld := ⟨R.lphyCompatCfg, 7, 2⟩
def F.lphyCompatCfgTmrAuto : Fld := ⟨R.lphyCompatCfg, 8, 8⟩
def F.lphyCompatCfgPromisc : Fld := ⟨R.lphyCompatCfg, 9, 9⟩
def F.lphyCompatAddrShort : Fld := ⟨R.lphyCompatAddr, 15, 0⟩
def F.lphyCompatAddrPan : Fld := ⟨R.lphyCompatAddr, 31, 16⟩
def F.lphyCompatEuiEui (i : Nat) : Fld := ⟨R.lphyCompatEui i, 31, 0⟩
def F.lphyCompatCsmaMinBe : Fld := ⟨R.lphyCompatCsma, 3, 0⟩
def F.lphyCompatCsmaMaxBe : Fld := ⟨R.lphyCompatCsma, 7, 4⟩
def F.lphyCompatCsmaMaxBackoffs : Fld := ⟨R.lphyCompatCsma, 13, 8⟩
def F.lphyCompatMaskMask (i : Nat) : Fld := ⟨R.lphyCompatMask i, 31, 0⟩
def F.lphyCompatDropCntCount : Fld := ⟨R.lphyCompatDropCnt, 31, 0⟩
def F.lphyDetcfgResyncMargin : Fld := ⟨R.lphyDetcfg, 3, 0⟩
def F.lphyDetcfgCaptureMargin : Fld := ⟨R.lphyDetcfg, 7, 4⟩
def F.lphyDetcfgBlankK : Fld := ⟨R.lphyDetcfg, 12, 8⟩
def F.lphyDetcfgBlankEn : Fld := ⟨R.lphyDetcfg, 13, 13⟩
def F.lphyDetcfgChanStepThr : Fld := ⟨R.lphyDetcfg, 18, 14⟩
def F.lphyDetcfgCombineEn : Fld := ⟨R.lphyDetcfg, 19, 19⟩
def F.lphyDetthrNativeThr : Fld := ⟨R.lphyDetthr, 7, 0⟩
def F.lphyDetthrCompatThr : Fld := ⟨R.lphyDetthr, 15, 8⟩
def F.lphyDetthrSweepThr : Fld := ⟨R.lphyDetthr, 23, 16⟩
def F.lphyCombCntCount : Fld := ⟨R.lphyCombCnt, 31, 0⟩
def F.lphySplitCntCount : Fld := ⟨R.lphySplitCnt, 31, 0⟩
def F.lphyDetstatMetric (i : Nat) : Fld := ⟨R.lphyDetstat i, 9, 0⟩
def F.lphyDetstatFamily (i : Nat) : Fld := ⟨R.lphyDetstat i, 11, 10⟩
def F.lphyDetstatSf (i : Nat) : Fld := ⟨R.lphyDetstat i, 15, 12⟩
def F.lphyDetstatPower (i : Nat) : Fld := ⟨R.lphyDetstat i, 23, 16⟩
def F.lphyDetstatNatBusy (i : Nat) : Fld := ⟨R.lphyDetstat i, 24, 24⟩
def F.lphyDetstatSwpBusy (i : Nat) : Fld := ⟨R.lphyDetstat i, 25, 25⟩
def F.lphyDetstatCmpBusy (i : Nat) : Fld := ⟨R.lphyDetstat i, 26, 26⟩
def F.lphyDetstatCandHeld (i : Nat) : Fld := ⟨R.lphyDetstat i, 27, 27⟩
def F.lphyFalseSyncCntCount (i : Nat) : Fld := ⟨R.lphyFalseSyncCnt i, 31, 0⟩
def F.lphyResyncCntCount (i : Nat) : Fld := ⟨R.lphyResyncCnt i, 31, 0⟩
def F.lphyCapturedCntCount (i : Nat) : Fld := ⟨R.lphyCapturedCnt i, 31, 0⟩
def F.lphyBlankCntCount (i : Nat) : Fld := ⟨R.lphyBlankCnt i, 31, 0⟩
def F.lphyStepCntCount (i : Nat) : Fld := ⟨R.lphyStepCnt i, 31, 0⟩
def F.lphySelfDropCntCount (i : Nat) : Fld := ⟨R.lphySelfDropCnt i, 31, 0⟩
def F.lphyLdfltFltNow (i : Nat) : Fld := ⟨R.lphyLdflt i, 0, 0⟩
def F.lphyLdfltReduced (i : Nat) : Fld := ⟨R.lphyLdflt i, 1, 1⟩
def F.lphyLdfltFltSeen (i : Nat) : Fld := ⟨R.lphyLdflt i, 2, 2⟩
def F.lphyAbortCntCount (i : Nat) : Fld := ⟨R.lphyAbortCnt i, 31, 0⟩
def F.lphyAckHeldCntCount (i : Nat) : Fld := ⟨R.lphyAckHeldCnt i, 31, 0⟩
def F.swpCfgLowEn : Fld := ⟨R.swpCfg, 0, 0⟩
def F.swpCfgHighEn : Fld := ⟨R.swpCfg, 1, 1⟩
def F.swpCfgLowSfRx : Fld := ⟨R.swpCfg, 7, 2⟩
def F.swpCfgHighSfRx : Fld := ⟨R.swpCfg, 13, 8⟩
def F.swpCfgSwpAtten : Fld := ⟨R.swpCfg, 19, 14⟩
def F.swpStatusRegionRefused : Fld := ⟨R.swpStatus, 0, 0⟩
def F.swpStatusPlanRefused : Fld := ⟨R.swpStatus, 1, 1⟩
def F.swpStatusApplyBlocked : Fld := ⟨R.swpStatus, 2, 2⟩
def F.swpStatusLowOn : Fld := ⟨R.swpStatus, 3, 3⟩
def F.swpStatusHighOn : Fld := ⟨R.swpStatus, 4, 4⟩
def F.swpRxCntCount (i : Nat) : Fld := ⟨R.swpRxCnt i, 31, 0⟩
def F.lmacSfcfgEnable : Fld := ⟨R.lmacSfcfg, 0, 0⟩
def F.lmacSfcfgAnchor : Fld := ⟨R.lmacSfcfg, 2, 1⟩
def F.lmacSfcfgSfCycles : Fld := ⟨R.lmacSfcfg, 11, 3⟩
def F.lmacSfcfgQuietGuardUs : Fld := ⟨R.lmacSfcfg, 21, 12⟩
def F.lmacSfNumSfNum : Fld := ⟨R.lmacSfNum, 31, 0⟩
def F.lmacSfOpenZx : Fld := ⟨R.lmacSfOpen, 31, 0⟩
def F.lmacSfStatSlot : Fld := ⟨R.lmacSfStat, 10, 0⟩
def F.lmacSfStatRunning : Fld := ⟨R.lmacSfStat, 11, 11⟩
def F.lmacOwnShort : Fld := ⟨R.lmacOwn, 15, 0⟩
def F.lmacOwnNetId : Fld := ⟨R.lmacOwn, 31, 16⟩
def F.lmacArqArqGap : Fld := ⟨R.lmacArq, 3, 0⟩
def F.lmacArqStepUpN : Fld := ⟨R.lmacArq, 7, 4⟩
def F.lmacArqAdviceMargin : Fld := ⟨R.lmacArq, 12, 8⟩
def F.lmacAssocCfgUnknownQueue : Fld := ⟨R.lmacAssocCfg, 5, 0⟩
def F.lmacAssocCfgUnknownEn : Fld := ⟨R.lmacAssocCfg, 6, 6⟩
def F.lmacPhaseidPhaseTol : Fld := ⟨R.lmacPhaseid, 11, 0⟩
def F.lmacPhaseidPhaseVotes : Fld := ⟨R.lmacPhaseid, 15, 12⟩
def F.lmacRouteCfgEnable : Fld := ⟨R.lmacRouteCfg, 0, 0⟩
def F.lmacRouteCfgMaxHops : Fld := ⟨R.lmacRouteCfg, 3, 1⟩
def F.lmacRouteCfgMinSuccess : Fld := ⟨R.lmacRouteCfg, 10, 4⟩
def F.lmacRouteCfgMinMargin : Fld := ⟨R.lmacRouteCfg, 15, 11⟩
def F.lmacRouteCfgMaxChildren : Fld := ⟨R.lmacRouteCfg, 23, 16⟩
def F.lmacRouteCfgPeriod : Fld := ⟨R.lmacRouteCfg, 31, 24⟩
def F.lmacRouteStatCapable : Fld := ⟨R.lmacRouteStat, 10, 0⟩
def F.lmacRouteStatCapFull : Fld := ⟨R.lmacRouteStat, 11, 11⟩
def F.lmacRouteStatProposed : Fld := ⟨R.lmacRouteStat, 25, 12⟩
def F.lmacDupRxCount : Fld := ⟨R.lmacDupRx, 31, 0⟩
def F.lmacMicFailCntCount : Fld := ⟨R.lmacMicFailCnt, 31, 0⟩
def F.lmacSecLowCntCount : Fld := ⟨R.lmacSecLowCnt, 31, 0⟩
def F.lmacNoAckCntCount : Fld := ⟨R.lmacNoAckCnt, 31, 0⟩
def F.lmacRetxCntCount : Fld := ⟨R.lmacRetxCnt, 31, 0⟩
def F.lmacUnknownCntCount : Fld := ⟨R.lmacUnknownCnt, 31, 0⟩
def F.lmacSlotSkipCntCount : Fld := ⟨R.lmacSlotSkipCnt, 31, 0⟩
def F.lmacTmapRejCntCount : Fld := ⟨R.lmacTmapRejCnt, 31, 0⟩
def F.lmacPhaseUncCntCount : Fld := ⟨R.lmacPhaseUncCnt, 31, 0⟩
def F.lmacQuietRefCntCount : Fld := ⟨R.lmacQuietRefCnt, 31, 0⟩
def F.lmacAckBlockedCntCount : Fld := ⟨R.lmacAckBlockedCnt, 31, 0⟩
def F.lmacSlotmapKind (i : Nat) : Fld := ⟨R.lmacSlotmap i, 31, 0⟩
def F.lmacNmapLevel (i : Nat) (j : Nat) : Fld := ⟨R.lmacNmap i j, 7, 0⟩
def F.lmacNmapImpulse (i : Nat) (j : Nat) : Fld := ⟨R.lmacNmap i j, 15, 8⟩
def F.lmacNmapUpdates (i : Nat) (j : Nat) : Fld := ⟨R.lmacNmap i j, 24, 16⟩
def F.lmacNmapLearned (i : Nat) (j : Nat) : Fld := ⟨R.lmacNmap i j, 25, 25⟩
def F.lmacNmapStatUnlearned (i : Nat) : Fld := ⟨R.lmacNmapStat i, 0, 0⟩
def F.lmacNmapStatPaused (i : Nat) : Fld := ⟨R.lmacNmapStat i, 1, 1⟩
def F.lmacNmapStatRestart (i : Nat) : Fld := ⟨R.lmacNmapStat i, 2, 2⟩
def F.dlvRingCfgBase : Fld := ⟨R.dlvRingCfg, 25, 6⟩
def F.dlvRingCfgSizeLog2 : Fld := ⟨R.dlvRingCfg, 29, 26⟩
def F.dlvRingCfgEnable : Fld := ⟨R.dlvRingCfg, 31, 31⟩
def F.dlvRingWrWr : Fld := ⟨R.dlvRingWr, 22, 0⟩
def F.dlvRingRdRd : Fld := ⟨R.dlvRingRd, 22, 0⟩
def F.radioCfgEnable : Fld := ⟨R.radioCfg, 0, 0⟩
def F.radioCfgBand : Fld := ⟨R.radioCfg, 1, 1⟩
def F.radioCfgPreambleBytes : Fld := ⟨R.radioCfg, 7, 2⟩
def F.radioCfgPollChan : Fld := ⟨R.radioCfg, 13, 8⟩
def F.radioCfgAckLevel : Fld := ⟨R.radioCfg, 19, 14⟩
def F.radioCfgFecForm : Fld := ⟨R.radioCfg, 20, 20⟩
def F.radioFemPaPresent : Fld := ⟨R.radioFem, 0, 0⟩
def F.radioFemLnaPresent : Fld := ⟨R.radioFem, 1, 1⟩
def F.radioFemPaLeadUs : Fld := ⟨R.radioFem, 7, 2⟩
def F.radioFemPaGainDb : Fld := ⟨R.radioFem, 13, 8⟩
def F.radioFemLnaLeadUs : Fld := ⟨R.radioFem, 19, 14⟩
def F.radioSfcfgRfSfMs : Fld := ⟨R.radioSfcfg, 13, 0⟩
def F.radioAnchorSAnchorS : Fld := ⟨R.radioAnchorS, 31, 0⟩
def F.radioSfNumSfNum : Fld := ⟨R.radioSfNum, 31, 0⟩
def F.radioSfStatSlot : Fld := ⟨R.radioSfStat, 5, 0⟩
def F.radioSfStatRunning : Fld := ⟨R.radioSfStat, 6, 6⟩
def F.radioGuardNodePpm : Fld := ⟨R.radioGuard, 7, 0⟩
def F.radioGuardJitterUs : Fld := ⟨R.radioGuard, 15, 8⟩
def F.radioGuardMissLimit : Fld := ⟨R.radioGuard, 19, 16⟩
def F.radioGuardGuardMaxMs : Fld := ⟨R.radioGuard, 26, 20⟩
def F.radioPollPollListenMs : Fld := ⟨R.radioPoll, 7, 0⟩
def F.radioPollRetxDelayMs : Fld := ⟨R.radioPoll, 15, 8⟩
def F.radioStatusRegionRefused : Fld := ⟨R.radioStatus, 0, 0⟩
def F.radioStatusAbsent : Fld := ⟨R.radioStatus, 1, 1⟩
def F.radioStatusMuted : Fld := ⟨R.radioStatus, 2, 2⟩
def F.radioStatusTxBusy : Fld := ⟨R.radioStatus, 3, 3⟩
def F.radioStatusRxOpen : Fld := ⟨R.radioStatus, 4, 4⟩
def F.rfMissCntCount : Fld := ⟨R.rfMissCnt, 31, 0⟩
def F.rfWakeLostCntCount : Fld := ⟨R.rfWakeLostCnt, 31, 0⟩
def F.rfConnLostCntCount : Fld := ⟨R.rfConnLostCnt, 31, 0⟩
def F.rfDutyDenyCntCount : Fld := ⟨R.rfDutyDenyCnt, 31, 0⟩
def F.rfAckDeniedCntCount : Fld := ⟨R.rfAckDeniedCnt, 31, 0⟩
def F.rfEvtMismatchCntCount : Fld := ⟨R.rfEvtMismatchCnt, 31, 0⟩
def F.rfDupRxCount : Fld := ⟨R.rfDupRx, 31, 0⟩
def F.rfMicFailCntCount : Fld := ⟨R.rfMicFailCnt, 31, 0⟩
def F.rfFcsFailCntCount : Fld := ⟨R.rfFcsFailCnt, 31, 0⟩
def F.rfNoAckCntCount : Fld := ⟨R.rfNoAckCnt, 31, 0⟩
def F.radioChanFreqKhz (i : Nat) : Fld := ⟨R.radioChan i, 19, 0⟩
def F.radioChanValid (i : Nat) : Fld := ⟨R.radioChan i, 20, 20⟩
def F.dcLoLoKhz (i : Nat) : Fld := ⟨R.dcLo i, 19, 0⟩
def F.dcLoEnable (i : Nat) : Fld := ⟨R.dcLo i, 31, 31⟩
def F.dcHiHiKhz (i : Nat) : Fld := ⟨R.dcHi i, 19, 0⟩
def F.dcLimitLimitPpm (i : Nat) : Fld := ⟨R.dcLimit i, 19, 0⟩
def F.dcReserveAckReserveMs (i : Nat) : Fld := ⟨R.dcReserve i, 15, 0⟩
def F.dcUsedUsedMs (i : Nat) : Fld := ⟨R.dcUsed i, 21, 0⟩
def F.dcDenyCntCount (i : Nat) : Fld := ⟨R.dcDenyCnt i, 31, 0⟩
def F.dcStatusCkptValid : Fld := ⟨R.dcStatus, 0, 0⟩
def F.dcStatusElapsedKnown : Fld := ⟨R.dcStatus, 1, 1⟩
def F.dcStatusRestored : Fld := ⟨R.dcStatus, 2, 2⟩
def F.dcStatusCkptFail : Fld := ⟨R.dcStatus, 3, 3⟩
def F.dcCkptSStampS : Fld := ⟨R.dcCkptS, 31, 0⟩
def F.ciphCfgNodeAgentEn : Fld := ⟨R.ciphCfg, 0, 0⟩
def F.ciphCfgNodeAgent : Fld := ⟨R.ciphCfg, 2, 1⟩
def F.ciphCfgScaOff : Fld := ⟨R.ciphCfg, 3, 3⟩
def F.ciphFcLimitLimit : Fld := ⟨R.ciphFcLimit, 31, 0⟩
def F.ciphFcWarnMargin : Fld := ⟨R.ciphFcWarn, 31, 0⟩
def F.ciphOwnEuiEui (i : Nat) : Fld := ⟨R.ciphOwnEui i, 31, 0⟩
def F.ciphStatusPipeBusy : Fld := ⟨R.ciphStatus, 0, 0⟩
def F.ciphStatusClusterBusy : Fld := ⟨R.ciphStatus, 1, 1⟩
def F.ciphStatusRngFail : Fld := ⟨R.ciphStatus, 2, 2⟩
def F.ciphStatusScaDisabled : Fld := ⟨R.ciphStatus, 3, 3⟩
def F.ciphFaultCntCount : Fld := ⟨R.ciphFaultCnt, 31, 0⟩
def F.ciphAuthFailCntCount : Fld := ⟨R.ciphAuthFailCnt, 31, 0⟩
def F.ciphImportFailCntCount : Fld := ⟨R.ciphImportFailCnt, 31, 0⟩
def F.ciphRekeyRefusedCntCount : Fld := ⟨R.ciphRekeyRefusedCnt, 31, 0⟩
def F.ciphFcInvalidCntCount : Fld := ⟨R.ciphFcInvalidCnt, 31, 0⟩
def F.ciphXpubKey (i : Nat) : Fld := ⟨R.ciphXpub i, 31, 0⟩
def F.ciphXsigSig (i : Nat) : Fld := ⟨R.ciphXsig i, 31, 0⟩
def F.keyInfoType (i : Nat) : Fld := ⟨R.keyInfo i, 3, 0⟩
def F.keyInfoModes (i : Nat) : Fld := ⟨R.keyInfo i, 14, 4⟩
def F.keyInfoExhausted (i : Nat) : Fld := ⟨R.keyInfo i, 15, 15⟩
def F.keyUseLoUseLo (i : Nat) : Fld := ⟨R.keyUseLo i, 31, 0⟩
def F.keyLimitLoLimitLo (i : Nat) : Fld := ⟨R.keyLimitLo i, 31, 0⟩
def F.keyHiUseHi (i : Nat) : Fld := ⟨R.keyHi i, 15, 0⟩
def F.keyHiLimitHi (i : Nat) : Fld := ⟨R.keyHi i, 31, 16⟩
def F.keyGenGen (i : Nat) : Fld := ⟨R.keyGen i, 31, 0⟩
def F.ncpCfgWbPeriodS : Fld := ⟨R.ncpCfg, 7, 0⟩
def F.ncpCfgRebuild : Fld := ⟨R.ncpCfg, 8, 8⟩
def F.ncpStatusResident : Fld := ⟨R.ncpStatus, 11, 0⟩
def F.ncpStatusPinned : Fld := ⟨R.ncpStatus, 21, 12⟩
def F.ncpStatusRebuilding : Fld := ⟨R.ncpStatus, 22, 22⟩
def F.ncpStatusIdxGen : Fld := ⟨R.ncpStatus, 26, 23⟩
def F.ncpIndexStatOverflow : Fld := ⟨R.ncpIndexStat, 12, 0⟩
def F.ncpIndexStatEntries : Fld := ⟨R.ncpIndexStat, 28, 13⟩
def F.ncpMissMaxMaxUs : Fld := ⟨R.ncpMissMax, 15, 0⟩
def F.ncpMissMaxSat : Fld := ⟨R.ncpMissMax, 16, 16⟩
def F.ncpMissCntCount : Fld := ⟨R.ncpMissCnt, 31, 0⟩
def F.ncpMissSlowCntCount : Fld := ⟨R.ncpMissSlowCnt, 31, 0⟩
def F.ncpCtxLateCntCount : Fld := ⟨R.ncpCtxLateCnt, 31, 0⟩
def F.ncpBufFullCntCount : Fld := ⟨R.ncpBufFullCnt, 31, 0⟩
def F.delivRefusedCntCount : Fld := ⟨R.delivRefusedCnt, 31, 0⟩
def F.delivFullCntCount : Fld := ⟨R.delivFullCnt, 31, 0⟩
def F.ncpPageErrCntCount : Fld := ⟨R.ncpPageErrCnt, 31, 0⟩
def F.storCfgPeRated : Fld := ⟨R.storCfg, 15, 0⟩
def F.storCfgWearWarnPct : Fld := ⟨R.storCfg, 22, 16⟩
def F.storStatusMounted : Fld := ⟨R.storStatus, 0, 0⟩
def F.storStatusHealthy : Fld := ⟨R.storStatus, 1, 1⟩
def F.storStatusUnclean : Fld := ⟨R.storStatus, 2, 2⟩
def F.storStatusReadOnly : Fld := ⟨R.storStatus, 3, 3⟩
def F.storStatusUnsupported : Fld := ⟨R.storStatus, 4, 4⟩
def F.storStatusLastGaspFlushed : Fld := ⟨R.storStatus, 5, 5⟩
def F.storStatusCh0Targets : Fld := ⟨R.storStatus, 11, 8⟩
def F.storStatusCh1Targets : Fld := ⟨R.storStatus, 15, 12⟩
def F.storCapGranules : Fld := ⟨R.storCap, 31, 0⟩
def F.storFreeGranules : Fld := ⟨R.storFree, 31, 0⟩
def F.storWearMaxPe : Fld := ⟨R.storWear, 15, 0⟩
def F.storWearAvgPe : Fld := ⟨R.storWear, 31, 16⟩
def F.storBadGrownBad : Fld := ⟨R.storBad, 15, 0⟩
def F.storBadSpareLeft : Fld := ⟨R.storBad, 31, 16⟩
def F.storJournalSeqSeq : Fld := ⟨R.storJournalSeq, 31, 0⟩
def F.storCorrCntCount : Fld := ⟨R.storCorrCnt, 31, 0⟩
def F.storUncorrCntCount : Fld := ⟨R.storUncorrCnt, 31, 0⟩
def F.storRetryCntCount : Fld := ⟨R.storRetryCnt, 31, 0⟩
def F.storSuspendCntCount : Fld := ⟨R.storSuspendCnt, 31, 0⟩
def F.storNsSizeGranules (i : Nat) : Fld := ⟨R.storNsSize i, 31, 0⟩
def F.storNsStatExists (i : Nat) : Fld := ⟨R.storNsStat i, 0, 0⟩
def F.storNsStatErasing (i : Nat) : Fld := ⟨R.storNsStat i, 1, 1⟩
def F.storNsUsedGranules (i : Nat) : Fld := ⟨R.storNsUsed i, 31, 0⟩
def F.plmbCfgPpsEn : Fld := ⟨R.plmbCfg, 0, 0⟩
def F.plmbCfgTenEn : Fld := ⟨R.plmbCfg, 1, 1⟩
def F.plmbCfgHostEn : Fld := ⟨R.plmbCfg, 2, 2⟩
def F.plmbCfgPpsPrio : Fld := ⟨R.plmbCfg, 4, 3⟩
def F.plmbCfgTenPrio : Fld := ⟨R.plmbCfg, 6, 5⟩
def F.plmbCfgHostPrio : Fld := ⟨R.plmbCfg, 8, 7⟩
def F.plmbCfgHostDrawer : Fld := ⟨R.plmbCfg, 10, 9⟩
def F.plmbBwPpsBwMhz : Fld := ⟨R.plmbBw, 9, 0⟩
def F.plmbBwTenBw : Fld := ⟨R.plmbBw, 19, 10⟩
def F.plmbBwHostBwMhz : Fld := ⟨R.plmbBw, 26, 20⟩
def F.plmbSwitchWtrS : Fld := ⟨R.plmbSwitch, 11, 0⟩
def F.plmbSwitchSlopeNs : Fld := ⟨R.plmbSwitch, 27, 12⟩
def F.plmbSteerSteerPpt : Fld := ⟨R.plmbSteer, 31, 0⟩
def F.plmbStatusState : Fld := ⟨R.plmbStatus, 1, 0⟩
def F.plmbStatusSelected : Fld := ⟨R.plmbStatus, 3, 2⟩
def F.plmbStatusSlewing : Fld := ⟨R.plmbStatus, 4, 4⟩
def F.plmbStatusHoldoverReady : Fld := ⟨R.plmbStatus, 5, 5⟩
def F.plmbStatusTbValid : Fld := ⟨R.plmbStatus, 6, 6⟩
def F.plmbStatusTcxoFallback : Fld := ⟨R.plmbStatus, 7, 7⟩
def F.plmbStatusCopySynced : Fld := ⟨R.plmbStatus, 8, 8⟩
def F.plmbStatusSteerClamped : Fld := ⟨R.plmbStatus, 9, 9⟩
def F.plmbStatusPpsState : Fld := ⟨R.plmbStatus, 12, 10⟩
def F.plmbStatusTenState : Fld := ⟨R.plmbStatus, 15, 13⟩
def F.plmbStatusHostState : Fld := ⟨R.plmbStatus, 18, 16⟩
def F.plmbFuncFreqUnc : Fld := ⟨R.plmbFunc, 15, 0⟩
def F.plmbFuncLockS : Fld := ⟨R.plmbFunc, 31, 16⟩
def F.plmbFreqFreqPpt : Fld := ⟨R.plmbFreq, 31, 0⟩
def F.plmbPhaseErrPhaseErrNs : Fld := ⟨R.plmbPhaseErr, 31, 0⟩
def F.plmbTbSecSec : Fld := ⟨R.plmbTbSec, 31, 0⟩
def F.plmbTbFracFrac : Fld := ⟨R.plmbTbFrac, 31, 0⟩
def F.plmbTodSetSec : Fld := ⟨R.plmbTodSet, 31, 0⟩
def F.plmbRelSRelS : Fld := ⟨R.plmbRelS, 31, 0⟩
def F.plmbHostSampleErrNs : Fld := ⟨R.plmbHostSample, 31, 0⟩
def F.plmbAlignPps : Fld := ⟨R.plmbAlign, 0, 0⟩
def F.plmbAlignPer0 : Fld := ⟨R.plmbAlign, 2, 2⟩
def F.plmbAlignPer1 : Fld := ⟨R.plmbAlign, 3, 3⟩
def F.plmbPpsOutlierCntCount : Fld := ⟨R.plmbPpsOutlierCnt, 31, 0⟩
def F.plmbHostLateCntCount : Fld := ⟨R.plmbHostLateCnt, 31, 0⟩
def F.plmbSwitchCntCount : Fld := ⟨R.plmbSwitchCnt, 31, 0⟩
def F.plmbOutCfgEnable (i : Nat) : Fld := ⟨R.plmbOutCfg i, 0, 0⟩
def F.plmbOutCfgPolarity (i : Nat) : Fld := ⟨R.plmbOutCfg i, 1, 1⟩
def F.plmbOutCfgSfsSrc (i : Nat) : Fld := ⟨R.plmbOutCfg i, 2, 2⟩
def F.plmbOutCfgWidthUs (i : Nat) : Fld := ⟨R.plmbOutCfg i, 31, 16⟩
def F.plmbOutPeriodPeriodNs (i : Nat) : Fld := ⟨R.plmbOutPeriod i, 31, 0⟩
def F.plmbOutPhasePhaseNs (i : Nat) : Fld := ⟨R.plmbOutPhase i, 29, 0⟩
def F.plmbOutStatAligned (i : Nat) : Fld := ⟨R.plmbOutStat i, 0, 0⟩
def F.plmbZxCfgZxBw (i : Nat) : Fld := ⟨R.plmbZxCfg i, 8, 0⟩
def F.plmbZxCfgNominal (i : Nat) : Fld := ⟨R.plmbZxCfg i, 9, 9⟩
def F.zxStatState (i : Nat) : Fld := ⟨R.zxStat i, 1, 0⟩
def F.zxNumNum (i : Nat) : Fld := ⟨R.zxNum i, 31, 0⟩
def F.zxTLoTLo (i : Nat) : Fld := ⟨R.zxTLo i, 31, 0⟩
def F.zxTHiTHi (i : Nat) : Fld := ⟨R.zxTHi i, 31, 0⟩
def F.zxFreqFreqMhz (i : Nat) : Fld := ⟨R.zxFreq i, 15, 0⟩
def F.zxPhasePhase (i : Nat) : Fld := ⟨R.zxPhase i, 31, 0⟩
def F.zxRejectCntCount (i : Nat) : Fld := ⟨R.zxRejectCnt i, 31, 0⟩
def F.uartCfgEnable (i : Nat) : Fld := ⟨R.uartCfg i, 0, 0⟩
def F.uartCfgDataBits (i : Nat) : Fld := ⟨R.uartCfg i, 4, 1⟩
def F.uartCfgParity (i : Nat) : Fld := ⟨R.uartCfg i, 7, 5⟩
def F.uartCfgStop (i : Nat) : Fld := ⟨R.uartCfg i, 9, 8⟩
def F.uartCfgFrameMode (i : Nat) : Fld := ⟨R.uartCfg i, 10, 10⟩
def F.uartCfgRole (i : Nat) : Fld := ⟨R.uartCfg i, 11, 11⟩
def F.uartCfgErrPolicy (i : Nat) : Fld := ⟨R.uartCfg i, 12, 12⟩
def F.uartCfgHalfDuplex (i : Nat) : Fld := ⟨R.uartCfg i, 13, 13⟩
def F.uartCfgRxqEn (i : Nat) : Fld := ⟨R.uartCfg i, 14, 14⟩
def F.uartCfgRxq (i : Nat) : Fld := ⟨R.uartCfg i, 20, 15⟩
def F.uartCfgRxqPrio (i : Nat) : Fld := ⟨R.uartCfg i, 22, 21⟩
def F.uartBaudDiv (i : Nat) : Fld := ⟨R.uartBaud i, 25, 0⟩
def F.uartTimingDeLead (i : Nat) : Fld := ⟨R.uartTiming i, 9, 0⟩
def F.uartTimingDeTail (i : Nat) : Fld := ⟨R.uartTiming i, 19, 10⟩
def F.uartTimingRxIdle (i : Nat) : Fld := ⟨R.uartTiming i, 23, 20⟩
def F.uartFrameBrkBits (i : Nat) : Fld := ⟨R.uartFrame i, 7, 0⟩
def F.uartFrameDelimBits (i : Nat) : Fld := ⟨R.uartFrame i, 11, 8⟩
def F.uartFrameBrkDetect (i : Nat) : Fld := ⟨R.uartFrame i, 15, 12⟩
def F.uartStatusRxLevel (i : Nat) : Fld := ⟨R.uartStatus i, 6, 0⟩
def F.uartStatusTxLevel (i : Nat) : Fld := ⟨R.uartStatus i, 13, 7⟩
def F.uartStatusTxBusy (i : Nat) : Fld := ⟨R.uartStatus i, 14, 14⟩
def F.uartStatusDe (i : Nat) : Fld := ⟨R.uartStatus i, 15, 15⟩
def F.uartStatusOverrun (i : Nat) : Fld := ⟨R.uartStatus i, 16, 16⟩
def F.uartStatusLineStuck (i : Nat) : Fld := ⟨R.uartStatus i, 17, 17⟩
def F.uartStatusTxDropped (i : Nat) : Fld := ⟨R.uartStatus i, 18, 18⟩
def F.uartStatusCfgRefused (i : Nat) : Fld := ⟨R.uartStatus i, 19, 19⟩
def F.uartBrkLenLength (i : Nat) : Fld := ⟨R.uartBrkLen i, 15, 0⟩
def F.uartBrkLenSat (i : Nat) : Fld := ⟨R.uartBrkLen i, 16, 16⟩
def F.uartRxdataData (i : Nat) : Fld := ⟨R.uartRxdata i, 8, 0⟩
def F.uartRxdataTag (i : Nat) : Fld := ⟨R.uartRxdata i, 11, 9⟩
def F.uartRxdataValid (i : Nat) : Fld := ⟨R.uartRxdata i, 12, 12⟩
def F.uartTxdataData (i : Nat) : Fld := ⟨R.uartTxdata i, 8, 0⟩
def F.uartCauseRxData (i : Nat) : Fld := ⟨R.uartCause i, 0, 0⟩
def F.uartCauseTxEmpty (i : Nat) : Fld := ⟨R.uartCause i, 1, 1⟩
def F.uartCauseOverrun (i : Nat) : Fld := ⟨R.uartCause i, 2, 2⟩
def F.uartCauseCharErr (i : Nat) : Fld := ⟨R.uartCause i, 3, 3⟩
def F.uartCauseBreak (i : Nat) : Fld := ⟨R.uartCause i, 4, 4⟩
def F.uartCauseLineStuck (i : Nat) : Fld := ⟨R.uartCause i, 5, 5⟩
def F.uartCauseFrameErr (i : Nat) : Fld := ⟨R.uartCause i, 6, 6⟩
def F.uartCauseRespEmpty (i : Nat) : Fld := ⟨R.uartCause i, 7, 7⟩
def F.uartCauseIen (i : Nat) : Fld := ⟨R.uartCause i, 23, 16⟩
def F.uartOvrCntCount (i : Nat) : Fld := ⟨R.uartOvrCnt i, 31, 0⟩
def F.uartErrCntCount (i : Nat) : Fld := ⟨R.uartErrCnt i, 31, 0⟩
def F.uartBrkCntCount (i : Nat) : Fld := ⟨R.uartBrkCnt i, 31, 0⟩
def F.uartRespAction (i : Nat) (j : Nat) : Fld := ⟨R.uartResp i j, 1, 0⟩
def F.uartRespLen (i : Nat) (j : Nat) : Fld := ⟨R.uartResp i j, 8, 2⟩
def F.uartRespChk (i : Nat) (j : Nat) : Fld := ⟨R.uartResp i j, 10, 9⟩
def F.uartRespReady (i : Nat) (j : Nat) : Fld := ⟨R.uartResp i j, 11, 11⟩
def F.ringCfgEnable : Fld := ⟨R.ringCfg, 0, 0⟩
def F.ringCfgRateDiv : Fld := ⟨R.ringCfg, 16, 1⟩
def F.ringCfgMaster : Fld := ⟨R.ringCfg, 17, 17⟩
def F.ringCfgAddr : Fld := ⟨R.ringCfg, 25, 18⟩
def F.ringCfgRingDrawer : Fld := ⟨R.ringCfg, 27, 26⟩
def F.ringCfg2GapBits : Fld := ⟨R.ringCfg2, 7, 0⟩
def F.ringCfg2ReturnTo : Fld := ⟨R.ringCfg2, 23, 8⟩
def F.ringCfg2RingRxq : Fld := ⟨R.ringCfg2, 29, 24⟩
def F.ringSilentSilentMs : Fld := ⟨R.ringSilent, 15, 0⟩
def F.ringFilterIds (i : Nat) : Fld := ⟨R.ringFilter i, 31, 0⟩
def F.ringStatusBypassClosed : Fld := ⟨R.ringStatus, 0, 0⟩
def F.ringStatusAutonomous : Fld := ⟨R.ringStatus, 1, 1⟩
def F.ringStatusInserting : Fld := ⟨R.ringStatus, 2, 2⟩
def F.ringStatusBufLevel : Fld := ⟨R.ringStatus, 9, 3⟩
def F.ringStatusStuck : Fld := ⟨R.ringStatus, 10, 10⟩
def F.ringStatusSilent : Fld := ⟨R.ringStatus, 11, 11⟩
def F.ringStatusRefused : Fld := ⟨R.ringStatus, 12, 12⟩
def F.ringCauseRx : Fld := ⟨R.ringCause, 0, 0⟩
def F.ringCauseCrc : Fld := ⟨R.ringCause, 1, 1⟩
def F.ringCauseFrag : Fld := ⟨R.ringCause, 2, 2⟩
def F.ringCauseOrphan : Fld := ⟨R.ringCause, 3, 3⟩
def F.ringCauseBypass : Fld := ⟨R.ringCause, 4, 4⟩
def F.ringCauseStuck : Fld := ⟨R.ringCause, 5, 5⟩
def F.ringCauseSilent : Fld := ⟨R.ringCause, 6, 6⟩
def F.ringCauseIen : Fld := ⟨R.ringCause, 22, 16⟩
def F.ringRxCntCount : Fld := ⟨R.ringRxCnt, 31, 0⟩
def F.ringCrcCntCount : Fld := ⟨R.ringCrcCnt, 31, 0⟩
def F.ringFragCntCount : Fld := ⟨R.ringFragCnt, 31, 0⟩
def F.ringOrphanCntCount : Fld := ⟨R.ringOrphanCnt, 31, 0⟩
def F.ringRxLostCntCount : Fld := ⟨R.ringRxLostCnt, 31, 0⟩
def F.chkCfgPoly (i : Nat) : Fld := ⟨R.chkCfg i, 2, 0⟩
def F.chkCfgRefin (i : Nat) : Fld := ⟨R.chkCfg i, 3, 3⟩
def F.chkCfgRefout (i : Nat) : Fld := ⟨R.chkCfg i, 4, 4⟩
def F.chkCfgBig (i : Nat) : Fld := ⟨R.chkCfg i, 5, 5⟩
def F.chkInitValue (i : Nat) : Fld := ⟨R.chkInit i, 31, 0⟩
def F.chkXoroutValue (i : Nat) : Fld := ⟨R.chkXorout i, 31, 0⟩
def F.chkFeed8Value (i : Nat) : Fld := ⟨R.chkFeed8 i, 7, 0⟩
def F.chkFeed16Value (i : Nat) : Fld := ⟨R.chkFeed16 i, 15, 0⟩
def F.chkFeed32Value (i : Nat) : Fld := ⟨R.chkFeed32 i, 31, 0⟩
def F.chkResultValue (i : Nat) : Fld := ⟨R.chkResult i, 31, 0⟩
def F.chkExpectedValue (i : Nat) : Fld := ⟨R.chkExpected i, 31, 0⟩
def F.chkCtlRestart (i : Nat) : Fld := ⟨R.chkCtl i, 0, 0⟩
def F.chkAliveAliveEn (i : Nat) : Fld := ⟨R.chkAlive i, 0, 0⟩
def F.chkAlivePos (i : Nat) : Fld := ⟨R.chkAlive i, 15, 1⟩
def F.chkAliveAliveDelta (i : Nat) : Fld := ⟨R.chkAlive i, 19, 16⟩
def F.chkAliveLast (i : Nat) : Fld := ⟨R.chkAlive i, 23, 20⟩
def F.chkAliveLastValid (i : Nat) : Fld := ⟨R.chkAlive i, 24, 24⟩
def F.chkStatusMatch (i : Nat) : Fld := ⟨R.chkStatus i, 0, 0⟩
def F.chkStatusMismatch (i : Nat) : Fld := ⟨R.chkStatus i, 1, 1⟩
def F.chkStatusAliveRepeat (i : Nat) : Fld := ⟨R.chkStatus i, 2, 2⟩
def F.chkStatusAliveGap (i : Nat) : Fld := ⟨R.chkStatus i, 3, 3⟩
def F.chkStatusFeedLost (i : Nat) : Fld := ⟨R.chkStatus i, 4, 4⟩
def F.chkStatusIen (i : Nat) : Fld := ⟨R.chkStatus i, 11, 8⟩
def F.chkMismatchCntCount (i : Nat) : Fld := ⟨R.chkMismatchCnt i, 31, 0⟩
def F.pwrBudgetBudget : Fld := ⟨R.pwrBudget, 6, 0⟩
def F.pwrLdCfgLdBudgetMw : Fld := ⟨R.pwrLdCfg, 15, 0⟩
def F.pwrLdMwLdMw (i : Nat) : Fld := ⟨R.pwrLdMw i, 15, 0⟩
def F.pwrShareShare0 : Fld := ⟨R.pwrShare, 6, 0⟩
def F.pwrShareShare1 : Fld := ⟨R.pwrShare, 14, 8⟩
def F.pwrShareShare2 : Fld := ⟨R.pwrShare, 22, 16⟩
def F.pwrShareShare3 : Fld := ⟨R.pwrShare, 30, 24⟩
def F.pwrLgCfgLgAuto : Fld := ⟨R.pwrLgCfg, 0, 0⟩
def F.pwrLgCfgLgRfLevel : Fld := ⟨R.pwrLgCfg, 6, 1⟩
def F.pwrLgThreadsThreads : Fld := ⟨R.pwrLgThreads, 31, 0⟩
def F.pwrCmdOp : Fld := ⟨R.pwrCmd, 2, 0⟩
def F.pwrStatusLastGasp : Fld := ⟨R.pwrStatus, 0, 0⟩
def F.pwrStatusLgByCmd : Fld := ⟨R.pwrStatus, 1, 1⟩
def F.pwrStatusStandby : Fld := ⟨R.pwrStatus, 2, 2⟩
def F.pwrStatusOver : Fld := ⟨R.pwrStatus, 3, 3⟩
def F.pwrStatusShareRefused : Fld := ⟨R.pwrStatus, 4, 4⟩
def F.pwrStatusCmdRefused : Fld := ⟨R.pwrStatus, 5, 5⟩
def F.pwrBaseBaseMw : Fld := ⟨R.pwrBase, 15, 0⟩
def F.pwrBaseReserveMw : Fld := ⟨R.pwrBase, 31, 16⟩
def F.pwrHeldHeldMw : Fld := ⟨R.pwrHeld, 15, 0⟩
def F.pwrHeldLdHeldMw : Fld := ⟨R.pwrHeld, 31, 16⟩
def F.pwrDrwHeldMw (i : Nat) : Fld := ⟨R.pwrDrw i, 15, 0⟩
def F.pwrDrwWaiting (i : Nat) : Fld := ⟨R.pwrDrw i, 23, 16⟩
def F.pwrDenyCntCount (i : Nat) : Fld := ⟨R.pwrDenyCnt i, 31, 0⟩
def F.pwrIslandState : Fld := ⟨R.pwrIsland, 31, 0⟩
def F.pwrCauseLgEntry : Fld := ⟨R.pwrCause, 0, 0⟩
def F.pwrCauseLgExit : Fld := ⟨R.pwrCause, 1, 1⟩
def F.pwrCauseStatOvf : Fld := ⟨R.pwrCause, 2, 2⟩
def F.pwrLtrAQueueUs : Fld := ⟨R.pwrLtrA, 15, 0⟩
def F.pwrLtrAStorageUs : Fld := ⟨R.pwrLtrA, 31, 16⟩
def F.pwrLtrBCipherUs : Fld := ⟨R.pwrLtrB, 15, 0⟩
def F.pwrLtrBSerialUs : Fld := ⟨R.pwrLtrB, 31, 16⟩
def F.tnlStatusState : Fld := ⟨R.tnlStatus, 2, 0⟩
def F.tnlStatusCmdRefused : Fld := ⟨R.tnlStatus, 3, 3⟩
def F.tnlStatusTries : Fld := ⟨R.tnlStatus, 19, 4⟩
def F.tnlCmdResume : Fld := ⟨R.tnlCmd, 0, 0⟩
def F.tnlCauseLost : Fld := ⟨R.tnlCause, 0, 0⟩
def F.tnlCauseRetrained : Fld := ⟨R.tnlCause, 1, 1⟩
def F.tnlCauseResumed : Fld := ⟨R.tnlCause, 2, 2⟩
def F.tnlCauseEvtOvf : Fld := ⟨R.tnlCause, 3, 3⟩
def F.tnlCauseRegUnknown : Fld := ⟨R.tnlCause, 4, 4⟩
def F.tnlCausePoisonCfg : Fld := ⟨R.tnlCause, 5, 5⟩
def F.tnlCauseStatOvf : Fld := ⟨R.tnlCause, 6, 6⟩
def F.tnlCauseIen : Fld := ⟨R.tnlCause, 22, 16⟩
def F.tnlLossInfoReason : Fld := ⟨R.tnlLossInfo, 1, 0⟩
def F.tnlLossInfoWritePending : Fld := ⟨R.tnlLossInfo, 2, 2⟩
def F.tnlLossInfoOffset : Fld := ⟨R.tnlLossInfo, 25, 3⟩
def F.eccScrubScrubS : Fld := ⟨R.eccScrub, 7, 0⟩
def F.eccLogStruct : Fld := ⟨R.eccLog, 2, 0⟩
def F.eccLogWord : Fld := ⟨R.eccLog, 26, 3⟩
def F.tnlCorrCntCount (i : Nat) : Fld := ⟨R.tnlCorrCnt i, 31, 0⟩
def F.tnlReplayCntCount (i : Nat) : Fld := ⟨R.tnlReplayCnt i, 31, 0⟩
def F.tnlEraseCntCount : Fld := ⟨R.tnlEraseCnt, 31, 0⟩
def F.tnlLossCntCount : Fld := ⟨R.tnlLossCnt, 31, 0⟩
def F.tnlRegDropCntCount : Fld := ⟨R.tnlRegDropCnt, 31, 0⟩
def F.ctxPoisonDropCntCount : Fld := ⟨R.ctxPoisonDropCnt, 31, 0⟩
def F.eccCorrCntCount (i : Nat) : Fld := ⟨R.eccCorrCnt i, 31, 0⟩
def F.eccUncorrCntCount (i : Nat) : Fld := ⟨R.eccUncorrCnt i, 31, 0⟩
def F.tnlPoisonOffset : Fld := ⟨R.tnlPoison, 22, 0⟩
def F.tnlPoisonAperture : Fld := ⟨R.tnlPoison, 24, 23⟩
def F.tnlPoisonPoisonRead : Fld := ⟨R.tnlPoison, 25, 25⟩
def F.dbgTraceCfgFirst : Fld := ⟨R.dbgTraceCfg, 8, 0⟩
def F.dbgTraceCfgLast : Fld := ⟨R.dbgTraceCfg, 17, 9⟩
def F.dbgTraceCfgEnable : Fld := ⟨R.dbgTraceCfg, 18, 18⟩
def F.dbgTraceCfgStopOnFull : Fld := ⟨R.dbgTraceCfg, 19, 19⟩
def F.dbgReqIsland : Fld := ⟨R.dbgReq, 3, 0⟩
def F.dbgReqGo : Fld := ⟨R.dbgReq, 4, 4⟩
def F.dbgStatusLock : Fld := ⟨R.dbgStatus, 1, 0⟩
def F.dbgStatusReach : Fld := ⟨R.dbgStatus, 3, 2⟩
def F.dbgStatusReqRefused : Fld := ⟨R.dbgStatus, 4, 4⟩
def F.dbgStatusNext : Fld := ⟨R.dbgStatus, 9, 5⟩
def F.dbgStatusWrapped : Fld := ⟨R.dbgStatus, 10, 10⟩
def F.dbgStatusStopped : Fld := ⟨R.dbgStatus, 11, 11⟩
def F.dbgStatusLost : Fld := ⟨R.dbgStatus, 12, 12⟩
def F.dbgTraceWord (i : Nat) : Fld := ⟨R.dbgTrace i, 31, 0⟩

end Sys2Proof.Machine
end

