-- ==== Sys2Proof/Machine/RegTable.lean ====
section
/-!
DEFINITION. The register map of chapter 18 (R495) with each register's fields' access types (R9),
reset value and reset domain (R10) and its access filter (R493), taken row by row from the
register tables of the chapters named in R495.  `MEAS_n` and `MEAS_CNT_n` for n = 4 to 7 lie in
domain C (R92).  A reset value the tables give as `image`, `row`, `record` or `key` stands here as
0: the boot writes it (see assumption 3).
-/

namespace Sys2Proof.Machine

/-- Registers of the `DEV` block (R495). -/
def regRowsDev : List RegRow := [
  ⟨"DEV_ID", 0x0, 1, 0x4, 1, 0x4, .a, .all, 0x0, 0x0, 0x0, 0x9640⟩,
  ⟨"DEV_STEP", 0x4, 1, 0x4, 1, 0x4, .a, .all, 0x0, 0x0, 0x0, 0xB1⟩,
  ⟨"DRW_SELF", 0x10, 1, 0x4, 1, 0x4, .c, .self, 0x0, 0x8, 0x0, 0x0⟩,
  ⟨"VIOL_CNT", 0x14, 1, 0x4, 1, 0x4, .c, .self, 0x0, 0xFFFFFFFF, 0x0, 0x0⟩,
  ⟨"VIOL_LOG", 0x18, 1, 0x4, 1, 0x4, .b, .d0, 0x0, 0x0, 0x0, 0x0⟩,
  ⟨"OWN_QUE_n", 0x100, 8, 0x4, 1, 0x4, .b, .all, 0xFFFFFFFF, 0x0, 0x0, 0x88888888⟩,
  ⟨"OWN_KEY_n", 0x120, 32, 0x4, 1, 0x4, .b, .all, 0xFFFFFFFF, 0x0, 0x0, 0x88888888⟩,
  ⟨"OWN_JIG_n", 0x1A0, 4, 0x4, 1, 0x4, .b, .all, 0xFFFFFFFF, 0x0, 0x0, 0x88888888⟩,
  ⟨"OWN_NS_0", 0x1B0, 1, 0x4, 1, 0x4, .b, .all, 0xFFFFFFFF, 0x0, 0x0, 0x88888888⟩,
  ⟨"OWN_NS_1", 0x1B4, 1, 0x4, 1, 0x4, .b, .all, 0xFFFFFFF, 0x0, 0x0, 0x8888888⟩,
  ⟨"OWN_MISC", 0x1B8, 1, 0x4, 1, 0x4, .b, .all, 0xFFFFFFFF, 0x0, 0x0, 0x8888BA98⟩,
  ⟨"OWN_PIN", 0x1BC, 1, 0x4, 1, 0x4, .b, .all, 0xFFFFFFFF, 0x0, 0x0, 0x88888888⟩,
  ⟨"OWN_CTX_n", 0x1C0, 1, 0x4, 1, 0x4, .b, .all, 0xBFFFFFFF, 0x0, 0x0, 0x8FFFC000⟩,
  ⟨"OWN_CTX_n", 0x1C4, 15, 0x4, 1, 0x4, .b, .all, 0xBFFFFFFF, 0x0, 0x0, 0x0⟩,
  ⟨"OWN_BULK", 0x200, 1, 0x4, 1, 0x4, .b, .all, 0x7070707, 0x0, 0x0, 0x6⟩,
  ⟨"OWN_STATUS", 0x204, 1, 0x4, 1, 0x4, .b, .all, 0x0, 0x2, 0x0, 0x0⟩]

/-- Registers of the `RST` block (R495). -/
def regRowsRst : List RegRow := [
  ⟨"RESET_CAUSE", 0x10000, 1, 0x4, 1, 0x4, .a, .all, 0x0, 0xFF1FFFF, 0x0, 0x0⟩,
  ⟨"RST_CMD", 0x10004, 1, 0x4, 1, 0x4, .b, .rstCmd, 0x0, 0x0, 0x0, 0x0⟩,
  ⟨"RST_STATUS", 0x10008, 1, 0x4, 1, 0x4, .b, .all, 0x0, 0x10, 0x0, 0x0⟩,
  ⟨"RST_ISLAND", 0x1000C, 1, 0x4, 1, 0x4, .b, .d0, 0x0, 0xFFFF, 0x0, 0x0⟩,
  ⟨"BOOT_STATUS", 0x10010, 1, 0x4, 1, 0x4, .b, .all, 0x0, 0x0, 0x0, 0x0⟩,
  ⟨"BOOT_PUSH", 0x10014, 1, 0x4, 1, 0x4, .b, .d0, 0x0, 0x0, 0x0, 0x0⟩,
  ⟨"BOOT_COUNT_LO", 0x10018, 1, 0x4, 1, 0x4, .a, .all, 0x0, 0x0, 0x0, 0x0⟩,
  ⟨"BOOT_COUNT_HI", 0x1001C, 1, 0x4, 1, 0x4, .a, .all, 0x0, 0x0, 0x0, 0x0⟩,
  ⟨"OPT_ACTIVE_0", 0x10100, 1, 0x4, 1, 0x4, .a, .all, 0x0, 0x0, 0x0, 0x0⟩,
  ⟨"OPT_ACTIVE_1", 0x10104, 1, 0x4, 1, 0x4, .a, .all, 0x0, 0x0, 0x0, 0x0⟩,
  ⟨"OPT_ACTIVE_n", 0x10108, 24, 0x4, 1, 0x4, .a, .all, 0x0, 0x0, 0x0, 0x0⟩,
  ⟨"OPT_STAGE_0", 0x10180, 1, 0x4, 1, 0x4, .b, .d0, 0x0, 0x0, 0x0, 0x0⟩,
  ⟨"OPT_STAGE_1", 0x10184, 1, 0x4, 1, 0x4, .b, .d0, 0x0, 0x0, 0x0, 0x0⟩,
  ⟨"OPT_STAGE_n", 0x10188, 24, 0x4, 1, 0x4, .b, .d0, 0x0, 0x0, 0x0, 0x0⟩,
  ⟨"OPT_CMD", 0x101F0, 1, 0x4, 1, 0x4, .b, .d0, 0x0, 0x0, 0x0, 0x0⟩,
  ⟨"OPT_STATUS", 0x101F4, 1, 0x4, 1, 0x4, .b, .d0, 0x0, 0x0, 0x0, 0x0⟩,
  ⟨"OPT_MFG", 0x101F8, 1, 0x4, 1, 0x4, .a, .all, 0x0, 0x0, 0x0, 0x0⟩]

/-- Registers of the `ATT` block (R495). -/
def regRowsAtt : List RegRow := [
  ⟨"MEAS_n", 0x18000, 4, 0x40, 12, 0x4, .b, .all, 0x0, 0x0, 0x0, 0x0⟩,
  ⟨"MEAS_n", 0x18100, 4, 0x40, 12, 0x4, .c, .all, 0x0, 0x0, 0x0, 0x0⟩,
  ⟨"MEAS_CNT_n", 0x18200, 4, 0x4, 1, 0x4, .b, .all, 0x0, 0x0, 0x0, 0x0⟩,
  ⟨"MEAS_CNT_n", 0x18210, 4, 0x4, 1, 0x4, .c, .all, 0x0, 0x0, 0x0, 0x0⟩,
  ⟨"ATT_NONCE_n", 0x18300, 8, 0x4, 1, 0x4, .c, .self, 0xFFFFFFFF, 0x0, 0x0, 0x0⟩,
  ⟨"ATT_DEST", 0x18320, 1, 0x4, 1, 0x4, .c, .self, 0x3FFFFC0, 0x0, 0x0, 0x0⟩,
  ⟨"ATT_CMD", 0x18324, 1, 0x4, 1, 0x4, .c, .self, 0x0, 0x0, 0x0, 0x0⟩,
  ⟨"ATT_STATUS", 0x18328, 1, 0x4, 1, 0x4, .c, .self, 0x0, 0x0, 0x0, 0x0⟩,
  ⟨"ATT_PUBKEY_n", 0x18400, 24, 0x4, 1, 0x4, .a, .all, 0x0, 0x0, 0x0, 0x0⟩]

/-- Registers of the `EVT` block (R495). -/
def regRowsEvt : List RegRow := [
  ⟨"EVT_ROUTE_n", 0x20000, 288, 0x10, 1, 0x4, .c, .source, 0xFF07FF, 0x0, 0x0, 0x10000⟩,
  ⟨"EVT_TIME_n", 0x20004, 288, 0x10, 1, 0x4, .c, .source, 0xFFFF, 0x0, 0x0, 0x0⟩,
  ⟨"EVT_OWN_n", 0x20008, 280, 0x10, 1, 0x4, .b, .all, 0x7, 0x0, 0x0, 0x4⟩,
  ⟨"EVT_OWN_n", 0x21188, 1, 0x4, 1, 0x4, .b, .all, 0x0, 0x0, 0x0, 0x4⟩,
  ⟨"EVT_OWN_n", 0x21198, 1, 0x4, 1, 0x4, .b, .all, 0x0, 0x0, 0x0, 0x5⟩,
  ⟨"EVT_OWN_n", 0x211A8, 1, 0x4, 1, 0x4, .b, .all, 0x0, 0x0, 0x0, 0x6⟩,
  ⟨"EVT_OWN_n", 0x211B8, 1, 0x4, 1, 0x4, .b, .all, 0x0, 0x0, 0x0, 0x7⟩,
  ⟨"EVT_OWN_n", 0x211C8, 4, 0x10, 1, 0x4, .b, .all, 0x7, 0x0, 0x0, 0x4⟩,
  ⟨"EVT_PEND_w", 0x22000, 9, 0x4, 1, 0x4, .c, .self, 0x0, 0xFFFFFFFF, 0x0, 0x0⟩,
  ⟨"FABRIC_CAUSE", 0x22040, 1, 0x4, 1, 0x4, .b, .d0, 0x0, 0x7, 0x0, 0x0⟩]

/-- Registers of the `QUE` block (R495). -/
def regRowsQue : List RegRow := [
  ⟨"QUEUE_CFG_n", 0x30000, 64, 0x20, 1, 0x4, .c, .queue, 0xFFFF, 0x0, 0x0, 0x0⟩,
  ⟨"QUEUE_CRED_n", 0x30004, 64, 0x20, 1, 0x4, .c, .queue, 0x1FFF, 0x0, 0x0, 0x0⟩,
  ⟨"QUEUE_WM_n", 0x30008, 64, 0x20, 1, 0x4, .c, .queue, 0x9FFF1FFF, 0x0, 0x0, 0x0⟩,
  ⟨"QUEUE_STAT_n", 0x3000C, 64, 0x20, 1, 0x4, .c, .queue, 0x0, 0x1C, 0x0, 0x0⟩,
  ⟨"QUEUE_UNDER_CNT_n", 0x30010, 64, 0x20, 1, 0x4, .c, .queue, 0x0, 0xFFFFFFFF, 0x0, 0x0⟩,
  ⟨"QUEUE_DROP_CNT_n", 0x30014, 64, 0x20, 1, 0x4, .c, .queue, 0x0, 0xFFFFFFFF, 0x0, 0x0⟩,
  ⟨"QUEUE_EPOCH_n", 0x30018, 64, 0x20, 1, 0x4, .b, .queue, 0x0, 0x0, 0x0, 0x0⟩]

/-- Registers of the `JIG` block (R495). -/
def regRowsJig : List RegRow := [
  ⟨"JIG_AIR", 0x40000, 1, 0x4, 1, 0x4, .b, .all, 0xFF, 0x0, 0x0, 0x11⟩,
  ⟨"JIG_LOAD_SRC", 0x40010, 1, 0x4, 1, 0x4, .c, .self, 0x3FFFFC0, 0x0, 0x0, 0x0⟩,
  ⟨"JIG_LOAD_CMD", 0x40014, 1, 0x4, 1, 0x4, .c, .self, 0x0, 0x0, 0x0, 0x0⟩,
  ⟨"JIG_LOAD_STATUS", 0x40018, 1, 0x4, 1, 0x4, .c, .self, 0x0, 0x0, 0x0, 0x0⟩,
  ⟨"JIG_NOTICE_c", 0x40100, 8, 0x4, 1, 0x4, .b, .jigNotice, 0x0, 0x7, 0x0, 0x0⟩,
  ⟨"JT_CTL_n", 0x41000, 32, 0x40, 1, 0x4, .d, .thread, 0x0, 0x0, 0x0, 0x0⟩,
  ⟨"JT_ENTRY_n", 0x41004, 32, 0x40, 1, 0x4, .d, .thread, 0x0, 0x0, 0x0, 0x0⟩,
  ⟨"JT_WDOG_n", 0x41008, 32, 0x40, 1, 0x4, .d, .thread, 0xFFFFFFFF, 0x0, 0x0, 0x7D00000⟩,
  ⟨"JT_STAT_n", 0x4100C, 32, 0x40, 1, 0x4, .d, .thread, 0x0, 0x10000000, 0x0, 0x0⟩,
  ⟨"JT_IWIN_n", 0x41010, 32, 0x40, 1, 0x4, .d, .thread, 0x0, 0x0, 0x0, 0x0⟩,
  ⟨"JT_DWIN_n", 0x41014, 32, 0x40, 1, 0x4, .d, .thread, 0x0, 0x0, 0x0, 0x0⟩,
  ⟨"JT_LATE_CNT_n", 0x41018, 32, 0x40, 1, 0x4, .d, .thread, 0x0, 0xFFFFFFFF, 0x0, 0x0⟩,
  ⟨"JT_FAULT_INFO_n", 0x4101C, 32, 0x40, 1, 0x4, .d, .thread, 0x0, 0x0, 0x0, 0x0⟩,
  ⟨"JT_PROG_n", 0x41020, 32, 0x40, 2, 0x4, .d, .thread, 0x0, 0x0, 0x0, 0x0⟩,
  ⟨"JT_LAST_FAULT_n", 0x41028, 32, 0x40, 2, 0x4, .b, .thread, 0x0, 0x0, 0x0, 0x0⟩]

/-- Registers of the `LPHY` block (R495). -/
def regRowsLphy : List RegRow := [
  ⟨"LPHY_BANDCFG", 0x80000, 1, 0x4, 1, 0x4, .b, .all, 0xF, 0x0, 0x0, 0x0⟩,
  ⟨"LPHY_APPLY", 0x80004, 1, 0x4, 1, 0x4, .b, .all, 0x0, 0x0, 0x3, 0x0⟩,
  ⟨"LPHY_STATUS", 0x80008, 1, 0x4, 1, 0x4, .b, .all, 0x0, 0x8003, 0x0, 0x0⟩,
  ⟨"LPHY_RXCFG_c", 0x80100, 6, 0x10, 1, 0x4, .b, .all, 0xFF, 0x0, 0x0, 0xE2⟩,
  ⟨"LPHY_RXSTAT_c", 0x80104, 6, 0x10, 1, 0x4, .b, .all, 0x0, 0x20, 0x0, 0x0⟩,
  ⟨"LPHY_CLIP_CNT_c", 0x80108, 6, 0x10, 1, 0x4, .b, .all, 0x0, 0xFFFFFFFF, 0x0, 0x0⟩,
  ⟨"LPHY_HDR_DROP_CNT_c", 0x8010C, 6, 0x10, 1, 0x4, .b, .all, 0x0, 0xFFFFFFFF, 0x0, 0x0⟩,
  ⟨"LPHY_TXCFG_t", 0x80200, 3, 0x10, 1, 0x4, .b, .all, 0x3F3F7F, 0x0, 0x0, 0x28⟩,
  ⟨"LPHY_TXSTAT_t", 0x80204, 3, 0x10, 1, 0x4, .b, .all, 0x0, 0xC, 0x0, 0x0⟩,
  ⟨"LPHY_TXCLIP_CNT_t", 0x80208, 3, 0x10, 1, 0x4, .b, .all, 0x0, 0xFFFFFFFF, 0x0, 0x0⟩,
  ⟨"LPHY_FIR_CTL_t", 0x8020C, 3, 0x10, 1, 0x4, .b, .all, 0x0, 0x0, 0x1, 0x0⟩,
  ⟨"LPHY_FIR_t_i", 0x81000, 3, 0x100, 1, 0x4, .b, .all, 0xFFFF, 0x0, 0x0, 0x7FFF⟩,
  ⟨"LPHY_FIR_t_i", 0x81004, 3, 0x100, 63, 0x4, .b, .all, 0xFFFF, 0x0, 0x0, 0x0⟩,
  ⟨"LPHY_MASK_b_w", 0x82000, 2, 0x10, 4, 0x4, .b, .all, 0xFFFFFFFF, 0x0, 0x0, 0x0⟩,
  ⟨"LPHY_MASK_GEN", 0x82040, 1, 0x4, 1, 0x4, .b, .all, 0x0, 0x0, 0x0, 0x0⟩,
  ⟨"LPHY_LIMIT_b_w", 0x83000, 2, 0x80, 32, 0x4, .b, .all, 0x0, 0x0, 0x0, 0x0⟩,
  ⟨"LPHY_TRIM_t_w", 0x83100, 3, 0x80, 32, 0x4, .b, .all, 0x7F7F7F7F, 0x0, 0x0, 0x0⟩,
  ⟨"LPHY_COMPAT_CFG", 0x84000, 1, 0x4, 1, 0x4, .b, .all, 0x3FF, 0x0, 0x0, 0x100⟩,
  ⟨"LPHY_COMPAT_ADDR", 0x84004, 1, 0x4, 1, 0x4, .b, .all, 0xFFFFFFFF, 0x0, 0x0, 0xFFFFFFFF⟩,
  ⟨"LPHY_COMPAT_EUI_n", 0x84008, 2, 0x4, 1, 0x4, .b, .all, 0xFFFFFFFF, 0x0, 0x0, 0x0⟩,
  ⟨"LPHY_COMPAT_CSMA", 0x84010, 1, 0x4, 1, 0x4, .b, .all, 0x3FFF, 0x0, 0x0, 0x853⟩,
  ⟨"LPHY_COMPAT_MASK_w", 0x84020, 3, 0x4, 1, 0x4, .b, .all, 0xFFFFFFFF, 0x0, 0x0, 0x0⟩,
  ⟨"LPHY_COMPAT_DROP_CNT", 0x84030, 1, 0x4, 1, 0x4, .b, .all, 0x0, 0xFFFFFFFF, 0x0, 0x0⟩,
  ⟨"LPHY_DETCFG", 0x85000, 1, 0x4, 1, 0x4, .b, .all, 0xFFFFF, 0x0, 0x0, 0xAA863⟩,
  ⟨"LPHY_DETTHR", 0x85004, 1, 0x4, 1, 0x4, .b, .all, 0xFFFFFF, 0x0, 0x0, 0x282424⟩,
  ⟨"LPHY_COMB_CNT", 0x85008, 1, 0x4, 1, 0x4, .b, .all, 0x0, 0xFFFFFFFF, 0x0, 0x0⟩,
  ⟨"LPHY_SPLIT_CNT", 0x8500C, 1, 0x4, 1, 0x4, .b, .all, 0x0, 0xFFFFFFFF, 0x0, 0x0⟩,
  ⟨"LPHY_DETSTAT_c", 0x85100, 6, 0x20, 1, 0x4, .b, .all, 0x0, 0x0, 0x0, 0x0⟩,
  ⟨"LPHY_FALSE_SYNC_CNT_c", 0x85104, 6, 0x20, 1, 0x4, .b, .all, 0x0, 0xFFFFFFFF, 0x0, 0x0⟩,
  ⟨"LPHY_RESYNC_CNT_c", 0x85108, 6, 0x20, 1, 0x4, .b, .all, 0x0, 0xFFFFFFFF, 0x0, 0x0⟩,
  ⟨"LPHY_CAPTURED_CNT_c", 0x8510C, 6, 0x20, 1, 0x4, .b, .all, 0x0, 0xFFFFFFFF, 0x0, 0x0⟩,
  ⟨"LPHY_BLANK_CNT_c", 0x85110, 6, 0x20, 1, 0x4, .b, .all, 0x0, 0xFFFFFFFF, 0x0, 0x0⟩,
  ⟨"LPHY_STEP_CNT_c", 0x85114, 6, 0x20, 1, 0x4, .b, .all, 0x0, 0xFFFFFFFF, 0x0, 0x0⟩,
  ⟨"LPHY_SELF_DROP_CNT_c", 0x85118, 6, 0x20, 1, 0x4, .b, .all, 0x0, 0xFFFFFFFF, 0x0, 0x0⟩,
  ⟨"LPHY_LDFLT_t", 0x85200, 3, 0x10, 1, 0x4, .b, .all, 0x0, 0x4, 0x0, 0x0⟩,
  ⟨"LPHY_ABORT_CNT_t", 0x85204, 3, 0x10, 1, 0x4, .b, .all, 0x0, 0xFFFFFFFF, 0x0, 0x0⟩,
  ⟨"LPHY_ACK_HELD_CNT_t", 0x85208, 3, 0x10, 1, 0x4, .b, .all, 0x0, 0xFFFFFFFF, 0x0, 0x0⟩]

/-- Registers of the `SWP` block (R495). -/
def regRowsSwp : List RegRow := [
  ⟨"SWP_CFG", 0xC0000, 1, 0x4, 1, 0x4, .b, .all, 0xFFFFF, 0x0, 0x0, 0xFFFC⟩,
  ⟨"SWP_STATUS", 0xC0004, 1, 0x4, 1, 0x4, .b, .all, 0x0, 0x7, 0x0, 0x0⟩,
  ⟨"SWP_RX_CNT_b", 0xC0010, 2, 0x4, 1, 0x4, .b, .all, 0x0, 0xFFFFFFFF, 0x0, 0x0⟩]

/-- Registers of the `LMAC` block (R495). -/
def regRowsLmac : List RegRow := [
  ⟨"LMAC_SFCFG", 0xD0000, 1, 0x4, 1, 0x4, .b, .all, 0x3FFFFF, 0x0, 0x0, 0xC8100⟩,
  ⟨"LMAC_SF_NUM", 0xD0004, 1, 0x4, 1, 0x4, .b, .all, 0x0, 0x0, 0x0, 0x0⟩,
  ⟨"LMAC_SF_OPEN", 0xD0008, 1, 0x4, 1, 0x4, .b, .all, 0x0, 0x0, 0x0, 0x0⟩,
  ⟨"LMAC_SF_STAT", 0xD000C, 1, 0x4, 1, 0x4, .b, .all, 0x0, 0x0, 0x0, 0x0⟩,
  ⟨"LMAC_OWN", 0xD0010, 1, 0x4, 1, 0x4, .b, .all, 0xFFFFFFFF, 0x0, 0x0, 0xFFFF0000⟩,
  ⟨"LMAC_ARQ", 0xD0014, 1, 0x4, 1, 0x4, .b, .all, 0x1FFF, 0x0, 0x0, 0x382⟩,
  ⟨"LMAC_ASSOC_CFG", 0xD0018, 1, 0x4, 1, 0x4, .b, .all, 0x7F, 0x0, 0x0, 0x0⟩,
  ⟨"LMAC_PHASEID", 0xD001C, 1, 0x4, 1, 0x4, .b, .all, 0xFFFF, 0x0, 0x0, 0x3AAB⟩,
  ⟨"LMAC_ROUTE_CFG", 0xD0020, 1, 0x4, 1, 0x4, .b, .all, 0xFFFFFFFF, 0x0, 0x0, 0xF2035AC⟩,
  ⟨"LMAC_ROUTE_STAT", 0xD0024, 1, 0x4, 1, 0x4, .b, .all, 0x0, 0x800, 0x0, 0x0⟩,
  ⟨"LMAC_DUP_RX", 0xD0040, 1, 0x4, 1, 0x4, .b, .all, 0x0, 0xFFFFFFFF, 0x0, 0x0⟩,
  ⟨"LMAC_MIC_FAIL_CNT", 0xD0044, 1, 0x4, 1, 0x4, .b, .all, 0x0, 0xFFFFFFFF, 0x0, 0x0⟩,
  ⟨"LMAC_SEC_LOW_CNT", 0xD0048, 1, 0x4, 1, 0x4, .b, .all, 0x0, 0xFFFFFFFF, 0x0, 0x0⟩,
  ⟨"LMAC_NO_ACK_CNT", 0xD004C, 1, 0x4, 1, 0x4, .b, .all, 0x0, 0xFFFFFFFF, 0x0, 0x0⟩,
  ⟨"LMAC_RETX_CNT", 0xD0050, 1, 0x4, 1, 0x4, .b, .all, 0x0, 0xFFFFFFFF, 0x0, 0x0⟩,
  ⟨"LMAC_UNKNOWN_CNT", 0xD0054, 1, 0x4, 1, 0x4, .b, .all, 0x0, 0xFFFFFFFF, 0x0, 0x0⟩,
  ⟨"LMAC_SLOT_SKIP_CNT", 0xD0058, 1, 0x4, 1, 0x4, .b, .all, 0x0, 0xFFFFFFFF, 0x0, 0x0⟩,
  ⟨"LMAC_TMAP_REJ_CNT", 0xD005C, 1, 0x4, 1, 0x4, .b, .all, 0x0, 0xFFFFFFFF, 0x0, 0x0⟩,
  ⟨"LMAC_PHASE_UNC_CNT", 0xD0060, 1, 0x4, 1, 0x4, .b, .all, 0x0, 0xFFFFFFFF, 0x0, 0x0⟩,
  ⟨"LMAC_QUIET_REF_CNT", 0xD0064, 1, 0x4, 1, 0x4, .b, .all, 0x0, 0xFFFFFFFF, 0x0, 0x0⟩,
  ⟨"LMAC_ACK_BLOCKED_CNT", 0xD0068, 1, 0x4, 1, 0x4, .b, .all, 0x0, 0xFFFFFFFF, 0x0, 0x0⟩,
  ⟨"LMAC_SLOTMAP_w", 0xD0100, 128, 0x4, 1, 0x4, .b, .all, 0xFFFFFFFF, 0x0, 0x0, 0x0⟩,
  ⟨"LMAC_NMAP_c_b", 0xD1000, 6, 0x80, 32, 0x4, .b, .all, 0x0, 0x0, 0x0, 0x0⟩,
  ⟨"LMAC_NMAP_STAT_c", 0xD1300, 6, 0x4, 1, 0x4, .b, .all, 0x0, 0x0, 0x4, 0x1⟩,
  ⟨"DLV_RING_CFG", 0xD2000, 1, 0x4, 1, 0x4, .c, .self, 0xBFFFFFC0, 0x0, 0x0, 0x0⟩,
  ⟨"DLV_RING_WR", 0xD2004, 1, 0x4, 1, 0x4, .c, .self, 0x0, 0x0, 0x0, 0x0⟩,
  ⟨"DLV_RING_RD", 0xD2008, 1, 0x4, 1, 0x4, .c, .self, 0x7FFFFF, 0x0, 0x0, 0x0⟩]

/-- Registers of the `RADIO` block (R495). -/
def regRowsRadio : List RegRow := [
  ⟨"RADIO_CFG", 0xE0000, 1, 0x4, 1, 0x4, .b, .all, 0x1FFFFF, 0x0, 0x0, 0xA0020⟩,
  ⟨"RADIO_FEM", 0xE0004, 1, 0x4, 1, 0x4, .b, .all, 0xFFFFF, 0x0, 0x0, 0x28050⟩,
  ⟨"RADIO_SFCFG", 0xE0008, 1, 0x4, 1, 0x4, .b, .all, 0x3FFF, 0x0, 0x0, 0x3E8⟩,
  ⟨"RADIO_ANCHOR_S", 0xE000C, 1, 0x4, 1, 0x4, .b, .all, 0xFFFFFFFF, 0x0, 0x0, 0x0⟩,
  ⟨"RADIO_SF_NUM", 0xE0010, 1, 0x4, 1, 0x4, .b, .all, 0x0, 0x0, 0x0, 0x0⟩,
  ⟨"RADIO_SF_STAT", 0xE0014, 1, 0x4, 1, 0x4, .b, .all, 0x0, 0x0, 0x0, 0x0⟩,
  ⟨"RADIO_GUARD", 0xE0018, 1, 0x4, 1, 0x4, .b, .all, 0x7FFFFFF, 0x0, 0x0, 0x823228⟩,
  ⟨"RADIO_POLL", 0xE001C, 1, 0x4, 1, 0x4, .b, .all, 0xFFFF, 0x0, 0x0, 0x214⟩,
  ⟨"RADIO_STATUS", 0xE0020, 1, 0x4, 1, 0x4, .b, .all, 0x0, 0x1, 0x0, 0x0⟩,
  ⟨"RF_MISS_CNT", 0xE0040, 1, 0x4, 1, 0x4, .b, .all, 0x0, 0xFFFFFFFF, 0x0, 0x0⟩,
  ⟨"RF_WAKE_LOST_CNT", 0xE0044, 1, 0x4, 1, 0x4, .b, .all, 0x0, 0xFFFFFFFF, 0x0, 0x0⟩,
  ⟨"RF_CONN_LOST_CNT", 0xE0048, 1, 0x4, 1, 0x4, .b, .all, 0x0, 0xFFFFFFFF, 0x0, 0x0⟩,
  ⟨"RF_DUTY_DENY_CNT", 0xE004C, 1, 0x4, 1, 0x4, .b, .all, 0x0, 0xFFFFFFFF, 0x0, 0x0⟩,
  ⟨"RF_ACK_DENIED_CNT", 0xE0050, 1, 0x4, 1, 0x4, .b, .all, 0x0, 0xFFFFFFFF, 0x0, 0x0⟩,
  ⟨"RF_EVT_MISMATCH_CNT", 0xE0054, 1, 0x4, 1, 0x4, .b, .all, 0x0, 0xFFFFFFFF, 0x0, 0x0⟩,
  ⟨"RF_DUP_RX", 0xE0058, 1, 0x4, 1, 0x4, .b, .all, 0x0, 0xFFFFFFFF, 0x0, 0x0⟩,
  ⟨"RF_MIC_FAIL_CNT", 0xE005C, 1, 0x4, 1, 0x4, .b, .all, 0x0, 0xFFFFFFFF, 0x0, 0x0⟩,
  ⟨"RF_FCS_FAIL_CNT", 0xE0060, 1, 0x4, 1, 0x4, .b, .all, 0x0, 0xFFFFFFFF, 0x0, 0x0⟩,
  ⟨"RF_NO_ACK_CNT", 0xE0064, 1, 0x4, 1, 0x4, .b, .all, 0x0, 0xFFFFFFFF, 0x0, 0x0⟩,
  ⟨"RADIO_CHAN_n", 0xE0100, 64, 0x4, 1, 0x4, .b, .all, 0x1FFFFF, 0x0, 0x0, 0x0⟩,
  ⟨"DC_LO_a", 0xE0400, 8, 0x20, 1, 0x4, .a, .all, 0x800FFFFF, 0x0, 0x0, 0x0⟩,
  ⟨"DC_HI_a", 0xE0404, 8, 0x20, 1, 0x4, .a, .all, 0xFFFFF, 0x0, 0x0, 0x0⟩,
  ⟨"DC_LIMIT_a", 0xE0408, 8, 0x20, 1, 0x4, .a, .all, 0xFFFFF, 0x0, 0x0, 0x0⟩,
  ⟨"DC_RESERVE_a", 0xE040C, 8, 0x20, 1, 0x4, .a, .all, 0xFFFF, 0x0, 0x0, 0x0⟩,
  ⟨"DC_USED_a", 0xE0410, 8, 0x20, 1, 0x4, .a, .all, 0x0, 0x0, 0x0, 0x0⟩,
  ⟨"DC_DENY_CNT_a", 0xE0414, 8, 0x20, 1, 0x4, .a, .all, 0x0, 0xFFFFFFFF, 0x0, 0x0⟩,
  ⟨"DC_STATUS", 0xE0500, 1, 0x4, 1, 0x4, .a, .all, 0x0, 0x8, 0x0, 0x0⟩,
  ⟨"DC_CKPT_S", 0xE0504, 1, 0x4, 1, 0x4, .a, .all, 0x0, 0x0, 0x0, 0x0⟩]

/-- Registers of the `CIPH` block (R495). -/
def regRowsCiph : List RegRow := [
  ⟨"CIPH_CFG", 0x100000, 1, 0x4, 1, 0x4, .b, .all, 0xF, 0x0, 0x0, 0x0⟩,
  ⟨"CIPH_FC_LIMIT", 0x100004, 1, 0x4, 1, 0x4, .b, .all, 0xFFFFFFFF, 0x0, 0x0, 0xFFFFFFFF⟩,
  ⟨"CIPH_FC_WARN", 0x100008, 1, 0x4, 1, 0x4, .b, .all, 0xFFFFFFFF, 0x0, 0x0, 0x100000⟩,
  ⟨"CIPH_OWN_EUI_n", 0x10000C, 2, 0x4, 1, 0x4, .a, .all, 0x0, 0x0, 0x0, 0x0⟩,
  ⟨"CIPH_STATUS", 0x100014, 1, 0x4, 1, 0x4, .b, .all, 0x0, 0x0, 0x0, 0x0⟩,
  ⟨"CIPH_FAULT_CNT", 0x100020, 1, 0x4, 1, 0x4, .b, .all, 0x0, 0xFFFFFFFF, 0x0, 0x0⟩,
  ⟨"CIPH_AUTH_FAIL_CNT", 0x100024, 1, 0x4, 1, 0x4, .b, .all, 0x0, 0xFFFFFFFF, 0x0, 0x0⟩,
  ⟨"CIPH_IMPORT_FAIL_CNT", 0x100028, 1, 0x4, 1, 0x4, .b, .all, 0x0, 0xFFFFFFFF, 0x0, 0x0⟩,
  ⟨"CIPH_REKEY_REFUSED_CNT", 0x10002C, 1, 0x4, 1, 0x4, .b, .all, 0x0, 0xFFFFFFFF, 0x0, 0x0⟩,
  ⟨"CIPH_FC_INVALID_CNT", 0x100030, 1, 0x4, 1, 0x4, .b, .all, 0x0, 0xFFFFFFFF, 0x0, 0x0⟩,
  ⟨"CIPH_XPUB_n", 0x100100, 24, 0x4, 1, 0x4, .a, .all, 0x0, 0x0, 0x0, 0x0⟩,
  ⟨"CIPH_XSIG_n", 0x100180, 24, 0x4, 1, 0x4, .a, .all, 0x0, 0x0, 0x0, 0x0⟩,
  ⟨"KEY_INFO_n", 0x101000, 256, 0x10, 1, 0x4, .c, .key, 0x0, 0x8000, 0x0, 0x0⟩,
  ⟨"KEY_USE_LO_n", 0x101004, 256, 0x10, 1, 0x4, .c, .key, 0x0, 0x0, 0x0, 0x0⟩,
  ⟨"KEY_LIMIT_LO_n", 0x101008, 256, 0x10, 1, 0x4, .c, .key, 0xFFFFFFFF, 0x0, 0x0, 0xFFFFFFFF⟩,
  ⟨"KEY_HI_n", 0x10100C, 256, 0x10, 1, 0x4, .c, .key, 0xFFFF0000, 0x0, 0x0, 0xFFFF0000⟩,
  ⟨"KEY_GEN_n", 0x103000, 256, 0x4, 1, 0x4, .b, .key, 0x0, 0x0, 0x0, 0x0⟩]

/-- Registers of the `NCP` block (R495). -/
def regRowsNcp : List RegRow := [
  ⟨"NCP_CFG", 0x120000, 1, 0x4, 1, 0x4, .b, .all, 0xFF, 0x0, 0x100, 0xA⟩,
  ⟨"NCP_STATUS", 0x120004, 1, 0x4, 1, 0x4, .b, .all, 0x0, 0x0, 0x0, 0x0⟩,
  ⟨"NCP_INDEX_STAT", 0x120008, 1, 0x4, 1, 0x4, .b, .all, 0x0, 0x0, 0x0, 0x0⟩,
  ⟨"NCP_MISS_MAX", 0x12000C, 1, 0x4, 1, 0x4, .b, .all, 0x0, 0x10000, 0x0, 0x0⟩,
  ⟨"NCP_MISS_CNT", 0x120020, 1, 0x4, 1, 0x4, .b, .all, 0x0, 0xFFFFFFFF, 0x0, 0x0⟩,
  ⟨"NCP_MISS_SLOW_CNT", 0x120024, 1, 0x4, 1, 0x4, .b, .all, 0x0, 0xFFFFFFFF, 0x0, 0x0⟩,
  ⟨"NCP_CTX_LATE_CNT", 0x120028, 1, 0x4, 1, 0x4, .b, .all, 0x0, 0xFFFFFFFF, 0x0, 0x0⟩,
  ⟨"NCP_BUF_FULL_CNT", 0x12002C, 1, 0x4, 1, 0x4, .b, .all, 0x0, 0xFFFFFFFF, 0x0, 0x0⟩,
  ⟨"DELIV_REFUSED_CNT", 0x120030, 1, 0x4, 1, 0x4, .b, .all, 0x0, 0xFFFFFFFF, 0x0, 0x0⟩,
  ⟨"DELIV_FULL_CNT", 0x120034, 1, 0x4, 1, 0x4, .b, .all, 0x0, 0xFFFFFFFF, 0x0, 0x0⟩,
  ⟨"NCP_PAGE_ERR_CNT", 0x120038, 1, 0x4, 1, 0x4, .b, .all, 0x0, 0xFFFFFFFF, 0x0, 0x0⟩]

/-- Registers of the `STOR` block (R495). -/
def regRowsStor : List RegRow := [
  ⟨"STOR_CFG", 0x140000, 1, 0x4, 1, 0x4, .b, .all, 0x7FFFFF, 0x0, 0x0, 0x5A0BB8⟩,
  ⟨"STOR_STATUS", 0x140004, 1, 0x4, 1, 0x4, .b, .all, 0x0, 0x0, 0x0, 0x0⟩,
  ⟨"STOR_CAP", 0x140008, 1, 0x4, 1, 0x4, .b, .all, 0x0, 0x0, 0x0, 0x0⟩,
  ⟨"STOR_FREE", 0x14000C, 1, 0x4, 1, 0x4, .b, .all, 0x0, 0x0, 0x0, 0x0⟩,
  ⟨"STOR_WEAR", 0x140010, 1, 0x4, 1, 0x4, .b, .all, 0x0, 0x0, 0x0, 0x0⟩,
  ⟨"STOR_BAD", 0x140014, 1, 0x4, 1, 0x4, .b, .all, 0x0, 0x0, 0x0, 0x0⟩,
  ⟨"STOR_JOURNAL_SEQ", 0x140018, 1, 0x4, 1, 0x4, .b, .all, 0x0, 0x0, 0x0, 0x0⟩,
  ⟨"STOR_CORR_CNT", 0x140040, 1, 0x4, 1, 0x4, .b, .all, 0x0, 0xFFFFFFFF, 0x0, 0x0⟩,
  ⟨"STOR_UNCORR_CNT", 0x140044, 1, 0x4, 1, 0x4, .b, .all, 0x0, 0xFFFFFFFF, 0x0, 0x0⟩,
  ⟨"STOR_RETRY_CNT", 0x140048, 1, 0x4, 1, 0x4, .b, .all, 0x0, 0xFFFFFFFF, 0x0, 0x0⟩,
  ⟨"STOR_SUSPEND_CNT", 0x14004C, 1, 0x4, 1, 0x4, .b, .all, 0x0, 0xFFFFFFFF, 0x0, 0x0⟩,
  ⟨"STOR_NS_SIZE_n", 0x140100, 16, 0x10, 1, 0x4, .b, .ns, 0x0, 0x0, 0x0, 0x0⟩,
  ⟨"STOR_NS_STAT_n", 0x140104, 16, 0x10, 1, 0x4, .b, .ns, 0x0, 0x0, 0x0, 0x0⟩,
  ⟨"STOR_NS_USED_n", 0x140108, 16, 0x10, 1, 0x4, .b, .ns, 0x0, 0x0, 0x0, 0x0⟩]

/-- Registers of the `PLMB` block (R495). -/
def regRowsPlmb : List RegRow := [
  ⟨"PLMB_CFG", 0x160000, 1, 0x4, 1, 0x4, .a, .all, 0x7FF, 0x0, 0x0, 0x120⟩,
  ⟨"PLMB_BW", 0x160004, 1, 0x4, 1, 0x4, .a, .all, 0x7FFFFFF, 0x0, 0x0, 0xA02832⟩,
  ⟨"PLMB_SWITCH", 0x160008, 1, 0x4, 1, 0x4, .a, .all, 0xFFFFFFF, 0x0, 0x0, 0x3E812C⟩,
  ⟨"PLMB_STEER", 0x16000C, 1, 0x4, 1, 0x4, .a, .all, 0xFFFFFFFF, 0x0, 0x0, 0x0⟩,
  ⟨"PLMB_STATUS", 0x160010, 1, 0x4, 1, 0x4, .a, .all, 0x0, 0x200, 0x0, 0x0⟩,
  ⟨"PLMB_FUNC", 0x160014, 1, 0x4, 1, 0x4, .a, .all, 0x0, 0x0, 0x0, 0xFA⟩,
  ⟨"PLMB_FREQ", 0x160018, 1, 0x4, 1, 0x4, .a, .all, 0x0, 0x0, 0x0, 0x0⟩,
  ⟨"PLMB_PHASE_ERR", 0x16001C, 1, 0x4, 1, 0x4, .a, .all, 0x0, 0x0, 0x0, 0x0⟩,
  ⟨"PLMB_TB_SEC", 0x160020, 1, 0x4, 1, 0x4, .a, .all, 0x0, 0x0, 0x0, 0x0⟩,
  ⟨"PLMB_TB_FRAC", 0x160024, 1, 0x4, 1, 0x4, .a, .all, 0x0, 0x0, 0x0, 0x0⟩,
  ⟨"PLMB_TOD_SET", 0x160028, 1, 0x4, 1, 0x4, .a, .all, 0x0, 0x0, 0x0, 0x0⟩,
  ⟨"PLMB_REL_S", 0x16002C, 1, 0x4, 1, 0x4, .a, .all, 0x0, 0x0, 0x0, 0x0⟩,
  ⟨"PLMB_HOST_SAMPLE", 0x160030, 1, 0x4, 1, 0x4, .a, .hostSample, 0x0, 0x0, 0x0, 0x0⟩,
  ⟨"PLMB_ALIGN", 0x160034, 1, 0x4, 1, 0x4, .a, .all, 0x0, 0x0, 0xD, 0x0⟩,
  ⟨"PLMB_PPS_OUTLIER_CNT", 0x160040, 1, 0x4, 1, 0x4, .a, .all, 0x0, 0xFFFFFFFF, 0x0, 0x0⟩,
  ⟨"PLMB_HOST_LATE_CNT", 0x160044, 1, 0x4, 1, 0x4, .a, .all, 0x0, 0xFFFFFFFF, 0x0, 0x0⟩,
  ⟨"PLMB_SWITCH_CNT", 0x160048, 1, 0x4, 1, 0x4, .a, .all, 0x0, 0xFFFFFFFF, 0x0, 0x0⟩,
  ⟨"PLMB_OUT_CFG_n", 0x160080, 4, 0x10, 1, 0x4, .a, .all, 0xFFFF0007, 0x0, 0x0, 0x640000⟩,
  ⟨"PLMB_OUT_PERIOD_n", 0x160084, 2, 0x10, 1, 0x4, .a, .all, 0x0, 0x0, 0x0, 0x3B9ACA00⟩,
  ⟨"PLMB_OUT_PHASE_n", 0x160088, 4, 0x10, 1, 0x4, .a, .all, 0x3FFFFFFF, 0x0, 0x0, 0x0⟩,
  ⟨"PLMB_OUT_STAT_n", 0x16008C, 4, 0x10, 1, 0x4, .a, .all, 0x0, 0x0, 0x0, 0x0⟩,
  ⟨"PLMB_OUT_PERIOD_n", 0x1600A4, 2, 0x10, 1, 0x4, .a, .all, 0xFFFFFFFF, 0x0, 0x0, 0x3B9ACA00⟩,
  ⟨"PLMB_ZX_CFG_x", 0x160100, 3, 0x20, 1, 0x4, .a, .all, 0x3FF, 0x0, 0x0, 0x32⟩,
  ⟨"ZX_STAT_x", 0x160104, 3, 0x20, 1, 0x4, .a, .all, 0x0, 0x0, 0x0, 0x2⟩,
  ⟨"ZX_NUM_x", 0x160108, 3, 0x20, 1, 0x4, .a, .all, 0x0, 0x0, 0x0, 0x0⟩,
  ⟨"ZX_T_LO_x", 0x16010C, 3, 0x20, 1, 0x4, .a, .all, 0x0, 0x0, 0x0, 0x0⟩,
  ⟨"ZX_T_HI_x", 0x160110, 3, 0x20, 1, 0x4, .a, .all, 0x0, 0x0, 0x0, 0x0⟩,
  ⟨"ZX_FREQ_x", 0x160114, 3, 0x20, 1, 0x4, .a, .all, 0x0, 0x0, 0x0, 0x0⟩,
  ⟨"ZX_PHASE_x", 0x160118, 3, 0x20, 1, 0x4, .a, .all, 0x0, 0x0, 0x0, 0x0⟩,
  ⟨"ZX_REJECT_CNT_x", 0x16011C, 3, 0x20, 1, 0x4, .a, .all, 0x0, 0xFFFFFFFF, 0x0, 0x0⟩]

/-- Registers of the `SER` block (R495). -/
def regRowsSer : List RegRow := [
  ⟨"UART_CFG_n", 0x170000, 4, 0x100, 1, 0x4, .c, .uart, 0x7FFFFF, 0x0, 0x0, 0x10⟩,
  ⟨"UART_BAUD_n", 0x170004, 4, 0x100, 1, 0x4, .c, .uart, 0x3FFFFFF, 0x0, 0x0, 0x21E89⟩,
  ⟨"UART_TIMING_n", 0x170008, 4, 0x100, 1, 0x4, .c, .uart, 0xFFFFFF, 0x0, 0x0, 0x204010⟩,
  ⟨"UART_FRAME_n", 0x17000C, 4, 0x100, 1, 0x4, .c, .uart, 0xFFFF, 0x0, 0x0, 0xB10D⟩,
  ⟨"UART_STATUS_n", 0x170010, 4, 0x100, 1, 0x4, .c, .uart, 0x0, 0xD0000, 0x0, 0x0⟩,
  ⟨"UART_BRK_LEN_n", 0x170014, 4, 0x100, 1, 0x4, .c, .uart, 0x0, 0x0, 0x0, 0x0⟩,
  ⟨"UART_RXDATA_n", 0x170018, 4, 0x100, 1, 0x4, .c, .uart, 0x0, 0x0, 0x0, 0x0⟩,
  ⟨"UART_TXDATA_n", 0x17001C, 4, 0x100, 1, 0x4, .c, .uart, 0x0, 0x0, 0x0, 0x0⟩,
  ⟨"UART_CAUSE_n", 0x170020, 4, 0x100, 1, 0x4, .c, .uart, 0xFF0000, 0xFF, 0x0, 0x0⟩,
  ⟨"UART_OVR_CNT_n", 0x170024, 4, 0x100, 1, 0x4, .c, .uart, 0x0, 0xFFFFFFFF, 0x0, 0x0⟩,
  ⟨"UART_ERR_CNT_n", 0x170028, 4, 0x100, 1, 0x4, .c, .uart, 0x0, 0xFFFFFFFF, 0x0, 0x0⟩,
  ⟨"UART_BRK_CNT_n", 0x17002C, 4, 0x100, 1, 0x4, .c, .uart, 0x0, 0xFFFFFFFF, 0x0, 0x0⟩,
  ⟨"UART_RESP_n_i", 0x170400, 4, 0x100, 64, 0x4, .c, .uart, 0x7FF, 0x0, 0x0, 0x0⟩,
  ⟨"RING_CFG", 0x171000, 1, 0x4, 1, 0x4, .b, .all, 0xFFFFFFF, 0x0, 0x0, 0x40040⟩,
  ⟨"RING_CFG2", 0x171004, 1, 0x4, 1, 0x4, .b, .all, 0x3FFFFFFF, 0x0, 0x0, 0x100016⟩,
  ⟨"RING_SILENT", 0x171008, 1, 0x4, 1, 0x4, .b, .all, 0xFFFF, 0x0, 0x0, 0x3E8⟩,
  ⟨"RING_FILTER_w", 0x17100C, 2, 0x4, 1, 0x4, .b, .ringFilter, 0xFFFFFFFF, 0x0, 0x0, 0x0⟩,
  ⟨"RING_STATUS", 0x171014, 1, 0x4, 1, 0x4, .b, .all, 0x0, 0x1000, 0x0, 0x1⟩,
  ⟨"RING_CAUSE", 0x171018, 1, 0x4, 1, 0x4, .b, .all, 0x7F0000, 0x7F, 0x0, 0x0⟩,
  ⟨"RING_RX_CNT", 0x171020, 1, 0x4, 1, 0x4, .b, .all, 0x0, 0xFFFFFFFF, 0x0, 0x0⟩,
  ⟨"RING_CRC_CNT", 0x171024, 1, 0x4, 1, 0x4, .b, .all, 0x0, 0xFFFFFFFF, 0x0, 0x0⟩,
  ⟨"RING_FRAG_CNT", 0x171028, 1, 0x4, 1, 0x4, .b, .all, 0x0, 0xFFFFFFFF, 0x0, 0x0⟩,
  ⟨"RING_ORPHAN_CNT", 0x17102C, 1, 0x4, 1, 0x4, .b, .all, 0x0, 0xFFFFFFFF, 0x0, 0x0⟩,
  ⟨"RING_RX_LOST_CNT", 0x171030, 1, 0x4, 1, 0x4, .b, .all, 0x0, 0xFFFFFFFF, 0x0, 0x0⟩,
  ⟨"CHK_CFG_k", 0x172000, 4, 0x40, 1, 0x4, .c, .chk, 0x3F, 0x0, 0x0, 0x1C⟩,
  ⟨"CHK_INIT_k", 0x172004, 4, 0x40, 1, 0x4, .c, .chk, 0xFFFFFFFF, 0x0, 0x0, 0xFFFFFFFF⟩,
  ⟨"CHK_XOROUT_k", 0x172008, 4, 0x40, 1, 0x4, .c, .chk, 0xFFFFFFFF, 0x0, 0x0, 0xFFFFFFFF⟩,
  ⟨"CHK_FEED8_k", 0x17200C, 4, 0x40, 1, 0x4, .c, .chk, 0x0, 0x0, 0x0, 0x0⟩,
  ⟨"CHK_FEED16_k", 0x172010, 4, 0x40, 1, 0x4, .c, .chk, 0x0, 0x0, 0x0, 0x0⟩,
  ⟨"CHK_FEED32_k", 0x172014, 4, 0x40, 1, 0x4, .c, .chk, 0x0, 0x0, 0x0, 0x0⟩,
  ⟨"CHK_RESULT_k", 0x172018, 4, 0x40, 1, 0x4, .c, .chk, 0x0, 0x0, 0x0, 0x0⟩,
  ⟨"CHK_EXPECTED_k", 0x17201C, 4, 0x40, 1, 0x4, .c, .chk, 0xFFFFFFFF, 0x0, 0x0, 0x0⟩,
  ⟨"CHK_CTL_k", 0x172020, 4, 0x40, 1, 0x4, .c, .chk, 0x0, 0x0, 0x0, 0x0⟩,
  ⟨"CHK_ALIVE_k", 0x172024, 4, 0x40, 1, 0x4, .c, .chk, 0xFFFFF, 0x0, 0x0, 0x10000⟩,
  ⟨"CHK_STATUS_k", 0x172028, 4, 0x40, 1, 0x4, .c, .chk, 0xF00, 0x1E, 0x0, 0x0⟩,
  ⟨"CHK_MISMATCH_CNT_k", 0x17202C, 4, 0x40, 1, 0x4, .c, .chk, 0x0, 0xFFFFFFFF, 0x0, 0x0⟩]

/-- Registers of the `PWR` block (R495). -/
def regRowsPwr : List RegRow := [
  ⟨"PWR_BUDGET", 0x180000, 1, 0x4, 1, 0x4, .b, .all, 0x7F, 0x0, 0x0, 0x0⟩,
  ⟨"PWR_LD_CFG", 0x180004, 1, 0x4, 1, 0x4, .b, .all, 0xFFFF, 0x0, 0x0, 0x0⟩,
  ⟨"PWR_LD_MW_t", 0x180008, 3, 0x4, 1, 0x4, .b, .all, 0xFFFF, 0x0, 0x0, 0x0⟩,
  ⟨"PWR_SHARE", 0x180014, 1, 0x4, 1, 0x4, .b, .all, 0x7F7F7F7F, 0x0, 0x0, 0x64⟩,
  ⟨"PWR_LG_CFG", 0x180018, 1, 0x4, 1, 0x4, .b, .all, 0x7F, 0x0, 0x0, 0x51⟩,
  ⟨"PWR_LG_THREADS", 0x18001C, 1, 0x4, 1, 0x4, .b, .all, 0xFFFFFFFF, 0x0, 0x0, 0x0⟩,
  ⟨"PWR_CMD", 0x180020, 1, 0x4, 1, 0x4, .b, .all, 0x0, 0x0, 0x0, 0x0⟩,
  ⟨"PWR_STATUS", 0x180024, 1, 0x4, 1, 0x4, .b, .all, 0x0, 0x30, 0x0, 0x0⟩,
  ⟨"PWR_BASE", 0x180028, 1, 0x4, 1, 0x4, .b, .all, 0x0, 0x0, 0x0, 0x0⟩,
  ⟨"PWR_HELD", 0x18002C, 1, 0x4, 1, 0x4, .b, .all, 0x0, 0x0, 0x0, 0x0⟩,
  ⟨"PWR_DRW_d", 0x180030, 4, 0x4, 1, 0x4, .b, .all, 0x0, 0x0, 0x0, 0x0⟩,
  ⟨"PWR_DENY_CNT_d", 0x180040, 4, 0x4, 1, 0x4, .b, .all, 0x0, 0xFFFFFFFF, 0x0, 0x0⟩,
  ⟨"PWR_ISLAND", 0x180050, 1, 0x4, 1, 0x4, .b, .all, 0x0, 0x0, 0x0, 0x0⟩,
  ⟨"PWR_CAUSE", 0x180060, 1, 0x4, 1, 0x4, .b, .all, 0x0, 0x7, 0x0, 0x0⟩,
  ⟨"PWR_LTR_A", 0x180100, 1, 0x4, 1, 0x4, .c, .self, 0xFFFFFFFF, 0x0, 0x0, 0x0⟩,
  ⟨"PWR_LTR_B", 0x180104, 1, 0x4, 1, 0x4, .c, .self, 0xFFFFFFFF, 0x0, 0x0, 0x0⟩]

/-- Registers of the `TNL` block (R495). -/
def regRowsTnl : List RegRow := [
  ⟨"TNL_STATUS", 0x190000, 1, 0x4, 1, 0x4, .b, .all, 0x0, 0x8, 0x0, 0x0⟩,
  ⟨"TNL_CMD", 0x190004, 1, 0x4, 1, 0x4, .b, .all, 0x0, 0x0, 0x0, 0x0⟩,
  ⟨"TNL_CAUSE", 0x190008, 1, 0x4, 1, 0x4, .b, .all, 0x7F0000, 0x7F, 0x0, 0x10000⟩,
  ⟨"TNL_LOSS_INFO", 0x19000C, 1, 0x4, 1, 0x4, .b, .all, 0x0, 0x0, 0x0, 0x0⟩,
  ⟨"ECC_SCRUB", 0x190010, 1, 0x4, 1, 0x4, .b, .all, 0xFF, 0x0, 0x0, 0x3C⟩,
  ⟨"ECC_LOG", 0x190014, 1, 0x4, 1, 0x4, .b, .all, 0x0, 0x0, 0x0, 0x0⟩,
  ⟨"TNL_CORR_CNT_r", 0x190020, 2, 0x4, 1, 0x4, .b, .all, 0x0, 0xFFFFFFFF, 0x0, 0x0⟩,
  ⟨"TNL_REPLAY_CNT_r", 0x190028, 2, 0x4, 1, 0x4, .b, .all, 0x0, 0xFFFFFFFF, 0x0, 0x0⟩,
  ⟨"TNL_ERASE_CNT", 0x190030, 1, 0x4, 1, 0x4, .b, .all, 0x0, 0xFFFFFFFF, 0x0, 0x0⟩,
  ⟨"TNL_LOSS_CNT", 0x190034, 1, 0x4, 1, 0x4, .b, .all, 0x0, 0xFFFFFFFF, 0x0, 0x0⟩,
  ⟨"TNL_REG_DROP_CNT", 0x190038, 1, 0x4, 1, 0x4, .b, .all, 0x0, 0xFFFFFFFF, 0x0, 0x0⟩,
  ⟨"CTX_POISON_DROP_CNT", 0x19003C, 1, 0x4, 1, 0x4, .b, .all, 0x0, 0xFFFFFFFF, 0x0, 0x0⟩,
  ⟨"ECC_CORR_CNT_s", 0x190100, 8, 0x8, 1, 0x4, .b, .all, 0x0, 0xFFFFFFFF, 0x0, 0x0⟩,
  ⟨"ECC_UNCORR_CNT_s", 0x190104, 8, 0x8, 1, 0x4, .b, .all, 0x0, 0xFFFFFFFF, 0x0, 0x0⟩,
  ⟨"TNL_POISON_d", 0x190200, 1, 0x4, 1, 0x4, .c, .self, 0x0, 0x2000000, 0x0, 0x0⟩]

/-- Registers of the `DBG` block (R495). -/
def regRowsDbg : List RegRow := [
  ⟨"DBG_TRACE_CFG", 0x1A0000, 1, 0x4, 1, 0x4, .b, .dbg, 0xFFFFF, 0x0, 0x0, 0x23E00⟩,
  ⟨"DBG_REQ", 0x1A0004, 1, 0x4, 1, 0x4, .b, .dbg, 0x0, 0x0, 0x0, 0x0⟩,
  ⟨"DBG_STATUS", 0x1A0008, 1, 0x4, 1, 0x4, .b, .dbg, 0x0, 0x1010, 0x0, 0x0⟩,
  ⟨"DBG_TRACE_n", 0x1A0100, 64, 0x4, 1, 0x4, .b, .dbg, 0x0, 0x0, 0x0, 0x0⟩]

/-- The rows of the block that an offset lies in (R495). -/
def regRowsAt (off : Nat) : List RegRow :=
  if off < 0x10000 then regRowsDev
  else if off < 0x18000 then regRowsRst
  else if off < 0x20000 then regRowsAtt
  else if off < 0x30000 then regRowsEvt
  else if off < 0x40000 then regRowsQue
  else if off < 0x80000 then regRowsJig
  else if off < 0xC0000 then regRowsLphy
  else if off < 0xD0000 then regRowsSwp
  else if off < 0xE0000 then regRowsLmac
  else if off < 0x100000 then regRowsRadio
  else if off < 0x120000 then regRowsCiph
  else if off < 0x140000 then regRowsNcp
  else if off < 0x160000 then regRowsStor
  else if off < 0x170000 then regRowsPlmb
  else if off < 0x180000 then regRowsSer
  else if off < 0x190000 then regRowsPwr
  else if off < 0x1A0000 then regRowsTnl
  else if off < 0x1B0000 then regRowsDbg
  else []

/-- The indices `(i, j)` under which `off` is an instance of row `r`, if it is one (R11, R495). -/
def regRowIndex (r : RegRow) (off : Nat) : Option (Nat × Nat) :=
  if off < r.base then none
  else
    let i := (off - r.base) / r.stride1
    let q := (off - r.base) % r.stride1
    if i < r.count1 ∧ q / r.stride2 < r.count2 ∧ q % r.stride2 = 0 then some (i, q / r.stride2)
    else none

/-- First row of a list that an offset instantiates. -/
def findRowIn : List RegRow → Nat → Option (RegRow × Nat × Nat)
  | [], _ => none
  | r :: rs, off =>
    match regRowIndex r off with
    | some (i, j) => some (r, i, j)
    | none => findRowIn rs off

/-- The register row and instance that occupies a `CTL` offset, if one does (R489). -/
def findRow (off : Nat) : Option (RegRow × Nat × Nat) := findRowIn (regRowsAt off) off

/-- Stride of the per-drawer instances in the key of the register file: the instance of drawer `d`
of a `SELF` register at offset `o` has key `o + d * drawerStride` (R93, R103). -/
def drawerStride : Nat := 0x1000000

/-- Reset value of the register whose register-file key is `k`; 0 where no register stands (R489). -/
def regDefault (k : Nat) : Word :=
  match findRow (k % drawerStride) with
  | some (r, _, _) => BitVec.ofNat 32 r.reset
  | none => 0#32

end Sys2Proof.Machine
end

