-- ==== Sys2Proof/Machine/State.lean ====
section
/-!
DEFINITION. The state of the block as plain data: the register file of chapter 18, and beside it
every store, queue, engine, timer, counter and pin that the chapters give the 9640, chapter by
chapter; the queue of waiting commands; faults, refusals and the state after reset.
-/

namespace Sys2Proof.Machine

/-! ### Resets, option store, boot and attestation (chapter 3) -/

/-- The device reset levels A and B; `none` while neither is asserted or being released. -/
inductive Lvl where
  | none | b | a
deriving DecidableEq, Repr

/-- One copy of the option store (R78): whether its CRC is good, its generation and its field area
(26 words). -/
structure OptCopy where
  valid : Bool
  gen : BitVec 32
  words : List Word
deriving DecidableEq, Repr

/-- No copy. -/
def OptCopy.none : OptCopy := ⟨false, 0#32, []⟩

/-- The always-on island's MRAM (R78), which no reset changes: the manufacturing row, the two boot
counter slots and the two copies. -/
structure OptStore where
  /-- bytes 0 to 15 -/
  mfgRow : List Byte
  /-- `OPT_MFG.REGION_FLOOR`, from the row -/
  floor : Nat
  /-- `OPT_MFG.VARIANT`, from the row -/
  variant : Nat
  /-- `OPT_MFG.ID_KEYS`, from the row -/
  idKeys : Nat
  /-- own EUI-64, from the row -/
  eui : BitVec 64
  copy0 : OptCopy
  copy1 : OptCopy
  /-- boot counter slot 0: CRC good, count -/
  slot0 : Bool × Nat
  /-- boot counter slot 1 -/
  slot1 : Bool × Nat
deriving DecidableEq, Repr

/-- The reset controller (R61 to R75) and the commit in progress (R85). -/
structure RstState where
  /-- widest level asserted or being released -/
  level : Lvl
  /-- level A and B sources asserted now -/
  asserted : List Src
  /-- every source asserted during the present level A reset (R68) -/
  latched : List Src
  /-- steps of R72 completed, 0 to 10 -/
  seq : Nat
  /-- reset islands waiting for `CLK_OK`, and the source of each (R70) -/
  dHeld : List (Nat × Src)
  /-- straps as sampled under R53 -/
  sel2 : Bool
  sel3 : Bool
  /-- image the ROM is trying: 0 none, 1 primary, 2 secondary, 3 pushed -/
  romTry : Nat
  /-- `SVN` of the running image (R95); 0 when none runs -/
  svn : Nat
  /-- the image that `PREPARE` passed, with the generation it is written under (R84, R85) -/
  prepared : OptCopy
  /-- newer copy chosen by the commit in progress: which copy is written first (R85) -/
  commitFirst : Nat
  /-- staging words locked by a completed commit (R86) -/
  stageLocked : Bool
  /-- drawers whose level C reset is in progress was begun by a function-level reset or `PERST_N` -/
  flrHeld : List Nat
  /-- `OPT_ACTIVE_n` and `OPT_STATUS` bits [13:12] as they were before the failsafe image of R463 -/
  saved : Option (List Word × Nat)
  /-- the test port holds `EXTEST` (R58) -/
  extest : Bool
deriving DecidableEq, Repr

/-- One pending attestation request (R94): what was latched at the write. -/
structure AttReq where
  drawer : Nat
  nonce : List Word
  dest : Nat
deriving DecidableEq, Repr

/-- The attestation unit: requests in the order of their writes, and the report bytes 0 to 495
captured at the start of service (R95). -/
structure AttState where
  queue : List AttReq
  report : Option (List Byte)
deriving DecidableEq, Repr

/-! ### Entrances, queues and events (chapter 4) -/

/-- A word of a device-to-host descriptor with its uncorrectable mark. -/
structure QWordP where
  word : QWord
  poison : Bool
deriving DecidableEq, Repr

/-- A device-to-host descriptor in a queue: the words not yet popped, how many have been popped, its
level, the epoch it was written under and the instant it becomes readable (R120). -/
structure QDesc where
  words : List QWordP
  popped : Nat
  prio : Nat
  epoch : Nat
  ready : Time
deriving DecidableEq, Repr

/-- A host-to-device descriptor accepted by a doorbell and not yet taken (R116). -/
structure HDesc where
  words : List QWordP
  epoch : Nat
deriving DecidableEq, Repr

/-- A shelf queue's contents (R112 to R128); its registers are in the register file. -/
structure Queue where
  /-- host-to-device descriptors, oldest first -/
  sub : List HDesc
  /-- the 32-stage chain, front first -/
  chain : List QDesc
  /-- the backing ring, oldest first -/
  ring : List QDesc
  /-- completion entries reserved (R119) -/
  reserved : Nat
  /-- `CREDIT_RET` -/
  creditRet : Nat
  /-- word last popped, its poison mark and its status word (R121) -/
  last : QWordP
  lastStatus : Word
  /-- `QW_STAGE`, 16 words of 32 bits -/
  stage : Tab Word
deriving DecidableEq, Repr

/-- An empty queue as a reset leaves it. -/
def Queue.empty : Queue := ⟨[], [], [], 0, 0, ⟨0#128, false⟩, 0#32, []⟩

/-- A job a unit has taken (R119): where it came from, its header and its words. -/
structure Job where
  id : Nat
  unit : QUnit
  drawer : Nat
  queue : Nat
  pair : Nat
  epoch : Nat
  words : List QWordP
  /-- 0 taken, 1 waiting for a grant, 2 waiting for an engine, 3 running, 4 ended -/
  phase : Nat
  /-- status code of R118 the job will complete with -/
  status : Nat
  /-- `RESULT` of R118 -/
  result : BitVec 64
  /-- key material the job was accepted under (R349) -/
  key : List Byte
deriving DecidableEq, Repr

/-- Coalescing state of an event source (R131); the pending bit is `EVT_PEND`. -/
structure EvtSrc where
  acc : Nat
  timer : Option Time
deriving DecidableEq, Repr

/-- One MSI-X table entry (R97, R132). -/
structure Msix where
  addrLo : Word
  addrHi : Word
  data : Word
  masked : Bool
  pba : Bool
deriving DecidableEq, Repr

/-- An MSI-X entry after a function reset: masked, as the PCIe specification sets out. -/
def Msix.init : Msix := ⟨0#32, 0#32, 0#32, true, false⟩

/-- A word posted by a QSPI `WRITE` (R100). -/
structure Posted where
  sel : Nat
  off : Nat
  word : Word
deriving DecidableEq, Repr

/-- A QSPI target port: its write buffer, oldest first, and `WRITE_DROPPED`. -/
structure QspiPort where
  buf : List Posted
  dropped : Bool
deriving DecidableEq, Repr

/-- What the block drives outward: messages, bytes and levels that no register holds. -/
inductive Out where
  /-- MSI-X message of drawer `d`: address and data of the vector (R132) -/
  | msix (d vec : Nat) (addr : BitVec 64) (data : Word)
  /-- bytes driven on a QSPI port after the wait phase (R99), or the status byte (R98) -/
  | qspi (port : Nat) (bytes : List Byte)
  /-- nibble 0x5 of R99 -/
  | qspiTimeout (port : Nat)
  /-- `IO` left at high impedance until `CS_N` rises (R98) -/
  | qspiHiZ (port : Nat)
  /-- word returned to a drawer's read -/
  | read (d : Nat) (off : Nat) (v : Word)
  /-- 20 bytes of a queue read port: word, status (R121) -/
  | pop (d n : Nat) (w : QWord) (status : Word)
  /-- a line frame's emission begins on a transmitter -/
  | lineTx (t : Nat) (f : LineFrame)
  /-- a radio emission begins -/
  | radioTx (f : RfFrame)
  /-- a character, break or wake level on a UART or the ring (port 4) -/
  | serial (port : Nat) (item : Nat)
  /-- a ring frame as the node emits it -/
  | ring (f : RingFrame)
  /-- a Tenon flit resent: the receiving side and `SEQ` -/
  | flit (side seq : Nat)
  /-- a NAK that a side sends, and the `SEQ` it names -/
  | nak (side seq : Nat)
  /-- bits that the test port shifts out, lowest first: an instruction of boundary scan (R58) -/
  | tap (op : TapOp) (v : Nat)
deriving DecidableEq, Repr

/-- Entrances, events and shelf queues beside their registers. -/
structure Fabric where
  queues : Tab Queue
  jobs : List Job
  nextJob : Nat
  /-- the queue each unit served last (R119), by unit number -/
  turn : Tab Nat
  evts : Tab EvtSrc
  /-- MSI-X entries, key 64 d + vector -/
  msix : Tab Msix
  /-- MSI-X Enable and Function Mask of each drawer's function, bit 1 and bit 0 -/
  msixCtl : Tab Nat
  /-- base address registers as written, key 8 d + n (R97) -/
  bars : Tab Word
  ports : Tab QspiPort
  /-- staging memory, key d * 2^26 + offset -/
  bulk : Tab Byte
  /-- `BULK` words marked uncorrectable, key (d * 2^26 + offset) / 16 -/
  bulkPoison : Tab Bool
  /-- what the block has driven outward, newest first -/
  out : List Out
deriving DecidableEq, Repr

/-! ### Jig cores and threads (chapters 5 and 6) -/

/-- Thread states of R142. -/
inductive TState where
  | idle | run | waitTime | waitEvent | waitPage | waitGrant | halt | fault
deriving DecidableEq, Repr

/-- Flags word of R138. -/
structure Flags where
  z : Bool
  n : Bool
  c : Bool
  late : Bool
  fail : Bool
  miss : Bool
  deny : Bool
deriving DecidableEq, Repr

/-- All flags clear. -/
def Flags.zero : Flags := ⟨false, false, false, false, false, false, false⟩

/-- `TXF` descriptor (R178) with its payload as copied at issue (R177). -/
structure TxfD where
  phase : Nat
  all3 : Bool
  family : Nat
  mode : Nat
  tmap : Nat
  band : Nat
  longPrefix : Bool
  secure : Bool
  secLevel : Nat
  ackReq : Bool
  frameType : Nat
  retry : Nat
  dest : Nat
  atten : Nat
  sf : Nat
  rep4 : Bool
  payload : List Byte
  ctx : Option Nat
deriving DecidableEq, Repr

/-- `RXW` descriptor (R179) with the chain phase of rc. -/
structure RxwD where
  band : Nat
  native : Bool
  sweep : Bool
  compat : Bool
  filterEn : Bool
  durUs : Nat
  src : Nat
  phase : Nat
deriving DecidableEq, Repr

/-- `RTX` descriptor (R180) with its payload. -/
structure RtxD where
  opmode : Nat
  fec : Bool
  whiten : Bool
  secure : Bool
  secLevel : Nat
  ackReq : Bool
  frameType : Nat
  retry : Nat
  channel : Nat
  chanFixed : Bool
  dest : Nat
  level : Nat
  payload : List Byte
  ctx : Option Nat
deriving DecidableEq, Repr

/-- `RRX` descriptor (R181). -/
structure RrxD where
  opmode : Nat
  fec : Bool
  whiten : Bool
  widen : Bool
  filterEn : Bool
  channel : Nat
  chanFixed : Bool
  durUs : Nat
  src : Nat
  ctx : Option Nat
deriving DecidableEq, Repr

/-- `CYP` descriptor (R186) with the areas copied at issue (R187). -/
structure CypD where
  /-- the descriptor: the areas it names are copied when the job is accepted (R187) -/
  desc : List Byte
  mode : Nat
  decrypt : Bool
  pad : Nat
  tagLen : Nat
  dst : Nat
  tagAddr : Nat
  key : Nat
  /-- key material the job was accepted under (R349) -/
  keyMat : List Byte
  input : List Byte
  aad : List Byte
  iv : List Byte
  tag : List Byte
deriving DecidableEq, Repr

/-- What an action slot holds. -/
inductive Body where
  | none
  | txf (d : TxfD)
  | rxw (d : RxwD)
  | rtx (d : RtxD)
  | rrx (d : RrxD)
  | cyp (d : CypD)
deriving DecidableEq, Repr

/-- Progress of a pending action. -/
inductive Stage where
  /-- not pending -/
  | none
  /-- issued, its instant ahead -/
  | waiting
  /-- emitting -/
  | emitting
  /-- `ACK_WAIT` of R295 and R328 -/
  | ackWait
  /-- a retransmission is to be placed -/
  | place
  /-- a receive window is open -/
  | rxOpen
  /-- the window has closed and a frame detected in it is still on the air -/
  | closing
  /-- a `CYP` job waits for the pipeline -/
  | queued
  /-- a `CYP` job runs -/
  | running
deriving DecidableEq, Repr

/-- An action slot: its `ACT_REC` (R140), what it holds and how far it has come. -/
structure Act where
  status : Nat
  cause : Nat
  info : Nat
  body : Body
  stage : Stage
  /-- instant of the action; for `ASAP`, the first instant the hardware can meet -/
  instant : Time
  asap : Bool
  /-- frame counter value taken (R354) and the key that it is of (R355) -/
  fc : Option Nat
  key : List Byte
  /-- MAC sequence number -/
  seq : Nat
  /-- PHY mode asked for, 0x1F the rung of the node; after a step-down, the one stepped to (R296) -/
  mode : Nat
  /-- emissions made -/
  emissions : Nat
  /-- slot boundaries tried for the retransmission (R298) -/
  tries : Nat
  /-- transmitters used, bit t; or chains of a window, bit c -/
  units : Nat
  /-- end of the emission, the acknowledgement wait or the window -/
  endAt : Time
  /-- the radio channel in use -/
  chan : Nat
  /-- the frame is built and its counter value taken, or the window needs nothing (R28, R150) -/
  prep : Bool
  /-- counter of the connection event the action uses (R319) -/
  evt : Option Nat
  /-- widening W in µs, and whether its unclamped value reaches `GUARD_MAX` (R324) -/
  w : Nat
  atMax : Bool
  /-- the instant is the nominal instant of the node's event (R321) -/
  nominal : Bool
  /-- a verified frame of the node came in the window (R321) -/
  heard : Bool
  /-- airtime charged in ms, and the bucket it was added to (R331) -/
  charge : Nat
  bucket : Nat
  /-- when the slot became pending, and when its window opens -/
  made : Time
  openAt : Time
  /-- cause that a retransmission would fail with: its last obstacle (R295) -/
  obstacle : Nat
  /-- the window has closed while a preamble begun in it is not yet detected (R179) -/
  awaits : Bool
deriving DecidableEq, Repr

/-- An empty action slot. -/
def Act.empty : Act :=
  ⟨0, 0, 0, .none, .none, 0#64, false, Option.none, [], 0, 0, 0, 0, 0, 0#64, 0, false, Option.none, 0, false,
    false, false, 0, 0, 0#64, 0#64, 0x0C, false⟩

/-- What a thread in a `WAIT_*` state waits for (R142). -/
inductive Wait where
  | none
  /-- `AT`, `AFTER`, `AFTERI`: the target -/
  | time (target : Time)
  /-- `ZXW`: the time register, the phase, the crossing number and the fraction of a cycle after it, and the
  instant predicted for it (R144) -/
  | zx (tk : BitVec 2) (p num frac : Nat) (target : Time)
  /-- `WSIG`: mask and deadline -/
  | sig (mask : Nat) (deadline : Option Time)
  /-- `DEQ` on queue q: destination, whether to copy, and where -/
  | deq (q rd : Nat) (mem : Bool) (addr : Nat)
  /-- `LDN`, `STN` or `PIN` of a context: the instruction word, its bound -/
  | page (ctx : Nat) (word : Word) (deadline : Option Time)
  /-- an action or job whose grant is not given: slot and what it will hold -/
  | grant (slot : Nat) (act : Act)
deriving DecidableEq, Repr

/-- A thread of a Jig core (R135, R142). -/
structure Thread where
  state : TState
  /-- instruction window: first index and length; length 0 while not loaded (R137) -/
  ibase : Nat
  ilen : Nat
  /-- data window: first byte and length -/
  dbase : Nat
  dlen : Nat
  pc : Nat
  flags : Flags
  g : Tab Word
  t : Tab Time
  stack : List Nat
  /-- prefix latch (R167) -/
  pfx : Option Nat
  wakeBits : Nat
  faultCause : Nat
  wait : Wait
  /-- instant the watchdog count was last restarted (R158) -/
  wdogAt : Time
  /-- instant the thread last entered `RUN` (R157) -/
  runAt : Time
  /-- issue cost of the instruction last issued, in core cycles (R165) -/
  cost : Nat
  /-- `CAUSE` of the status area: cause and slot (R139) -/
  cause : Nat
  causeSlot : Nat
  lateNs : Nat
  wakeTime : Time
  endBits : Nat
  acts : Tab Act
deriving DecidableEq, Repr

/-- A thread as a reset of its core leaves it: `IDLE`, not loaded. -/
def Thread.init : Thread :=
  ⟨.idle, 0, 0, 0, 0, 0, Flags.zero, [], [], [], Option.none, 0, 0, .none, 0#64, 0#64, 0, 0, 0, 0, 0#64, 0, []⟩

/-- A load in progress (R155): the drawer, the record's core, threads, windows and contents. -/
structure Load where
  drawer : Nat
  core : Nat
  threads : Nat
  imemBase : Nat
  imem : List Word
  dmemBase : Nat
  dmem : List Byte
  entry : List Nat
  prog0 : Word
  prog1 : Word
  /-- instructions, and bytes of data, that came from a `BULK` word marked uncorrectable -/
  imemBad : List Nat
  dmemBad : List Nat
deriving DecidableEq, Repr

/-- The Jig cluster: threads by number, memories by core. -/
structure Jig where
  threads : Tab Thread
  /-- key 8192 c + index -/
  imem : Tab Word
  /-- key 16384 c + address -/
  dmem : Tab Byte
  /-- instruction words marked uncorrectable -/
  imemPoison : Tab Bool
  /-- data words marked uncorrectable, key (16384 c + address) / 16 -/
  dmemPoison : Tab Bool
  loads : List Load
deriving DecidableEq, Repr

/-! ### Clamp and power states (chapter 15) -/

/-- Who holds or waits for a grant (R448). -/
inductive Holder where
  /-- action or `CYP` job of a thread's slot -/
  | act (thread slot : Nat)
  /-- host cipher or storage job -/
  | job (id : Nat)
  /-- NAND program burst of a channel -/
  | nand (ch : Nat)
deriving DecidableEq, Repr

/-- A grant held, or a request waiting: charge on die and external charge in mW, and whether it is of
the bulk class. -/
structure Grant where
  who : Holder
  drawer : Nat
  mw : Nat
  ext : Nat
  bulk : Bool
deriving DecidableEq, Repr

/-- The Clamp arbiter and the power controller beside their registers. -/
structure Power where
  held : List Grant
  /-- in order of arrival -/
  waiting : List Grant
  /-- the conditions of R453 have been false together since the last exit -/
  armed : Bool
  /-- `VIN_MON` indicates a falling input -/
  vinLow : Bool
  /-- PCIe link of the presented functions: 0 down, 1 trained in L0, 2 in L1 -/
  pcie : Nat
  /-- `PERST_N` is low (R52) -/
  perstLow : Bool
  /-- `CS_N` of each QSPI port low -/
  csLow : Nat
  /-- the host island has been woken during standby (R425) -/
  hostAwake : Bool
deriving DecidableEq, Repr

/-! ### Cipher engine (chapter 11) -/

/-- The cipher engines beside their registers. -/
structure Ciph where
  /-- key material of general slot n; empty while the slot is (R347) -/
  keys : Tab (List Byte)
  /-- key material of internal slots 0 to 7 (R347, R362) -/
  inner : List (List Byte)
  /-- bits [47:32] of the slot's limit in force; `KEY_HI_n` holds the staged ones (R348) -/
  limHi : Tab Nat
deriving DecidableEq, Repr

/-! ### Contexts and storage (chapter 12) -/

/-- A cache entry of the pager (R370): its context, reference bit, whether it has changed since its last
write-back, and when it first did. -/
structure Slot where
  ctx : Nat
  ref : Bool
  dirty : Bool
  since : Time
deriving DecidableEq, Repr

/-- A miss in progress (R371): its context, class and request instant, the deadline of a class 1 miss, and once its
read is under way the NAND target and the number of the read. -/
structure Miss where
  ctx : Nat
  cls : Nat
  start : Time
  due : Time
  issued : Option (Nat × Nat)
deriving DecidableEq, Repr

/-- What the address index maps to a context number (R377). -/
inductive IdxKey where
  | eui (v : Nat)
  | short (v : Nat)
deriving DecidableEq, Repr

/-- An index entry, and whether it lies in the overflow area. -/
structure IdxEnt where
  key : IdxKey
  ctx : Nat
  ovf : Bool
deriving DecidableEq, Repr

/-- The node context pager. -/
structure Ncp where
  /-- cache entries in the sweep's order, at most 2,048 -/
  slots : List Slot
  /-- the sweep's next entry -/
  hand : Nat
  /-- words of resident records, key 512 c + w -/
  words : Tab Word
  /-- 128-bit words of resident records marked uncorrectable, key 128 c + w / 4 -/
  bad : Tab Bool
  /-- pins: context and thread (R146) -/
  pins : List (Nat × Nat)
  /-- contexts held under R24, one entry for each hold -/
  holds : List Nat
  misses : List Miss
  /-- contexts that storage reported unreadable (R372) -/
  dead : List Nat
  idx : List IdxEnt
  /-- a further trigger arrived during the rebuild -/
  again : Bool
  /-- `CTX_FREE` and `CTX_SHORT` jobs since the last rebuild -/
  changes : Nat
  /-- journal records not yet committed: context words, key 512 c + w (R375) -/
  journal : List (Nat × Word)
  /-- reads issued, and those since the latest write-back (R371) -/
  readNo : Nat
  reads : Nat
deriving DecidableEq, Repr

/-- A namespace: created, its size in granules, and the number of its key; a key discarded is a number
never used again (R386). -/
structure NsRec where
  made : Bool
  size : Nat
  key : Nat
deriving DecidableEq, Repr

/-- A namespace not created. -/
def NsRec.none : NsRec := ⟨false, 0, 0⟩

/-- The radio duty-cycle checkpoint (R334): its stamp, whether it is `FINAL`, and per account the sum of both
rings by age in seconds, key account * 2^40 + age. -/
structure Ckpt where
  valid : Bool
  stamp : Nat
  fin : Bool
  buckets : Tab Nat
deriving DecidableEq, Repr

/-- What the attached NAND holds; no reset changes it. -/
structure Nand where
  /-- context records, journal applied, key 512 c + w -/
  ctx : Tab Word
  /-- 128-bit words of records written back with their poison, key 128 c + w / 4 (R472) -/
  bad : Tab Bool
  /-- writes of each granule of namespace 15, which holds the records 2 g and 2 g + 1 (R384) -/
  ctxWrites : Tab Nat
  /-- a journal commit exists, its number and its `FINAL` mark -/
  committed : Bool
  seq : Nat
  isFinal : Bool
  /-- generation of the index stored with it (R378) -/
  idxGen : Nat
  ns : Tab NsRec
  /-- bytes of namespaces, key (n * 2^32 + granule) * 4096 + offset -/
  data : Tab Byte
  /-- granules mapped, key n * 2^32 + granule: 1 more than the number of the key they were written under -/
  mapped : Tab Nat
  ckpt : Ckpt
  grownBad : Nat
  /-- highest and average erase count -/
  maxPe : Nat
  avgPe : Nat
deriving DecidableEq, Repr

/-- A program or an erase a NAND target carries out. -/
structure NandOp where
  ch : Nat
  target : Nat
  erase : Bool
  /-- for namespace 15 -/
  own : Bool
  /-- drawer whose job it is of -/
  drawer : Nat
  /-- an erase suspended with its drawer's job (R110) -/
  susp : Bool
  /-- context reads for which it has been suspended (R371) -/
  yields : Nat
deriving DecidableEq, Repr

/-- The storage manager: the translation layer's present view, which a commit makes durable. -/
structure Stor where
  ns : Tab NsRec
  data : Tab Byte
  mapped : Tab Nat
  nextKey : Nat
  ops : List NandOp
  /-- targets in read retry or reset recovery, bit 8 ch + target -/
  retry : Nat
  /-- spare blocks remaining -/
  spare : Nat
  /-- the average erase count has raised `WEAR_WARN` -/
  warned : Bool
  /-- a `FINAL` flush is under way (R389), or one un-`FINAL` commit is owed after an exit (R455) -/
  flushing : Bool
  owed : Bool
deriving DecidableEq, Repr


/-! ### Mains trackers, line signals and medium access (chapters 7 to 9, R411 to R413) -/

/-- A mains tracker (R272, R411 to R413); its state is `ZX_STAT_x`. -/
structure Trk where
  /-- a crossing has been numbered since the Plumb start -/
  run : Bool
  /-- latest numbered crossing, its instant, and the tracker's present period in timebase steps -/
  num : Nat
  stamp : Time
  period : Nat
  /-- period in force at the latest crossing (R272) -/
  perAt : Nat
  /-- the crossings before it, newest first: each one's instant and the period in force at it -/
  past : List (Time × Nat)
  /-- consecutive missed crossings -/
  missed : Nat
  /-- consecutive edges towards a relock, newest first -/
  edges : List Time
  /-- start of the hold -/
  holdAt : Time
  /-- where the next crossing is placed after a late relock (R413) -/
  late : Option Time
deriving DecidableEq, Repr

/-- A tracker before its first crossing. -/
def Trk.init : Trk := ⟨false, 0, 0#64, 0, 0, [], 0, [], 0#64, Option.none⟩

/-- A reception a decoder holds (R240): its detection, its Dovetail set, and once its header has passed
what that says. -/
structure Recv where
  det : Det
  set : Nat
  /-- preamble start of the set's first member (R246) -/
  first : Time
  valid : Bool
  hdr : LineHdr
  /-- a channel step was declared on this chain (R253), and on some member of its set (R254) -/
  step : Bool
  setStep : Bool
  /-- a reset of the cipher island cut the frame's cipher work (R518) -/
  cut : Bool
  /-- the context that the frame's address resolved to (R24), and whether the frame was discarded for want of
  it (R373) -/
  res : Option (Nat × Bool)
deriving DecidableEq, Repr

/-- A header before any has been decoded. -/
def LineHdr.none : LineHdr := ⟨0, 0, 0, 0, 0, false, false, 0, 0#24⟩

/-- A decoder: its current reception and the candidates (R240). -/
structure Decoder where
  current : Option Recv
  cands : List Det
deriving DecidableEq, Repr

/-- A decoder in `LISTEN`. -/
def Decoder.listen : Decoder := ⟨Option.none, []⟩

/-- The symbols of a reception, as the blanker's erasures are counted on them (R251): the detection, whether the
payload has the long prefix, the symbols counted, and the instant at which the reception ended. -/
structure SymRun where
  det : Det
  long : Bool
  counted : Nat
  stop : Option Time
deriving DecidableEq, Repr

/-- A chain's impulse blanker (R250). -/
structure Blank where
  /-- squares of the latest samples that were not zeroed, newest first, at most 1,024 -/
  squares : List Nat
  /-- samples since the chain was enabled, at most 1,024 -/
  age : Nat
  /-- the latest two samples, newest first, which a later one may still zero: instant, square, whether zeroed -/
  wait : List (Time × Nat × Bool)
  /-- samples to come that are zeroed for one before them -/
  after : Nat
  /-- instants of zeroed samples, newest first -/
  zeroed : List Time
  runs : List SymRun
deriving DecidableEq, Repr

def Blank.init : Blank := ⟨[], 0, [], 0, [], []⟩

/-- A receive chain beside its registers: the native decoder, the two Sweep contexts, current and candidate (R239,
R245), and the compatibility decoder; the AGC's consecutive quiet intervals, the gain to be taken at the next
boundary, whether `PGA_SET` is to be taken once the reception has ended (R201), and the spans in which it has been
`FROZEN` since the latest boundary; and the blanker. -/
structure Chain where
  nat : Decoder
  swp : Decoder
  swp2 : Decoder
  cmp : Decoder
  quiet : Nat
  gain : Option Nat
  owe : Bool
  frozen : List (Time × Option Time)
  blank : Blank
deriving DecidableEq, Repr

def Chain.init : Chain := ⟨.listen, .listen, .listen, .listen, 0, Option.none, false, [], Blank.init⟩

/-- A transmitter beside its registers. -/
structure Xmit where
  /-- active FIR coefficients; `LPHY_FIR_t_i` is the shadow bank (R229) -/
  active : Tab Word
  /-- `LPHY_TXCFG_t` as written during an emission -/
  cfg : Option Word
  /-- muted by an underrun of its stream, until its next emission (R461) -/
  under : Bool
  holdOff : Option Time
  /-- instant at which the output was lowered, while the fault stays asserted (R255, R256) -/
  flt : Option Time
  /-- starts and bands of the latest emissions, newest first (R202): the front one's is the emission in progress -/
  starts : List (Time × Nat)
deriving DecidableEq, Repr

def Xmit.init : Xmit := ⟨[], Option.none, false, Option.none, Option.none, []⟩

/-- Band of the emission in progress or of the latest one. -/
def Xmit.band (x : Xmit) : Nat := (x.starts.head?.map Prod.snd).getD 0

/-- A line frame that has ended, with what the receiver knows of it. -/
structure LineGot where
  fam : Nat
  sf : Nat
  hdr : LineHdr
  rx : LineRx
  /-- members of the set at the frame's end, bit c, and its primary chain -/
  chains : Nat
  primary : Nat
  band : Nat
  start : Time
  /-- preamble levels by chain, in dBµV -/
  levels : List Nat
  pga : Nat
  /-- the set's frequency offset (R247) -/
  freq : BitVec 16
  step : Bool
  /-- a reset of the cipher island cut its cipher work (R518) -/
  cut : Bool
deriving DecidableEq, Repr

/-- A received frame, line or radio. -/
inductive Got where
  | line (g : LineGot)
  | radio (r : RfRx) (cut : Bool)
deriving DecidableEq, Repr

/-- A frame held until its context arrives or its deadline passes (R373). -/
structure Held where
  got : Got
  ctx : Nat
  due : Time
deriving DecidableEq, Repr

/-- Where an acknowledgement goes (R292, R327). -/
inductive AckBody where
  /-- family, spreading factor, band, members of the set, primary chain, advised rung, `PENDING` -/
  | line (fam sf band members primary advice pend : Nat)
  | radio (chan opmode : Nat) (fec whiten poll : Bool) (evt pend : Nat)
  /-- a compatibility tone-map response (R233): band, members, primary chain, mode and MAC frame -/
  | tmr (band members primary mode : Nat) (payload : List Byte)
deriving DecidableEq, Repr

/-- An acknowledgement committed (R23): due instant, end of its emission once begun, its transmitter
once chosen (3 the radio), and the context held for it. -/
structure AckDue where
  due : Time
  endAt : Time
  sent : Option Nat
  seq : Nat
  ctx : Option Nat
  body : AckBody
deriving DecidableEq, Repr

/-- A change the device makes to a context that may be absent (R25). -/
inductive CtxUpd where
  /-- a `STATS` word counts -/
  | stat (k : Nat)
  /-- one emission with map i is counted off `PERTURB_LEFT` (R223) -/
  | perturb (i : Nat)
  /-- map i is marked `PERTURBED` (R254) -/
  | mark (i : Nat)
  /-- a judged reception on a band, by phase, SNR and preamble level of each member (R300) -/
  | link (b : Nat) (l : List (Nat × Nat × Nat))
  /-- outcome of an emission on a phase and band (R300) -/
  | outcome (p b : Nat) (ok : Bool)
  /-- an emission stayed unacknowledged (R296) -/
  | unacked (sweep : Bool)
  /-- an emission was acknowledged with an advice (R295, R297); map index of the frame -/
  | acked (advice : Option Nat) (map : Nat)
  | suspect
  /-- a route proposed, its `ROUTE_PROP` and `HOPS` (R300) -/
  | propose (route : Word) (hops : Nat)
  /-- a radio miss (R321) -/
  | miss (atMax : Bool)
  /-- the next connection event (R319) -/
  | evtNext
  /-- a `CONNECT` was acknowledged, with the two values sent in it (R320, R321) -/
  | connect (sync : Time) (retx listen : Nat) (words : List Word)
  | disconnect
  | connLost
  /-- a verified radio frame of the node (R321) -/
  | sync (t : Time)
deriving DecidableEq, Repr

/-- The plan and the mask latched by an accepted apply (R205). -/
structure Latched where
  plan : Nat
  mask : Nat
deriving DecidableEq, Repr

/-- A noise-map bin's averages in linear units (R279). -/
structure NBin where
  level : Rat
  impulse : Rat
deriving DecidableEq, Repr

/-- The hardware superframe (R275): the opening crossing on the anchor in force, cycles and anchor at the
opening, and, after the anchor changed, the instant X from which a crossing of the new one opens. -/
structure SuperF where
  openNum : Nat
  openAt : Time
  cycles : Nat
  anchor : Nat
  running : Bool
  from' : Option Time
  /-- crossing that opened the superframe on each phase, plus 1; 0 while it lies ahead -/
  opens : Tab Nat
deriving DecidableEq, Repr

/-- The line beside its registers. -/
structure Line where
  trk : Tab Trk
  chains : Tab Chain
  xmit : Tab Xmit
  latched : Tab Latched
  /-- mask words in force, bit k for carrier k -/
  mask : Tab Nat
  nextSet : Nat
  sf : SuperF
  /-- transmit sequence counter of each band (R283), and of the radio at key 2 (R313) -/
  seq : Tab Nat
  nmap : Tab NBin
  acks : List AckDue
  held : List Held
  upds : List (Nat × CtxUpd)
  /-- SNR in half dB and preamble level of each of a link's last 32 outcomes that was a reception, newest first, by
  8 × context + 2 × phase + band (R300) -/
  links : Tab (List (Option (Int × Nat)))
  /-- instant of the route engine's latest pass, or of its enabling (R300) -/
  routeAt : Time
deriving DecidableEq, Repr

/-! ### Radio (chapter 10) -/

/-- The radio and the airtime accounts beside their registers. -/
structure Radio where
  rx : Option RfRecv
  /-- a reset of the cipher island cut the cipher work of the frame being received (R518) -/
  rxCut : Bool
  /-- seconds counted since level A release; prior buckets stand at 1 to 3,600 (R330, R332) -/
  sec : Nat
  /-- accounts whose cold layout awaits their first allowance since that release, bit a (R332) -/
  cold : Nat
  /-- actual and prior buckets, key a * 2^40 + second -/
  actual : Tab Nat
  prior : Tab Nat
  /-- accounts whose available airtime is below their reserve, bit a -/
  low : Nat
  /-- latest restart of each connection's supervision timer, by context, plus 1 (R322) -/
  sup : Tab Nat
  /-- instant from which the supervision timers are frozen -/
  frozen : Option Time
  /-- end of the listening time after a poll and its channel, by context (R323) -/
  pollEnd : Tab Nat
  /-- end of the emission in progress, plus 1 (R181) -/
  txEnd : Nat
deriving DecidableEq, Repr


/-! ### Plumb unit (chapter 13) -/

/-- A reference input beside its state in `PLMB_STATUS` (R396, R398). -/
structure RefIn where
  /-- consecutive good judgements towards qualification -/
  good : Nat
  /-- consecutive misses, and consecutive misses or outliers -/
  misses : Nat
  bad : Nat
  /-- it has been `ELIGIBLE` since the level A reset -/
  once : Bool
  /-- wait-to-restore timer -/
  timer : Option Time
  /-- the two latest pulses or samples, newest first, and the errors of the samples in ns -/
  times : List Time
  errs : List Int
  /-- latest sample accepted, or start of the frequency test -/
  seen : Time
  /-- DCO frequency in ppt that follows the reference -/
  freq : Int
deriving DecidableEq, Repr

def RefIn.init : RefIn := ⟨0, 0, 0, false, Option.none, [], [], 0#64, 0⟩

/-- A pulse output (R408, R409): S0 of its lattice in timebase steps, the whole second at which an
alignment is due, its latest edge, the end of the pulse in progress, and the start of output 1's next
pulse. -/
structure OutGen where
  base : Option Int
  wait : Option Time
  edge : Option Int
  pulse : Option Time
  due : Option Time
deriving DecidableEq, Repr

def OutGen.init : OutGen := ⟨Option.none, Option.none, Option.none, Option.none, Option.none⟩

/-- The Plumb unit beside its registers. -/
structure Plumb where
  refs : Tab RefIn
  /-- the Plumb start has come (R393), and its instant on the present scale -/
  started : Bool
  startAt : Int
  /-- seconds word awaiting a whole second, and that second (R394) -/
  tod : Option (Nat × Time)
  /-- the fraction has been stepped to a reference's second (R394) -/
  stepped : Bool
  /-- instant of entry to the present state -/
  since : Time
  /-- `FREQ_UNC` without steering, as held in `ACQUIRE` (R402) -/
  unc : Nat
  /-- the loop's correction, or the frequency held, in ppt -/
  loop : Int
  /-- direction of the slew, 0 while none runs, its slope in force, and when a new slope takes effect -/
  dir : Int
  slope : Nat
  slopeDue : Option Time
  /-- frequencies of the time spent in `LOCKED`: steps and ppt, newest first; and since when the
  present one holds (R401) -/
  hist : List (Nat × Int)
  mark : Time
  outs : Tab OutGen
  /-- the next time message is the first after a training; the copy is ahead of the master (R410) -/
  resync : Bool
  ahead : Bool
deriving DecidableEq, Repr

/-! ### Serial ports, Cabinet Ring and check units (chapter 14) -/

/-- A frame that a port waits for (R427, R428): identifier byte, length, check, what has come, the frame
time limit, and whether a responder's subscription. -/
structure Await where
  pid : Nat
  len : Nat
  chk : Nat
  got : List Byte
  limit : Time
  sub : Bool
deriving DecidableEq, Repr

/-- A general UART beside its registers.  An item is a character below 512, or 65,536 plus the bit times
of a break. -/
structure Port where
  /-- receive FIFO, oldest first: data plus 512 times the tag -/
  rx : List Nat
  /-- end of the latest character -/
  lastRx : Time
  /-- transmit FIFO, and what is being sent until when -/
  tx : List Nat
  cur : Option Nat
  curEnd : Time
  /-- latest rise and fall of `UART_DE` -/
  rise : Time
  fall : Time
  /-- end of the tail -/
  tail : Option Time
  /-- job running, and what it or a response has still to send -/
  job : Option Nat
  left : List Nat
  /-- the break on the line has been stored as saturated -/
  sat : Bool
  await : Option Await
deriving DecidableEq, Repr

def Port.init : Port :=
  ⟨[], 0#64, [], Option.none, 0#64, 0#64, 0#64, Option.none, Option.none, [], false, Option.none⟩

/-- The ring port beside its registers (R430 to R436): waiting for idle before the bypass opens, job
running, end of the latest insertion, characters that entered the buffer since it began, `RETURN_TO` limit, end of
the latest character. -/
structure Ring where
  opening : Bool
  job : Option Nat
  insEnd : Option Time
  buf : Nat
  due : Option Time
  lastChar : Time
deriving DecidableEq, Repr

/-- A check unit beside its registers (R438, R440): its register, bits fed since the restart, alive bits
captured and how many, and the ends of the feeds in its buffer. -/
structure Check where
  reg : Nat
  bits : Nat
  cap : Nat
  ncap : Nat
  busy : List Time
deriving DecidableEq, Repr

/-- A check unit as a reset leaves it: the register holds `INIT` at its reset value. -/
def Check.init : Check := ⟨0xFFFFFFFF, 0, 0, 0, []⟩

structure Serial where
  ports : Tab Port
  /-- response buffers, key 64 n + identifier -/
  resp : Tab (List Byte)
  ring : Ring
  chks : Tab Check
deriving DecidableEq, Repr

/-! ### Tenon link (chapter 16) -/

/-- A replay-class flit kept by its sender (R460): the receiving side, its `SEQ` and when it was sent. -/
structure Kept where
  side : Nat
  seq : Nat
  sent : Time
deriving DecidableEq, Repr

/-- The Tenon link beside its registers: side 0 receives on the logic die, side 1 on the line die. -/
structure Tenon where
  /-- declarations of loss in force -/
  logicLost : Option Time
  lineLost : Bool
  /-- latest valid flit, next `SEQ` expected, and NAKs in a row that named one `SEQ` -/
  last : Tab Time
  expect : Tab Nat
  naks : Tab Nat
  nakSeq : Tab Nat
  kept : List Kept
  /-- next index of the ADC streams 0 to 5 and of radio receive at 6, plus 1 -/
  index : Tab Nat
  /-- occurrences queued by the line die, oldest first, and whether any was discarded -/
  events : List Nat
  overflow : Bool
  /-- line-die registers as they stood at the loss (R468) -/
  mirror : Tab Word
deriving DecidableEq, Repr


/-! ### The whole block -/

/-- The state of the 9640. -/
structure State where
  /-- commands waiting, first in first out -/
  pending : List Instr
  /-- the model's own counter of free values (assumption 2) -/
  freeIdx : Nat
  /-- registers by key: a `CTL` offset, plus `drawerStride` times the drawer for a `SELF` register;
  a key not listed reads its reset value -/
  regs : Tab Word
  /-- timebase master and its copy on the logic die (R5, R19) -/
  tb : Time
  tbCopy : Time
  opt : OptStore
  rst : RstState
  att : AttState
  fab : Fabric
  jig : Jig
  pwr : Power
  ciph : Ciph
  ncp : Ncp
  nand : Nand
  stor : Stor
  line : Line
  radio : Radio
  plmb : Plumb
  ser : Serial
  tnl : Tenon
  /-- what capturing reads captured, for each drawer (R491) -/
  caps : Tab Word
deriving DecidableEq, Repr

/-- Why the block stops. -/
inductive Fault where
  /-- No command of this block raises it: the spec gives every command an effect.  It stands so that
  the type has a value.  Safe. -/
  | none
deriving DecidableEq, Repr

/-- Why a command has no meaning. -/
inductive Refusal where
  /-- the command has no meaning yet; raised by `exec`'s arms alone.  Safe. -/
  | notModelled (mnemonic : String)
deriving DecidableEq, Repr

/-- The option copy an unlocked board ships with (assumption 4): region lock `EU`, signatures
enforced, debug lock `SEALED`, all four drawers enabled, budget 3.4 W. -/
def optShipped : OptCopy :=
  ⟨true, 0#32, (0x0000F029#32 :: 0x00000030#32 :: List.replicate 24 0#32)⟩

/-- The option store of State.reset (assumption 4). -/
def optStoreInit : OptStore :=
  ⟨List.replicate 16 0#8, 1, 1, 2, 0#64, optShipped, optShipped, (true, 0), (true, 0)⟩

/-- The block right after reset: power-on, level A asserted, nothing released. -/
def State.reset : State where
  pending := []
  freeIdx := 0
  regs := []
  tb := 0#64
  tbCopy := 0#64
  opt := optStoreInit
  rst := ⟨.a, [.por], [.por], 0, [], false, false, 0, 0, OptCopy.none, 0, false, [], Option.none, false⟩
  att := ⟨[], Option.none⟩
  fab := ⟨[], [], 0, [], [], [], [], [], [], [], [], []⟩
  jig := ⟨[], [], [], [], [], []⟩
  pwr := ⟨[], [], true, false, 0, false, 0, false⟩
  ciph := ⟨[], (List.range 8).map Config.internalKey, []⟩
  ncp := ⟨[], 0, [], [], [], [], [], [], [], false, 0, [], 0, 0⟩
  nand := ⟨[], [], [], false, 0, false, 0, [], [], [], ⟨false, 0, false, []⟩, 0, 0, 0⟩
  stor := ⟨[], [], [], 0, [], 0, 0, false, false, false⟩
  line := ⟨[], [], [], [], [], 0, ⟨0, 0#64, 0, 0, false, none, []⟩, [], [], [], [], [], [], 0#64⟩
  radio := ⟨none, false, 0, 0, [], [], 0, [], none, [], 0⟩
  plmb := ⟨[], false, 0, none, false, 0#64, 250, 0, 0, 1000, none, [], 0#64, [], true, false⟩
  ser := ⟨[], [], ⟨false, none, none, 0, none, 0#64⟩, []⟩
  tnl := ⟨none, false, [], [], [], [], [], [], [], false, []⟩
  caps := []

end Sys2Proof.Machine
end

