-- ==== Sys2Proof/Machine/Ops.lean ====
section
/-!
DEFINITION. The named operations over the state that the meanings share: registers and fields,
statistics counters, time, ownership, events and their coalescing, trace, access filtering,
staging memory, and the shelf queues.
-/

namespace Sys2Proof.Machine

/-- What a meaning answers. -/
abbrev Ans := Host.Outcome State Fault Refusal

/-! ### Registers (R7 to R9, R93, R103) -/

/-- Register-file key of drawer `d`'s instance of the `SELF` register at offset `off`. -/
def selfKey (d off : Nat) : Nat := off + d * drawerStride

/-- The register of key `k`. -/
def State.rd (s : State) (k : Nat) : Word := tabGet regDefault s.regs k

/-- The state with register `k` holding `v`. -/
def State.wr (s : State) (k : Nat) (v : Word) : State :=
  { s with regs := tabSet regDefault s.regs k v }

/-- Value of a field. -/
def State.get (s : State) (f : Fld) : Nat := bitsOf (s.rd f.off).toNat f.hi f.lo

/-- The state with a field holding the low bits of `n`. -/
def State.put (s : State) (f : Fld) (n : Nat) : State :=
  s.wr f.off (BitVec.ofNat 32 (putBits (s.rd f.off).toNat f.hi f.lo n))

/-- A field that is not 0. -/
def State.on (s : State) (f : Fld) : Bool := s.get f != 0

/-- Drawer `d`'s instance of a field. -/
def fldOf (d : Nat) (f : Fld) : Fld := ⟨selfKey d f.off, f.hi, f.lo⟩

/-- A register set back to its reset value. -/
def State.resetReg (s : State) (k : Nat) : State := s.wr k (regDefault k)

/-- What a write of `v` under byte enables `be` leaves in a register, by the access types of its
fields (R7, R8, R9). -/
def writeMerge (r : RegRow) (old v : Word) (be : BitVec 4) : Word :=
  let m := byteMask be
  let rw := BitVec.ofNat 32 r.rw &&& m
  let c := BitVec.ofNat 32 r.w1c &&& m &&& v
  let st := BitVec.ofNat 32 r.w1s &&& m &&& v
  (((old &&& ~~~rw) ||| (v &&& rw)) &&& ~~~c) ||| st

/-- A write applied to the register of key `k`, whose row is `r` (R9). -/
def State.wrMerge (s : State) (r : RegRow) (k : Nat) (v : Word) (be : BitVec 4) : State :=
  s.wr k (writeMerge r (s.rd k) v be)

/-- A write applied to the register at key `k`, by its row of the register map. -/
def State.wrTyped (s : State) (k : Nat) (v : Word) (be : BitVec 4) : State :=
  match findRow (k % drawerStride) with
  | some (r, _, _) => s.wrMerge r k v be
  | none => s

/-- A word as a write under byte enables leaves it, the other bytes as `old` (R7). -/
def beMerge (old v : Word) (be : BitVec 4) : Word := (old &&& ~~~byteMask be) ||| (v &&& byteMask be)

/-- A statistics counter of R13: it saturates, and raises its overflow once, on reaching its limit. -/
def bumpStat (k : Nat) (ovf : State → State) (s : State) : State :=
  let v := (s.rd k).toNat
  if v = 0xFFFFFFFF then s
  else
    let t := s.wr k (BitVec.ofNat 32 (v + 1))
    if v + 1 = 0xFFFFFFFF then ovf t else t

/-- A statistics counter raised by `n` (R13). -/
def addStat (k n : Nat) (ovf : State → State) (s : State) : State :=
  let v := (s.rd k).toNat
  let t := s.wr k (BitVec.ofNat 32 (min 0xFFFFFFFF (v + n)))
  if v < 0xFFFFFFFF ∧ 0xFFFFFFFF ≤ v + n then ovf t else t

/-- A key usage counter of R13: it sticks at its limit. -/
def bumpStick (k : Nat) (s : State) : State :=
  let v := (s.rd k).toNat
  if v = 0xFFFFFFFF then s else s.wr k (BitVec.ofNat 32 (v + 1))

/-- A fresh free value, and the counter advanced (assumption 2). -/
def State.free (s : State) : Nat := Config.freeValue s.freeIdx
def State.drew (s : State) : State := { s with freeIdx := s.freeIdx + 1 }

/-! ### Time (R5, R20, R174) -/

/-- An interval of `n` units, `perSec` of them to the second, in timebase steps, rounded to the
nearest with ties away from zero (R174). -/
def stepsOf (perSec n : Nat) : Nat := (2 * n * 2 ^ 32 + perSec) / (2 * perSec)

/-- Microseconds in timebase steps. -/
def usSteps (n : Nat) : Nat := stepsOf 1000000 n

/-- Nanoseconds in timebase steps. -/
def nsSteps (n : Nat) : Nat := stepsOf 1000000000 n

/-- Milliseconds in timebase steps. -/
def msSteps (n : Nat) : Nat := stepsOf 1000 n

/-- Timebase steps in whole nanoseconds, rounded down. -/
def stepsNs (n : Nat) : Nat := n * 1000000000 / 2 ^ 32

/-- `n` steps after an instant. -/
def after (t : Time) (n : Nat) : Time := BitVec.ofNat 64 (t.toNat + n)

/-- Whether instant `t` is not later than `u`. -/
def atOrBefore (t u : Time) : Bool := decide (t.toNat ≤ u.toNat)

/-- Time passes to instant `t` when that lies ahead (assumption 5). -/
def State.passTo (s : State) (t : Time) : State :=
  { s with tb := if s.tb.toNat < t.toNat then t else s.tb,
           tbCopy := if s.tbCopy.toNat < t.toNat then t else s.tbCopy }

/-- Time passes by `n` steps. -/
def State.pass (s : State) (n : Nat) : State := s.passTo (after s.tbCopy n)

/-! ### Drawers and ownership (R53, R82, R103 to R108) -/

/-- `DRAWER_EN` enables drawer `d`. -/
def drawerEnabled (s : State) (d : Nat) : Bool := bitAt (s.get F.optActive0DrawerEn) d

/-- Drawer `d` is in a level C reset. -/
def drawerInReset (s : State) (d : Nat) : Bool := bitAt (s.get F.rstStatusDrwInReset) d

/-- `BOOT_STATUS.STAGE` reads `READY`. -/
def stageReady (s : State) : Bool := s.get F.bootStatusStage == 4

/-- The entrance of drawer `d` is a PCIe function (R53). -/
def isPcie (s : State) (d : Nat) : Bool :=
  match d with
  | 2 => !s.rst.sel2
  | 3 => !s.rst.sel3
  | _ => true

/-- Effective owner that 4-bit entry `k` of an ownership word names (R105, R107, R108). -/
def entryOwner (s : State) (w : Word) (k : Nat) : Option Nat :=
  let e := w.toNat / 16 ^ k % 16
  if e / 8 = 1 ∧ drawerEnabled s (e % 4) then some (e % 4) else none

def ownerQueue (s : State) (n : Nat) : Option Nat := entryOwner s (s.rd (R.ownQue (n / 8))) (n % 8)
def ownerKey (s : State) (n : Nat) : Option Nat := entryOwner s (s.rd (R.ownKey (n / 8))) (n % 8)
def ownerThread (s : State) (n : Nat) : Option Nat := entryOwner s (s.rd (R.ownJig (n / 8))) (n % 8)
def ownerChk (s : State) (n : Nat) : Option Nat := entryOwner s (s.rd R.ownMisc) n
def ownerUart (s : State) (n : Nat) : Option Nat := entryOwner s (s.rd R.ownMisc) (4 + n)
def ownerPin (s : State) (n : Nat) : Option Nat := entryOwner s (s.rd R.ownPin) n

/-- Owner of a namespace; namespace 15 is drawer 0's (R495). -/
def ownerNs (s : State) (n : Nat) : Option Nat :=
  if n = 15 then some 0
  else if n < 8 then entryOwner s (s.rd R.ownNs0) n else entryOwner s (s.rd R.ownNs1) (n - 8)

/-- Owner of an event source (R130). -/
def ownerSource (s : State) (n : Nat) : Option Nat :=
  if s.on (F.evtOwnAssigned n) ∧ drawerEnabled s (s.get (F.evtOwnDrawer n)) then
    some (s.get (F.evtOwnDrawer n))
  else none

/-- Owner of a context number: the drawer whose valid range holds it (R105, R107). -/
def ownerCtx (s : State) (c : Nat) : Option Nat :=
  match findFirst (fun n => s.on (F.ownCtxValid n) && decide (s.get (F.ownCtxFirst n) ≤ c) &&
      decide (c ≤ s.get (F.ownCtxLast n))) (List.range 16) with
  | some n => if drawerEnabled s (s.get (F.ownCtxDrawer n)) then some (s.get (F.ownCtxDrawer n)) else none
  | none => none

/-- Owner of instance `i` of a resource register (R103). -/
def ownerOf (s : State) (f : Filt) (i : Nat) : Option Nat :=
  match f with
  | .queue => ownerQueue s i
  | .source => ownerSource s i
  | .thread => ownerThread s i
  | .key => ownerKey s i
  | .ns => ownerNs s i
  | .uart => ownerUart s i
  | .chk => ownerChk s i
  | _ => none

/-! ### Reset islands held (R14, R18, R63) -/

/-- An island is held in reset, or waits for its clock (R63, R70). -/
def islandHeld (s : State) (i : Nat) : Bool := bitAt (s.get F.rstStatusIslandHeld) i

/-- The DSP or the sample-clock island is held: nothing goes out on the line or the air (R14, R59). -/
def airHeld (s : State) : Bool := islandHeld s 0 || islandHeld s 3

/-! ### Outward messages -/

/-- The state with something driven outward. -/
def State.emit (s : State) (o : Out) : State := { s with fab := { s.fab with out := o :: s.fab.out } }

/-! ### Events (R129 to R134) and trace (R496, R497) -/

/-- Reset state of a source's coalescing. -/
def evtZero : EvtSrc := ⟨0, none⟩

def State.evt (s : State) (src : Nat) : EvtSrc := tabGet (fun _ => evtZero) s.fab.evts src

def State.setEvt (s : State) (src : Nat) (e : EvtSrc) : State :=
  { s with fab := { s.fab with evts := tabSet (fun _ => evtZero) s.fab.evts src e } }

/-- The pending bit of a source. -/
def evtPending (s : State) (src : Nat) : Bool := bitAt (s.rd (R.evtPend (src / 32))).toNat (src % 32)

def setEvtPending (s : State) (src : Nat) (b : Bool) : State :=
  s.put ⟨R.evtPend (src / 32), src % 32, src % 32⟩ (b2n b)

/-- `IRQ_k` is high (R133): some source of the pin's owner with `PIN_EN` and `PIN` = k is pending. -/
def irqPin (s : State) (k : Nat) : Bool :=
  match ownerPin s k with
  | none => false
  | some d =>
    (List.range 288).any fun n =>
      evtPending s n && s.on (F.evtRoutePinEn n) && s.get (F.evtRoutePin n) == k && ownerSource s n == some d

/-- `QFC_N[d]` is driven low (R127). -/
def qfcLow (s : State) (d : Nat) : Bool :=
  (List.range 64).any fun n =>
    s.on (F.queueWmWmEn n) && s.on (F.queueStatWmState n) && ownerQueue s n == some d

/-- The effective debug lock is `SEALED`. -/
def dbgSealed (s : State) : Bool := s.get F.optActive0DebugLock == 2

/-- The trace takes an occurrence of a source (R497). -/
def traceOcc (s : State) (src : Nat) : State :=
  if s.on F.dbgTraceCfgEnable ∧ ¬ dbgSealed s ∧ s.get F.dbgTraceCfgFirst ≤ src ∧
      src ≤ s.get F.dbgTraceCfgLast ∧ ¬ s.on F.dbgStatusStopped then
    let r := s.get F.dbgStatusNext
    let s := s.wr (R.dbgTrace (2 * r)) (BitVec.ofNat 32 (src + 512))
    let s := s.wr (R.dbgTrace (2 * r + 1)) (BitVec.ofNat 32 (s.tbCopy.toNat / 256))
    let s := s.put F.dbgStatusNext ((r + 1) % 32)
    if r = 31 then
      let s := s.put F.dbgStatusWrapped 1
      if s.on F.dbgTraceCfgStopOnFull then s.put F.dbgStatusStopped 1 else s
    else s
  else s

def msixOf (s : State) (d vec : Nat) : Msix := tabGet (fun _ => Msix.init) s.fab.msix (64 * d + vec)

def setMsix (s : State) (d vec : Nat) (m : Msix) : State :=
  { s with fab := { s.fab with msix := tabSet (fun _ => Msix.init) s.fab.msix (64 * d + vec) m } }

/-- MSI-X Enable (bit 1) and Function Mask (bit 0) of a drawer's function. -/
def msixCtl (s : State) (d : Nat) : Nat := tabGet (fun _ => 0) s.fab.msixCtl d

def setMsixCtl (s : State) (d v : Nat) : State :=
  { s with fab := { s.fab with msixCtl := tabSet (fun _ => 0) s.fab.msixCtl d v } }

/-- The message of a vector is sent, or its pending bit is set while it is masked (R132). -/
def sendMsix (s : State) (d vec : Nat) : State :=
  if ¬ isPcie s d ∨ ¬ bitAt (msixCtl s d) 1 then s
  else
    let m := msixOf s d vec
    if m.masked ∨ bitAt (msixCtl s d) 0 then setMsix s d vec { m with pba := true }
    else s.emit (.msix d vec (m.addrHi ++ m.addrLo) m.data)

/-- A source fires (R131, R132): pending bit, message, accumulator and timer cleared. -/
def fire (s : State) (src : Nat) : State :=
  let s := setEvtPending s src true
  let s := s.setEvt src evtZero
  match ownerSource s src with
  | some d => sendMsix s d (s.get (F.evtRouteVector src))
  | none => s

/-- `COUNT` as it acts: 0 acts as 1 (R130). -/
def effCount (s : State) (src : Nat) : Nat := max 1 (s.get (F.evtRouteCount src))

/-- An occurrence is counted on a source (R131); the trace takes it first (R497). -/
def occurNow (s : State) (src : Nat) : State :=
  let s := traceOcc s src
  match ownerSource s src with
  | none => s
  | some d =>
    if drawerInReset s d then s
    else
      let e := s.evt src
      if e.acc = 0 then
        if ¬ s.on (F.evtRouteEnable src) then s
        else if effCount s src = 1 then fire s src
        else
          s.setEvt src ⟨1, if s.get (F.evtTimeTimeUs src) = 0 then none
            else some (after s.tbCopy (usSteps (s.get (F.evtTimeTimeUs src))))⟩
      else if effCount s src ≤ e.acc + 1 then fire s src
      else s.setEvt src { e with acc := e.acc + 1 }

/-- Sources of the line die: the Plumb unit's and the ring's (R415, R442). -/
def lineSource (src : Nat) : Bool := (decide (256 ≤ src) && decide (src ≤ 267)) || (decide (272 ≤ src) && decide (src ≤ 274))

/-- The line die queues an occurrence of its own: up to 64 (R466). -/
def holdEvent (src : Nat) (s : State) : State :=
  if s.tnl.events.length < 64 then { s with tnl := { s.tnl with events := s.tnl.events ++ [src] } }
  else { s with tnl := { s.tnl with overflow := true } }

/-- The link carries flits between the dies. -/
def carries (s : State) : Bool := s.get F.tnlStatusState == 1 || s.get F.tnlStatusState == 3

/-- An occurrence on a source: counted, or held on the line die while no flit flows (R131, R466). -/
def occur (s : State) (src : Nat) : State :=
  if lineSource src ∧ (s.tnl.lineLost ∨ ¬ carries s) then holdEvent src s else occurNow s src

/-- A cause of `FABRIC_CAUSE` is set and `FABRIC_NOTICE` counted (R134). -/
def fabricNotice (f : Fld) (s : State) : State := occur (s.put f 1) 287

/-- Overflow of a statistics counter of chapter 4 (R134). -/
def fabricOvf (s : State) : State := fabricNotice F.fabricCauseStatOvf s

/-! ### Access filtering (R74, R103, R104, R111, R493) -/

/-- A refused access by drawer `d` (R104). -/
def violation (s : State) (d : Nat) (qwin : Bool) (off : Nat) (write : Bool) : State :=
  let s := s.put (fldOf d F.drwSelfViol) 1
  let s := bumpStat (selfKey d R.violCnt) fabricOvf s
  let s := s.wr R.violLog
    (BitVec.ofNat 32 (off % 2 ^ 23 + d * 2 ^ 23 + b2n qwin * 2 ^ 25 + b2n write * 2 ^ 26))
  fabricNotice F.fabricCauseViolation s

/-- A read of drawer `d` met a poisoned word (R472): aperture 0 `CTL`, 1 `QWIN`, 2 `BULK`. -/
def poisonRead (d ap off : Nat) (s : State) : State :=
  s.wr (selfKey d R.tnlPoison) (BitVec.ofNat 32 (off % 2 ^ 23 + ap * 2 ^ 23 + 2 ^ 25))

/-- Whether an access goes through the filter: it does, it is discarded without a violation, or it
is discarded and refused. -/
inductive Pass where
  | take | drop | refuse
deriving DecidableEq, Repr

/-- The blocks that respond before `READY` and while the drawer is in reset: `DEV`, `RST`, `ATT`
(R74, R111). -/
def alwaysResponds (off : Nat) : Bool := decide (off < 0x20000)

/-- The drawer reaches its apertures at all: enabled, and past step 6 of the release (R53, R74). -/
def reaches (s : State) (d : Nat) : Bool := drawerEnabled s d && decide (6 ≤ s.rst.seq)

/-- The drawer reaches `QWIN`, `BULK` and the blocks of `CTL` other than the first three. -/
def reachesAll (s : State) (d : Nat) : Bool := reaches s d && stageReady s && !drawerInReset s d

/-- The filter of R493 for a write of drawer `d` to an instance of a row. -/
def filterWrite (s : State) (d : Nat) (r : RegRow) (i : Nat) (off : Nat) : Pass :=
  if ¬ reaches s d ∨ (¬ alwaysResponds off ∧ ¬ reachesAll s d) then .drop
  else
    match r.filt with
    | .all | .d0 => if d = 0 then .take else .drop
    | .self | .rstCmd => .take
    | .jigNotice => if ownerSource s (116 + 5 * i) = some d then .take else .refuse
    | .hostSample => if d = s.get F.plmbCfgHostDrawer then .take else .refuse
    | .ringFilter => if d = s.get F.ringCfgRingDrawer then .take else .drop
    | .dbg => if dbgSealed s then .drop else if d = 0 then .take else .drop
    | f =>
      match ownerOf s f i with
      | some o => if o = d then .take else .refuse
      | none => if d = 0 then .drop else .refuse

/-- The filter of R493 for a read of drawer `d`. -/
def filterRead (s : State) (d : Nat) (r : RegRow) (i : Nat) (off : Nat) : Pass :=
  if ¬ reaches s d ∨ (¬ alwaysResponds off ∧ ¬ reachesAll s d) then .drop
  else
    match r.filt with
    | .all | .self | .ringFilter => .take
    | .d0 => if d = 0 then .take else .drop
    | .rstCmd => .drop
    | .hostSample => .drop
    | .jigNotice =>
      if (List.range 4).any fun t => ownerThread s (4 * i + t) == some d then .take else .refuse
    | .dbg =>
      match s.get F.optActive0DebugLock with
      | 0 => .take
      | 1 => if d = 0 then .take else .drop
      | _ => .drop
    | f =>
      match ownerOf s f i with
      | some o => if o = d then .take else .refuse
      | none => if d = 0 then .drop else .refuse

/-- The filter for a queue slot of `QWIN` (R103). -/
def filterSlot (s : State) (d n : Nat) : Pass :=
  if ¬ reachesAll s d then .drop
  else
    match ownerQueue s n with
    | some o => if o = d then .take else .refuse
    | none => if d = 0 then .drop else .refuse

/-! ### Staging memory (R102) -/

/-- `BULK_SIZE` of a drawer. -/
def bulkSize (s : State) (d : Nat) : Nat := 65536 * 2 ^ (s.get ⟨R.ownBulk, 8 * d + 2, 8 * d⟩)

/-- Key of a byte of a drawer's staging memory: offsets alias modulo `BULK_SIZE` (R102). -/
def bulkKey (s : State) (d off : Nat) : Nat := d * 2 ^ 26 + off % bulkSize s d

def rdBulk (s : State) (d off : Nat) : Byte := tabGet (fun _ => 0#8) s.fab.bulk (bulkKey s d off)

/-- `n` bytes from an offset. -/
def rdBulkN (s : State) (d off : Nat) : Nat → List Byte
  | 0 => []
  | n + 1 => rdBulk s d off :: rdBulkN s d (off + 1) n

/-- One byte written. -/
def wrBulk (s : State) (d off : Nat) (b : Byte) : State :=
  { s with fab := { s.fab with bulk := tabSet (fun _ => 0#8) s.fab.bulk (bulkKey s d off) b } }

/-- The uncorrectable mark of the 16-byte word at an offset. -/
def setBulkPoison (s : State) (d off : Nat) (b : Bool) : State :=
  { s with fab := { s.fab with
      bulkPoison := tabSet (fun _ => false) s.fab.bulkPoison (bulkKey s d off / 16) b } }

/-- Bytes written one after the other from an offset. -/
def wrBulkFrom (s : State) (d off : Nat) : List Byte → State
  | [] => s
  | b :: bs => wrBulkFrom (wrBulk s d off b) d (off + 1) bs

/-- Bytes written from an offset; each 16-byte word written whole loses its uncorrectable mark (R471). -/
def wrBulkL (s : State) (d off : Nat) (l : List Byte) : State :=
  let first := ceilDiv off 16
  foldUpto ((off + l.length) / 16 - first) (fun i s => setBulkPoison s d (16 * (first + i)) false)
    (wrBulkFrom s d off l)

/-- The whole staging memory of a drawer filled with zeros (R102). -/
def zeroBulk (s : State) (d : Nat) : State :=
  { s with fab := { s.fab with bulk := tabKeep (fun k => k / 2 ^ 26 != d) s.fab.bulk,
                               bulkPoison := tabKeep (fun k => k / 2 ^ 22 != d) s.fab.bulkPoison } }

/-- Whether any byte of a range of staging memory lies in a word marked uncorrectable. -/
def bulkPoisoned (s : State) (d off n : Nat) : Bool :=
  (List.range n).any fun i => tabGet (fun _ => false) s.fab.bulkPoison (bulkKey s d (off + i) / 16)

/-! ### Shelf queues (R112 to R128) -/

def State.queue (s : State) (n : Nat) : Queue := tabGet (fun _ => Queue.empty) s.fab.queues n

def State.setQueue (s : State) (n : Nat) (q : Queue) : State :=
  { s with fab := { s.fab with queues := tabSet (fun _ => Queue.empty) s.fab.queues n q } }

/-- Entries of a device-to-host queue not yet popped. -/
def descWords (l : List QDesc) : Nat := sumNat (l.map fun d => d.words.length)

/-- `LEVEL`: entries held, in either direction (R127). -/
def queueLevel (q : Queue) : Nat :=
  descWords q.chain + descWords q.ring + sumNat (q.sub.map fun d => d.words.length)

/-- Depth in entries. -/
def queueDepth (s : State) (n : Nat) : Nat := 2 ^ s.get (F.queueCfgDepthLog2 n)

/-- Entries a device-to-host queue has room for; reservations count against it (R119). -/
def queueRoom (s : State) (n : Nat) : Nat :=
  queueDepth s n - (queueLevel (s.queue n) + (s.queue n).reserved)

/-- The queue is in service. -/
def queueOn (s : State) (n : Nat) : Bool := s.on (F.queueCfgEnable n)

/-- `LEVEL` and `WM_STATE` follow the contents (R127). -/
def syncQueue (s : State) (n : Nat) : State :=
  let l := queueLevel (s.queue n)
  let s := s.put (F.queueStatLevel n) l
  if l ≤ s.get (F.queueWmLow n) then s.put (F.queueStatWmState n) 0
  else if s.get (F.queueWmHigh n) ≤ l then s.put (F.queueStatWmState n) 1
  else s

/-- A descriptor enters the chain behind every descriptor of its level or a higher one and behind
one that has begun to be read (R120). -/
def chainInsert (d : QDesc) (chain : List QDesc) : List QDesc :=
  let r := chain.reverse
  let post := r.takeWhile fun x => decide (d.prio < x.prio) && x.popped == 0
  (r.drop post.length).reverse ++ [d] ++ post.reverse

/-- The oldest descriptor of the highest level in the ring. -/
def ringBest (ring : List QDesc) : Option QDesc :=
  findFirst (fun d => ring.all fun x => decide (d.prio ≤ x.prio)) ring

/-- Descriptors move from the ring into free stages of the 32-stage chain, higher levels first; each
is readable 100 ns after it enters (R120). -/
def refill (now : Time) : Nat → Queue → Queue
  | 0, q => q
  | k + 1, q =>
    match ringBest q.ring with
    | none => q
    | some d =>
      if descWords q.chain + d.words.length ≤ 32 then
        refill now k { q with chain := chainInsert { d with ready := after now (nsSteps 100) } q.chain,
                              ring := dropFirst (fun x => x == d) q.ring }
      else q

/-- A descriptor is written to a device-to-host queue (R120); source 152 + n counts it (R129). -/
def queueWrite (s : State) (n : Nat) (words : List QWordP) (prio : Nat) : State :=
  let q := s.queue n
  let d : QDesc := ⟨words, 0, prio, s.get (F.queueEpochEpoch n), 0#64⟩
  let q := refill s.tbCopy (q.ring.length + 1) { q with ring := q.ring ++ [d] }
  occur (syncQueue (s.setQueue n q) n) (152 + n)

/-- Every descriptor and entry discarded, with what a disable or a reset leaves of the queue. -/
def queueClear (q : Queue) : Queue :=
  { q with sub := [], chain := [], ring := [], reserved := 0, last := ⟨0#128, false⟩, lastStatus := 0#32 }

/-- Header fields of word 0 (R115). -/
def hdrWords (w : QWord) : Nat := w.toNat % 4 + 1
def hdrPrio (w : QWord) : Nat := bitsOf w.toNat 3 2
def hdrOp (w : QWord) : Nat := bitsOf w.toNat 15 4
def hdrTag (w : QWord) : Nat := bitsOf w.toNat 31 16

/-- Word 0 of a descriptor. -/
def word0 (l : List QWordP) : QWord :=
  match l with
  | [] => 0#128
  | w :: _ => w.word

/-- Credits of `w` words return on queue `n` (R117). -/
def returnCredit (s : State) (n w : Nat) : State :=
  let q := s.queue n
  let s := s.setQueue n { q with creditRet := (q.creditRet + w) % 65536 }
  let s := s.put (F.queueCredOutstanding n) (s.get (F.queueCredOutstanding n) - w)
  occur s (152 + n)

/-- Completion entry of a job (R118). -/
def completionWord (j : Job) : QWord :=
  let w0 := word0 j.words
  BitVec.ofNat 128
    (hdrPrio w0 * 4 + j.epoch % 16 * 16 + j.status % 256 * 2 ^ 8 + hdrTag w0 * 2 ^ 16 + j.queue * 2 ^ 32 +
      j.words.length * 2 ^ 40 + j.result.toNat * 2 ^ 64)

/-- A job leaves its unit. -/
def dropJob (s : State) (id : Nat) : State :=
  { s with fab := { s.fab with jobs := s.fab.jobs.filter fun j => j.id != id } }

/-- A job's completion entry is written into its `PAIR` queue and its credits return; after a
disable, a scrub or a drawer reset the completion is discarded (R107, R109, R117, R118, R126). -/
def completeJob (s : State) (j : Job) : State :=
  let s := dropJob s j.id
  if j.pair < 64 ∧ ownerQueue s j.pair = some j.drawer ∧ queueOn s j.pair ∧ ¬ drawerInReset s j.drawer ∧
      0 < (s.queue j.pair).reserved then
    let q := s.queue j.pair
    let s := s.setQueue j.pair { q with reserved := q.reserved - 1 }
    let s := queueWrite s j.pair [⟨completionWord j, false⟩] (hdrPrio (word0 j.words))
    returnCredit s j.queue j.words.length
  else s

/-- The job of number `id`. -/
def jobOf (s : State) (id : Nat) : Option Job := findFirst (fun j => j.id == id) s.fab.jobs

/-- A job replaced by another of the same number. -/
def setJob (s : State) (j : Job) : State :=
  { s with fab := { s.fab with jobs := mapFirst (fun x => x.id == j.id) (fun _ => j) s.fab.jobs } }

end Sys2Proof.Machine
end

