-- ==== Sys2Proof/Machine/Jig.lean ====
section
/-!
DEFINITION. The operations over Jig threads that the Greune meanings share (R135 to R149, R156):
registers, flags, windows, the status area, data memory, faults, waits, the fetch of an instruction
and the end of an action.
-/

namespace Sys2Proof.Machine

/-! ### Threads -/

def State.thr (s : State) (n : Nat) : Thread := tabGet (fun _ => Thread.init) s.jig.threads n

def State.setThr (s : State) (n : Nat) (t : Thread) : State :=
  { s with jig := { s.jig with threads := tabSet (fun _ => Thread.init) s.jig.threads n t } }

/-- A change of one thread. -/
def modThr (s : State) (n : Nat) (f : Thread → Thread) : State := s.setThr n (f (s.thr n))

/-- Core of a thread, and its number in the core (R135). -/
def coreOf (n : Nat) : Nat := n / 4
def lane (n : Nat) : Nat := n % 4

/-- A core is held in a level D reset. -/
def coreHeld (s : State) (c : Nat) : Bool := bitAt (s.get F.rstStatusIslandHeld) (8 + c)

/-- Core `c` rests in `NAP` during last-gasp: none of its threads is an outage thread (R454). -/
def coreNaps (s : State) (c : Nat) : Bool :=
  s.on F.pwrStatusLastGasp && (s.rd R.pwrLgThreads).toNat / 16 ^ c % 16 == 0

/-- The thread holds windows (R162, `LOADED`). -/
def loaded (t : Thread) : Bool := t.ilen != 0

/-- General register; `g0` reads zero (R135). -/
def gReg (t : Thread) (r : BitVec 4) : Word := if r = 0#4 then 0#32 else tabGet (fun _ => 0#32) t.g r.toNat

/-- Write of a general register; a write to `g0` is ignored (R135). -/
def setG (t : Thread) (r : BitVec 4) (v : Word) : Thread :=
  if r = 0#4 then t else { t with g := tabSet (fun _ => 0#32) t.g r.toNat v }

/-- Time register. -/
def tReg (t : Thread) (k : BitVec 2) : Time := tabGet (fun _ => 0#64) t.t k.toNat

def setT (t : Thread) (k : BitVec 2) (v : Time) : Thread :=
  { t with t := tabSet (fun _ => 0#64) t.t k.toNat v }

/-- Action slot. -/
def actOf (t : Thread) (k : Nat) : Act := tabGet (fun _ => Act.empty) t.acts k

def setAct (t : Thread) (k : Nat) (a : Act) : Thread :=
  { t with acts := tabSet (fun _ => Act.empty) t.acts k a }

/-- The action of a thread's slot. -/
def State.act (s : State) (n k : Nat) : Act := actOf (s.thr n) k

def State.setAct (s : State) (n k : Nat) (a : Act) : State := modThr s n fun t => Machine.setAct t k a

/-- The flags word as a number (R138). -/
def flagsNat (f : Flags) : Nat :=
  b2n f.z + 2 * b2n f.n + 4 * b2n f.c + 8 * b2n f.late + 16 * b2n f.fail + 32 * b2n f.miss + 64 * b2n f.deny

/-- State code of `JT_STAT_n` (R162). -/
def stateCode : TState → Nat
  | .idle => 0 | .run => 1 | .waitTime => 2 | .waitEvent => 3 | .waitPage => 4 | .waitGrant => 5
  | .halt => 6 | .fault => 7

/-- `JT_STAT_n` as read (R162); `CMD_REFUSED` is held in the register file. -/
def jtStat (s : State) (n : Nat) : Word :=
  let t := s.thr n
  BitVec.ofNat 32 (stateCode t.state + 8 * b2n (loaded t) + 16 * t.faultCause + 2 ^ 8 * (t.pc % 2 ^ 13) +
    2 ^ 21 * flagsNat t.flags + 2 ^ 28 * s.get (F.jtStatCmdRefused n))

/-- `JT_IWIN_n` and `JT_DWIN_n` as read (R162). -/
def jtIwin (s : State) (n : Nat) : Word :=
  let t := s.thr n
  if loaded t then BitVec.ofNat 32 (t.ibase + 2 ^ 13 * (t.ibase + t.ilen - 1)) else 0#32

def jtDwin (s : State) (n : Nat) : Word :=
  let t := s.thr n
  if t.dlen = 0 then BitVec.ofNat 32 t.dbase else BitVec.ofNat 32 (t.dbase + 2 ^ 14 * (t.dbase + t.dlen - 1))

/-! ### Results and refusals of instructions -/

/-- The instruction is done: the program counter moves on and its cost is taken (R165). -/
def done (n cost : Nat) (s : State) : State := modThr s n fun t => { t with pc := t.pc + 1, cost := cost }

/-- `FAIL` set with a cause; the slot concerned is recorded (R138, R139). -/
def failWith (n slot cause : Nat) (s : State) : State :=
  modThr s n fun t => { t with flags := { t.flags with fail := true }, cause := cause, causeSlot := slot }

/-- `FAIL` written to 0. -/
def failClear (n : Nat) (s : State) : State :=
  modThr s n fun t => { t with flags := { t.flags with fail := false } }

/-- `DENY` set with a cause. -/
def denyWith (n slot cause : Nat) (s : State) : State :=
  modThr s n fun t => { t with flags := { t.flags with deny := true }, cause := cause, causeSlot := slot }

/-- `MISS` written. -/
def missSet (n : Nat) (b : Bool) (s : State) : State :=
  modThr s n fun t => { t with flags := { t.flags with miss := b } }

/-- The late count of a thread: a statistics counter with no overflow event named (assumption 7). -/
def countLate (n : Nat) (s : State) : State := bumpStat (R.jtLateCnt n) id s

/-- `LATE` set, with how late in ns, saturating (R139, R143, R149). -/
def setLate (n : Nat) (target : Time) (s : State) : State :=
  let s := modThr s n fun t =>
    { t with flags := { t.flags with late := true },
             lateNs := min 0xFFFFFFFF (stepsNs (s.tbCopy.toNat - target.toNat)) }
  countLate n s

/-- `LATE` written to 0. -/
def clearLate (n : Nat) (s : State) : State :=
  modThr s n fun t => { t with flags := { t.flags with late := false } }

/-- The thread faults (R142, R156): cause and info recorded, source 115 + 5c counted. -/
def threadFault (n cause detail : Nat) (s : State) : State :=
  let pc := (s.thr n).pc
  let s := modThr s n fun t => { t with state := .fault, faultCause := cause, wait := .none }
  let s := s.wr (R.jtFaultInfo n) (BitVec.ofNat 32 (pc % 2 ^ 13 + detail % 65536 * 65536))
  occur s (115 + 5 * coreOf n)

/-- A fault for whose `DETAIL` the spec states no value: that value is free (assumption 2). -/
def threadFaultFree (n cause : Nat) (s : State) : State := threadFault n cause s.free s.drew

def causeOwnership : Nat := 1
def causeFence : Nat := 2
def causeIllegal : Nat := 3
def causePoison : Nat := 4
def causeStack : Nat := 5
def causeTrap : Nat := 6
def causeAlign : Nat := 7

/-! ### Fetch (R137, R156, R163) -/

/-- An instruction word and whether it is marked uncorrectable. -/
def imemWord (s : State) (c i : Nat) : Word := tabGet (fun _ => 0#32) s.jig.imem (8192 * c + i)
def imemBad (s : State) (c i : Nat) : Bool := tabGet (fun _ => false) s.jig.imemPoison ((8192 * c + i) / 4)

/-- The index lies in the thread's instruction window. -/
def inIwin (t : Thread) (i : Nat) : Bool := decide (t.ibase ≤ i) && decide (i < t.ibase + t.ilen)

/-- What a thread's next issue meets. -/
inductive Fetch where
  /-- the thread does not issue: it is not in `RUN`, or its core is in reset or rests -/
  | idle
  /-- the fetch faults with a cause -/
  | bad (cause : Nat)
  | word (i : GInstr)
deriving DecidableEq, Repr

/-- The next instruction of thread `n`. -/
def fetch (s : State) (n : Nat) : Fetch :=
  let t := s.thr n
  if t.state ≠ .run ∨ coreHeld s (coreOf n) ∨ coreNaps s (coreOf n) then .idle
  else if ¬ inIwin t t.pc then .bad causeFence
  else if imemBad s (coreOf n) t.pc then .bad causePoison
  else
    match gDecode (imemWord s (coreOf n) t.pc) with
    | some i => .word i
    | none => .bad causeIllegal

/-- One issue of thread `n`.  A fetch that faults faults the thread.  When the instruction is one that
`f` takes, `f` gives its effect, from the prefix latch, which any issue clears (R167).  When it is
another, the command is not what the thread issues and nothing happens (assumption 8). -/
def issue (s : State) (n : Nat) (f : GInstr → Option Nat → State → Option State) : State :=
  match fetch s n with
  | .idle => s
  | .bad c =>
    if c = causeFence then threadFault n c (s.thr n).pc s else threadFaultFree n c s
  | .word i =>
    match f i (s.thr n).pfx (modThr s n fun t => { t with pfx := none }) with
    | some t => t
    | none => s

/-! ### Status area and data memory (R137, R139, R169) -/

/-- Byte address of thread `t`'s status area (R139). -/
def statBase (n : Nat) : Nat := 0x3F00 + 0x40 * lane n

/-- Code of tracker states in `ZX_STATE`. -/
def zxStateWord (s : State) : Nat :=
  s.get (F.zxStatState 0) + 4 * s.get (F.zxStatState 1) + 16 * s.get (F.zxStatState 2)

/-- Number of a phase's latest crossing. -/
def zxLast (s : State) (p : Nat) : Nat := (tabGet (fun _ => Trk.init) s.line.trk p).num

/-- The words of a thread's status area, first address first (R139). -/
def statWords (s : State) (n : Nat) : List Nat :=
  let t := s.thr n
  [t.cause + 256 * t.causeSlot, t.lateNs, t.wakeTime.toNat % 2 ^ 32, t.wakeTime.toNat / 2 ^ 32, t.endBits,
    zxStateWord s, zxLast s 0, zxLast s 1, zxLast s 2, 0, 0, 0] ++
  (List.range 4).map fun k =>
    let a := actOf t k
    a.status + 256 * a.cause + 65536 * (a.info % 65536)

/-- Byte `a` of a thread's status area. -/
def statByte (s : State) (n a : Nat) : Byte :=
  BitVec.ofNat 8 ((statWords s n).getD (a / 4) 0 / 256 ^ (a % 4))

/-- The address lies in the thread's data window. -/
def inDwin (t : Thread) (a : Nat) : Bool := decide (t.dbase ≤ a) && decide (a < t.dbase + t.dlen)

/-- The address lies in the thread's own status area. -/
def inStat (n a : Nat) : Bool := decide (statBase n ≤ a) && decide (a < statBase n + 64)

/-- Every byte of an access lies where the thread may read, or write (R137). -/
def mayRead (s : State) (n a k : Nat) : Bool :=
  (List.range k).all fun i => inDwin (s.thr n) (a + i) || inStat n (a + i)
def mayWrite (s : State) (n a k : Nat) : Bool := (List.range k).all fun i => inDwin (s.thr n) (a + i)

/-- A byte of a core's data memory. -/
def dmemByte (s : State) (c a : Nat) : Byte := tabGet (fun _ => 0#8) s.jig.dmem (16384 * c + a)

/-- A byte as thread `n` loads it. -/
def ldByte (s : State) (n a : Nat) : Byte :=
  if inStat n a then statByte s n (a - statBase n) else dmemByte s (coreOf n) a

/-- `k` bytes as the thread loads them. -/
def ldBytes (s : State) (n a : Nat) : Nat → List Byte
  | 0 => []
  | k + 1 => ldByte s n a :: ldBytes s n (a + 1) k

/-- Whether any byte of an access lies in a word marked uncorrectable. -/
def dmemBad (s : State) (c a k : Nat) : Bool :=
  (List.range k).any fun i => tabGet (fun _ => false) s.jig.dmemPoison ((16384 * c + a + i) / 16)

/-- One byte of a core's data memory written. -/
def stByte (s : State) (c a : Nat) (b : Byte) : State :=
  { s with jig := { s.jig with dmem := tabSet (fun _ => 0#8) s.jig.dmem (16384 * c + a) b } }

/-- Bytes written from an address. -/
def stBytes (s : State) (c a : Nat) : List Byte → State
  | [] => s
  | b :: bs => stBytes (stByte s c a b) c (a + 1) bs

/-- The uncorrectable mark of a 16-byte data word written. -/
def setDmemPoison (s : State) (c a : Nat) (b : Bool) : State :=
  { s with jig := { s.jig with dmemPoison := tabSet (fun _ => false) s.jig.dmemPoison ((16384 * c + a) / 16) b } }

/-! ### Waits (R142, R143) -/

/-- The thread enters a wait. -/
def enterWait (n cost : Nat) (st : TState) (w : Wait) (s : State) : State :=
  modThr s n fun t => { t with state := st, wait := w, cost := cost }

/-- The thread returns to `RUN` after its waiting instruction; `WAKE_TIME` is written (R139). -/
def exitWait (n : Nat) (s : State) : State :=
  modThr s n fun t =>
    { t with state := .run, wait := .none, pc := t.pc + 1, wakeTime := s.tbCopy, runAt := s.tbCopy }

/-- A time wait until `target`, or `LATE` when the target has come (R143). -/
def waitUntil (n cost : Nat) (target : Time) (s : State) : State :=
  if atOrBefore target s.tbCopy then done n cost (setLate n target s)
  else enterWait n cost .waitTime (.time target) (clearLate n s)

/-! ### End of an action (R140, R148) -/

/-- The grant of a holder is returned (R448). -/
def releaseGrant (w : Holder) (s : State) : State :=
  { s with pwr := { s.pwr with held := s.pwr.held.filter fun g => g.who != w } }

/-- A waiting request is withdrawn. -/
def dropRequest (w : Holder) (s : State) : State :=
  { s with pwr := { s.pwr with waiting := s.pwr.waiting.filter fun g => g.who != w } }

/-- A slot leaves `PENDING`: its record is written, its wake bit set and its grant returned. -/
def endAct (n k status cause info : Nat) (s : State) : State :=
  let s := modThr s n fun t =>
    let a := actOf t k
    { setAct t k { a with status := status, cause := cause, info := info, stage := .none } with
      wakeBits := t.wakeBits ||| 2 ^ (8 + k) }
  releaseGrant (.act n k) s

/-- Statuses of `ACT_REC` (R140). -/
def stPending : Nat := 1
def stDone : Nat := 2
def stNoFrame : Nat := 3
def stFailed : Nat := 4
def stCancelled : Nat := 5

/-- The slot is `PENDING`. -/
def isPending (a : Act) : Bool := a.status == stPending

/-- Payload length of an action, for `INFO` (R140). -/
def infoOf (a : Act) : Nat :=
  match a.body with
  | .txf d => d.payload.length
  | .rtx d => d.payload.length
  | _ => 0

/-- An action not prepared in time: not started, recorded, counted and notified (R150). -/
def actLate (n k : Nat) (s : State) : State :=
  let s := endAct n k stFailed 0x01 (infoOf (s.act n k)) s
  let s := countLate n s
  let s := s.put (F.jigNoticeLateAction (coreOf n)) 1
  occur s (116 + 5 * coreOf n)

/-- Every thread number, in rising order. -/
def allThreads : List Nat := List.range 32

/-- Every pair of thread and slot whose action is pending and passes a test. -/
def pendingActs (s : State) (p : Act → Bool) : List (Nat × Nat) :=
  allThreads.flatMap fun n => (List.range 4).filterMap fun k =>
    let a := s.act n k
    if isPending a && p a then some (n, k) else none

/-- An operation applied to each pair of thread and slot, in rising order. -/
def forActs (l : List (Nat × Nat)) (f : Nat → Nat → State → State) (s : State) : State :=
  l.foldl (fun a p => f p.1 p.2 a) s

end Sys2Proof.Machine
end

