-- ==== Sys2Proof/Machine/Flags.lean ====
section
/-!
DEFINITION. The ALU's results and every flag computation of chapter 6 (R138, R168, R171, R174).
-/

namespace Sys2Proof.Machine

/-- The 32-bit result of an ALU operation (R168). -/
def aluResult (op : AluOp) (a b : Word) : Word :=
  match op with
  | .add => a + b
  | .sub => a - b
  | .and => a &&& b
  | .or => a ||| b
  | .xor => a ^^^ b
  | .shl => a <<< (b.toNat % 32)
  | .shr => a >>> (b.toNat % 32)
  | .sra => a.sshiftRight (b.toNat % 32)
  | .mul => BitVec.ofNat 32 (a.toNat * b.toNat)
  | .mulh => BitVec.ofNat 32 (a.toNat * b.toNat / 2 ^ 32)
  | .cmp => a - b

/-- The `C` flag of an ALU operation (R168): carry, borrow, last bit shifted out, or high half. -/
def aluCarry (op : AluOp) (a b : Word) : Bool :=
  let k := b.toNat % 32
  match op with
  | .add => decide (2 ^ 32 ≤ a.toNat + b.toNat)
  | .sub | .cmp => decide (a.toNat < b.toNat)
  | .and | .or | .xor | .mulh => false
  | .shl => k != 0 && a.getLsbD (32 - k)
  | .shr | .sra => k != 0 && a.getLsbD (k - 1)
  | .mul => decide (2 ^ 32 ≤ a.toNat * b.toNat)

/-- `Z` and `N` from a result and `C` as given; the other flags unchanged (R138, R168). -/
def withZNC (f : Flags) (r : Word) (c : Bool) : Flags :=
  { f with z := r == 0#32, n := r.getLsbD 31, c := c }

/-- Issue cost of an ALU operation (R168). -/
def aluCost (op : AluOp) : Nat :=
  match op with
  | .mul | .mulh => 2
  | _ => 1

/-- An ALU operation on thread `n`: the destination, unless it compares, and the flags (R168). -/
def aluApply (op : AluOp) (n : Nat) (rd : BitVec 4) (a b : Word) (s : State) : State :=
  let r := aluResult op a b
  let s := modThr s n fun t =>
    let t := if op = .cmp then t else setG t rd r
    { t with flags := withZNC t.flags r (aluCarry op a b) }
  done n (aluCost op) s

/-- A branch condition; 15 is unassigned (R171). -/
def condHolds (c : BitVec 4) (f : Flags) : Bool :=
  match c.toNat with
  | 0 => true
  | 1 => f.z | 2 => !f.z | 3 => f.n | 4 => !f.n | 5 => f.c | 6 => !f.c
  | 7 => f.late | 8 => f.fail | 9 => f.miss | 10 => f.deny
  | 11 => !f.late | 12 => !f.fail | 13 => !f.miss | 14 => !f.deny
  | _ => false

/-- Units to the second of a unit code: ns, µs, ms, s (R173). -/
def unitPerSec (u : BitVec 2) : Nat :=
  match u.toNat with
  | 0 => 1000000000
  | 1 => 1000000
  | 2 => 1000
  | _ => 1

/-- An integer in timebase steps, rounded to the nearest with ties away from zero (R174). -/
def stepsOfInt (perSec : Nat) (v : Int) : Int :=
  if v < 0 then -(stepsOf perSec v.natAbs : Int) else (stepsOf perSec v.natAbs : Int)

/-- Sum of `TADD`: saturates at 0 and 2^64 - 1, `C` when it does (R174). -/
def taddResult (t : Time) (b : Word) (u : BitVec 2) : Time × Bool :=
  let v := (t.toNat : Int) + stepsOfInt (unitPerSec u) b.toInt
  if v < 0 then (0#64, true)
  else if (2 ^ 64 : Int) ≤ v then (BitVec.allOnes 64, true)
  else (BitVec.ofNat 64 v.toNat, false)

/-- Magnitude of a number of steps in whole units, nearest, ties away from zero (R174, assumption 9). -/
def stepsToUnits (perSec n : Nat) : Nat := (2 * n * perSec + 2 ^ 32) / 2 ^ 33

/-- Difference of `TSUB`: saturates at -2^31 and 2^31 - 1, `C` when it does (R174). -/
def tsubResult (a b : Time) (u : BitVec 2) : Word × Bool :=
  let m := stepsToUnits (unitPerSec u) (if a.toNat < b.toNat then b.toNat - a.toNat else a.toNat - b.toNat)
  if a.toNat < b.toNat then
    if 2 ^ 31 < m then (BitVec.ofNat 32 (2 ^ 31), true) else (BitVec.ofInt 32 (-(m : Int)), false)
  else if 2 ^ 31 ≤ m then (BitVec.ofNat 32 (2 ^ 31 - 1), true)
  else (BitVec.ofNat 32 m, false)

end Sys2Proof.Machine
end

