-- ==== Sys2Proof/Machine/Operands.lean ====
section
/-!
DEFINITION. Every operand form of the Greune instructions: immediates and the prefix (R166, R167),
data addresses (R169, R175), queue and context operands (R184, R189), and the ownership of R153.
-/

namespace Sys2Proof.Machine

/-- An immediate sign-extended, or the 32-bit value of the prefix (R166, R167). -/
def immSigned (p : Option Nat) (imm : BitVec 16) : Word :=
  match p with
  | some h => BitVec.ofNat 32 (h * 65536 + imm.toNat)
  | none => imm.signExtend 32

/-- An immediate zero-extended, or the 32-bit value of the prefix. -/
def immUnsigned (p : Option Nat) (imm : BitVec 16) : Word :=
  match p with
  | some h => BitVec.ofNat 32 (h * 65536 + imm.toNat)
  | none => imm.zeroExtend 32

/-- The immediate of an ALU opcode: `ADDI` and `SUBI` extend the sign, the shifts use bits [4:0] and
take no prefix, the others extend with zeros (R166, R167). -/
def aluImm (op : AluOp) (p : Option Nat) (imm : BitVec 16) : Word :=
  match op with
  | .add | .sub => immSigned p imm
  | .shl | .shr | .sra => BitVec.ofNat 32 (imm.toNat % 32)
  | _ => immUnsigned p imm

/-- Data address: base plus zero-extended offset, modulo 2^32 (R166, R169). -/
def dataAddr (t : Thread) (ra : BitVec 4) (imm : BitVec 16) : Nat := (gReg t ra + imm.zeroExtend 32).toNat

/-- Descriptor address: ra + 16 × doff (R175, R189). -/
def descAddr (t : Thread) (ra : BitVec 4) (doff : Nat) : Nat := (gReg t ra + BitVec.ofNat 32 (16 * doff)).toNat

/-- Size in bytes of a size code. -/
def sizeOf' (sz : BitVec 2) : Nat := 2 ^ sz.toNat

/-- Context number of rc: bits [13:0] (R175, R184). -/
def ctxOperand (t : Thread) (rc : BitVec 4) : Nat := (gReg t rc).toNat % 16384

/-- Queue of a queue operand: q, or rq bits [5:0] (R189). -/
def queueOperand (t : Thread) (q : BitVec 6) (qreg : Bool) (rq : BitVec 4) : Nat :=
  if qreg then (gReg t rq).toNat % 64 else q.toNat

/-- Owner drawer of a thread, the drawer whose resources it may name (R153). -/
def drawerOf (s : State) (n : Nat) : Option Nat := ownerThread s n

/-- A context number is owned by the thread's drawer. -/
def ownsCtx (s : State) (n c : Nat) : Bool := (ownerCtx s c).isSome && ownerCtx s c == drawerOf s n

/-- A queue is owned, with endpoint `JIG` (R153). -/
def ownsQueue (s : State) (n q : Nat) : Bool :=
  (ownerQueue s q).isSome && ownerQueue s q == drawerOf s n && s.get (F.queueCfgEndpoint q) == 0

/-- A key slot is owned. -/
def ownsKey (s : State) (n k : Nat) : Bool := (ownerKey s k).isSome && ownerKey s k == drawerOf s n

/-- A program event source of the thread's core is assigned to its drawer. -/
def ownsEvt (s : State) (n i : Nat) : Bool :=
  (ownerSource s (112 + 5 * coreOf n + i)).isSome && ownerSource s (112 + 5 * coreOf n + i) == drawerOf s n

/-- A target thread is owned. -/
def ownsThread (s : State) (n m : Nat) : Bool := (ownerThread s m).isSome && ownerThread s m == drawerOf s n

/-- The drawer may issue line actions, or radio actions (`JIG_AIR`, R153). -/
def mayLine (s : State) (n : Nat) : Bool :=
  match drawerOf s n with
  | some d => bitAt (s.get F.jigAirLine) d
  | none => false
def mayRadio (s : State) (n : Nat) : Bool :=
  match drawerOf s n with
  | some d => bitAt (s.get F.jigAirRadio) d
  | none => false

/-- The 128-bit words of a list of bytes, 16 bytes each, least significant byte first. -/
def qwordsOf : Nat → List Byte → List QWord
  | 0, _ => []
  | k + 1, l => BitVec.ofNat 128 (leNat (l.take 16)) :: qwordsOf k (l.drop 16)

end Sys2Proof.Machine
end

