-- ==== Sys2Proof/Machine/Ctx.lean ====
section
/-!
DEFINITION. Node contexts (R365 to R378): the record's words and their classes, residence, pins,
holds, misses, eviction, write-back, the journal, key positions and the address index.
-/

namespace Sys2Proof.Machine

/-! ### The record (R365 to R369) -/

/-- Access class of a record word (R365). -/
inductive WClass where
  | w | r | h
deriving DecidableEq, Repr

/-- Class of word `k` of a record (R366). -/
def wordClass (k : Nat) : WClass :=
  if 20 ≤ k ∧ k ≤ 43 then .h
  else if k = 3 ∨ k = 4 ∨ k = 5 ∨ k = 6 ∨ k = 8 ∨ k = 9 ∨ k = 11 ∨ (64 ≤ k ∧ k ≤ 159) ∨ k = 262 ∨
    (264 ≤ k ∧ k ≤ 269) ∨ (288 ≤ k ∧ k ≤ 303) ∨ (320 ≤ k ∧ k ≤ 511) then .w
  else .r

/-- Bits of a record word that hold something; the others of words 3, 4 and 6 read zero (R366). -/
def wordMask (k : Nat) : Word :=
  if k = 3 then 0x000000FF#32 else if k = 4 then 0x0000000F#32 else if k = 6 then 0x0000FFFF#32
  else if k = 267 then 0x0000FFFF#32 else 0xFFFFFFFF#32

def zeroWord : Nat → Word := fun _ => 0#32

/-- The record of context `c` lies in the cache (R370). -/
def resident (s : State) (c : Nat) : Bool := s.ncp.slots.any fun e => e.ctx == c

/-- Word `k` of a record: the cached copy, or the stored one. -/
def ctxWord (s : State) (c k : Nat) : Word :=
  if resident s c then tabGet zeroWord s.ncp.words (512 * c + k) else tabGet zeroWord s.nand.ctx (512 * c + k)

/-- Bits [hi:lo] of a record word. -/
def ctxBits (s : State) (c k hi lo : Nat) : Nat := bitsOf (ctxWord s c k).toNat hi lo

def setSlots (s : State) (l : List Slot) : State :=
  let s := { s with ncp := { s.ncp with slots := l } }
  s.put F.ncpStatusResident l.length

/-- An access sets the record's reference bit (R370). -/
def touch (c : Nat) (s : State) : State :=
  { s with ncp := { s.ncp with slots := mapFirst (fun e => e.ctx == c) (fun e => { e with ref := true }) s.ncp.slots } }

/-- The record has changed since its last write-back (R375). -/
def markDirty (c : Nat) (s : State) : State :=
  let f : Slot → Slot := fun e =>
    { e with ref := true, dirty := true, since := if e.dirty then e.since else s.tbCopy }
  { s with ncp := { s.ncp with slots := mapFirst (fun e => e.ctx == c) f s.ncp.slots } }

/-- Word `k` of a resident record written; a write narrower than the SRAM word leaves its mark (R471). -/
def setCtx (c k : Nat) (v : Word) (s : State) : State :=
  if resident s c then
    markDirty c { s with ncp := { s.ncp with
      words := tabSet zeroWord s.ncp.words (512 * c + k) v } }
  else s

/-- Bits of a record word written. -/
def setCtxBits (c k hi lo n : Nat) (s : State) : State :=
  setCtx c k (BitVec.ofNat 32 (putBits (ctxWord s c k).toNat hi lo n)) s

/-- A change that a journal record carries (R375). -/
def journal (c k : Nat) (s : State) : State :=
  { s with ncp := { s.ncp with journal := s.ncp.journal ++ [(512 * c + k, ctxWord s c k)] } }

/-- A journaled word written. -/
def setCtxJ (c k : Nat) (v : Word) (s : State) : State := journal c k (setCtx c k v s)

/-- The 128-bit word that holds a cached record word is marked uncorrectable. -/
def ctxBad (s : State) (c k : Nat) : Bool := tabGet (fun _ => false) s.ncp.bad ((512 * c + k) / 4)

def setCtxBad (c k : Nat) (b : Bool) (s : State) : State :=
  { s with ncp := { s.ncp with bad := tabSet (fun _ => false) s.ncp.bad ((512 * c + k) / 4) b } }

/-- Words `k` to `k + n - 1` have been written together: each 128-bit word among them loses its mark (R471). -/
def clearBad (c k n : Nat) (s : State) : State :=
  foldUpto ((k + n) / 4 - ceilDiv k 4) (fun i s => setCtxBad c (4 * (ceilDiv k 4 + i)) false s) s

def ncpOvf (s : State) : State := occur s 240

/-- A `STATS` count of a node; it saturates, and raises `CTX_STAT_OVF` once (R369). -/
def ctxStat (c k : Nat) (s : State) : State :=
  let v := (ctxWord s c k).toNat
  if v = 0xFFFFFFFF then s
  else
    let t := setCtx c k (BitVec.ofNat 32 (v + 1)) s
    if v + 1 = 0xFFFFFFFF then occur t 239 else t

/-- `VALID` of a record. -/
def ctxValid (s : State) (c : Nat) : Bool := ctxBits s c 2 16 16 == 1

/-- EUI-64 of a record. -/
def ctxEui (s : State) (c : Nat) : Nat := (ctxWord s c 0).toNat + (ctxWord s c 1).toNat * 2 ^ 32

/-- Short address of a record. -/
def ctxShort (s : State) (c : Nat) : Nat := ctxBits s c 2 15 0

/-- A pair of record words as a 64-bit number. -/
def ctxPair (s : State) (c k : Nat) : BitVec 64 := ctxWord s c (k + 1) ++ ctxWord s c k

/-- A pair of record words written. -/
def setCtxPair (c k : Nat) (v : BitVec 64) (s : State) : State :=
  setCtx c (k + 1) (v.extractLsb' 32 32) (setCtx c k (v.extractLsb' 0 32) s)

/-! ### Key positions (R352, R366, R367) -/

/-- First word of key position `p`. -/
def keyBase (p : Nat) : Nat := 20 + 12 * p

def roleEmpty : Nat := 0
def roleCurrent : Nat := 1
def roleNext : Nat := 2
def roleRetired : Nat := 3

def keyRole (s : State) (c p : Nat) : Nat := ctxBits s c (keyBase p + 11) 1 0
def keyType (s : State) (c p : Nat) : Nat := ctxBits s c (keyBase p + 11) 5 2
def rxSeen (s : State) (c p : Nat) : Bool := ctxBits s c (keyBase p + 11) 6 6 == 1
def keyWarned (s : State) (c p : Nat) : Bool := ctxBits s c (keyBase p + 11) 7 7 == 1
def txFc (s : State) (c p : Nat) : Nat := (ctxWord s c (keyBase p + 8)).toNat
def txCeil (s : State) (c p : Nat) : Nat := (ctxWord s c (keyBase p + 9)).toNat
def rxFc (s : State) (c p : Nat) : Nat := (ctxWord s c (keyBase p + 10)).toNat

/-- Key words of a position. -/
def keyWords (s : State) (c p : Nat) : List Word := (List.range 8).map fun i => ctxWord s c (keyBase p + i)

/-- The key of a position: an AES-128 key fills four words (R367). -/
def posKey (s : State) (c p : Nat) : List Byte :=
  ((keyWords s c p).flatMap fun w => leBytes 4 w.toNat).take (if keyType s c p = 5 then 16 else 32)

/-- The position of a role, if one has it. -/
def keyPosOf (s : State) (c role : Nat) : Option Nat :=
  if keyRole s c 0 = role then some 0 else if keyRole s c 1 = role then some 1 else none

/-- Fields of a position written, with their copies in `KEY_ROLES` (R366, R367). -/
def setRole (c p role : Nat) (s : State) : State :=
  let s := setCtxBits c (keyBase p + 11) 1 0 role s
  journal c 19 (journal c (keyBase p + 11) (setCtxBits c 19 (2 * p + 1) (2 * p) role s))

def setRxSeen (c p : Nat) (b : Bool) (s : State) : State :=
  let s := setCtxBits c (keyBase p + 11) 6 6 (b2n b) s
  setCtxBits c 19 (4 + p) (4 + p) (b2n b) s

def setWarned (c p : Nat) (b : Bool) (s : State) : State :=
  let s := setCtxBits c (keyBase p + 11) 7 7 (b2n b) s
  setCtxBits c 19 (6 + p) (6 + p) (b2n b) s

/-- Every word of a position journaled (R375: imports, promotions and erases). -/
def journalPos (c p : Nat) (s : State) : State :=
  foldUpto 12 (fun i s => journal c (keyBase p + i) s) (journal c 19 (journal c 18 s))

/-- A position emptied. -/
def emptyPos (c p : Nat) (s : State) : State :=
  let s := foldUpto 12 (fun i s => setCtx c (keyBase p + i) 0#32 s) s
  let s := setCtxBits c 19 (2 * p + 1) (2 * p) 0 s
  let s := setCtxBits c 19 (4 + p) (4 + p) 0 s
  journalPos c p (clearBad c (keyBase p) 12 (setCtxBits c 19 (6 + p) (6 + p) 0 s))

/-- `NEXT` becomes `CURRENT` and the former `CURRENT` `RETIRED` (R357). -/
def promote (c : Nat) (s : State) : State :=
  match keyPosOf s c roleNext with
  | none => s
  | some p =>
    let s := setRole c (1 - p) (if keyRole s c (1 - p) = roleCurrent then roleRetired else keyRole s c (1 - p)) s
    occur (setRole c p roleCurrent s) 221

/-- `REKEY_SOON` when a counter of a position first reaches its warning value (R354). -/
def rekeyWarn (c p v : Nat) (s : State) : State :=
  let lim := (s.rd R.ciphFcLimit).toNat - (s.rd R.ciphFcWarn).toNat
  if lim ≤ v ∧ ¬ keyWarned s c p then occur (setWarned c p true s) 219 else s

/-- A value a frame may take or carry (R354, R358). -/
def fcValid (s : State) (v : Nat) : Bool :=
  decide (v < (s.rd R.ciphFcLimit).toNat) && decide (v < 0xFFFFFFFF)

/-- The next counter value of a position's frames may be taken now: `TX_CEIL` above it is durable, in a commit without
`FINAL`, after which a mount goes on from `TX_CEIL` (R376, assumption 130). -/
def ceilDurable (s : State) (c p v : Nat) : Bool :=
  !s.nand.isFinal && decide (v < (tabGet zeroWord s.nand.ctx (512 * c + keyBase p + 9)).toNat)

/-- `TX_CEIL` rises by 1,024 when `TX_FC` reaches 256 below it, and the raise is journaled (R376). -/
def raiseCeil (c p : Nat) (s : State) : State :=
  if txCeil s c p ≤ txFc s c p + 256 ∧ txCeil s c p < 0xFFFFFFFF then
    setCtxJ c (keyBase p + 9) (BitVec.ofNat 32 (min 0xFFFFFFFF (txCeil s c p + 1024))) s
  else s

/-- A frame waits for a durable commit: `TX_CEIL` is raised, and after a `FINAL` commit something is journaled, so that
a commit follows. -/
def makeDurable (c p : Nat) (s : State) : State :=
  let s := raiseCeil c p s
  if s.nand.isFinal ∧ s.ncp.journal.isEmpty then journal c (keyBase p + 8) s else s

/-- The counter value `v` of a position is taken (R354). -/
def takeFc (c p v : Nat) (s : State) : State :=
  let s := setCtx c (keyBase p + 8) (BitVec.ofNat 32 (v + 1)) s
  rekeyWarn c p (v + 1) (raiseCeil c p s)

/-- The counter value is refused (R354). -/
def rekeyRefuse (s : State) : State :=
  occur (bumpStat R.ciphRekeyRefusedCnt (fun s => occur s 224) s) 220

/-! ### Pins and holds (R24, R146, R184) -/

def setPins (s : State) (l : List (Nat × Nat)) : State :=
  let s := { s with ncp := { s.ncp with pins := l } }
  s.put F.ncpStatusPinned l.length

/-- The pins of a thread, or those of a context, released. -/
def dropThreadPins (n : Nat) (s : State) : State := setPins s (s.ncp.pins.filter fun p => p.2 != n)
def dropCtxPins (c : Nat) (s : State) : State := setPins s (s.ncp.pins.filter fun p => p.1 != c)

def hold (c : Nat) (s : State) : State := { s with ncp := { s.ncp with holds := c :: s.ncp.holds } }

def unhold (c : Nat) (s : State) : State :=
  { s with ncp := { s.ncp with holds := dropFirst (fun x => x == c) s.ncp.holds } }

/-- Receptions under way that resolved to a context, one per decoder family and set: the family and set, the
context, and whether the frame was discarded already (R24, R373). -/
def rxSets (s : State) : List ((Nat × Nat) × Nat × Bool) :=
  (List.range 6).foldl (fun l k =>
    let x := tabGet (fun _ => Chain.init) s.line.chains k
    let add (f : Nat) (d : Decoder) (l : List ((Nat × Nat) × Nat × Bool)) : List ((Nat × Nat) × Nat × Bool) :=
      match d.current with
      | some r =>
        match r.res with
        | some p => if l.any fun e => e.1 == (f, r.set) then l else l ++ [((f, r.set), p)]
        | none => l
      | none => l
    add 1 x.swp2 (add 1 x.swp (add 0 x.nat l))) []

/-- A frame holds the context (R24). -/
def isHeld (s : State) (c : Nat) : Bool :=
  s.ncp.holds.contains c || (rxSets s).any fun e => !e.2.2 && e.2.1 == c

/-! ### Misses, eviction and write-back (R370 to R375) -/

/-- Table entries with keys from `lo` to `lo + n - 1`, taken from `src` in place of those of `dst`. -/
def tabCopyRange {α : Type} (lo n : Nat) (src dst : Tab α) : Tab α :=
  tabKeep (fun k => decide (k < lo)) dst ++ tabKeep (fun k => decide (lo ≤ k) && decide (k < lo + n)) src ++
    tabKeep (fun k => decide (lo + n ≤ k)) dst

/-- Entries of a key range removed. -/
def tabDropRange {α : Type} (lo n : Nat) (t : Tab α) : Tab α :=
  tabKeep (fun k => decide (k < lo) || decide (lo + n ≤ k)) t

/-- A resident record becomes durable as it stands, its poison recorded (R375, R472); what the journal would carry of
it is older. -/
def storeRecord (c : Nat) (s : State) : State :=
  let s := { s with nand := { s.nand with
      ctx := tabCopyRange (512 * c) 512 s.ncp.words s.nand.ctx
      bad := tabCopyRange (128 * c) 128 s.ncp.bad s.nand.bad } }
  { s with ncp := { s.ncp with
      slots := mapFirst (fun e => e.ctx == c) (fun e => { e with dirty := false }) s.ncp.slots
      journal := s.ncp.journal.filter fun e => e.1 / 512 != c } }

/-- The other record of a context's granule (R384). -/
def granuleMate (c : Nat) : Nat := if c % 2 = 0 then c + 1 else c - 1

/-- A write-back writes the whole granule to namespace 15, the other record from the cache when it is resident (R375,
R384). -/
def writeBack (c : Nat) (s : State) : State :=
  let s := storeRecord c s
  let s := if resident s (granuleMate c) then storeRecord (granuleMate c) s else s
  let n := tabGet (fun _ => 0) s.nand.ctxWrites (c / 2) + 1
  { s with nand := { s.nand with ctxWrites := tabSet (fun _ => 0) s.nand.ctxWrites (c / 2) n }
           ncp := { s.ncp with reads := 0 } }

/-- An entry that the sweep may take (R370). -/
def evictable (s : State) (c : Nat) : Bool :=
  !(s.ncp.pins.any fun p => p.1 == c) && !(isHeld s c) && !(s.ncp.misses.any fun m => m.ctx == c)

/-- The clock sweep from `hand`: set bits clear on the way; the first entry whose bit is clear and that is
not excluded is taken (R370). -/
def sweep (s : State) : Nat → List Slot → Nat → List Slot × Option Slot × Nat
  | 0, l, h => (l, none, h)
  | k + 1, l, h =>
    let i := h % max 1 l.length
    match l[i]? with
    | none => (l, none, h)
    | some e =>
      if e.ref then sweep s k (l.set i { e with ref := false }) (i + 1)
      else if evictable s e.ctx then (l, some e, i)
      else sweep s k l (i + 1)

/-- The cache entry that a new record takes: a fresh one, or when all are in use that of a victim, written back first
when dirty, the sweep going on behind it (R370). -/
def takeEntry (s : State) : State × Nat :=
  if s.ncp.slots.length < 2048 then (s, s.ncp.slots.length)
  else
    let (l, v, h) := sweep s (2 * s.ncp.slots.length + 1) s.ncp.slots s.ncp.hand
    let s := { s with ncp := { s.ncp with slots := l, hand := h } }
    match v with
    | none => (s, l.length)
    | some e =>
      let s := if e.dirty then writeBack e.ctx s else s
      ({ s with ncp := { s.ncp with
          words := tabDropRange (512 * e.ctx) 512 s.ncp.words, bad := tabDropRange (128 * e.ctx) 128 s.ncp.bad
          hand := h + 1 } }, h)

/-- A stored record becomes resident. -/
def insertRecord (c : Nat) (s : State) : State :=
  if resident s c then s
  else
    let (s, i) := takeEntry s
    let s := { s with ncp := { s.ncp with
      words := tabCopyRange (512 * c) 512 s.nand.ctx s.ncp.words
      bad := tabCopyRange (128 * c) 128 s.nand.bad s.ncp.bad } }
    setSlots s (s.ncp.slots.take i ++ [⟨c, true, false, s.tbCopy⟩] ++ s.ncp.slots.drop (i + 1))

/-- The context can never become resident before the next level B reset (R372). -/
def ctxDead (s : State) (c : Nat) : Bool := s.ncp.dead.contains c

/-- Miss `a` is served before miss `b`: by class, and within class 1 by deadline (R371); otherwise by arrival, the
order of the list. -/
def servedFirst (a b : Miss) : Bool :=
  decide (a.cls < b.cls) || (a.cls == 1 && b.cls == 1 && decide (a.due.toNat < b.due.toNat))

/-- Target that holds a context's granule. -/
def ctxTarget (s : State) (c : Nat) : Nat :=
  Config.ctxTarget (c / 2) (tabGet (fun _ => 0) s.nand.ctxWrites (c / 2)) % 8

/-- Reads under way on a target. -/
def readsOn (s : State) (t : Nat) : List Nat :=
  s.ncp.misses.filterMap fun m => m.issued.bind fun x => if x.1 = t then some x.2 else none

/-- The miss whose read is issued next: its target has fewer than four under way (R372). -/
def nextMiss (s : State) : Option Miss :=
  let l := s.ncp.misses.filter fun m => m.issued.isNone && decide ((readsOn s (ctxTarget s m.ctx)).length < 4)
  findFirst (fun m => l.all fun x => !servedFirst x m) l

/-- A dirty record's write-back period has passed (R375). -/
def writeBackDue (s : State) : Bool :=
  s.ncp.slots.any fun e => e.dirty &&
    decide (e.since.toNat + msSteps (1000 * max 1 (s.get F.ncpCfgWbPeriodS)) ≤ s.tbCopy.toNat)

/-- One read is issued, unless a write-back that is due has its turn: one in eight of the pager's operations (R371). -/
def issueRead (s : State) : State :=
  if 7 ≤ s.ncp.reads ∧ writeBackDue s then s
  else
    match nextMiss s with
    | none => s
    | some m =>
      let n := s.ncp.readNo + 1
      { s with ncp := { s.ncp with
          misses := mapFirst (fun x => x.ctx == m.ctx) (fun x => { x with issued := some (ctxTarget s m.ctx, n) }) s.ncp.misses
          readNo := n, reads := s.ncp.reads + 1 } }

/-- Reads are issued as far as targets are free; before the mount every miss waits (R390). -/
def issueReads (s : State) : State :=
  if ¬ s.on F.storStatusMounted then s else foldUpto s.ncp.misses.length (fun _ s => issueRead s) s

/-- A pending miss asked for again takes the higher class, and in class 1 the earlier deadline. -/
def raiseMiss (cls : Nat) (due : Time) (m : Miss) : Miss :=
  { m with cls := min m.cls cls, due := if cls = 1 ∧ (m.cls ≠ 1 ∨ due.toNat < m.due.toNat) then due else m.due }

/-- A fetch of a context not resident is requested at `t`, once (R146, R371). -/
def requestMissAt (t due : Time) (c cls : Nat) (s : State) : State :=
  if resident s c ∨ ctxDead s c then s
  else if s.ncp.misses.any (fun m => m.ctx == c) then
    { s with ncp := { s.ncp with misses := mapFirst (fun m => m.ctx == c) (raiseMiss cls due) s.ncp.misses } }
  else
    let s := { s with ncp := { s.ncp with misses := s.ncp.misses ++ [⟨c, cls, t, due, none⟩] } }
    issueReads (bumpStat R.ncpMissCnt ncpOvf s)

/-- A fetch requested now. -/
def requestMiss (c cls : Nat) (s : State) : State := requestMissAt s.tbCopy s.tbCopy c cls s

/-- The length of a miss recorded: the slow count above 400 µs, and the longest (R372). -/
def missEnd (m : Miss) (s : State) : State :=
  let us := (s.tbCopy.toNat - m.start.toNat) * 1000000 / 2 ^ 32
  let s := if usSteps 400 < s.tbCopy.toNat - m.start.toNat then
      occur (bumpStat R.ncpMissSlowCnt ncpOvf s) 236 else s
  let s := if s.get F.ncpMissMaxMaxUs < min us 0xFFFF then s.put F.ncpMissMaxMaxUs (min us 0xFFFF) else s
  if 0xFFFF < us then s.put F.ncpMissMaxSat 1 else s

/-- A miss leaves the list. -/
def dropMiss (c : Nat) (s : State) : State :=
  { s with ncp := { s.ncp with misses := s.ncp.misses.filter fun m => m.ctx != c } }

/-! ### The address index (R377, R378) -/

/-- Number of an index key, for the hash. -/
def idxNum : IdxKey → Nat
  | .eui v => 2 ^ 64 + v
  | .short v => v

/-- The context an index key maps to. -/
def idxFind (s : State) (k : IdxKey) : Option Nat := (findFirst (fun e => e.key == k) s.ncp.idx).map fun e => e.ctx

/-- A short address that is never indexed (R377). -/
def shortExcluded (s : State) (v : Nat) : Bool := v == 0xFFFF || v == 0xFFFE || v == s.get F.lmacOwnShort

/-- Index entries in the bucket that generation `g` gives a key. -/
def inBucket (g : Nat) (l : List IdxEnt) (k : IdxKey) : Nat :=
  (l.filter fun e => !e.ovf && Config.idxHash g (idxNum e.key) % 32768 == Config.idxHash g (idxNum k) % 32768).length

/-- Overflow entries of a list. -/
def ovfCount (l : List IdxEnt) : Nat := (l.filter fun e => e.ovf).length

/-- An insertion into a generation; none when its bucket and the overflow area are full (R378). -/
def idxAdd (g : Nat) (l : List IdxEnt) (k : IdxKey) (c : Nat) : Option (List IdxEnt) :=
  if inBucket g l k < 2 then some (l ++ [⟨k, c, false⟩])
  else if ovfCount l < 4096 then some (l ++ [⟨k, c, true⟩])
  else none

/-- The index as its registers show it. -/
def syncIdx (s : State) : State :=
  (s.put F.ncpIndexStatOverflow (ovfCount s.ncp.idx)).put F.ncpIndexStatEntries s.ncp.idx.length

def setIdx (s : State) (l : List IdxEnt) : State := syncIdx { s with ncp := { s.ncp with idx := l } }

/-- A rebuild starts, or a further one is noted (R378). -/
def startRebuild (s : State) : State :=
  if s.on F.ncpStatusRebuilding then { s with ncp := { s.ncp with again := true } }
  else { (s.put F.ncpStatusRebuilding 1) with ncp := { s.ncp with changes := 0 } }

/-- A rebuild starts by itself when the overflow area holds more than 1,024 entries, or after 4,096
frees and renamings; one that comes due during a rebuild follows it (R378). -/
def autoRebuild (s : State) : State :=
  if 1024 < ovfCount s.ncp.idx ∨ 4096 ≤ s.ncp.changes then startRebuild s else s

/-- The generation lookups use. -/
def idxGen (s : State) : Nat := s.get F.ncpStatusIdxGen

/-- Both entries of a context removed. -/
def idxRemove (c : Nat) (s : State) : State := setIdx s (s.ncp.idx.filter fun e => e.ctx != c)

/-- The index re-inserted under another generation. -/
def idxRehash (g : Nat) (l : List IdxEnt) : List IdxEnt :=
  l.foldl (fun acc e =>
    match idxAdd g acc e.key e.ctx with
    | some r => r
    | none => acc ++ [{ e with ovf := true }]) []

end Sys2Proof.Machine
end

