-- ==== Sys2Proof/Machine/Power.lean ====
section
/-!
DEFINITION. Island power states and the base (R443 to R447, R505), and the Clamp arbiter's grants
(R448 to R451).
-/

namespace Sys2Proof.Machine

def lastGasp (s : State) : Bool := s.on F.pwrStatusLastGasp
def standby (s : State) : Bool := s.on F.pwrStatusStandby

/-- Chain `c` is enabled and not stopped by last-gasp (R447). -/
def chainEnabled (s : State) (c : Nat) : Bool := s.on (F.lphyRxcfgEnable c) && !lastGasp s

/-- A receive window that names chain `c` is open, or a frame in it has not ended (R448). -/
def windowRuns (s : State) (c : Nat) : Bool :=
  !(pendingActs s fun a => (a.stage == .rxOpen || a.stage == .closing) && bitAt a.units c && (match a.body with
    | .rxw _ => true
    | _ => false)).isEmpty

/-- Chain `c` runs: enabled, or for the span of a window on it (R237, R448). -/
def chainRuns (s : State) (c : Nat) : Bool := chainEnabled s c || (windowRuns s c && !lastGasp s)

/-- Enabled chains that are not stopped, enabled transmitters. -/
def chainCount (s : State) : Nat := ((List.range 6).filter (chainEnabled s)).length
def txCount (s : State) : Nat := ((List.range 3).filter fun t => s.on (F.lphyTxcfgEnable t)).length

/-- Any chain, transmitter or the radio is enabled; last-gasp stops or refuses them (R444, R454). -/
def airOn (s : State) : Bool :=
  !lastGasp s && (decide (0 < chainCount s) || decide (0 < txCount s) || s.on F.radioCfgEnable)

/-- A line or radio action is pending. -/
def airPending (s : State) : Bool :=
  !(pendingActs s fun a => match a.body with
    | .none | .cyp _ => false
    | _ => true).isEmpty

/-- A frame of the 9640 is on the air. -/
def airEmitting (s : State) : Bool := !(pendingActs s fun a => a.stage == .emitting).isEmpty

/-- Jobs of a unit in the machine. -/
def hasJobs (s : State) (u : QUnit) : Bool := s.fab.jobs.any fun j => j.unit == u

/-- A `CYP` job is pending. -/
def cypPending (s : State) : Bool :=
  !(pendingActs s fun a => match a.body with
    | .cyp _ => true
    | _ => false).isEmpty

/-- What holds an island up: 0 at `ACTIVE`, 1 at `IDLE` or above, 3 nothing (R444, R454). -/
def islandHold (s : State) (i : Nat) : Nat :=
  match i with
  | 0 => if airOn s ∨ airEmitting s then 0 else if airPending s then 1 else 3
  | 1 => if hasJobs s .cipher ∨ cypPending s then 0 else if airOn s then 1 else 3
  | 2 =>
    if ¬ s.ncp.misses.isEmpty ∨ hasJobs s .storage ∨ ¬ s.stor.ops.isEmpty then 0
    else if s.on F.storStatusMounted ∧ airOn s then 1 else 3
  | 3 => if standby s then 3 else 0
  | 4 =>
    if (¬ lastGasp s ∧ (List.range 64).any (fun n => decide (0 < queueLevel (s.queue n)))) ∨
        ¬ s.ncp.misses.isEmpty ∨ s.on F.ncpStatusRebuilding then 0
    else if airOn s then 1 else 3
  | 5 =>
    if s.pwr.pcie = 1 ∨ s.pwr.csLow ≠ 0 ∨ s.pwr.hostAwake ∨ (¬ standby s ∧ (List.range 4).any fun u =>
        s.on (F.uartCfgEnable u) && s.on (F.uartCfgFrameMode u) && s.on (F.uartCfgRole u)) then 0
    else if ¬ standby s ∧ s.pwr.pcie ≠ 0 then 1 else 3
  | 6 => if ¬ stageReady s ∨ ¬ s.att.queue.isEmpty then 0 else 3
  | 7 => 0
  | _ =>
    let ts := (List.range 4).map fun t => s.thr (4 * (i - 8) + t)
    if coreNaps s (i - 8) then 3
    else if ts.any fun t => t.state == .run then 0
    else if ts.any fun t => t.state == .waitEvent || t.state == .waitPage || t.state == .waitGrant then 1
    else if ts.any fun t => match t.state, t.wait with
        | .waitTime, .time g | .waitTime, .zx _ _ _ _ g => decide (g.toNat ≤ s.tbCopy.toNat + usSteps 100)
        | _, _ => false then 1
    else 3

/-- The deepest state an island admits (R444, R452, R454). -/
def islandDeepest (s : State) (i : Nat) : Nat :=
  match i with
  | 0 | 1 | 5 => 3
  | 2 => 3
  | 3 => if standby s then 3 else 0
  | 4 => if standby s ∨ (lastGasp s ∧ s.on F.storStatusLastGaspFlushed) then 2 else 1
  | 6 => if standby s then 3 else 1
  | 7 => 0
  | _ => 2

/-- The drawers whose tolerance for a class counts, and their tolerance in µs (R446). -/
def ltrOf (s : State) (cls d : Nat) : Nat :=
  match cls with
  | 0 => s.get (fldOf d F.pwrLtrAQueueUs)
  | 1 => s.get (fldOf d F.pwrLtrAStorageUs)
  | 2 => s.get (fldOf d F.pwrLtrBCipherUs)
  | _ => s.get (fldOf d F.pwrLtrBSerialUs)

/-- Drawer `d` uses a class (R446). -/
def usesClass (s : State) (cls d : Nat) : Bool :=
  match cls with
  | 0 => drawerEnabled s d
  | 1 => (List.range 15).any fun n => ownerNs s n == some d
  | 2 => (List.range 256).any fun n => ownerKey s n == some d
  | _ => (List.range 4).any (fun u => ownerUart s u == some d) || s.get F.ringCfgRingDrawer == d

/-- Classes mapped to an island. -/
def islandClasses (i : Nat) : List Nat :=
  match i with
  | 1 => [2]
  | 2 => [1]
  | 4 => [0]
  | 5 => [0, 3]
  | _ => []

/-- Tolerances that apply to an island. -/
def islandLtrs (s : State) (i : Nat) : List Nat :=
  (islandClasses i).flatMap fun c => ((List.range 4).filter (usesClass s c)).map (ltrOf s c)

/-- The deepest state whose wake time every tolerance bears (R443, R446). -/
def ltrDeepest (l : List Nat) : Nat :=
  if l.all fun t => decide (1200 ≤ t) then 3
  else if l.all fun t => decide (40 ≤ t) then 2
  else if l.all fun t => decide (1 ≤ t) then 1
  else 0

/-- State of island `i`, as `PWR_ISLAND` reports it (R444, R454). -/
def islandState (s : State) (i : Nat) : Nat :=
  let byLtr := if lastGasp s ∨ standby s then 3 else ltrDeepest (islandLtrs s i)
  min (min (islandHold s i) (islandDeepest s i)) byLtr

/-- Draw of an island in its state, in hundredths of a mW (R505). -/
def islandDraw (s : State) (i : Nat) : Nat :=
  let pick (a b c d : Nat) : Nat := match islandState s i with
    | 0 => a | 1 => b | 2 => c | _ => d
  match i with
  | 0 => pick (35000 + 25000 * chainCount s + 10000 * txCount s + 5000 * s.get F.radioCfgEnable) 12000 4000 500
  | 1 => pick 20000 3000 1500 200
  | 2 => pick 10000 3000 1000 200
  | 3 => pick 29000 29000 29000 800
  | 4 => pick 45000 20000 6000 6000
  | 5 => pick 35000 5500 2000 500
  | 6 => pick 15000 2000 2000 300
  | 7 => 1500
  | _ => pick 4375 500 125 125

/-- A logic-die island is above `NAP` (R505). -/
def logicAwake (s : State) : Bool :=
  (List.range 16).any fun i => i != 3 && i != 7 && decide (islandState s i < 2)

/-- The base in mW (R447, R505), rounded up. -/
def baseMw (s : State) : Nat :=
  ceilDiv (sumNat ((List.range 16).map (islandDraw s)) + 1000 + (if logicAwake s then 8500 else 0) +
    2500 * chainCount s) 100

/-- On-die charge of an `RTX` at a level (R448). -/
def rtxMw (level : Nat) : Nat := if level ≤ 40 then 150 else if level ≤ 48 then 250 else 350

/-- On-die reserve (R449). -/
def reserveMw (s : State) : Nat := 300 + if s.on F.radioCfgEnable then rtxMw (s.get F.radioCfgAckLevel) else 0

/-- External reserve (R449). -/
def reserveExt (s : State) : Nat :=
  sumNat ((List.range 3).map fun t => if s.on (F.lphyTxcfgEnable t) then s.get (F.pwrLdMwLdMw t) else 0)

/-- Budget in mW (R447, R454). -/
def budgetMw (s : State) : Nat := if lastGasp s then 350 else 1000 + 50 * min 100 (s.get F.pwrBudgetBudget)

/-- Grantable pool (R449). -/
def poolMw (s : State) : Int := (budgetMw s : Int) - baseMw s - reserveMw s

/-- Grants held together, on die and external, and by one drawer. -/
def heldMw (s : State) : Nat := sumNat (s.pwr.held.map fun g => g.mw)
def heldExt (s : State) : Nat := sumNat (s.pwr.held.map fun g => g.ext)
def heldOf (s : State) (d : Nat) : Nat := sumNat ((s.pwr.held.filter fun g => g.drawer == d).map fun g => g.mw)

/-- `OVER` (R449). -/
def poolOver (s : State) : Bool := decide (poolMw s < 0)

/-- A request fits the free pool and the free external budget (R450). -/
def grantFits (s : State) (g : Grant) : Bool :=
  decide ((g.mw : Int) ≤ poolMw s - heldMw s) &&
    (g.ext == 0 || s.get F.pwrLdCfgLdBudgetMw == 0 ||
      decide (g.ext + heldExt s + reserveExt s ≤ s.get F.pwrLdCfgLdBudgetMw))

/-- Share of a drawer in per cent. -/
def shareOf (s : State) (d : Nat) : Nat := s.get ⟨R.pwrShare, 8 * d + 6, 8 * d⟩

/-- A request lies within its drawer's share (R450). -/
def withinShare (s : State) (g : Grant) : Bool :=
  decide ((100 : Int) * (heldOf s g.drawer + g.mw) ≤ shareOf s g.drawer * poolMw s)

/-- No request of another drawer waits. -/
def aloneWaiting (s : State) (d : Nat) : Bool := s.pwr.waiting.all fun w => w.drawer == d

/-- Last-gasp keeps a request waiting: of a core that rests, or of a host job (R454). -/
def heldBack (s : State) (g : Grant) : Bool :=
  lastGasp s && (match g.who with
    | .act n _ => coreNaps s (coreOf n)
    | .job _ => true
    | .nand _ => false)

/-- A request may be given now (R450). -/
def grantable (s : State) (g : Grant) : Bool :=
  grantFits s g && (withinShare s g || aloneWaiting s g.drawer) && !heldBack s g

/-- A waiting request of the same drawer and class stands in front (R450). -/
def blockedBy (l : List Grant) (g : Grant) : Bool := l.any fun w => w.drawer == g.drawer && w.bulk == g.bulk

/-- A grant given. -/
def giveGrant (g : Grant) (s : State) : State :=
  { s with pwr := { s.pwr with held := s.pwr.held ++ [g], waiting := s.pwr.waiting.filter fun w => w.who != g.who } }

/-- A request waits. -/
def queueGrant (g : Grant) (s : State) : State := { s with pwr := { s.pwr with waiting := s.pwr.waiting ++ [g] } }

/-- A request is given at once: it asks nothing, or it may be given and none stands in front (R448, R450). -/
def givenNow (s : State) (g : Grant) : Bool :=
  (g.mw == 0 && g.ext == 0) || (grantable s g && !blockedBy s.pwr.waiting g)

/-- The requests that may be given among the waiting ones: no earlier one of their drawer and class
waits, and each fits (R450). -/
def readyGrants (s : State) : List Grant → List Grant → List Grant
  | _, [] => []
  | before, g :: rest =>
    if grantable s g && !blockedBy before g then g :: readyGrants s (before ++ [g]) rest
    else readyGrants s (before ++ [g]) rest

/-- The waiting request served next: schedule before bulk, within its share before beyond it, then by
arrival (R450). -/
def nextGrant (s : State) : Option Grant :=
  let l := readyGrants s [] s.pwr.waiting
  match findFirst (fun g => !g.bulk && withinShare s g) l with
  | some g => some g
  | none =>
    match findFirst (fun g => !g.bulk) l with
    | some g => some g
    | none =>
      match findFirst (fun g => withinShare s g) l with
      | some g => some g
      | none => l.head?

/-- A no-wait refusal counts for its drawer (R451); saturation sets `STAT_OVF` of `PWR_CAUSE`. -/
def countDeny (d : Nat) (s : State) : State := bumpStat (R.pwrDenyCnt d) (fun s => s.put F.pwrCauseStatOvf 1) s

/-- External charge of a transmitter: `LD_MW_t` halved for each whole 3 dB of `ATTEN`, while the external
budget applies (R448). -/
def ldCharge (s : State) (t atten : Nat) : Nat :=
  if s.get F.pwrLdCfgLdBudgetMw = 0 then 0 else s.get (F.pwrLdMwLdMw t) / 2 ^ (atten / 3)

end Sys2Proof.Machine
end

