-- ==== Sys2Proof/Machine/Queues.lean ====
section
/-!
DEFINITION. Shelf queues (R112 to R128): enabling, disabling, doorbells, pops and the taking of
descriptors by the units; and the commands on event sources (R129 to R133).
-/

namespace Sys2Proof.Machine

/-! ### Enable and disable (R113, R126) -/

/-- An endpoint code allowed in a direction (R112, R113). -/
def endpointOk (h2d : Bool) (ep : Nat) : Bool :=
  if h2d then decide (ep ≤ 4) else ep == 0 || ep == 4 || ep == 5 || ep == 6

/-- Entries of every enabled queue together. -/
def depthsTotal (s : State) : Nat :=
  sumNat ((List.range 64).map fun n => if queueOn s n then queueDepth s n else 0)

/-- Lowest refusal reason of an enable of queue `n`, under the values its registers would hold; 0 for
none (R113). -/
def enableReason (s : State) (n : Nat) : Nat :=
  let dl := s.get (F.queueCfgDepthLog2 n)
  let h2d := s.on (F.queueCfgDir n)
  let ep := s.get (F.queueCfgEndpoint n)
  let p := s.get (F.queueCfgPair n)
  let ci := s.get (F.queueCredCreditInit n)
  if dl < 6 ∨ 12 < dl then 1
  else if 131072 < depthsTotal s + 2 ^ dl then 2
  else if h2d ∧ (ci = 0 ∨ 2 ^ dl < ci) then 3
  else if h2d ∧ 1 ≤ ep ∧ ep ≤ 4 ∧ ¬ (queueOn s p ∧ s.get (F.queueCfgEndpoint p) = 6 ∧
      ownerQueue s p = ownerQueue s n) then 4
  else if ¬ endpointOk h2d ep then 5
  else if s.on (F.queueWmWmEn n) ∧ s.get (F.queueWmHigh n) ≤ s.get (F.queueWmLow n) then 7
  else 0

/-- An enable or disable refused (R113). -/
def refuseEnable (n reason : Nat) (s : State) : State :=
  (s.put (F.queueStatEnableRefused n) 1).put (F.queueStatRefuseReason n) reason

/-- Queue `n` goes into service: its epoch rises and its credit sequence starts again (R112, R122, R126). -/
def enableQueue (n : Nat) (s : State) : State :=
  let q := s.queue n
  let s := s.put (F.queueCfgEnable n) 1
  let s := s.put (F.queueStatActive n) 1
  let s := s.put (F.queueEpochEpoch n) (s.get (F.queueEpochEpoch n) + 1)
  syncQueue (s.setQueue n { q with creditRet := 0, last := ⟨0#128, false⟩, lastStatus := 0#32 }) n

/-- Threads that wait in `DEQ` on a queue return with `FAIL`, cause `QUEUE_OFF` (R191). -/
def wakeDeqOff (q : Nat) (s : State) : State :=
  allThreads.foldl (fun s n =>
    match (s.thr n).wait with
    | .deq p _ _ _ => if p = q then exitWait n (failWith n 0 0x21 s) else s
    | _ => s) s

/-- One credit return of `w` words, and one dropped descriptor: each counts in `QUEUE_DROP_CNT_n` and on
the queue's source (R126, R129). -/
def dropDesc (n : Nat) (s : State) : State :=
  occur (bumpStat (R.queueDropCnt n) fabricOvf s) (152 + n)

/-- Jobs whose completion queue is cleared lose their completion (R107, R109, assumption 10). -/
def orphanPair (n : Nat) (s : State) : State :=
  { s with fab := { s.fab with
      jobs := s.fab.jobs.map fun j => if j.pair = n then { j with pair := 64 } else j } }

/-- Queue `n` leaves service (R126): what it holds is discarded; host-to-device words return as credit. -/
def disableQueue (n : Nat) (s : State) : State :=
  if ¬ queueOn s n then s
  else
    let q := s.queue n
    let s := s.put (F.queueCfgEnable n) 0
    let s := s.put (F.queueStatActive n) 0
    let s :=
      if s.on (F.queueCfgDir n) then
        let w := sumNat (q.sub.map fun d => d.words.length)
        let s := s.setQueue n { q with sub := [] }
        let s := if w = 0 then s else returnCredit s n w
        foldUpto q.sub.length (fun _ s => dropDesc n s) s
      else
        orphanPair n (s.setQueue n { q with chain := [], ring := [], reserved := 0 })
    wakeDeqOff n (syncQueue s n)

/-- A completion entry reserved in queue `n` is free again (R107, R119). -/
def unreserve (n : Nat) (s : State) : State := s.setQueue n { s.queue n with reserved := (s.queue n).reserved - 1 }

/-- Jobs taken from a queue lose their completion (R107). -/
def orphanJobs (n : Nat) (s : State) : State :=
  let s := (s.fab.jobs.filter fun j => j.queue == n && decide (j.pair < 64)).foldl (fun s j => unreserve j.pair s) s
  { s with fab := { s.fab with
      jobs := s.fab.jobs.map fun j => if j.queue = n then { j with pair := 64 } else j } }

/-- Fields of `QUEUE_CFG_n` beside `ENABLE` take what a write gives them while the queue is out of
service (R113). -/
def writeQueueCfg (n : Nat) (v : Word) (be : BitVec 4) (s : State) : State :=
  let old := s.rd (R.queueCfg n)
  let new := beMerge old v be &&& 0x0000FFFE#32
  s.wr (R.queueCfg n) (new ||| (old &&& 1#32))

/-- A write of `QUEUE_CFG_n` by the queue's owner (R113, R126). -/
def queueCfgWrite (n : Nat) (v : Word) (be : BitVec 4) (s : State) : State :=
  if queueOn s n then
    if be.getLsbD 0 ∧ ¬ v.getLsbD 0 then
      if s.get (F.queueCfgEndpoint n) = 6 ∧
          (List.range 64).any (fun m => queueOn s m && s.on (F.queueCfgDir m) &&
            decide (1 ≤ s.get (F.queueCfgEndpoint m)) && decide (s.get (F.queueCfgEndpoint m) ≤ 4) &&
            s.get (F.queueCfgPair m) == n) then refuseEnable n 6 s
      else disableQueue n s
    else s
  else
    let s := writeQueueCfg n v be s
    if be.getLsbD 0 ∧ v.getLsbD 0 then
      if enableReason s n = 0 then enableQueue n s else refuseEnable n (enableReason s n) s
    else s

/-- A write to a resource register goes through the filter of R103: `f` when it is taken, a violation
when it is refused, nothing when it is discarded. -/
def filtered (s : State) (d : Nat) (off : Nat) (f : State → State) : State :=
  match findRow off with
  | none => s
  | some (r, i, _) =>
    match filterWrite s d r i off with
    | .take => f s
    | .drop => s
    | .refuse => violation s d false off true

/-- `QUEUE_ENABLE` (R113): a write of `ENABLE` 1. -/
def execQueueEnable (d : Drawer) (n : Fin 64) (v : Word) (be : BitVec 4) (s : State) : Ans :=
  if be.getLsbD 0 ∧ v.getLsbD 0 then
    .next (filtered s d.val (R.queueCfg n.val) (queueCfgWrite n.val v be))
  else .next s

/-- `QUEUE_DISABLE` (R126): a write of `ENABLE` 0. -/
def execQueueDisable (d : Drawer) (n : Fin 64) (v : Word) (be : BitVec 4) (s : State) : Ans :=
  if be.getLsbD 0 ∧ ¬ v.getLsbD 0 then
    .next (filtered s d.val (R.queueCfg n.val) (queueCfgWrite n.val v be))
  else .next s

/-! ### Doorbell (R116) -/

/-- An access to a queue slot of `QWIN` goes through the filter of R103. -/
def filteredSlot (s : State) (d n off : Nat) (write : Bool) (f : State → State) : State :=
  match filterSlot s d n with
  | .take => f s
  | .drop => s
  | .refuse => violation s d true (256 * n + off) write

/-- The staged descriptor's word `i`. -/
def stageWord (q : Queue) (i : Nat) : QWord :=
  BitVec.ofNat 128 (sumNat ((List.range 4).map fun k =>
    (tabGet (fun _ => 0#32) q.stage (4 * i + k)).toNat * 2 ^ (32 * k)))

/-- A doorbell on queue `n` by its owner (R114, R116). -/
def ring (n : Nat) (s : State) : State :=
  if ¬ s.on (F.queueCfgDir n) then s
  else if ¬ queueOn s n then bumpStat (R.queueDropCnt n) fabricOvf s
  else
    let q := s.queue n
    let w := hdrWords (stageWord q 0)
    if s.get (F.queueCredOutstanding n) + w ≤ s.get (F.queueCredCreditInit n) then
      let d : HDesc := ⟨(List.range w).map fun i => ⟨stageWord q i, false⟩, s.get (F.queueEpochEpoch n)⟩
      let s := s.setQueue n { q with sub := q.sub ++ [d] }
      syncQueue (s.put (F.queueCredOutstanding n) (s.get (F.queueCredOutstanding n) + w)) n
    else dropDesc n (s.put (F.queueStatCreditViol n) 1)

/-- `DOORBELL` (R116): any write to the queue's `DOORBELL`. -/
def execDoorbell (d : Drawer) (n : Fin 64) (_v : Word) (s : State) : Ans :=
  .next (filteredSlot s d.val n.val 0x20 true (ring n.val))

/-! ### Pop (R120 to R122) -/

/-- Status word of a popped word (R121). -/
def popStatus (d : QDesc) (w : QWordP) (level : Nat) : Word :=
  BitVec.ofNat 32 (1 + 4 * b2n w.poison + 8 * (d.prio % 4) + 32 * (d.popped % 4) +
    128 * b2n (d.words.length == 1) + 256 * (d.epoch % 16) + 65536 * (level % 8192))

/-- Status of a read that found nothing readable (R122): `UNDERRUN`, the last word's `POISON`, the
present level and the other fields as last latched. -/
def underStatus (q : Queue) : Word :=
  BitVec.ofNat 32 (putBits (putBits (putBits q.lastStatus.toNat 1 0 2) 2 2 (b2n q.last.poison)) 28 16
    (queueLevel q))

/-- The pop of a device-to-host queue: the first readable descriptor in chain order gives its next word
and, once begun, stands at the front (R120); none readable: an underrun (R122). -/
def popQueue (n : Nat) (s : State) : State :=
  let q := s.queue n
  match findFirst (fun d => atOrBefore d.ready s.tbCopy) q.chain with
  | none =>
    bumpStat (R.queueUnderCnt n) fabricOvf (s.setQueue n { q with lastStatus := underStatus q })
  | some d =>
    match d.words with
    | [] => s
    | w :: ws =>
      let rest := dropFirst (fun x => x == d) q.chain
      let chain := if ws.isEmpty then rest else { d with words := ws, popped := d.popped + 1 } :: rest
      let q := refill s.tbCopy (q.ring.length + 1) { q with chain := chain }
      let q := { q with last := w, lastStatus := popStatus d w (queueLevel q) }
      let s := s.setQueue n q
      let s := if w.poison then s.put (F.queueStatPoisonSeen n) 1 else s
      syncQueue s n

/-- What a read of the read port of queue `n` returns: the latched word and its status (R121); zero on
a host-to-device queue (R114). -/
def portOut (s : State) (d n : Nat) : Out :=
  if s.on (F.queueCfgDir n) then .pop d n 0#128 0#32
  else .pop d n (s.queue n).last.word (s.queue n).lastStatus

/-- A read of slot bytes from `first` of queue `n`: byte 0 pops (R121); a poisoned word is noted for the drawer
(R472). -/
def readPort (d n first : Nat) (s : State) : State :=
  let s := if first = 0 ∧ ¬ s.on (F.queueCfgDir n) then popQueue n s else s
  let s := if first < 16 ∧ ¬ s.on (F.queueCfgDir n) ∧ (s.queue n).last.poison then poisonRead d 1 (256 * n + first) s else s
  s.emit (portOut s d n)

/-- `QUEUE_POP` (R121): a read of bytes of `QR_ENTRY` and `QR_STATUS`; refused, it reads zero (R103). -/
def execQueuePop (d : Drawer) (n : Fin 64) (first last : Fin 20) (s : State) : Ans :=
  if last.val < first.val then .next s
  else
    match filterSlot s d.val n.val with
    | .take => .next (readPort d.val n.val first.val s)
    | .drop => .next (s.emit (.pop d.val n.val 0#128 0#32))
    | .refuse =>
      .next ((violation s d.val true (256 * n.val + first.val) false).emit (.pop d.val n.val 0#128 0#32))

/-! ### Units take descriptors (R119, R123) -/

/-- Endpoint code of a unit (R112). -/
def unitCode : QUnit → Nat
  | .storage => 1 | .cipher => 2 | .pager => 3 | .serial => 4

/-- A queue whose front descriptor a unit may take now: enabled, of the unit, its `PAIR` queue in service with room
for the completion (R119). -/
def takable (s : State) (u : QUnit) (n : Nat) : Bool :=
  queueOn s n && s.on (F.queueCfgDir n) && s.get (F.queueCfgEndpoint n) == unitCode u &&
    !(s.queue n).sub.isEmpty && (ownerQueue s n).isSome && queueOn s (s.get (F.queueCfgPair n)) &&
    decide (0 < queueRoom s (s.get (F.queueCfgPair n)))

/-- The next queue in round-robin order after the one the unit served last (R119). -/
def nextTake (s : State) (u : QUnit) : Option Nat :=
  let last := tabGet (fun _ => 63) s.fab.turn (unitCode u)
  findFirst (takable s u) ((List.range 64).map fun i => (last + 1 + i) % 64)

/-- A unit takes the front descriptor of queue `n`: one completion entry is reserved; a poisoned
descriptor is not executed (R119, R123). -/
def takeFrom (u : QUnit) (n : Nat) (s : State) : State :=
  match (s.queue n).sub with
  | [] => s
  | h :: rest =>
    let q := s.queue n
    let pair := s.get (F.queueCfgPair n)
    let bad := h.words.any fun w => w.poison
    let j : Job := ⟨s.fab.nextJob, u, (ownerQueue s n).getD 0, n, pair, h.epoch, h.words, 0, 0, 0#64, []⟩
    let s := syncQueue (s.setQueue n { q with sub := rest }) n
    let p := s.queue pair
    let s := s.setQueue pair { p with reserved := p.reserved + 1 }
    let s := { s with fab := { s.fab with
      jobs := s.fab.jobs ++ [j], nextJob := s.fab.nextJob + 1,
      turn := tabSet (fun _ => 63) s.fab.turn (unitCode u) n } }
    if bad then completeJob (s.put (F.queueStatPoisonSeen n) 1) { j with status := 1 } else s

/-! ### Event sources (R129 to R133) -/

/-- `EVENT_TIMER_EXPIRE` (R131): the timer of a counting source ends and the source fires. -/
def execEventTimerExpire (src : Fin 288) (s : State) : Ans :=
  match (s.evt src.val).timer with
  | some t => .next (fire (s.passTo t) src.val)
  | none => .next s

/-- A write of `EVT_ROUTE_n` by the source's owner (R130, R131). -/
def evtRouteWrite (d n : Nat) (v : Word) (be : BitVec 4) (s : State) : State :=
  let new := beMerge (s.rd (R.evtRoute n)) v be
  if new.getLsbD 9 ∧ ownerPin s (bitsOf new.toNat 8 6) ≠ some d then
    violation s d false (R.evtRoute n) true
  else
    let s := s.wrTyped (R.evtRoute n) v be
    if new.getLsbD 10 then s else s.setEvt n evtZero

/-- `EVT_ROUTE_WRITE` (R130). -/
def execEvtRouteWrite (d : Drawer) (src : Fin 288) (v : Word) (be : BitVec 4) (s : State) : Ans :=
  .next (filtered s d.val (R.evtRoute src.val) (evtRouteWrite d.val src.val v be))

/-- Sources of word `w` of `EVT_PEND` that drawer `d` owns, as bits (R132). -/
def pendMask (s : State) (d w : Nat) : Word :=
  BitVec.ofNat 32 (sumNat ((List.range 32).map fun b =>
    if ownerSource s (32 * w + b) = some d then 2 ^ b else 0))

/-- `EVT_PEND_CLEAR` (R132, R133): pending bits of the drawer's own sources clear; the pins are
`irqPin`. -/
def execEvtPendClear (d : Drawer) (w : Fin 9) (v : Word) (be : BitVec 4) (s : State) : Ans :=
  if ¬ reachesAll s d.val then .next s
  else .next (s.wr (R.evtPend w.val)
    (s.rd (R.evtPend w.val) &&& ~~~(v &&& byteMask be &&& pendMask s d.val w.val)))

/-- A vector's mask is cleared; a message pending behind it is sent (R132). -/
def unmaskVector (d vec : Nat) (s : State) : State :=
  let m := msixOf s d vec
  let s := setMsix s d vec { m with masked := false, pba := false }
  if m.pba ∧ isPcie s d ∧ bitAt (msixCtl s d) 1 ∧ ¬ bitAt (msixCtl s d) 0 then
    s.emit (.msix d vec (m.addrHi ++ m.addrLo) m.data)
  else setMsix s d vec { m with masked := false }

/-- `MSIX_UNMASK` (R132). -/
def execMsixUnmask (d : Drawer) (vec : Fin 64) (s : State) : Ans :=
  if ¬ isPcie s d.val ∨ ¬ reachesAll s d.val then .next s else .next (unmaskVector d.val vec.val s)

end Sys2Proof.Machine
end

