-- ==== Sys2Proof/Machine/Cipher.lean ====
section
/-!
DEFINITION. The cipher engines' jobs and the key slots (R339 to R353, R359 to R364): the rules of
modes and lengths, charges, acceptance, completion, import, erase and promotion.
-/

namespace Sys2Proof.Machine

/-! ### Modes, lengths and charges (R342, R343) -/

/-- Fields of an AES job that R342 judges. -/
structure AesFields where
  mode : Nat
  dec : Bool
  pad : Nat
  tagLen : Nat
  len : Nat
  aadLen : Nat
  ivLen : Nat
deriving DecidableEq, Repr

/-- The fields meet R342 and the IV lengths of R186. -/
def aesOk (f : AesFields) : Bool :=
  let plain := f.pad == 0 && f.tagLen == 0 && f.aadLen == 0 && f.ivLen == 16
  match f.mode with
  | 1 =>
    f.tagLen == 0 && f.aadLen == 0 && f.ivLen == 16 &&
      (match f.pad with
       | 0 => !f.dec || f.len % 16 == 0
       | 1 => !f.dec || (f.len % 16 == 0 && decide (16 ≤ f.len))
       | 2 => decide (16 ≤ f.len)
       | _ => false)
  | 2 | 3 | 4 => plain
  | 5 =>
    f.pad == 0 && decide (7 ≤ f.ivLen) && decide (f.ivLen ≤ 13) && decide (f.len < 2 ^ (8 * (15 - f.ivLen))) &&
      decide (4 ≤ f.tagLen) && decide (f.tagLen ≤ 16) && f.tagLen % 2 == 0
  | 6 =>
    f.pad == 0 && decide (7 ≤ f.ivLen) && decide (f.ivLen ≤ 13) && decide (f.len < 2 ^ (8 * (15 - f.ivLen))) &&
      ((f.tagLen == 0 && f.aadLen == 0) || f.tagLen == 4 || f.tagLen == 8 || f.tagLen == 16)
  | 7 =>
    f.pad == 0 && f.ivLen == 12 &&
      (f.tagLen == 4 || f.tagLen == 8 || (decide (12 ≤ f.tagLen) && decide (f.tagLen ≤ 16)))
  | 8 => plain && decide (16 ≤ f.len)
  | _ => false

/-- Bytes of output of a job that passes (R342); a PKCS#7 decryption gives `LEN` − p. -/
def aesOutLen (f : AesFields) : Nat :=
  if f.mode = 1 ∧ ¬ f.dec then
    match f.pad with
    | 0 => 16 * ceilDiv f.len 16
    | 1 => 16 * (f.len / 16 + 1)
    | _ => f.len
  else f.len

/-- `PAD` can make the output longer than the input (R186). -/
def padLengthens (f : AesFields) : Bool := f.mode == 1 && !f.dec && decide (f.pad < 2)

/-- Charge in block operations (R343). -/
def aesCharge (f : AesFields) : Nat :=
  let a := if f.aadLen = 0 then 0 else ceilDiv (f.aadLen + 2) 16
  let b := ceilDiv f.len 16
  match f.mode with
  | 1 => if f.pad = 1 ∧ ¬ f.dec then f.len / 16 + 1 else b
  | 5 | 6 => 2 * b + a + 2
  | 7 => b + 2
  | 8 => b + 1
  | _ => b

/-! ### Key slots (R347, R348) -/

def keyOf (s : State) (n : Nat) : List Byte := tabGet (fun _ => []) s.ciph.keys n

def setKey (n : Nat) (k : List Byte) (s : State) : State :=
  { s with ciph := { s.ciph with keys := tabSet (fun _ => []) s.ciph.keys n k } }

/-- Key material of an internal slot, which no host can name (R347, R362). -/
def innerKey (s : State) (n : Nat) : List Byte := s.ciph.inner.getD n []

/-- Limit and usage counter of a slot, 48 bits each. -/
def limHi (s : State) (n : Nat) : Nat := tabGet (fun _ => 0xFFFF) s.ciph.limHi n
def keyLimit (s : State) (n : Nat) : Nat := (s.rd (R.keyLimitLo n)).toNat + limHi s n * 2 ^ 32
def keyUse (s : State) (n : Nat) : Nat := (s.rd (R.keyUseLo n)).toNat + s.get (F.keyHiUseHi n) * 2 ^ 32

def setLimit (n v : Nat) (s : State) : State :=
  let s := { s with ciph := { s.ciph with limHi := tabSet (fun _ => 0xFFFF) s.ciph.limHi n (v / 2 ^ 32) } }
  (s.wr (R.keyLimitLo n) (BitVec.ofNat 32 v)).put (F.keyHiLimitHi n) (v / 2 ^ 32)

/-- The counter set; it sticks at its limit (R13). -/
def setUse (n v : Nat) (s : State) : State :=
  let v := min v 0xFFFFFFFFFFFF
  (s.wr (R.keyUseLo n) (BitVec.ofNat 32 v)).put (F.keyHiUseHi n) (v / 2 ^ 32)

/-- A slot emptied: erase, scrub or drawer reset; `KEY_GEN_n` is kept (R107, R353). -/
def emptyKey (n : Nat) (s : State) : State :=
  setUse n 0 (setLimit n 0xFFFFFFFFFFFF ((setKey n [] s).wr (R.keyInfo n) 0#32))

/-- A job refused for a slot's limit: `EXHAUSTED`, and its event when the bit was clear (R348). -/
def keyExhausted (n : Nat) (s : State) : State :=
  if s.on (F.keyInfoExhausted n) then s else occur (s.put (F.keyInfoExhausted n) 1) 218

/-- The slot's `MODES` allow mode bit `m`. -/
def modesAllow (s : State) (n m : Nat) : Bool := bitAt (s.get (F.keyInfoModes n)) m

/-- The slot's type suits an AES mode (R345, R347). -/
def typeSuits (s : State) (n mode : Nat) : Bool :=
  let t := s.get (F.keyInfoType n)
  if mode = 8 then t == 3 || t == 4 else t == 1 || t == 2

def ciphOvf (s : State) : State := occur s 224

/-- A verification mismatch counts and is raised (R359). -/
def cipherFault (s : State) : State := occur (bumpStat R.ciphFaultCnt ciphOvf s) 216

/-- A job's tag failure counts and is raised (R346, R363). -/
def authFail (s : State) : State := occur (bumpStat R.ciphAuthFailCnt ciphOvf s) 217

/-! ### Host jobs (R344 to R346) -/

/-- Word `i` of a job's descriptor as a number. -/
def jw (j : Job) (i : Nat) : Nat :=
  match j.words[i]? with
  | some w => w.word.toNat
  | none => 0

def jOp (j : Job) : Nat := hdrOp (word0 j.words)
def jTarget (j : Job) : Nat := bitsOf (jw j 0) 45 32
def jNode (j : Job) : Bool := bitAt (jw j 0) 46
def jEngine (j : Job) : Bool := bitAt (jw j 0) 47
def jSrc (j : Job) : Nat := bitsOf (jw j 0) 95 64
def jDst (j : Job) : Nat := bitsOf (jw j 0) 127 96

/-- Words a cipher operation's descriptor has (R344). -/
def ciphWords (op : Nat) : Nat :=
  if op = 0x010 ∨ op = 0x022 then 3 else if op = 0x031 ∨ op = 0x032 then 1 else 2

/-- A number has no bit outside the ranges given. -/
def onlyBits (v : Nat) (l : List (Nat × Nat)) : Bool :=
  v == sumNat (l.map fun r => bitsOf v r.1 r.2 * 2 ^ r.2)

/-- Bits of each word that the operation uses; the others are zero (R344). -/
def ciphBits (op : Nat) : List (List (Nat × Nat)) :=
  let hdr := (31, 0)
  let tgt := (45, 32)
  let src := (95, 64)
  let dst := (127, 96)
  match op with
  | 0x010 =>
    [[hdr, tgt, (59, 47), src, dst], [(22, 0), (44, 32), (52, 48), src, dst], [(31, 0)]]
  | 0x020 => [[hdr, (60, 60), src, dst], [(22, 0)]]
  | 0x021 => [[hdr, tgt, src, dst], []]
  | 0x022 => [[hdr, tgt, src], [src, dst], [(63, 32)]]
  | 0x023 => [[hdr, tgt, src, dst], [src]]
  | 0x024 => [[hdr, dst], [(22, 0)]]
  | 0x030 => [[hdr, (46, 32), src], []]
  | _ => [[hdr, (46, 32)]]

/-- The descriptor has the operation's words and no bit it does not name. -/
def ciphShape (j : Job) : Bool :=
  j.words.length == ciphWords (jOp j) &&
    (List.range j.words.length).all fun i => onlyBits (jw j i) ((ciphBits (jOp j)).getD i [])

/-- Fields of an `AES` job. -/
def jAes (j : Job) : AesFields :=
  ⟨bitsOf (jw j 0) 51 48, bitAt (jw j 0) 52, bitsOf (jw j 0) 54 53, bitsOf (jw j 0) 59 55,
   bitsOf (jw j 1) 22 0, bitsOf (jw j 1) 44 32, bitsOf (jw j 1) 52 48⟩

/-- Curve code of `VERIFY`: 1 P-256, 2 P-384. -/
def jCurve (j : Job) : Nat := jTarget j % 4

/-- Check 3 of R345. -/
def ciphFieldsOk (j : Job) : Bool :=
  ciphShape j &&
    (match jOp j with
     | 0x010 => aesOk (jAes j) && decide ((jAes j).len ≤ 4194304) && decide ((jAes j).aadLen ≤ 4096)
     | 0x020 => decide (bitsOf (jw j 1) 22 0 ≤ 4194304)
     | 0x022 => jTarget j == 1 || jTarget j == 2
     | 0x024 => decide (1 ≤ bitsOf (jw j 1) 22 0) && decide (bitsOf (jw j 1) 22 0 ≤ 4096)
     | 0x032 => jNode j
     | _ => true)

/-- The work is the secure cluster's (R339). -/
def clusterWork (j : Job) : Bool :=
  (jOp j == 0x010 && jEngine j) || jOp j == 0x020 || jOp j == 0x021 || jOp j == 0x022 || jOp j == 0x023 || jOp j == 0x024

/-- Drawer `d` may key the target of a key job (R351). -/
def keyable (s : State) (d : Nat) (j : Job) : Bool :=
  if jNode j then
    ownerCtx s (jTarget j) == some d || (s.on F.ciphCfgNodeAgentEn && s.get F.ciphCfgNodeAgent == d)
  else decide (jTarget j < 256) && ownerKey s (jTarget j) == some d

/-- Check 2 of R345. -/
def ciphOwned (s : State) (j : Job) : Bool :=
  match jOp j with
  | 0x020 | 0x022 | 0x024 => true
  | 0x030 | 0x031 | 0x032 => keyable s j.drawer j
  | _ => decide (jTarget j < 256) && ownerKey s (jTarget j) == some j.drawer

/-- Charge of a host job (R343, R348). -/
def jobCharge (j : Job) : Nat :=
  match jOp j with
  | 0x010 => aesCharge (jAes j)
  | 0x021 | 0x023 => 1
  | _ => 0

/-- Check 4 of R345: 0, `KEY_EMPTY` or `KEY_TYPE`. -/
def ciphKeyCheck (s : State) (j : Job) : Nat :=
  let n := jTarget j
  let t := s.get (F.keyInfoType n)
  match jOp j with
  | 0x010 =>
    if t = 0 then 0x12
    else if typeSuits s n (jAes j).mode ∧ modesAllow s n (jAes j).mode then 0 else 0x18
  | 0x021 => if t = 0 then 0x12 else if (t = 7 ∨ t = 8) ∧ modesAllow s n 9 then 0 else 0x18
  | 0x023 => if t = 0 then 0x12 else if (t = 7 ∨ t = 8) ∧ modesAllow s n 10 then 0 else 0x18
  | _ => 0

/-- The job works with the key of its slot, so that check 5 applies to it (R345, R348). -/
def usesSlot (j : Job) : Bool := jOp j == 0x010 || jOp j == 0x021 || jOp j == 0x023

/-- First failing check of R345 as its status; 0 when all pass. -/
def ciphRefusal (s : State) (j : Job) : Nat :=
  if clusterWork j ∧ j.drawer ≠ 0 then 0x16
  else if ¬ ciphOwned s j then 3
  else if ¬ ciphFieldsOk j then 0x14
  else if ciphKeyCheck s j ≠ 0 then ciphKeyCheck s j
  else if usesSlot j ∧ keyLimit s (jTarget j) < keyUse s (jTarget j) + jobCharge j then 0x13
  else 0

/-- A job ends with a status and a result: its grant returns, and its completion is due. -/
def endJob (j : Job) (status : Nat) (result : Nat) (s : State) : State :=
  setJob (dropRequest (.job j.id) (releaseGrant (.job j.id) s))
    { j with status := status, result := BitVec.ofNat 64 result, phase := 4 }

/-- The completion entry of an ended job of a unit is written (R118). -/
def completeEnded (u : QUnit) (id : Nat) (s : State) : State :=
  match jobOf s id with
  | some j => if j.unit = u ∧ j.phase = 4 then completeJob s j else s
  | none => s

/-- Blocks of a job's work (R345): its AES block operations, and the 16-byte blocks that a hash or a generator runs
over (assumption 135). -/
def jobBlocks (j : Job) : Nat :=
  match jOp j with
  | 0x010 => aesCharge (jAes j)
  | 0x020 | 0x024 => ceilDiv (bitsOf (jw j 1) 22 0) 16
  | _ => 0

/-- A job of more than 256 blocks requests a burst (R345). -/
def needsBurst (j : Job) : Bool := decide (256 < jobBlocks j)

/-- A cipher burst for a host job: 250 mW, bulk class (R448). -/
def burstOf (j : Job) : Grant := ⟨.job j.id, j.drawer, 250, 0, true⟩

/-- Acceptance of a host cipher job (R345): the checks, the charge, and the burst grant or the wait for
it; then the work begins with the key as it stands (R349). -/
def ciphAccept (j : Job) (s : State) : State :=
  let r := ciphRefusal s j
  if r ≠ 0 then
    let s := if r = 0x13 then keyExhausted (jTarget j) s else s
    endJob j r 0 s
  else
    let n := jTarget j
    let s := if jobCharge j = 0 then s else setUse n (keyUse s n + jobCharge j) s
    let s := if jNode j then requestMiss n 4 s else s
    let j := { j with key := keyOf s n, phase := 3 }
    if needsBurst j then
      if givenNow s (burstOf j) then setJob (giveGrant (burstOf j) s) j
      else setJob (queueGrant (burstOf j) s) { j with phase := 1 }
    else setJob s j

/-! ### Ends of jobs (R346, R350 to R353) -/

/-- PKCS#7 padding at the end of a decrypted output: p when it holds (R342). -/
def pkcs7 (l : List Byte) : Option Nat :=
  let p := (l.getLast?.getD 0#8).toNat
  if 1 ≤ p ∧ p ≤ 16 ∧ p ≤ l.length ∧ (l.drop (l.length - p)).all (fun b => b.toNat == p) then some p else none

/-- What an AES job gives: output and tag, a tag that fails, or padding that fails (R342). -/
inductive AesEnd where
  | ok (out : List Byte) (tag : List Byte)
  | auth
  | pad
deriving DecidableEq, Repr

/-- The mode has a tag (R342). -/
def hasTag (mode : Nat) : Bool := mode == 5 || mode == 6 || mode == 7

/-- The AES engine's result for a job's fields, key and data; the tag given is judged on decryption. -/
def aesRun (f : AesFields) (key iv aad input tag : List Byte) : AesEnd :=
  let e := aesMode ⟨f.mode, f.dec, f.pad, f.tagLen, key, iv, aad, input⟩
  let r := (fit (aesOutLen f) e.1, fit f.tagLen e.2)
  if hasTag f.mode ∧ f.dec ∧ r.2 ≠ tag then .auth
  else if f.mode = 1 ∧ f.pad = 1 ∧ f.dec then
    match pkcs7 r.1 with
    | some p => .ok (r.1.take (r.1.length - p)) r.2
    | none => .pad
  else .ok r.1 r.2

/-- The end of an `AES` job: output and tag to `BULK`, or the output area zero-filled (R342). -/
def aesEnd (j : Job) (s : State) : State :=
  let f := jAes j
  let d := j.drawer
  if bulkPoisoned s d (jSrc j) f.len ∨ bulkPoisoned s d (bitsOf (jw j 1) 95 64) f.aadLen then endJob j 1 0 s
  else
  let iv := rdBulkN s d (bitsOf (jw j 1) 127 96) f.ivLen
  let aad := rdBulkN s d (bitsOf (jw j 1) 95 64) f.aadLen
  let tagAt := bitsOf (jw j 2) 31 0
  match aesRun f j.key iv aad (rdBulkN s d (jSrc j) f.len) (rdBulkN s d tagAt f.tagLen) with
  | .ok out tag =>
    let s := wrBulkL s d (jDst j) out
    let s := if hasTag f.mode ∧ ¬ f.dec then wrBulkL s d tagAt tag else s
    endJob j 0 out.length s
  | .auth => endJob j 0x10 (aesOutLen f) (authFail (wrBulkL s d (jDst j) (List.replicate (aesOutLen f) 0#8)))
  | .pad => endJob j 0x15 (aesOutLen f) (wrBulkL s d (jDst j) (List.replicate (aesOutLen f) 0#8))

/-- Bytes of a coordinate or scalar of a curve: type 7 or code 1 P-256, else P-384. -/
def curveBytes (p256 : Bool) : Nat := if p256 then 32 else 48

/-- The end of a `HASH` job. -/
def hashEnd (j : Job) (s : State) : State :=
  let l := rdBulkN s j.drawer (jSrc j) (bitsOf (jw j 1) 22 0)
  let out := curveHash (if bitAt (jw j 0) 60 then 48 else 32) l
  endJob j 0 out.length (wrBulkL s j.drawer (jDst j) out)

/-- The end of a `SIGN` job: the curve is that of the key the job was accepted under. -/
def signEnd (j : Job) (s : State) : State :=
  let b := j.key.length
  let out := signDigest b j.key (rdBulkN s j.drawer (jSrc j) b)
  endJob j 0 (2 * b) (wrBulkL s j.drawer (jDst j) out)

/-- The end of a `VERIFY` job: bit 32 of the result says whether the signature is valid (R346). -/
def verifyEnd (j : Job) (s : State) : State :=
  let b := curveBytes (jCurve j == 1)
  let ok := Config.ecVerify (jCurve j) (rdBulkN s j.drawer (bitsOf (jw j 1) 95 64) (2 * b))
    (rdBulkN s j.drawer (bitsOf (jw j 2) 63 32) b) (rdBulkN s j.drawer (bitsOf (jw j 1) 127 96) (2 * b))
  endJob j 0 (b2n ok * 2 ^ 32) s

/-- The end of an `ECDH` job; the spec states no status for a peer point off the curve: that value is free. -/
def ecdhEnd (j : Job) (s : State) : State :=
  let b := j.key.length
  match Config.ecdh b j.key (rdBulkN s j.drawer (bitsOf (jw j 1) 95 64) (2 * b)) with
  | some z => endJob j 0 b (wrBulkL s j.drawer (jDst j) (fit b z))
  | none => endJob j (s.free % 256) 0 s.drew

/-- `n` random bytes, each free (R361). -/
def randomBytes : Nat → State → List Byte × State
  | 0, s => ([], s)
  | n + 1, s =>
    let r := randomBytes n s.drew
    (BitVec.ofNat 8 s.free :: r.1, r.2)

/-- The end of a `RANDOM` job (R361). -/
def randomEnd (j : Job) (s : State) : State :=
  if s.on F.ciphStatusRngFail then endJob j 0x19 0 s
  else
    let r := randomBytes (bitsOf (jw j 1) 22 0) s
    endJob j 0 r.1.length (wrBulkL r.2 j.drawer (jDst j) r.1)

/-- Key bytes of a type (R347, R350). -/
def keyBytes (t : Nat) : Nat :=
  match t with
  | 1 | 5 => 16
  | 2 | 3 | 6 | 7 => 32
  | 4 => 64
  | 8 => 48
  | _ => 0

/-- An import refused: counted and raised, the target unchanged (R350). -/
def importFail (j : Job) (status : Nat) (s : State) : State :=
  endJob j status 0 (occur (bumpStat R.ciphImportFailCnt ciphOvf s) 222)

/-- A general slot takes an imported key (R348, R350). -/
def importSlot (n typ modes limit gen : Nat) (key : List Byte) (s : State) : State :=
  let s := setKey n key s
  let s := (s.put (F.keyInfoType n) typ).put (F.keyInfoModes n) modes
  (setUse n 0 (setLimit n limit s)).wr (R.keyGen n) (BitVec.ofNat 32 gen)

/-- Words of a key of bytes, most significant word first within the position. -/
def keyWordsOf (key : List Byte) : List Word :=
  (List.range 8).map fun i => BitVec.ofNat 32 (leNat ((key.drop (4 * i)).take 4))

/-- A node context takes an imported key (R353): the position that is not `CURRENT`, or position 0 as
`CURRENT` when none is. -/
def importNode (c typ gen : Nat) (key : List Byte) (s : State) : State :=
  let cur := keyPosOf s c roleCurrent
  let p := match cur with
    | some q => 1 - q
    | none => 0
  let role := if cur.isSome then roleNext else roleCurrent
  let s := foldUpto 8 (fun i s => setCtx c (keyBase p + i) ((keyWordsOf key).getD i 0#32) s) s
  let s := setCtx c (keyBase p + 8) 0#32 s
  let s := setCtx c (keyBase p + 9) 1024#32 s
  let s := setCtx c (keyBase p + 10) 0#32 s
  let s := setCtx c (keyBase p + 11) (BitVec.ofNat 32 (role + 4 * typ)) s
  let s := setCtxBits c 19 (2 * p + 1) (2 * p) role s
  let s := setCtxBits c 19 (4 + p) (4 + p) 0 s
  let s := setCtxBits c 19 (6 + p) (6 + p) 0 s
  journalPos c p (setCtx c 18 (BitVec.ofNat 32 gen) (clearBad c (keyBase p) 12 s))

/-- Steps 3 to 5 of R350: the key that an import's record of 128 bytes and the wrapped key after it give. -/
def importedKey (s : State) (rec0 wrapped : List Byte) : Option (List Byte) :=
  match Config.ecdh 48 (innerKey s 2) ((rec0.drop 32).take 96) with
  | none => none
  | some z => keyUnwrap ((curveHash 48 (fit 48 z ++ [0#8, 0#8, 0#8, 1#8] ++ rec0.take 32)).take 32) wrapped

/-- The steps of an import (R350, R351). -/
def importEnd (j : Job) (s : State) : State :=
  let rec0 := rdBulkN s j.drawer (jSrc j) 128
  let at' (o n : Nat) : Nat := leNat ((rec0.drop o).take n)
  let typ := at' 6 1
  let n := jTarget j
  let node := typ = 5 ∨ typ = 6
  let bad1 := at' 0 4 ≠ 0x4B57584F ∨ at' 4 2 ≠ 1 ∨ at' 7 1 ≠ 0 ∨ at' 20 12 ≠ 0 ∨ typ = 0 ∨ 8 < typ
  if bad1 then importFail j 0x17 s
  else if (node ∧ ¬ jNode j) ∨ (¬ node ∧ jNode j) then importFail j 0x18 s
  else
    match importedKey s rec0 (rdBulkN s j.drawer (jSrc j + 128) (8 + keyBytes typ)) with
    | none => importFail j 0x17 s
    | some key =>
      if key.length ≠ keyBytes typ then importFail j 0x17 s
      else if jNode j ∧ leNat ((rec0.drop 8).take 8).reverse ≠ ctxEui s n then importFail j 0x17 s
      else if at' 16 4 ≤ (if jNode j then (ctxWord s n 18).toNat else (s.rd (R.keyGen n)).toNat) then
        importFail j 0x1A s
      else if jNode j then endJob j 0 0 (importNode n typ (at' 16 4) key s)
      else endJob j 0 0 (importSlot n typ (at' 8 2 % 2048) (at' 10 6) (at' 16 4) key s)

/-- The end of a `KEY_ERASE` (R353). -/
def eraseEnd (j : Job) (s : State) : State :=
  let n := jTarget j
  if jNode j then
    match keyPosOf s n roleCurrent with
    | none => endJob j 0x12 0 s
    | some q => if keyRole s n (1 - q) = 0 then endJob j 0x12 0 s else endJob j 0 0 (emptyPos n (1 - q) s)
  else if s.get (F.keyInfoType n) = 0 then endJob j 0x12 0 s
  else endJob j 0 0 (emptyKey n s)

/-- The end of a `KEY_PROMOTE` (R357). -/
def promoteEnd (j : Job) (s : State) : State :=
  match keyPosOf s (jTarget j) roleNext with
  | none => endJob j 0x12 0 s
  | some _ => endJob j 0 0 (promote (jTarget j) s)

/-- A node-key job that waits for its context, or whose context is unreadable (R353). -/
def nodeWaits (s : State) (j : Job) : Bool := jNode j && !resident s (jTarget j) && !ctxDead s (jTarget j)
def nodeDead (s : State) (j : Job) : Bool := jNode j && !resident s (jTarget j) && ctxDead s (jTarget j)

/-- An accepted job's work (R344 to R353); with `mismatch` the verification lane or the second core
differed (R359).  A node-key job waits for its context. -/
def ciphRun (mismatch : Bool) (j : Job) (s : State) : State :=
  if nodeWaits s j then s
  else if nodeDead s j then endJob j 0x1B 0 s
  else if mismatch then endJob j 0x11 0 (cipherFault s)
  else
    match jOp j with
    | 0x010 => aesEnd j s
    | 0x020 => hashEnd j s
    | 0x021 => signEnd j s
    | 0x022 => verifyEnd j s
    | 0x023 => ecdhEnd j s
    | 0x024 => randomEnd j s
    | 0x030 => importEnd j s
    | 0x031 => eraseEnd j s
    | _ => promoteEnd j s

/-- An operation of R344 on the job of number `id`: acceptance under R345 when it is fresh, and its work
once nothing holds it back.  A job that waits for a grant or its context is taken up again by the same
command. -/
def ciphCommand (op id : Nat) (mismatch : Bool) (s : State) : State :=
  match jobOf s id with
  | none => s
  | some j =>
    if j.unit ≠ .cipher ∨ jOp j ≠ op then s
    else
      let s := if j.phase = 0 then ciphAccept j s else s
      match jobOf s id with
      | some j => if j.phase = 3 then ciphRun mismatch j s else s
      | none => s

/-- `AES` (R342, R344, R345). -/
def execAes (id : Nat) (mismatch : Bool) (s : State) : Ans := .next (ciphCommand 0x010 id mismatch s)

/-- `HASH` (R344). -/
def execHash (id : Nat) (mismatch : Bool) (s : State) : Ans := .next (ciphCommand 0x020 id mismatch s)

/-- `SIGN` (R344). -/
def execSign (id : Nat) (mismatch : Bool) (s : State) : Ans := .next (ciphCommand 0x021 id mismatch s)

/-- `VERIFY` (R344). -/
def execVerify (id : Nat) (mismatch : Bool) (s : State) : Ans := .next (ciphCommand 0x022 id mismatch s)

/-- `ECDH` (R344). -/
def execEcdh (id : Nat) (mismatch : Bool) (s : State) : Ans := .next (ciphCommand 0x023 id mismatch s)

/-- `RANDOM` (R361). -/
def execRandom (id : Nat) (mismatch : Bool) (s : State) : Ans := .next (ciphCommand 0x024 id mismatch s)

/-- `KEY_IMPORT` (R350, R351, R353). -/
def execKeyImport (id : Nat) (mismatch : Bool) (s : State) : Ans := .next (ciphCommand 0x030 id mismatch s)

/-- `KEY_ERASE` (R353). -/
def execKeyErase (id : Nat) (mismatch : Bool) (s : State) : Ans := .next (ciphCommand 0x031 id mismatch s)

/-- `KEY_PROMOTE` (R357). -/
def execKeyPromote (id : Nat) (mismatch : Bool) (s : State) : Ans := .next (ciphCommand 0x032 id mismatch s)

/-- `CIPHER_JOB_COMPLETE` (R346): the completion of an ended job is written. -/
def execCipherJobComplete (id : Nat) (s : State) : Ans := .next (completeEnded .cipher id s)

/-- A write of `KEY_LIMIT_LO_n` by the slot's owner: the limit takes it with the staged high bits; a write
that would raise the limit of a loaded slot is discarded (R348). -/
def keyLimitWrite (n : Nat) (v : Word) (be : BitVec 4) (s : State) : State :=
  let new := (beMerge (s.rd (R.keyLimitLo n)) v be).toNat + s.get (F.keyHiLimitHi n) * 2 ^ 32
  if s.get (F.keyInfoType n) ≠ 0 ∧ keyLimit s n < new then s else setLimit n new s

/-- `KEY_LIMIT_WRITE` (R348). -/
def execKeyLimitWrite (d : Drawer) (n : Fin 256) (v : Word) (be : BitVec 4) (s : State) : Ans :=
  .next (filtered s d.val (R.keyLimitLo n.val) (keyLimitWrite n.val v be))

/-- `RNG_FAIL` (R361): a health test fails. -/
def execRngFail (s : State) : Ans := .next (occur (s.put F.ciphStatusRngFail 1) 223)

end Sys2Proof.Machine
end

