-- ==== Sys2Proof/Machine/GreuneSys.lean ====
section
/-!
DEFINITION. Events, signals and system instructions (R193 to R196), and the ends of event waits
(R142, R148).
-/

namespace Sys2Proof.Machine

/-- `EVT i`: counts one occurrence on source 112 + 5c + i (R193). -/
def evtIssue (n : Nat) (i : Nat) (s : State) : State :=
  if ¬ ownsEvt s n i then threadFault n causeOwnership (112 + 5 * coreOf n + i) s
  else done n 1 (occur s (112 + 5 * coreOf n + i))

/-- `EVT` (R193). -/
def execEvt (th : Fin 32) (s : State) : Ans :=
  .next (issue s th.val fun i _ s =>
    match i with
    | .evt k => some (evtIssue th.val k.toNat s)
    | _ => none)

/-- Wake bit `b` of a thread set; a thread in `IDLE` discards it (R194). -/
def setWake (m b : Nat) (s : State) : State :=
  modThr s m fun t => if t.state = .idle then t else { t with wakeBits := t.wakeBits ||| 2 ^ b }

/-- `SIG` of bit `b` to thread `m` (R194). -/
def sigIssue (n m b : Nat) (s : State) : State :=
  if ¬ ownsThread s n m then threadFault n causeOwnership m s
  else done n 2 (setWake m b s)

/-- `SIG` (R194). -/
def execSig (th : Fin 32) (s : State) : Ans :=
  .next (issue s th.val fun i _ s =>
    match i with
    | .sig rt b => some (sigIssue th.val ((gReg (s.thr th.val) rt).toNat % 32) b.toNat s)
    | _ => none)

/-- The wake bits `got` end a `WSIG`: they are recorded, and the masked bits cleared (R139, R142). -/
def takeWake (n mask got : Nat) (s : State) : State :=
  modThr s n fun t => { t with endBits := got, wakeBits := t.wakeBits &&& (65535 ^^^ (mask &&& 65535)) }

/-- Wake bits that end a `WSIG`: the masked ones that are set, and bit 12 when its deadline is reached, masked
or not (R148, R195). -/
def wakeGot (s : State) (n mask : Nat) (reached : Bool) : Nat :=
  ((s.thr n).wakeBits &&& mask) ||| (if reached then 2 ^ 12 else 0)

/-- The deadline of a `WSIG` is reached: bit 12 of its thread is set (R148). -/
def markDeadline (n : Nat) (reached : Bool) (s : State) : State :=
  if reached then modThr s n fun t => { t with wakeBits := t.wakeBits ||| 2 ^ 12 } else s

/-- A deadline that the timebase copy has reached. -/
def dueNow (s : State) (deadline : Option Time) : Bool :=
  match deadline with
  | some t => decide (atOrBefore t s.tbCopy)
  | none => false

/-- `WSIG` on a mask with an optional deadline (R195). -/
def wsigIssue (n mask : Nat) (deadline : Option Time) (s : State) : State :=
  let due := dueNow s deadline
  let got := wakeGot s n mask due
  if got ≠ 0 then done n 1 (takeWake n mask got (markDeadline n due s))
  else enterWait n 1 .waitEvent (.sig mask deadline) s

/-- `WSIG` (R195). -/
def execWsig (th : Fin 32) (s : State) : Ans :=
  .next (issue s th.val fun i _ s =>
    match i with
    | .wsig rm d tk =>
      some (wsigIssue th.val ((gReg (s.thr th.val) rm).toNat % 65536)
        (if d then some (tReg (s.thr th.val) tk) else none) s)
    | _ => none)

/-- `WSIG_DEADLINE` (R148): the deadline of a waiting `WSIG` is reached. -/
def execWsigDeadline (th : Fin 32) (s : State) : Ans :=
  match (if coreNaps s (coreOf th.val) then Wait.none else (s.thr th.val).wait) with
  | .sig mask (some t) =>
    let s := s.passTo t
    .next (exitWait th.val (takeWake th.val mask (wakeGot s th.val mask true) (markDeadline th.val true s)))
  | _ => .next s

/-- `HALT` (R142, R196): the program counter stays at the instruction. -/
def execHalt (th : Fin 32) (s : State) : Ans :=
  .next (issue s th.val fun i _ s =>
    match i with
    | .halt => some (modThr s th.val fun t => { t with state := .halt, cost := 1 })
    | _ => none)

/-- `TRAP` (R196): a fault whose detail is the immediate, or the low half of a prefixed one. -/
def execTrap (th : Fin 32) (s : State) : Ans :=
  .next (issue s th.val fun i _ s =>
    match i with
    | .trap imm => some (threadFault th.val causeTrap imm.toNat s)
    | _ => none)

/-- `YIELD` (R158): the watchdog count restarts and the turn passes. -/
def execYield (th : Fin 32) (s : State) : Ans :=
  .next (issue s th.val fun i _ s =>
    match i with
    | .yield => some (done th.val 1 (modThr s th.val fun t => { t with wdogAt := s.tbCopy }))
    | _ => none)

end Sys2Proof.Machine
end

