-- ==== Sys2Proof/Machine/GreuneQueue.lean ====
section
/-!
DEFINITION. `ENQ` and `DEQ` (R189 to R192), and the wakes of event waits (R142, R148).
-/

namespace Sys2Proof.Machine

/-- `k` bytes at `a` that an instruction reads for itself: `ok` says that they lie where it may read; they
are aligned to 16 bytes, else `ALIGN` (DESIGN CHOICE, assumption 112), and free of uncorrectable words. -/
def readThen (ok : Bool) (n a k : Nat) (f : List Byte → State → State) (s : State) : State :=
  if ¬ ok then threadFault n causeFence a s
  else if a % 16 ≠ 0 then threadFault n causeAlign a s
  else if dmemBad s (coreOf n) a k then threadFaultFree n causePoison s
  else f (ldBytes s n a k) s

/-- A descriptor of an action: inside the data window, at a multiple of 16 (R175; the fault of another address is
assumption 112). -/
def descThen (n a k : Nat) (f : List Byte → State → State) (s : State) : State :=
  readThen (mayWrite s n a k) n a k f s

/-- A descriptor that `ENQ` reads: wherever the thread may load from (R137). -/
def entryThen (n a k : Nat) (f : List Byte → State → State) (s : State) : State :=
  readThen (mayRead s n a k) n a k f s

/-- `ENQ` refused with a cause; two of the refusals count a drop (R190). -/
def enqRefuse (n q cause words : Nat) (drop : Bool) (s : State) : State :=
  let s := if drop then bumpStat (R.queueDropCnt q) fabricOvf s else s
  done n (2 + words) (failWith n 0 cause s)

/-- `ENQ` of a descriptor's bytes to queue `q` (R190). -/
def enqWrite (n q : Nat) (l : List Byte) (s : State) : State :=
  let w := l.length / 16
  if s.on (F.queueCfgDir q) then enqRefuse n q 0x22 w false s
  else if ¬ queueOn s q then enqRefuse n q 0x21 w true s
  else if queueRoom s q < w then enqRefuse n q 0x20 w true s
  else
    let words := (qwordsOf w l).map fun x => (⟨x, false⟩ : QWordP)
    done n (2 + w) (failClear n (queueWrite s q words (hdrPrio (word0 words))))

/-- `ENQ` (R190): the header's first byte says how many words are read. -/
def execEnq (th : Fin 32) (s : State) : Ans :=
  .next (issue s th.val fun i _ s =>
    match i with
    | .enq q qr ra rq doff =>
      let t := s.thr th.val
      let k := queueOperand t q qr rq
      let a := descAddr t ra doff.toNat
      some (
        if ¬ ownsQueue s th.val k then threadFault th.val causeOwnership k s
        else entryThen th.val a 16 (fun l s =>
          entryThen th.val a (16 * (leNat l % 4 + 1)) (fun l s => enqWrite th.val k l s) s) s)
    | _ => none)

/-- A copied descriptor's words stored, each poisoned word with its mark (R192). -/
def storeWords (c a : Nat) : List QWordP → State → State
  | [], s => s
  | w :: ws, s =>
    storeWords c (a + 16) ws (setDmemPoison (stBytes s c a (leBytes 16 w.word.toNat)) c a w.poison)

/-- The front descriptor of queue `q` is taken by thread `n` (R191, R192). -/
def deqTake (n q rd : Nat) (mem : Bool) (a : Nat) (nw : Bool) (s : State) : State :=
  match (s.queue q).sub with
  | [] => s
  | d :: rest =>
    let qu := s.queue q
    let w := d.words.length
    let bad := d.words.any fun x => x.poison
    let s := syncQueue (s.setQueue q { qu with sub := rest }) q
    let s := returnCredit s q w
    let s := if bad then s.put (F.queueStatPoisonSeen q) 1 else s
    let s := modThr s n fun t =>
      { setG t (BitVec.ofNat 4 rd) ((word0 d.words).extractLsb' 32 32) with cost := 2 + w }
    let s := if mem then storeWords (coreOf n) a d.words s else s
    let s := if nw then missSet n false s else s
    if bad then failWith n 0 0x23 s else failClear n s

/-- Words of the descriptor in front of a queue. -/
def frontWords (s : State) (q : Nat) : Nat :=
  match (s.queue q).sub with
  | [] => 0
  | d :: _ => d.words.length

/-- The copy of `w` words at `a` lies where thread `n` may write and is aligned; otherwise the cause of
its fault (R137, R191). -/
def deqCopyFault (s : State) (n a w : Nat) : Option Nat :=
  if ¬ mayWrite s n a (16 * w) then some causeFence
  else if a % 16 ≠ 0 then some causeAlign
  else none

/-- The take of `DEQ` once its queue holds a descriptor: the destination in memory is judged first. -/
def deqNow (n q rd : Nat) (mem : Bool) (a : Nat) (nw : Bool) (fin : State → State) (s : State) : State :=
  match if mem then deqCopyFault s n a (frontWords s q) else none with
  | some c => threadFault n c a s
  | none => fin (deqTake n q rd mem a nw s)

/-- `DEQ` on queue `q` (R191). -/
def deqIssue (n q rd : Nat) (mem : Bool) (a : Nat) (nw : Bool) (s : State) : State :=
  if ¬ ownsQueue s n q then threadFault n causeOwnership q s
  else if ¬ s.on (F.queueCfgDir q) then done n 2 (failWith n 0 0x22 (if nw then missSet n false s else s))
  else if ¬ queueOn s q then done n 2 (failWith n 0 0x21 (if nw then missSet n false s else s))
  else if (s.queue q).sub.isEmpty then
    if nw then done n 2 (failClear n (missSet n true s))
    else enterWait n 2 .waitEvent (.deq q rd mem a) s
  else deqNow n q rd mem a nw (fun s => done n (s.thr n).cost s) s

/-- `DEQ` (R191). -/
def execDeq (th : Fin 32) (s : State) : Ans :=
  .next (issue s th.val fun i _ s =>
    match i with
    | .deq q qr ra rq nw mem rd =>
      let t := s.thr th.val
      some (deqIssue th.val (queueOperand t q qr rq) rd.toNat mem (gReg t ra).toNat nw s)
    | _ => none)

/-- `WAKE_EVENT` (R142, R148): a masked wake bit is set, or the queue that a `DEQ` waits on is no longer
empty; a thread waits on while neither holds. -/
def execWakeEvent (th : Fin 32) (s : State) : Ans :=
  match (if coreNaps s (coreOf th.val) then Wait.none else (s.thr th.val).wait) with
  | .sig mask _ =>
    let got := (s.thr th.val).wakeBits &&& mask
    if got = 0 then .next s else .next (exitWait th.val (takeWake th.val mask got s))
  | .deq q rd mem a =>
    if (s.queue q).sub.isEmpty then .next s
    else .next (deqNow th.val q rd mem a false (exitWait th.val) s)
  | _ => .next s

end Sys2Proof.Machine
end

