-- ==== Sys2Proof/Machine/Line.lean ====
section
/-!
DEFINITION. The line: chains, transmitters and bands; plans, masks and pilots (R203 to R207); tone maps
(R221 to R223); frame durations (R211 to R220, R263); slot clocks, superframes and quiet slots (R272 to
R277).
-/

namespace Sys2Proof.Machine

/-! ### Access -/

def trk (s : State) (p : Nat) : Trk := tabGet (fun _ => Trk.init) s.line.trk p

def setTrk (p : Nat) (t : Trk) (s : State) : State :=
  { s with line := { s.line with trk := tabSet (fun _ => Trk.init) s.line.trk p t } }

def chain (s : State) (c : Nat) : Chain := tabGet (fun _ => Chain.init) s.line.chains c

def setChain (c : Nat) (x : Chain) (s : State) : State :=
  { s with line := { s.line with chains := tabSet (fun _ => Chain.init) s.line.chains c x } }

def xmit (s : State) (t : Nat) : Xmit := tabGet (fun _ => Xmit.init) s.line.xmit t

def setXmit (t : Nat) (x : Xmit) (s : State) : State :=
  { s with line := { s.line with xmit := tabSet (fun _ => Xmit.init) s.line.xmit t x } }

/-- Overflow of a counter of `LPHY`, `LMAC` and `RADIO` (R231, R303, R337). -/
def phyOvf (s : State) : State := occur s 15
def macOvf (s : State) : State := occur s 69
def rfOvf (s : State) : State := occur s 99

/-- Phase and band of a chain (R200). -/
def chainPhase (c : Nat) : Nat := c / 2
def chainBand (c : Nat) : Nat := c % 2

/-- The Tenon link does not carry streams: every state of `TNL_STATUS` but `UP` (R467, R469). -/
def linkLost (s : State) : Bool := s.get F.tnlStatusState != 1

/-- Cause `j` of `TNL_CAUSE` is set, and counts on source 286 when enabled (R474). -/
def tnlCause (j : Nat) (s : State) : State :=
  let s := s.put ⟨R.tnlCause, j, j⟩ 1
  if s.on ⟨R.tnlCause, 16 + j, 16 + j⟩ then occur s 286 else s

/-- A counter of the Tenon block saturated. -/
def tnlOvf (s : State) : State := tnlCause 6 s

/-- The Tenon link carries no register traffic to the line die: it is training, lost or parked (R468, R494). -/
def regsCut (s : State) : Bool := s.get F.tnlStatusState != 1 && s.get F.tnlStatusState != 3

/-- A write to a line-die register: while the link is down it is discarded and counted (R468). -/
def lineDieWrite (f : State → State) (s : State) : State :=
  if regsCut s then bumpStat R.tnlRegDropCnt tnlOvf s else f s

def setTnl (f : Tenon → Tenon) (s : State) : State := { s with tnl := f s.tnl }

/-- The events that the line die held are delivered in order (R469). -/
def deliverHeld (s : State) : State :=
  let l := s.tnl.events
  let lost := s.tnl.overflow
  let s := setTnl (fun t => { t with events := [], overflow := false }) s
  let s := l.foldl (fun s e => occurNow s e) s
  if lost then tnlCause 3 s else s

/-! ### Plans, masks and pilots -/

/-- Plan in force in a band. -/
def planOf (s : State) (b : Nat) : Nat :=
  if b = 0 then s.get F.lphyStatusLowPlan else s.get F.lphyStatusHighPlan

/-- First carrier and number of carriers of a plan (R204). -/
def planCarriers (b plan : Nat) : Nat × Nat :=
  match b, plan with
  | 0, 1 => (10, 14)
  | 0, 2 => (25, 13)
  | 1, 1 => (40, 64)
  | 1, 2 => (40, 85)
  | _, _ => (0, 0)

/-- Mask bits in force in a band, bit k for carrier k (R205). -/
def maskOf (s : State) (b : Nat) : Nat := tabGet (fun _ => 0) s.line.mask b

/-- Carriers of a plan left unmasked, in rising order (R206). -/
def unmasked (b plan mask : Nat) : List Nat :=
  let r := planCarriers b plan
  ((List.range r.2).map fun i => r.1 + i).filter fun k => !bitAt mask k

/-- Pilots of a symbol with `n` unmasked carriers (R206). -/
def pilotCount (n : Nat) : Nat := max 2 (ceilDiv n 8)

/-- Data carriers of a symbol: D (R206). -/
def dataCount (n : Nat) : Nat := n - pilotCount n

/-- Carrier number `u` of the unmasked ones is a pilot in symbol `sym` (R207). -/
def isPilot (n sym u : Nat) : Bool :=
  u == 0 || u == n - 1 ||
    (List.range (pilotCount n - 2)).any fun j => u == 1 + (8 * j + sym) % (n - 2)

/-- Carriers in use in a band. -/
def bandCarriers (s : State) (b : Nat) : List Nat := unmasked b (planOf s b) (maskOf s b)

/-- D of a band (R206). -/
def bandD (s : State) (b : Nat) : Nat := dataCount (bandCarriers s b).length

/-- Mask generation of a band (R205). -/
def maskGen (s : State) (b : Nat) : Nat :=
  if b = 0 then s.get F.lphyMaskGenLowGen else s.get F.lphyMaskGenHighGen

/-- Effective region lock (R81), 0 `NONE`, 1 `EU`, 2 `NA`: the floor when that is not `NONE`. -/
def regionLock (s : State) : Nat := if s.opt.floor = 0 then s.get F.optActive0RegionLock else s.opt.floor

/-- The failsafe image on a part without a region floor: every transmission is refused until a commit and a
level A reset (R80). -/
def silenced (s : State) : Bool := s.on F.optStatusFailsafe && s.opt.floor == 0

/-- Plans the region lock allows (R81): low band under `EU`, high band under `NA`. -/
def planAllowed (s : State) (b plan : Nat) : Bool :=
  plan == 0 || (match regionLock s with
    | 1 => b == 0
    | 2 => b == 1
    | _ => true)

/-! ### Tone maps (R221 to R223) -/

/-- First context word of tone map `i`. -/
def mapBase (i : Nat) : Nat := 64 + 24 * i

/-- Byte `o` of a node's tone map. -/
def mapByte (s : State) (c i o : Nat) : Nat :=
  bitsOf (ctxWord s c (mapBase i + o / 4)).toNat (8 * (o % 4) + 7) (8 * (o % 4))

/-- Map index of a band and coupling (R221). -/
def mapIndex (b : Nat) (all3 : Bool) : Nat := 2 * b + b2n all3

/-- The map serves a frame of this band and coupling (R222). -/
def mapValid (s : State) (c i b : Nat) (all3 : Bool) : Bool :=
  let h := mapByte s c i 0
  bitAt h 0 && bitsOf h 1 1 == b && bitsOf h 2 2 == b2n all3 && mapByte s c i 1 % 4 == planOf s b &&
    mapByte s c i 2 + 256 * mapByte s c i 3 == maskGen s b

def perturbLeft (s : State) (c i : Nat) : Nat := bitsOf (mapByte s c i 0) 7 4

/-- Mode of a rung of the ladder (R218). -/
def rungMode (r : Nat) : Nat :=
  match r with
  | 0 => 0x0E | 1 => 0x0A | 2 => 0x08 | 3 => 0x06 | 4 => 0x04 | 5 => 0x00 | 6 => 0x10 | _ => 0x11

/-- Rung of a mode on the ladder; none outside it. -/
def modeRung (m : Nat) : Option Nat :=
  match m with
  | 0x0E => some 0 | 0x0A => some 1 | 0x08 => some 2 | 0x06 => some 3 | 0x04 => some 4 | 0x00 => some 5
  | 0x10 => some 6 | 0x11 => some 7 | _ => none

/-- Modes a header may carry (R217). -/
def modeOk (m : Nat) : Bool :=
  m ∈ [0x00, 0x01, 0x02, 0x04, 0x05, 0x06, 0x08, 0x09, 0x0A, 0x0C, 0x0D, 0x0E, 0x10, 0x11]

/-- `RUNG` and `FAIL_RUN` of a node. -/
def nodeRung (s : State) (c : Nat) : Nat := ctxBits s c 7 2 0
def failRun (s : State) (c : Nat) : Nat := ctxBits s c 7 15 8

/-- Mode and map of a frame to a node as it is prepared: an absent map selects Robust-6 and the default
map; while `PERTURB_LEFT` runs, a mode above rung 6 goes at Robust-4 (R218, R222, R223).  `tmap` 7 is the
default map; `mode` 0x1F is the node's rung. -/
def prepMode (s : State) (c : Option Nat) (mode tmap b : Nat) (all3 : Bool) : Nat × Nat :=
  match c with
  | none => (mode, 7)
  | some c =>
    if tmap < 4 ∧ ¬ mapValid s c tmap b all3 then (0x11, 7)
    else
      let m :=
        if mode = 0x1F then
          if mapValid s c (mapIndex b all3) b all3 then rungMode (nodeRung s c) else 0x11
        else mode
      if tmap < 4 ∧ 0 < perturbLeft s c tmap ∧ m ≠ 0x11 then (0x10, tmap) else (m, tmap)

/-! ### Durations in ns (R211 to R220, R263) -/

/-- Bits per carrier and code rate of a uniform or tone-map mode: numerator code 0 for 1/2, 1 for 2/3, 2
for 3/4. -/
def modeRate (m : Nat) : Nat := m % 4
def uniformBits (m : Nat) : Nat := if m < 4 then 1 else if m < 8 then 2 else 4

/-- Coded bits of a payload of `len` bytes (R213). -/
def codedBits (rate len : Nat) : Nat :=
  let n := 8 * len + 6
  match rate with
  | 0 => 2 * n
  | 1 => 3 * n / 2
  | _ => 4 * (n / 3) + (match n % 3 with
      | 0 => 0
      | 1 => 2
      | _ => 3)

/-- Bits that a map entry's modulation carries. -/
def modBits (e : Nat) : Nat :=
  match e % 4 with
  | 0 => 0 | 1 => 1 | 2 => 2 | _ => 4

/-- Bits that carrier `k` carries under a mode and a map (R214, R217). -/
def carrierBits (s : State) (c : Option Nat) (mode tmap first k : Nat) : Nat :=
  let e := match c with
    | some c => if tmap < 4 then mapByte s c tmap (8 + (k - first)) else 1
    | none => 1
  if 0x0C ≤ mode ∧ mode < 0x10 then modBits e else if modBits e = 0 then 0 else uniformBits mode

/-- Bits of payload symbol `sym` (R214): the symbol's data carriers. -/
def symbolBits (bits : List Nat) (sym : Nat) : Nat :=
  sumNat (((List.range bits.length).filter fun u => !isPilot bits.length sym u).map fun u => bits.getD u 0)

/-- Payload symbols until `need` bits are carried, from symbol `sym` on; none when a run of `fuel`
symbols does not carry them. -/
def countSymbols (bits : List Nat) (need : Nat) : Nat → Nat → Nat → Option Nat
  | 0, _, k => if need = 0 then some k else none
  | f + 1, sym, k =>
    if need = 0 then some k
    else countSymbols bits (need - symbolBits bits sym) f (sym + 1) (k + 1)

/-- Header symbols of a band (R211). -/
def headerSymbols (s : State) (b : Nat) : Nat :=
  ceilDiv (128 * (if b = 1 then 4 else 2)) (max 1 (bandD s b))

/-- Payload symbols of a native frame (R214, R215); a map that turns every carrier off carries nothing,
and the spec states no length for it: none. -/
def payloadSymbols (s : State) (c : Option Nat) (b mode tmap len : Nat) : Option Nat :=
  let l := bandCarriers s b
  if len = 0 then some 0
  else if mode = 0x10 ∨ mode = 0x11 then
    some ((if mode = 0x10 then 4 else 6) * ceilDiv (codedBits 0 len) (max 1 (dataCount l.length)))
  else
    let first := (planCarriers b (planOf s b)).1
    let bits := l.map (carrierBits s c mode tmap first)
    let need := codedBits (modeRate mode) len
    countSymbols bits need (2 * need + 2) (headerSymbols s b) 0

/-- Native frame duration in ns (R220). -/
def nativeNs (s : State) (c : Option Nat) (b mode tmap len : Nat) (long : Bool) : Option Nat :=
  (payloadSymbols s c b mode tmap len).map fun p =>
    1600000 + 288000 * headerSymbols s b + p * (if long then 320000 else 288000)

/-- Sweep symbol time in ns (R258). -/
def sweepTs (b sf : Nat) : Nat := 2 ^ sf * (if b = 0 then 20000 else 3125)

/-- Sweep frame duration in ns (R260 to R263). -/
def sweepNs (b sf len : Nat) (rep4 : Bool) : Nat :=
  let p := if len = 0 then 0 else ceilDiv (2 * (8 * len + 6)) sf * (if rep4 then 4 else 1)
  (10 + ceilDiv 192 sf + p) * sweepTs b sf

/-- Length of a frame's fields after the header (R280). -/
def airLength (level n : Nat) : Nat :=
  if level = 0 then 6 + n + 4 else 6 + 4 + n + micLen level + 4

/-- Duration of a header-only frame of a family in a band, in ns (R211, R260). -/
def ackNs (s : State) (fam sf b : Nat) : Nat :=
  if fam = 1 then sweepNs b sf 0 false else 1600000 + 288000 * headerSymbols s b

/-! ### Slot clocks (R272 to R275) -/

/-- Period of a phase in timebase steps, never 0. -/
def zxPeriod (s : State) (p : Nat) : Nat := max 1 (trk s p).period

/-- Nominal period of a phase (R413): 20 ms or 16.667 ms. -/
def nominalPeriod (s : State) (p : Nat) : Nat :=
  if s.on (F.plmbZxCfgNominal p) then stepsOf 60 1 else msSteps 20

/-- Instant of the crossing after the latest: one period on, or where a late relock placed it (R413). -/
def nextCrossing (s : State) (p : Nat) : Nat :=
  match (trk s p).late with
  | some t => t.toNat
  | none => (trk s p).stamp.toNat + zxPeriod s p

/-- Instant and period of the oldest crossing kept. -/
def firstKept (t : Trk) : Time × Nat := (t.past.getLast?).getD (t.stamp, t.perAt)

/-- Cycle `n` of phase `p`: the instant of the crossing that opens it and the period in force there (R144,
R272).  Crossings kept have their own stamps; later ones are predicted from the latest stamp and the present
period.  What lies before the tracker's first crossing is laid out backwards from it (assumption 113). -/
def cycleOf (s : State) (p : Nat) (n : Int) : Int × Nat :=
  let t := trk s p
  if (t.num : Int) < n then (nextCrossing s p + (n - t.num - 1) * (zxPeriod s p : Int), zxPeriod s p)
  else if n = t.num then (t.stamp.toNat, max 1 t.perAt)
  else
    match t.past[(t.num - 1 - n).toNat]? with
    | some e => (e.1.toNat, max 1 e.2)
    | none =>
      let e := firstKept t
      (e.1.toNat + (n - (t.num - t.past.length : Int)) * (max 1 e.2 : Nat), max 1 e.2)

/-- Instant of crossing `n` of phase `p` (R144). -/
def crossingAt (s : State) (p : Nat) (n : Int) : Int := (cycleOf s p n).1

/-- Number of crossings of a list, newest first, that lie after an instant. -/
def laterThan (l : List (Time × Nat)) (t : Nat) : Nat :=
  match l with
  | [] => 0
  | e :: es => if e.1.toNat ≤ t then 0 else laterThan es t + 1

/-- Cycle of phase `p` that an instant falls in: that of the latest crossing at or before it. -/
def cycleAt (s : State) (p t : Nat) : Int :=
  let x := trk s p
  if x.stamp.toNat ≤ t then
    if t < nextCrossing s p then x.num else x.num + 1 + ((t - nextCrossing s p) / zxPeriod s p : Nat)
  else
    let i := laterThan x.past t
    if i < x.past.length then (x.num : Int) - 1 - i
    else
      let e := firstKept x
      (x.num : Int) - x.past.length + ((t : Int) - e.1.toNat) / (max 1 e.2 : Nat)

/-- Cycle of phase `p` that an instant falls in, and its slot (R272, R273): a lengthened cycle lengthens
its slot 7. -/
def slotOf (s : State) (p : Nat) (t : Nat) : Int × Nat :=
  let n := cycleAt s p t
  let c := cycleOf s p n
  (n, min 7 (8 * ((t : Int) - c.1) / (c.2 : Int)).toNat)

/-- Start of slot `k` of cycle `n`. -/
def slotStart (s : State) (p : Nat) (n : Int) (k : Nat) : Int := crossingAt s p n + (k * (cycleOf s p n).2 / 8 : Nat)

/-- Cycles of a superframe as written, held within 8 to 256 (R275). -/
def sfCycles (s : State) : Nat := min 256 (max 8 (s.get F.lmacSfcfgSfCycles))

/-- Anchor phase as written: 3 acts as 0. -/
def sfAnchor (s : State) : Nat := if s.get F.lmacSfcfgAnchor = 3 then 0 else s.get F.lmacSfcfgAnchor

/-- Crossing of phase `p` that opens the present superframe on it (R275): the one recorded, or the first
predicted at or after the anchor's opening. -/
def openNum (s : State) (p : Nat) : Int :=
  match tabGet (fun _ => 0) s.line.sf.opens p with
  | 0 =>
    let d : Int := (s.line.sf.openAt.toNat : Int) - (trk s p).stamp.toNat
    (trk s p).num + (d + zxPeriod s p - 1) / (zxPeriod s p : Int)
  | n + 1 => n

/-- Superframe slot index on phase `p` of a cycle and slot (R275). -/
def slotIndex (s : State) (p : Nat) (n : Int) (k : Nat) : Nat :=
  8 * ((n - openNum s p) % (max 1 s.line.sf.cycles : Nat)).toNat + k

/-- Kind of a slot (R276); before the first opening no slot has an index, and it acts as contention. -/
def slotKind (s : State) (p : Nat) (n : Int) (k : Nat) : Nat :=
  if ¬ s.line.sf.running then 0
  else
    let i := slotIndex s p n k
    s.get ⟨R.lmacSlotmap (i / 16), 2 * (i % 16) + 1, 2 * (i % 16)⟩

/-- Slot `j` after another on a phase. -/
def slotPlus (x : Int × Nat) (j : Nat) : Int × Nat := (x.1 + ((x.2 + j) / 8 : Nat), (x.2 + j) % 8)

/-- The first quiet slot that an emission from `t` for `dur` steps would meet on a phase, as the end of
that slot's quiet run (R277). -/
def quietMeets (s : State) (p t dur : Nat) : Option Nat :=
  let guard := usSteps (min 1000 (s.get F.lmacSfcfgQuietGuardUs))
  let at0 := slotOf s p t
  let n := min 2049 (8 * (dur + guard) / zxPeriod s p + 2)
  let hit := findFirst (fun j =>
    let x := slotPlus at0 j
    slotKind s p x.1 x.2 == 3 && decide (slotStart s p x.1 x.2 < (t : Int) + dur + guard)) (List.range n)
  hit.map fun j =>
    let e := (findFirst (fun i => let y := slotPlus at0 (j + i); slotKind s p y.1 y.2 != 3) (List.range 2049)).getD 2049
    let y := slotPlus at0 (j + e)
    (slotStart s p y.1 y.2).toNat

/-- An emission on the phases of `units` meets a quiet slot: the latest end of the runs it meets. -/
def quietHit (s : State) (units t dur : Nat) : Option Nat :=
  let l := (List.range 3).filterMap fun p => if bitAt units p then quietMeets s p t dur else none
  if l.isEmpty then none else some (l.foldl max 0)

/-- Superframe slot index of an instant on the anchor phase in force. -/
def anchorIndex (s : State) (t : Nat) : Nat :=
  let x := slotOf s s.line.sf.anchor t
  slotIndex s s.line.sf.anchor x.1 x.2

/-! ### Commitments of a transmitter (R151) -/

/-- Two spans overlap. -/
def spansMeet (a b c d : Nat) : Bool := decide (a < d) && decide (c < b)

/-- The action occupies line transmitters of `units`. -/
def usesTx (a : Act) (units : Nat) : Bool :=
  (match a.body with
    | .txf _ => true
    | _ => false) && (a.units &&& units) != 0

/-- Ends of the program frames committed to transmitters of `units` that overlap a span; an action other
than that of thread `n`, slot `k`. -/
def txClashes (s : State) (units t e n k : Nat) : List Nat :=
  ((pendingActs s fun a => usesTx a units && (a.stage == .waiting || a.stage == .emitting) &&
      spansMeet a.instant.toNat a.endAt.toNat t e).filter fun p => p != (n, k)).map fun p =>
    (s.act p.1 p.2).endAt.toNat

/-- Transmitter an acknowledgement is committed to: the one chosen, or that of its primary chain's phase. -/
def ackTx (a : AckDue) : Nat :=
  match a.sent with
  | some t => t
  | none => match a.body with
    | .line _ _ _ _ p _ _ => chainPhase p
    | .tmr _ _ p _ _ => chainPhase p
    | .radio .. => 3

/-- Duration of a compatibility frame in ns, on every carrier of its plan that is not masked (R233). -/
def compatNs (s : State) (mode len : Nat) : Nat :=
  Config.compatNs (s.get F.lphyCompatCfgPlan) ((List.range 3).map fun w => s.rd (R.lphyCompatMask w)) mode len

/-- Duration of a line acknowledgement in ns; a compatibility one's is its profile's. -/
def lineAckNs (s : State) (fam sf b : Nat) : Nat := if fam = 2 then compatNs s 0 0 else ackNs s fam sf b

/-- Span of an acknowledgement, as planned before it begins. -/
def ackEnd (s : State) (a : AckDue) : Nat :=
  match a.sent, a.body with
  | none, .line fam sf b _ _ _ _ => a.due.toNat + nsSteps (lineAckNs s fam sf b)
  | none, .tmr _ _ _ mode l => a.due.toNat + nsSteps (compatNs s mode l.length)
  | _, _ => a.endAt.toNat

/-- Ends of the acknowledgements committed to transmitters of `units` that overlap a span. -/
def ackClashes (s : State) (units t e : Nat) : List Nat :=
  (s.line.acks.filter fun a => bitAt units (ackTx a) && spansMeet a.due.toNat (ackEnd s a) t e).map (ackEnd s)

/-- The transmitters of `units` are free over a span (R151). -/
def txFree (s : State) (units t e n k : Nat) : Bool :=
  (txClashes s units t e n k).isEmpty && (ackClashes s units t e).isEmpty

/-- A transmitter emits now. -/
def txBusy (s : State) (t : Nat) : Bool :=
  !(pendingActs s fun a => usesTx a (2 ^ t) && a.stage == .emitting).isEmpty ||
    s.line.acks.any fun a => a.sent == some t

/-- An instant falls inside a hold-off of a transmitter of `units` (R257). -/
def heldOff (s : State) (units t : Nat) : Bool :=
  (List.range 3).any fun x => bitAt units x && (match (xmit s x).holdOff with
    | some e => decide (t < e.toNat)
    | none => false)

/-! ### Device updates to contexts (R25) -/

/-- `RUNG` raised by one rung, with its event (R296). -/
def rungDown (c : Nat) (s : State) : State := occur (setCtxBits c 7 2 0 (min 7 (nodeRung s c + 1)) s) 54

/-- Rung that a frame sent in a mode steps to (R296). -/
def stepRung (mode : Nat) : Nat :=
  match mode with
  | 0x09 | 0x0C | 0x0D => 2
  | 0x05 => 4
  | 0x01 | 0x02 => 5
  | m =>
    match modeRung m with
    | some r => min 7 (r + 1)
    | none => 7

/-- One unacknowledged emission (R296, R297). -/
def applyUnacked (c : Nat) (sweep : Bool) (s : State) : State :=
  let n := min 255 (failRun s c + 1)
  let s := setCtxBits c 7 19 16 0 (setCtxBits c 7 15 8 n s)
  if n % 2 = 0 ∧ ¬ sweep then rungDown c s else s

/-- An acknowledged emission (R295, R297). -/
def applyAcked (c : Nat) (advice : Option Nat) (map : Nat) (s : State) : State :=
  let s := setCtxBits c 7 15 8 0 s
  match advice with
  | none => s
  | some a =>
    let r := nodeRung s c
    let ok := mapValid s c map (map / 2) (map % 2 == 1)
    let counts := (decide (a < r) || (r == 1 && a == 1)) && ok
    let n := if counts then ctxBits s c 7 19 16 + 1 else 0
    let limit := max 1 (s.get F.lmacArqStepUpN)
    if counts ∧ limit ≤ n ∧ 0 < r then occur (setCtxBits c 7 19 16 0 (setCtxBits c 7 2 0 (r - 1) s)) 55
    else setCtxBits c 7 19 16 (min 15 n) s

/-- What a link's last outcomes, at most 32, measured.  The record alone, read back from storage, gives their means:
each success of its history then stands at them (assumption 122). -/
def linkSamples (s : State) (c l : Nat) : List (Option (Int × Nat)) :=
  let w := ctxWord s c (160 + 4 * l)
  let n := min 32 (bitsOf w.toNat 31 16)
  let e := tabGet (fun _ => []) s.line.links (8 * c + l)
  if e.length = n then e
  else (List.range n).map fun i =>
    if (ctxWord s c (161 + 4 * l)).getLsbD i then some ((w.extractLsb' 0 8).toInt, bitsOf w.toNat 15 8) else none

/-- The means of a link over its samples; without one they stay. -/
def linkMeans (c k : Nat) (l : List (Int × Nat)) (s : State) : State :=
  if l.isEmpty then s
  else
    let q := l.foldl (fun a x => a + x.1) 0 / (l.length : Int)
    let v := l.foldl (fun a x => a + x.2) 0 / l.length
    setCtxBits c k 7 0 (q % 256).toNat (setCtxBits c k 15 8 (v % 256) s)

/-- An outcome enters a link's record (R300, R368): a success or not, and of a reception its SNR in half dB and its
preamble level; the means are over the last 32 outcomes. -/
def linkEnter (c p b : Nat) (ok : Bool) (x : Option (Int × Nat)) (s : State) : State :=
  let l := 2 * p + b
  let k := 160 + 4 * l
  let e := (x :: linkSamples s c l).take 32
  let n := bitsOf (ctxWord s c k).toNat 31 16
  let s := { s with line := { s.line with links := tabSet (fun _ => []) s.line.links (8 * c + l) e } }
  let s := setCtxBits c k 31 16 (min 0xFFFF (n + 1)) (linkMeans c k (e.filterMap id) s)
  let s := setCtx c (k + 1) (BitVec.ofNat 32 (2 * (ctxWord s c (k + 1)).toNat + b2n ok)) s
  setCtx c (k + 2) (BitVec.ofNat 32 (s.tb.toNat / 2 ^ 32)) s

/-- The outcome of an emission enters a link's record. -/
def linkOutcome (c p b : Nat) (ok : Bool) (s : State) : State := linkEnter c p b ok none s

/-- A reception enters a link's metrics. -/
def linkRx (c p b snr level : Nat) (s : State) : State :=
  linkEnter c p b true (some ((BitVec.ofNat 8 snr).toInt, level % 256)) s

/-- One emission counted off a map's `PERTURB_LEFT` (R223). -/
def applyPerturb (c i : Nat) (s : State) : State :=
  let n := perturbLeft s c i
  if n = 0 then s
  else
    let s := setCtxBits c (mapBase i) 7 4 (n - 1) s
    if n = 1 then setCtxBits c (mapBase i) 3 3 0 s else s

/-- A valid map marked `PERTURBED` (R223, R254). -/
def applyMark (c i : Nat) (s : State) : State :=
  if bitAt (mapByte s c i 0) 0 then setCtxBits c (mapBase i) 7 4 8 (setCtxBits c (mapBase i) 3 3 1 s) else s

end Sys2Proof.Machine
end

