-- ==== Sys2Proof/Machine/Radio.lean ====
section
/-!
DEFINITION. The radio: channels, the hop function and region bounds (R306, R318), airtime (R314),
connections and widening (R319 to R324), and the duty-cycle accounts (R329 to R333).
-/

namespace Sys2Proof.Machine

/-! ### Channels and bounds -/

def chanKhz (s : State) (i : Nat) : Nat := s.get (F.radioChanFreqKhz i)
def chanValid (s : State) (i : Nat) : Bool := s.on (F.radioChanValid i)

/-- Half the channel spacing of an operating mode, in kHz (R306, R309). -/
def halfSpacing (opmode : Nat) : Nat := if opmode = 1 then 100 else 200

/-- Edges of a band of R305 in kHz. -/
def bandEdges (b : Nat) : Nat × Nat := if b = 0 then (863000, 876000) else (902000, 928000)

/-- Band the region lock allows emissions in (R306). -/
def lockEdges (s : State) : Nat × Nat :=
  match regionLock s with
  | 1 => (863000, 876000)
  | 2 => (902000, 928000)
  | _ => bandEdges (s.get F.radioCfgBand)

/-- The occupied band of a channel lies within the lock's (R306). -/
def chanInRegion (s : State) (i opmode : Nat) : Bool :=
  decide ((lockEdges s).1 + halfSpacing opmode ≤ chanKhz s i) &&
    decide (chanKhz s i + halfSpacing opmode ≤ (lockEdges s).2)

/-- Highest antenna level in half dBm (R306). -/
def maxLevel (s : State) (i opmode : Nat) : Int :=
  if regionLock s = 1 then
    if 869400 + halfSpacing opmode ≤ chanKhz s i ∧ chanKhz s i + halfSpacing opmode ≤ 869650 then 32 else 28
  else 60

/-- Declared gain of the external amplifier, in half dB (R306). -/
def paGain (s : State) : Nat := if s.on F.radioFemPaPresent then 2 * s.get F.radioFemPaGainDb else 0

/-- Antenna level of a `LEVEL` code, in half dBm. -/
def antennaLevel (s : State) (level : Nat) : Int := (level : Int) - 20 + paGain s

/-- A level within the bound (R306). -/
def levelInRegion (s : State) (i opmode level : Nat) : Bool := decide (antennaLevel s level ≤ maxLevel s i opmode)

/-- Level of an acknowledgement: `ACK_LEVEL`, lowered to the bound, and during last-gasp to the cap (R306,
R449). -/
def ackLevel (s : State) (i opmode : Nat) : Nat :=
  let bound := (maxLevel s i opmode + 20 - paGain s).toNat
  let l := min (s.get F.radioCfgAckLevel) bound
  if lastGasp s then min l (s.get F.pwrLgCfgLgRfLevel) else l

/-- Entries of a channel map, in rising order. -/
def mapEntries (m : BitVec 64) : List Nat := (List.range 64).filter fun i => m.getLsbD i

/-- The hop function (R318). -/
def hopChannel (m : BitVec 64) (seed inc e : Nat) : Nat :=
  let u := (seed + e * inc) % 64
  if m.getLsbD u then u else (mapEntries m).getD (u % max 1 (mapEntries m).length) 0

/-! ### Airtime (R314) -/

def preambleBytes (s : State) : Nat := min 64 (max 4 (s.get F.radioCfgPreambleBytes))

/-- Bits of a frame of PSDU length `l`. -/
def rfBits (s : State) (l : Nat) (fec : Bool) : Nat :=
  8 * preambleBytes s + 16 + (if fec then 2 * (8 * (2 + l) + 8) else 8 * (2 + l))

/-- Kilobits a second of an operating mode. -/
def rfRate (opmode : Nat) : Nat := 50 * max 1 opmode

/-- Airtime in ns. -/
def rfNs (s : State) (l : Nat) (fec : Bool) (opmode : Nat) : Nat := rfBits s l fec * 1000000 / rfRate opmode

/-- Charged airtime in ms (R314). -/
def rfMs (s : State) (l : Nat) (fec : Bool) (opmode : Nat) : Nat := ceilDiv (rfBits s l fec) (rfRate opmode)

/-- PSDU length of a frame (R311). -/
def psduLength (level n : Nat) : Nat := if level = 0 then 9 + n + 4 else 9 + 4 + n + micLen level + 4

/-! ### Superframe (R316) -/

/-- `RF_SF_MS` as it acts. -/
def rfSfMs (s : State) : Nat := min 16000 (max 125 (s.get F.radioSfcfgRfSfMs))

/-- Start of superframe `k` as an instant. -/
def rfSfStart (s : State) (k : Nat) : Nat := s.get F.radioAnchorSAnchorS * 2 ^ 32 + msSteps (k * rfSfMs s)

/-- Superframe an instant falls in. -/
def rfSfOf (s : State) (t : Nat) : Nat :=
  let k := (t - s.get F.radioAnchorSAnchorS * 2 ^ 32) / max 1 (msSteps (rfSfMs s))
  if t < rfSfStart s k then k - 1 else if rfSfStart s (k + 1) ≤ t then k + 1 else k

/-- Start of slot `j` of superframe `k`. -/
def rfSlotStart (s : State) (k j : Nat) : Nat :=
  s.get F.radioAnchorSAnchorS * 2 ^ 32 + stepsOf 64000 (64 * k * rfSfMs s + j * rfSfMs s)

/-- Slot of an instant in its superframe. -/
def rfSlotOf (s : State) (t : Nat) : Nat :=
  ((List.range 64).filter fun j => decide (rfSlotStart s (rfSfOf s t) j ≤ t)).length - 1

/-! ### Connections (R319 to R323) -/

def connState (s : State) (c : Nat) : Nat := ctxBits s c 256 1 0
def connWiden (s : State) (c : Nat) : Nat := ctxBits s c 256 4 2
def missRun (s : State) (c : Nat) : Nat := ctxBits s c 256 12 5
def wakeNext (s : State) (c : Nat) : Nat := (ctxPair s c 258).toNat
def evtNext (s : State) (c : Nat) : Nat := ctxBits s c 257 15 0
def lastSync (s : State) (c : Nat) : Nat := (ctxPair s c 260).toNat

/-- Fields of the parameters at word `k` (270 in force, 264 staged). -/
def prmWakeN (s : State) (c k : Nat) : Nat := ctxBits s c k 15 0
def prmWakeS (s : State) (c k : Nat) : Nat := ctxBits s c k 21 16
def prmSeed (s : State) (c k : Nat) : Nat := ctxBits s c k 27 22
def prmInc (s : State) (c k : Nat) : Nat := ctxBits s c (k + 1) 5 0
def prmSupTo (s : State) (c k : Nat) : Nat := ctxBits s c (k + 1) 28 16
def prmSf0 (s : State) (c k : Nat) : Nat := (ctxWord s c (k + 2)).toNat
def prmEvt0 (s : State) (c k : Nat) : Nat := ctxBits s c (k + 3) 15 0
def actRetx (s : State) (c : Nat) : Nat := ctxBits s c 273 23 16
def actListen (s : State) (c : Nat) : Nat := ctxBits s c 273 31 24

/-- Signed distance of a 32-bit superframe number from superframe `k` (R13, R316). -/
def sfAhead (n k : Nat) : Int :=
  let d : Nat := (n + (2 ^ 32 - k % 2 ^ 32)) % 2 ^ 32
  if d < 2 ^ 31 then (d : Int) else (d : Int) - 2 ^ 32

/-- The superframe that a 32-bit number names, the one nearest the present (DEDUCED, assumption 118). -/
def sfNamed (s : State) (n : Nat) : Nat :=
  let k := rfSfOf s s.tb.toNat
  ((k : Int) + sfAhead n k).toNat

/-- Nominal instant of event `j` of a connection (R319). -/
def eventInstant (s : State) (c j : Nat) : Nat :=
  rfSlotStart s (sfNamed s (prmSf0 s c 270) + j * prmWakeN s c 270) (prmWakeS s c 270)

/-- Steps between two events. -/
def eventGap (s : State) (c : Nat) : Nat := max 1 (msSteps (prmWakeN s c 270 * rfSfMs s))

/-- Number of the event whose nominal instant lies nearest `t`; an instant halfway goes to the later one
(R319). -/
def nearestEvent (s : State) (c t : Nat) : Nat :=
  if t ≤ eventInstant s c 0 ∨ prmWakeN s c 270 = 0 then 0 else (2 * (t - eventInstant s c 0) + eventGap s c) / (2 * eventGap s c)

/-- Counter of event `j`. -/
def eventCounter (s : State) (c j : Nat) : Nat := (prmEvt0 s c 270 + j) % 65536

/-- Counter of the node's nearest event: of the one at `WAKE_NEXT` when it wakes by polls only. -/
def nearestCounter (s : State) (c t : Nat) : Nat :=
  if prmWakeN s c 270 = 0 then evtNext s c else eventCounter s c (nearestEvent s c t)

/-- An instant within the listening time after a poll that was acknowledged with `PENDING`: the poll's
channel (R323). -/
def pollChannel (s : State) (c t : Nat) : Option Nat :=
  match tabGet (fun _ => 0) s.radio.pollEnd c with
  | 0 => none
  | v + 1 => if t ≤ v / 64 then some (v % 64) else none

/-- `GUARD_MAX` in µs. -/
def guardMaxUs (s : State) : Nat := 1000 * min 64 (max 1 (s.get F.radioGuardGuardMaxMs))

/-- Drift of a node in ppm. -/
def nodePpm (s : State) (c : Nat) : Nat :=
  if ctxBits s c 262 7 0 = 0 then s.get F.radioGuardNodePpm else ctxBits s c 262 7 0

/-- Magnitude of `STEER_PPT`, in 0.01 ppm rounded up. -/
def steerUnc (s : State) : Nat := ceilDiv (s.rd R.plmbSteer).toInt.natAbs 10000

/-- The table of R402 in 0.01 ppm: 2.50 in `FREERUN`, the value held in `ACQUIRE`, 0.05 in `LOCKED`, and in
`HOLDOVER` 0.02 more for each whole hour. -/
def baseUnc (s : State) : Nat :=
  match s.get F.plmbStatusState with
  | 0 => 250
  | 1 => s.plmb.unc
  | 2 => 5
  | _ => min 250 (5 + 2 * ((s.tb.toNat - s.plmb.since.toNat) / (3600 * 2 ^ 32)))

/-- `FREQ_UNC` in 0.01 ppm (R402). -/
def freqUnc (s : State) : Nat := baseUnc s + steerUnc s

/-- Unclamped widening in µs, rounded up (R324). -/
def widenRaw (s : State) (c t : Nat) : Nat :=
  let d := 1000 * nodePpm s c + 10 * freqUnc s
  let dt := t - lastSync s c
  -- d in 10^-9, dt in 2^-32 s: microseconds are d * dt / (1000 * 2^32)
  ceilDiv (2 ^ connWiden s c * (d * dt + 2 * s.get F.radioGuardJitterUs * 1000 * 2 ^ 32)) (1000 * 2 ^ 32)

/-! ### Duty-cycle accounts (R329 to R331) -/

def acctKey (a sec : Nat) : Nat := a * 2 ^ 40 + sec

/-- Allowance of an account in ms (R329). -/
def allowance (s : State) (a : Nat) : Nat := s.get (F.dcLimitLimitPpm a) * 3600000 / 1000000

/-- Airtime of one ring within the window. -/
def ringUsed (s : State) (t : Tab Nat) (a : Nat) : Nat :=
  sumNat ((t.filter fun e => decide (acctKey a (s.radio.sec - 3599) ≤ e.1) && decide (e.1 < acctKey (a + 1) 0)).map
    fun e => e.2)

/-- Used airtime of an account (R330). -/
def dcUsed (s : State) (a : Nat) : Nat := ringUsed s s.radio.actual a + ringUsed s s.radio.prior a

/-- The accounts an emission falls under (R329). -/
def accountsOf (s : State) (i opmode : Nat) : List Nat :=
  (List.range 8).filter fun a =>
    s.on (F.dcLoEnable a) && decide (s.get (F.dcLoLoKhz a) < chanKhz s i + halfSpacing opmode) &&
      decide (chanKhz s i < s.get (F.dcHiHiKhz a) + halfSpacing opmode)

/-- The used airtime of every account as its register shows it, and `DC_LOW_a` at each fall of the available
airtime below the reserve (R331). -/
def syncDuty (s : State) : State :=
  foldUpto 8 (fun a s =>
    let u := dcUsed s a
    let s := s.put (F.dcUsedUsedMs a) u
    let low := allowance s a < u + s.get (F.dcReserveAckReserveMs a)
    if s.on (F.dcLoEnable a) ∧ low then
      if bitAt s.radio.low a then s
      else occur { s with radio := { s.radio with low := s.radio.low + 2 ^ a } } (100 + a)
    else if bitAt s.radio.low a then { s with radio := { s.radio with low := s.radio.low - 2 ^ a } } else s) s

/-- Airtime in the prior bucket of age `i` at release of an account, under `COLD_FULL` (R332). -/
def coldBucket (allow i : Nat) : Nat := (i + 1) * allow / 3600 - i * allow / 3600

/-- The cold layout of an account, once it has an allowance: of the buckets that stand in the window still (R332,
assumption 134). -/
def coldLayout (a : Nat) (s : State) : State :=
  if ¬ bitAt s.radio.cold a ∨ allowance s a = 0 then s
  else
    let prior := foldUpto 3600 (fun i t =>
      if 3600 - i + 3600 ≤ s.radio.sec then t
      else tabSet (fun _ => 0) t (acctKey a (3600 - i)) (coldBucket (allowance s a) i)) s.radio.prior
    { s with radio := { s.radio with cold := s.radio.cold - 2 ^ a, prior := prior } }

/-- Airtime added to the actual bucket of the present second of each account. -/
def chargeDuty (l : List Nat) (ms : Nat) (s : State) : State :=
  syncDuty (l.foldl (fun s a =>
    let k := acctKey a s.radio.sec
    let v := tabGet (fun _ => 0) s.radio.actual k + ms
    { s with radio := { s.radio with actual := tabSet (fun _ => 0) s.radio.actual k v } }) s)

/-- A charge removed from its bucket while that is still in the window (R331). -/
def unchargeDuty (l : List Nat) (ms sec : Nat) (s : State) : State :=
  if s.radio.sec < sec + 3600 then
    syncDuty (l.foldl (fun s a =>
      let k := acctKey a sec
      let v := tabGet (fun _ => 0) s.radio.actual k - ms
      { s with radio := { s.radio with actual := tabSet (fun _ => 0) s.radio.actual k v } }) s)
  else s

/-- The first account that refuses a charge, with or without its reserve (R331). -/
def dutyRefuses (s : State) (l : List Nat) (ms : Nat) (reserve : Bool) : List Nat :=
  l.filter fun a =>
    decide (allowance s a < dcUsed s a + ms + (if reserve then s.get (F.dcReserveAckReserveMs a) else 0))

/-- No account covers the emission, under the lock `EU` (R329). -/
def dutyUncovered (s : State) (l : List Nat) : Bool := l.isEmpty && regionLock s == 1

/-- A program emission refused by airtime is counted and raised (R331). -/
def countDutyDeny (l : List Nat) (s : State) : State :=
  let s := bumpStat R.rfDutyDenyCnt rfOvf s
  occur (l.foldl (fun s a => bumpStat (R.dcDenyCnt a) rfOvf s) s) 93

/-! ### Changes to connections as one update (R321) -/

/-- A word pair of the record that holds an instant. -/
def setInstant (c k t : Nat) (s : State) : State := setCtxPair c k (BitVec.ofNat 64 t) s

/-- `MISS_RUN`, the widening exponent and the state written. -/
def setConn (c st f run : Nat) (s : State) : State :=
  setCtx c 256 (BitVec.ofNat 32 (st + 4 * min 7 f + 32 * min 255 run)) s

/-- The supervision timer restarts (R322). -/
def restartSup (c : Nat) (s : State) : State :=
  { s with radio := { s.radio with sup := tabSet (fun _ => 0) s.radio.sup c (s.tbCopy.toNat + 1) } }

def stopSup (c : Nat) (s : State) : State :=
  { s with radio := { s.radio with sup := tabSet (fun _ => 0) s.radio.sup c 0 } }

/-- A verified frame of a node in `WAKE` or `POLL_ONLY` (R321). -/
def applySync (c t : Nat) (s : State) : State :=
  if connState s c = 0 then s else restartSup c (setConn c (connState s c) 0 0 (setInstant c 260 t s))

/-- A miss (R321). -/
def applyMiss (c : Nat) (atMax : Bool) (s : State) : State :=
  if connState s c ≠ 1 then s
  else
    let s := ctxStat c 296 (bumpStat R.rfMissCnt rfOvf s)
    let limit := max 1 (s.get F.radioGuardMissLimit)
    if missRun s c + 1 < limit then occur (setConn c 1 (connWiden s c) (missRun s c + 1) s) 84
    else if ¬ atMax then occur (setConn c 1 (connWiden s c + 1) 0 s) 85
    else
      let s := setInstant c 258 0 (setConn c 2 (connWiden s c) (missRun s c + 1) s)
      occur (bumpStat R.rfWakeLostCnt rfOvf s) 86

/-- Words of the parameters cleared, and the state `NONE` (R321). -/
def clearConn (c : Nat) (s : State) : State :=
  let s := foldUpto 6 (fun i s => setCtx c (270 + i) 0#32 s) s
  stopSup c (setCtx c 257 0#32 (setInstant c 258 0 (setConn c 0 0 0 s)))

/-- A `DISCONNECT` ended (R321). -/
def applyDisconnect (c : Nat) (s : State) : State :=
  if connState s c = 0 then s else occur (clearConn c s) 82

/-- The supervision timer expired (R321). -/
def applyConnLost (c : Nat) (s : State) : State :=
  if connState s c = 0 then s else occur (bumpStat R.rfConnLostCnt rfOvf (clearConn c s)) 83

/-- A `CONNECT` was acknowledged: the parameters sent come into force (R320, R321). -/
def applyConnect (c t retx listen : Nat) (words : List Word) (s : State) : State :=
  let s := foldUpto 6 (fun i s => setCtx c (270 + i) (words.getD i 0#32) s) s
  let s := setCtxBits c 273 31 24 listen (setCtxBits c 273 23 16 retx s)
  let n := prmWakeN s c 270
  let s := setInstant c 260 t (setConn c (if n = 0 then 2 else 1) 0 0 s)
  let s := setCtx c 257 (BitVec.ofNat 32 (prmEvt0 s c 270)) s
  let s := setInstant c 258 (if n = 0 then 0 else eventInstant s c 0) s
  occur (restartSup c s) 81

/-- The next event of a connection: its instant and counter (R319). -/
def applyEvtNext (c : Nat) (s : State) : State :=
  if connState s c ≠ 1 ∨ wakeNext s c = 0 then s
  else
    let s' := setCtx c 257 (BitVec.ofNat 32 ((evtNext s c + 1) % 65536)) s
    setInstant c 258 (eventInstant s c (nearestEvent s c (wakeNext s c) + 1)) s'

/-- A device update applied to a resident context, as one update (R25). -/
def applyUpd (c : Nat) (u : CtxUpd) (s : State) : State :=
  match u with
  | .stat k => ctxStat c k s
  | .perturb i => applyPerturb c i s
  | .mark i => applyMark c i s
  | .link b l => l.foldl (fun s x => linkRx c x.1 b x.2.1 x.2.2 s) s
  | .outcome p b ok => linkOutcome c p b ok s
  | .unacked sweep => applyUnacked c sweep s
  | .acked a m => applyAcked c a m s
  | .suspect => setCtxBits c 9 3 3 1 s
  | .propose r h => setCtx c 11 (BitVec.ofNat 32 (h % 8 + 8)) (setCtx c 10 r s)
  | .miss m => applyMiss c m s
  | .evtNext => applyEvtNext c s
  | .connect t r l w => applyConnect c t.toNat r l w s
  | .disconnect => applyDisconnect c s
  | .connLost => applyConnLost c s
  | .sync t => applySync c t.toNat s

/-- A device update falls due: at once on a resident context, else after its fetch, in the order they fell
due (R25). -/
def update (c : Nat) (u : CtxUpd) (s : State) : State :=
  if resident s c then applyUpd c u s
  else if ctxDead s c then s
  else requestMiss c 2 { s with line := { s.line with upds := s.line.upds ++ [(c, u)] } }

end Sys2Proof.Machine
end

