-- ==== Sys2Proof/Machine/Issue.lean ====
section
/-!
DEFINITION. What the action instructions share (R147 to R153, R175 to R177): the outcome of a refused
check, the grant, the frame counter, preparation, and the slot made `PENDING`.
-/

namespace Sys2Proof.Machine

/-! ### Outcomes at issue (R149, R183) -/

/-- `LATE`, `FAIL` and `DENY` written to 0. -/
def clearActFlags (n : Nat) (s : State) : State :=
  modThr s n fun t => { t with flags := { t.flags with late := false, fail := false, deny := false } }

/-- The instruction ends with `FAIL` and a cause; the slot keeps its record (R149). -/
def actFail (n k cost cause : Nat) (s : State) : State :=
  done n cost (failWith n k cause (clearActFlags n s))

/-- The instant could not be met: `LATE` and `FAIL` (R149, check 5). -/
def actTooLate (n k cost : Nat) (t : Time) (s : State) : State :=
  done n cost (failWith n k 0x01 (setLate n t (clearActFlags n s)))

/-- `DENY` with a cause (R147). -/
def actDeny (n k cost cause : Nat) (s : State) : State :=
  done n cost (denyWith n k cause (clearActFlags n s))

/-! ### Ends -/

/-- Airtime of an action that ends without emission leaves its bucket (R331). -/
def returnAirtime (a : Act) (s : State) : State :=
  match a.body with
  | .rtx d => if a.charge = 0 then s else unchargeDuty (accountsOf s a.chan d.opmode) a.charge a.bucket s
  | _ => s

/-- A pending action ends before its emission (R29, R140, R331). -/
def endUnsent (n k status cause : Nat) (s : State) : State :=
  let a := s.act n k
  returnAirtime a (endAct n k status cause (infoOf a) s)

/-- A pending action ends after an emission. -/
def endSent (n k status cause : Nat) (s : State) : State := endAct n k status cause (infoOf (s.act n k)) s

/-- An action not prepared in time (R150): its airtime is returned. -/
def lateUnsent (n k : Nat) (s : State) : State := returnAirtime (s.act n k) (actLate n k s)

/-! ### Preparation (R28, R150, R376) -/

/-- Context of a frame. -/
def actCtx (a : Act) : Option Nat :=
  match a.body with
  | .txf d => d.ctx
  | .rtx d => d.ctx
  | .rrx d => d.ctx
  | _ => none

def actSecure (a : Act) : Bool :=
  match a.body with
  | .txf d => d.secure
  | .rtx d => d.secure
  | _ => false

/-- Check 8 on a context: 0 when a counter value may be taken (R149, R354). -/
def keyRefusal (s : State) (c : Nat) : Nat :=
  match keyPosOf s c roleCurrent with
  | none => 0x2B
  | some p => if fcValid s (txFc s c p) then 0 else 0x06

/-- A refusal at check 8 counts as R354 says. -/
def countKeyRefusal (cause : Nat) (s : State) : State := if cause = 0x06 then rekeyRefuse s else s

/-- A waiting action is prepared once its context is there and, for a secured frame, once its counter value
may be taken: the raise of `TX_CEIL` durable, and no commit owed after an exit from last-gasp (R28, R376,
R455). -/
def prepare (n k : Nat) (s : State) : State :=
  let a := s.act n k
  if ¬ isPending a ∨ a.prep then s
  else
    match actCtx a with
    | none => s.setAct n k { a with prep := true, made := s.tbCopy }
    | some c =>
      if ¬ resident s c then s
      else if ¬ actSecure a then (touch c s).setAct n k { a with prep := true, made := s.tbCopy }
      else
        match keyPosOf s c roleCurrent with
        | none => endUnsent n k stFailed 0x2B s
        | some p =>
          let v := txFc s c p
          if ¬ fcValid s v then endUnsent n k stFailed 0x06 (rekeyRefuse s)
          else if ¬ ceilDurable s c p v then makeDurable c p s
          else if s.stor.owed then s
          else (takeFc c p v s).setAct n k { a with prep := true, made := s.tbCopy, fc := some v, key := posKey s c p }

/-- Every waiting action that is not yet prepared is tried: hardware first, then by thread number (R355). -/
def prepareAll (s : State) : State :=
  forActs (pendingActs s fun a => a.stage == .waiting && !a.prep) prepare s

/-- A slot becomes `PENDING`: its wake bit clears, and preparation begins (R148, R149, R177).  An action
whose grant came after its instant is late at once (R150). -/
def makePending (n k : Nat) (a : Act) (s : State) : State :=
  let a := { a with
    status := stPending, cause := 0, info := infoOf a, stage := .waiting, prep := false, made := s.tbCopy }
  let s := modThr s n fun t =>
    { setAct t k a with wakeBits := t.wakeBits &&& (65535 ^^^ 2 ^ (8 + k)) }
  let s := match actCtx a with
    | some c => requestMiss c 2 s
    | none => s
  if ¬ a.asap ∧ a.instant.toNat ≤ s.tbCopy.toNat then lateUnsent n k s else prepare n k s

/-- The check of the transmitter, again once the grant has come (R151), check 8, and then the slot (R149):
`clash` is set when another frame was committed to the transmitter meanwhile. -/
def actAccept (n k : Nat) (clash : Bool) (a : Act) (fin : State → State) (s : State) : State :=
  let cause := if clash then 0x0C else match actCtx a with
    | some c => if actSecure a then keyRefusal s c else 0
    | none => 0
  if cause = 0 then fin (makePending n k a (clearActFlags n s))
  else
    fin (failWith n k cause (clearActFlags n
      (countKeyRefusal cause (returnAirtime a (releaseGrant (.act n k) s)))))

/-- Check 7: the grant (R147, R450, R451). -/
def actGrant (n k cost : Nat) (nw : Bool) (g : Grant) (a : Act) (s : State) : State :=
  if givenNow s g then actAccept n k false a (done n cost) (giveGrant g s)
  else if nw then actDeny n k cost 0x09 (returnAirtime a (countDeny g.drawer s))
  else enterWait n cost .waitGrant (.grant k a) (queueGrant g s)

/-- The frame counts as an outage frame: last-gasp is active and the thread is marked (R454). -/
def outage (s : State) (n : Nat) : Bool := lastGasp s && bitAt (s.rd R.pwrLgThreads).toNat n

/-- Check 7 of a transmission: during last-gasp only outage frames pass, and those are given their safety
grants at once (R454). -/
def txGrant (n k cost : Nat) (nw : Bool) (g : Grant) (a : Act) (s : State) : State :=
  if outage s n then actAccept n k false a (done n cost) (giveGrant g s)
  else if lastGasp s then actFail n k cost 0x38 (returnAirtime a s)
  else actGrant n k cost nw g a s

/-- Check 7 of a window: during last-gasp a line window is refused, and a radio window of a thread outside
`PWR_LG_THREADS` (R483). -/
def rxGrant (line : Bool) (n k cost : Nat) (nw : Bool) (g : Grant) (a : Act) (s : State) : State :=
  if lastGasp s ∧ (line ∨ ¬ outage s n) then actFail n k cost 0x38 s else actGrant n k cost nw g a s

/-- Drawer that a thread's grants are charged to. -/
def grantDrawer (s : State) (n : Nat) : Nat := (drawerOf s n).getD 0

/-- Instant of an action: tK, or for `ASAP` the first instant that the hardware can meet, at least 2 µs
ahead; the spec states no upper bound but the lead time of R150, within which the value is free. -/
def actInstant (s : State) (n : Nat) (f : FA) : Time :=
  if f.asap then after s.tbCopy (usSteps 2 + s.free % (usSteps 298 + 1)) else tReg (s.thr n) f.tk

/-- Check 5. -/
def inTime (s : State) (f : FA) (t : Time) : Bool := f.asap || decide (s.tbCopy.toNat + usSteps 2 ≤ t.toNat)

/-- Bytes of a list from an offset as a little-endian number. -/
def fieldAt (l : List Byte) (o n : Nat) : Nat := leNat ((l.drop o).take n)

/-- All bytes from an offset are zero. -/
def zeroFrom (l : List Byte) (o : Nat) : Bool := (l.drop o).all fun b => b == 0#8

/-- A payload is copied when every byte lies where the thread may read and no word of it is marked
uncorrectable; else the thread faults and no action is issued (R137, R177). -/
def payloadThen (n a len : Nat) (f : List Byte → State → State) (s : State) : State :=
  if ¬ mayRead s n a len then threadFault n causeFence a s
  else if dmemBad s (coreOf n) a len then threadFaultFree n causePoison s
  else f (ldBytes s n a len) s

/-- Check 1: the right to line or radio actions, and the context (R153); the resource number of a missing
right is not stated. -/
def ownThen (n : Nat) (right : Bool) (ctx : Option Nat) (f : State → State) (s : State) : State :=
  if ¬ right then threadFaultFree n causeOwnership s
  else
    match ctx with
    | some c => if ownsCtx s n c then f s else threadFault n causeOwnership c s
    | none => f s

/-- Context operand of an action (R175). -/
def faCtx (s : State) (n : Nat) (f : FA) : Option Nat := if f.ctx then some (ctxOperand (s.thr n) f.rc) else none

/-- Descriptor address of an action (R175). -/
def faDesc (s : State) (n : Nat) (f : FA) : Nat := descAddr (s.thr n) f.ra f.doff.toNat

/-- Checks 2 and 3: the slot, and the link. -/
def slotLink (s : State) (n k : Nat) : Nat :=
  if isPending (s.act n k) then 0x02 else if linkLost s then 0x03 else 0

end Sys2Proof.Machine
end

