-- ==== Sys2Proof/Machine/LineIssue.lean ====
section
/-!
DEFINITION. `TXF` and `RXW` (R149, R178, R179, R266, R282, R283) and `ZXW` (R144).
-/

namespace Sys2Proof.Machine

/-! ### `TXF` -/

/-- The descriptor's fields, the payload not yet copied (R178). -/
def txfOf (l : List Byte) (ctx : Option Nat) : TxfD :=
  let w := fieldAt l 0 4
  { phase := bitsOf w 1 0, all3 := bitAt w 2, family := bitsOf w 4 3, mode := bitsOf w 9 5,
    tmap := bitsOf w 12 10, band := bitsOf w 13 13, longPrefix := bitAt w 14, secure := bitAt w 15,
    secLevel := bitsOf w 18 16, ackReq := bitAt w 19, frameType := bitsOf w 23 20, retry := bitsOf w 26 24,
    dest := fieldAt l 6 2, atten := fieldAt l 10 1 % 32, sf := fieldAt l 11 1 % 16,
    rep4 := bitAt (fieldAt l 11 1) 4, payload := [], ctx := ctx }

/-- Rules of a frame of one of the two families with the native MAC (R178, R266, R282). -/
def txfMacOk (d : TxfD) : Bool :=
  decide (d.frameType ≤ 8) && d.secLevel != 4 && (d.secure || d.secLevel == 0) && (!d.secure || d.ctx.isSome) &&
    (d.frameType != 0 || (!d.secure && !d.ackReq)) &&
    (d.ctx.isSome || d.dest != 0xFFFF || !d.ackReq) &&
    (d.tmap == 7 || (decide (d.tmap < 4) && d.ctx.isSome))

/-- The descriptor's fields hold (R178, R236, R266, R282). -/
def txfOk (l : List Byte) (d : TxfD) : Bool :=
  let w := fieldAt l 0 4
  bitsOf w 31 27 == 0 && decide (fieldAt l 4 2 ≤ 2018) && decide (fieldAt l 10 1 < 32) && zeroFrom l 12 &&
    (d.phase != 3 || d.ctx.isSome) && (!d.all3 || d.phase == 0) &&
    (match d.family with
     | 0 =>
       fieldAt l 11 1 == 0 && txfMacOk d && (modeOk d.mode || (d.mode == 0x1F && d.ctx.isSome))
     | 1 =>
       decide (fieldAt l 11 1 < 32) && decide (7 ≤ d.sf) && decide (d.sf ≤ 12) && txfMacOk d && d.mode == 0 &&
         !d.longPrefix && d.tmap == 7
     | 2 =>
       fieldAt l 11 1 == 0 && decide (d.mode ≤ 7) && d.tmap == 7 && !d.longPrefix && !d.secure &&
         d.secLevel == 0 && !d.ackReq
     | _ => false)

/-- The on-air length exceeds its limit (R176, R266, R286, R236). -/
def txfTooLong (d : TxfD) (len : Nat) : Bool :=
  match d.family with
  | 2 => decide (Config.compatMax < len)
  | 1 => decide (255 < airLength d.secLevel len) || (d.frameType == 0 && decide (len < 8))
  | _ => decide (2048 < airLength d.secLevel len) || (d.frameType == 0 && decide (len < 8))

/-- Sweep is in force in a band (R265). -/
def sweepOn (s : State) (b : Nat) : Bool := if b = 0 then s.on F.swpStatusLowOn else s.on F.swpStatusHighOn

/-- The compatibility profile is enabled on a band (R234). -/
def compatOn (s : State) (b : Nat) : Bool := s.on F.lphyCompatCfgEnable && s.get F.lphyCompatCfgPlan == b

/-- The band serves the family (R205, R236, R266). -/
def bandServes (s : State) (fam b : Nat) : Bool :=
  match fam with
  | 1 => planOf s b != 0 && sweepOn s b
  | 2 => compatOn s b
  | _ => planOf s b != 0

/-- Transmitters a frame uses, bit t (R227, R283): phase 3 is the node's `PHASE` word, and all three while
the node is unidentified. -/
def txfUnits (s : State) (d : TxfD) : Nat :=
  if d.all3 then 7
  else if d.phase = 3 then
    match d.ctx with
    | some c => if ctxBits s c 5 1 0 = 3 then 7 else 2 ^ ctxBits s c 5 1 0
    | none => 7
  else 2 ^ d.phase

/-- The frame is of the all-three coupling. -/
def txfAll3 (s : State) (d : TxfD) : Bool := txfUnits s d == 7

/-- Tone map a frame names: an all-three frame of a node whose phase is unidentified uses the all-three map
(R283). -/
def txfMap (s : State) (d : TxfD) : Nat :=
  if d.tmap < 4 ∧ d.phase = 3 ∧ txfAll3 s d then mapIndex d.band true else d.tmap

/-- Mode and map a frame goes with (R222, R223). -/
def txfPrep (s : State) (d : TxfD) (mode : Nat) : Nat × Nat :=
  if d.family = 0 then prepMode s d.ctx mode (txfMap s d) d.band (txfAll3 s d) else (mode, 7)

/-- Duration of a frame in ns with a mode and a map; a map that carries nothing leaves it free. -/
def txfNs (s : State) (d : TxfD) (mt : Nat × Nat) : Nat :=
  match d.family with
  | 0 => (nativeNs s d.ctx d.band mt.1 mt.2 (airLength d.secLevel d.payload.length) d.longPrefix).getD s.free
  | 1 => sweepNs d.band d.sf (airLength d.secLevel d.payload.length) d.rep4
  | _ => compatNs s d.mode d.payload.length

/-- An `ASAP` frame is moved behind commitments, hold-offs and quiet runs until it meets none of them (R149,
R277); none when no move within the fuel does. -/
def asapShift (s : State) (units n k : Nat) (quiet : Bool) : Nat → Nat → Nat → Option Nat
  | 0, _, _ => none
  | f + 1, t, dur =>
    let ends := txClashes s units t (t + dur) n k ++ ackClashes s units t (t + dur) ++
      ((List.range 3).filterMap fun x => if bitAt units x then (xmit s x).holdOff.bind fun e =>
        if t < e.toNat then some e.toNat else none else none) ++
      (if quiet then (quietHit s units t dur).toList else [])
    if ends.isEmpty then some t else asapShift s units n k quiet f (max (t + 1) (ends.foldl max 0)) dur

/-- Place of an `ASAP` frame from `t` on: the fuel covers every commitment once and the quiet runs between
them. -/
def asapPlace (s : State) (units n k : Nat) (quiet : Bool) (t dur : Nat) : Option Nat :=
  asapShift s units n k quiet (16 * (136 + s.line.acks.length)) t dur

/-- A line action that is `ASAP` placed anew, from `t` on: a frame meets the commitments as they now stand, a
window only moves (R149). -/
def asapLine (n k : Nat) (a : Act) (t : Nat) (s : State) : Act :=
  match a.body with
  | .txf d =>
    let dur := nsSteps (txfNs s d (txfPrep s d a.mode))
    let x := (asapPlace s a.units n k (d.family != 2) t dur).getD t
    { a with instant := BitVec.ofNat 64 x, endAt := BitVec.ofNat 64 (x + dur) }
  | .rxw d => { a with instant := BitVec.ofNat 64 t, openAt := BitVec.ofNat 64 t
                       endAt := BitVec.ofNat 64 (t + usSteps d.durUs) }
  | _ => a

/-- Check 6 of a line transmission: hold-off, transmitter, quiet slot (R149, R257, R277). -/
def txfCheck6 (s : State) (units t dur n k : Nat) (quiet : Bool) : Nat :=
  if heldOff s units t then 0x33
  else if ¬ txFree s units t (t + dur) n k then 0x0C
  else if quiet ∧ (quietHit s units t dur).isSome then 0x34
  else 0

/-- A quiet-slot refusal is counted and raised (R277). -/
def countQuiet (s : State) : State := occur (bumpStat R.lmacQuietRefCnt macOvf s) 62

/-- Grant of a line transmission (R448). -/
def txfGrantOf (s : State) (n k units atten : Nat) : Grant :=
  let l := (List.range 3).filter fun t => bitAt units t
  ⟨.act n k, grantDrawer s n, 100 * l.length, sumNat (l.map fun t => ldCharge s t atten), false⟩

/-- Sequence counter of a band, or of the radio at 2, taken once per frame (R283, R313). -/
def seqOf (s : State) (b : Nat) : Nat := tabGet (fun _ => 0) s.line.seq b
def takeSeq (b : Nat) (s : State) : State :=
  { s with line := { s.line with seq := tabSet (fun _ => 0) s.line.seq b ((seqOf s b + 1) % 256) } }

/-- Sequence number of a frame: the band's counter, or that of a compatibility frame's own MAC header, its third
byte (R236, R283).  The counter advances here, whatever the grant then comes to (DESIGN CHOICE, assumption
111). -/
def txfSeq (s : State) (d : TxfD) : Nat := if d.family = 2 then fieldAt d.payload 2 1 else seqOf s d.band

/-- Checks 6 to 8 of a line transmission whose instant is in time. -/
def txfPlace (n k cost : Nat) (f : FA) (d : TxfD) (t : Time) (s : State) : State :=
  let units := txfUnits s d
  let mt := txfPrep s d d.mode
  let dur := nsSteps (txfNs s d mt)
  let quiet := d.family != 2
  let placed := if f.asap then asapPlace s units n k quiet t.toNat dur else some t.toNat
  let at' := placed.getD t.toNat
  let bad := if placed.isNone then 0x34 else txfCheck6 s units at' dur n k quiet
  if bad ≠ 0 then actFail n k cost bad (if bad = 0x34 then countQuiet s else s)
  else
    let a := { Act.empty with
      body := .txf d, instant := BitVec.ofNat 64 at', asap := f.asap, units := units, mode := d.mode
      endAt := BitVec.ofNat 64 (at' + dur), seq := txfSeq s d }
    txGrant n k cost f.nw (txfGrantOf s n k units d.atten) a (if d.family = 2 then s else takeSeq d.band s)

/-- Checks 2 to 5 of a line transmission, its descriptor and payload read. -/
def txfChecked (n k : Nat) (f : FA) (d : TxfD) (s : State) : State :=
  let cost := 4 + ceilDiv d.payload.length 16
  let t := actInstant s n f
  let s := if f.asap then s.drew else s
  if slotLink s n k ≠ 0 then actFail n k cost (slotLink s n k) s
  else if silenced s ∨ ¬ planAllowed s d.band 1 then actFail n k cost 0x07 s
  else if ¬ bandServes s d.family d.band then actFail n k cost 0x31 s
  else if ¬ inTime s f t then actTooLate n k cost t s
  else txfPlace n k cost f d t s

/-- `TXF` on a descriptor's bytes: fields, length, payload, then the checks (R176, R177). -/
def txfDesc (n : Nat) (f : FA) (l : List Byte) (s : State) : State :=
  let d := txfOf l (faCtx s n f)
  let len := fieldAt l 4 2
  let k := f.slot.toNat
  let cost := 4 + ceilDiv len 16
  if ¬ txfOk l d then actFail n k cost 0x28 s
  else if txfTooLong d len then actFail n k cost 0x29 s
  else payloadThen n (fieldAt l 8 2) len (fun p s => txfChecked n k f { d with payload := p } s) s

/-- `TXF` (R149, R178). -/
def execTxf (th : Fin 32) (s : State) : Ans :=
  .next (issue s th.val fun i _ s =>
    match i with
    | .txf f =>
      some (ownThen th.val (mayLine s th.val) (faCtx s th.val f)
        (fun s => descThen th.val (faDesc s th.val f) 32 (txfDesc th.val f) s) s)
    | _ => none)

/-! ### `RXW` -/

/-- The descriptor's fields (R179). -/
def rxwOf (l : List Byte) (phase : Nat) : RxwD :=
  let w := fieldAt l 0 4
  { band := bitsOf w 1 0, native := bitAt w 2, sweep := bitAt w 3, compat := bitAt w 4, filterEn := bitAt w 5,
    durUs := fieldAt l 4 4, src := fieldAt l 8 2, phase := phase }

/-- The fields hold (R179). -/
def rxwOk (l : List Byte) (d : RxwD) : Bool :=
  bitsOf (fieldAt l 0 4) 31 6 == 0 && d.band != 3 && (d.native || d.sweep || d.compat) &&
    decide (1 ≤ d.durUs) && decide (d.durUs ≤ 16000000) && zeroFrom l 10

/-- Bands a window names. -/
def rxwBands (d : RxwD) : List Nat := if d.band = 2 then [0, 1] else [d.band]

/-- Chains of a window, bit c (R179, R200). -/
def rxwUnits (d : RxwD) : Nat :=
  sumNat (((List.range 6).filter fun c =>
    (d.phase == 3 || d.phase == chainPhase c) && (rxwBands d).contains (chainBand c)).map fun c => 2 ^ c)

/-- Each named band has a plan in force for native and Sweep frames, and the profile is on a named band for
compatibility frames (R205, R232). -/
def rxwServed (s : State) (d : RxwD) : Bool :=
  (!(d.native || d.sweep) || (rxwBands d).all fun b => planOf s b != 0) &&
    (!d.compat || (rxwBands d).any fun b => compatOn s b)

/-- Grant of a window: 200 mW for each chain not enabled (R448). -/
def rxwGrantOf (s : State) (n k units : Nat) : Grant :=
  ⟨.act n k, grantDrawer s n,
    200 * ((List.range 6).filter fun c => bitAt units c && !s.on (F.lphyRxcfgEnable c)).length, 0, false⟩

/-- `RXW` on a descriptor's bytes. -/
def rxwDesc (n : Nat) (f : FA) (l : List Byte) (s : State) : State :=
  let d := rxwOf l ((gReg (s.thr n) f.rc).toNat % 4)
  let k := f.slot.toNat
  let t := actInstant s n f
  let s := if f.asap then s.drew else s
  if ¬ rxwOk l d then actFail n k 4 0x28 s
  else if slotLink s n k ≠ 0 then actFail n k 4 (slotLink s n k) s
  else if ¬ (rxwBands d).all (fun b => planAllowed s b 1) then actFail n k 4 0x07 s
  else if ¬ rxwServed s d then actFail n k 4 0x31 s
  else if ¬ inTime s f t then actTooLate n k 4 t s
  else
    let a := { Act.empty with
      body := .rxw d, instant := t, asap := f.asap, units := rxwUnits d, endAt := after t (usSteps d.durUs)
      openAt := t }
    rxGrant true n k 4 f.nw (rxwGrantOf s n k a.units) a s

/-- `RXW` (R149, R179). -/
def execRxw (th : Fin 32) (s : State) : Ans :=
  .next (issue s th.val fun i _ s =>
    match i with
    | .rxw f =>
      some (ownThen th.val (mayLine s th.val) none
        (fun s => descThen th.val (faDesc s th.val f) 16 (rxwDesc th.val f) s) s)
    | _ => none)

/-! ### `ZXW` (R144) -/

/-- Signed distance of a crossing number from the latest one (R13, R144). -/
def crossingAhead (s : State) (p n : Nat) : Int :=
  let d : Nat := (n + 2 ^ 32 - (trk s p).num % 2 ^ 32) % 2 ^ 32
  if d < 2 ^ 31 then (d : Int) else (d : Int) - 2 ^ 32

/-- Crossing number that a `ZXW` names: gN and the whole cycles of gM. -/
def zxNumber (n m : Word) : Nat := (((n.toNat : Int) + m.toInt / 65536) % 2 ^ 32).toNat

/-- Instant of a crossing number plus a fraction in 1/65,536 of the present period, rounded to the nearest step
(R144); one before the timebase's zero stands at zero. -/
def zxInstant (s : State) (p num frac : Nat) : Time :=
  let t := crossingAt s p ((trk s p).num + crossingAhead s p num) + ((2 * frac * zxPeriod s p + 65536) / 131072 : Nat)
  BitVec.ofNat 64 t.toNat

/-- `ZXW` (R144, R173): tK takes the instant; the wait form waits for it, the other writes `LATE` alike. -/
def zxwIssue (n : Nat) (tk : BitVec 2) (rn rm : BitVec 4) (p : Nat) (nw : Bool) (s : State) : State :=
  let num := zxNumber (gReg (s.thr n) rn) (gReg (s.thr n) rm)
  let frac := (gReg (s.thr n) rm).toNat % 65536
  let target := zxInstant s p num frac
  let s := modThr s n fun t => setT t tk target
  if nw ∨ atOrBefore target s.tbCopy then
    done n 3 (if atOrBefore target s.tbCopy then setLate n target s else clearLate n s)
  else enterWait n 3 .waitTime (.zx tk p num frac target) (clearLate n s)

/-- `ZXW` (R144). -/
def execZxw (th : Fin 32) (s : State) : Ans :=
  .next (issue s th.val fun i _ s =>
    match i with
    | .zxw tk rn rm p nw => some (zxwIssue th.val tk rn rm p.toNat nw s)
    | _ => none)

/-- The waits of `ZXW` on a phase are predicted anew at each of its crossings up to the one they name; a target
that has come ends its wait (R144). -/
def reanchor (p : Nat) (s : State) : State :=
  allThreads.foldl (fun s n =>
    match (s.thr n).wait with
    | .zx tk q num frac _ =>
      if q ≠ p ∨ crossingAhead s p num < 0 then s
      else
        let target := zxInstant s p num frac
        let s := modThr s n fun t => { setT t tk target with wait := .zx tk p num frac target }
        if atOrBefore target s.tbCopy ∧ ¬ coreNaps s (coreOf n) then exitWait n s else s
    | _ => s) s

end Sys2Proof.Machine
end

