-- ==== Sys2Proof/Machine/RadioIssue.lean ====
section
/-!
DEFINITION. `RTX` and `RRX` (R180, R181, R306 to R331), `CANCEL` (R152, R182), `CYP` and its job's end (R186
to R188), and `GRANT_GIVEN` (R147, R450).
-/

namespace Sys2Proof.Machine

/-! ### `RTX` -/

def rtxOf (l : List Byte) (ctx : Option Nat) : RtxD :=
  let w := fieldAt l 0 4
  { opmode := bitsOf w 1 0, fec := bitAt w 2, whiten := bitAt w 3, secure := bitAt w 4, secLevel := bitsOf w 7 5,
    ackReq := bitAt w 8, frameType := bitsOf w 12 9, retry := bitsOf w 15 13, channel := bitsOf w 21 16,
    chanFixed := bitAt w 22, dest := fieldAt l 6 2, level := fieldAt l 10 1, payload := [], ctx := ctx }

/-- Frame types of R312. -/
def rfTypeOk (t : Nat) : Bool := t ∈ [0, 1, 2, 3, 4, 5, 8, 9, 10, 11]

/-- A staged connection that a `CONNECT` may carry (R320). -/
def connectOk (s : State) (c t : Nat) : Bool :=
  let m := ctxPair s c 268
  prmInc s c 264 % 2 == 1 && decide (1 ≤ prmWakeS s c 264) && decide (prmWakeS s c 264 ≤ 63) &&
    decide (1 ≤ prmSupTo s c 264) && decide (prmSupTo s c 264 ≤ 6000) && m != 0#64 &&
    (mapEntries m).all (chanValid s) && decide (0 < sfAhead (prmSf0 s c 264) (rfSfOf s t))

/-- The fields hold (R180, R312, R317, R318, R320). -/
def rtxOk (s : State) (l : List Byte) (d : RtxD) (t : Nat) : Bool :=
  let w := fieldAt l 0 4
  bitsOf w 31 23 == 0 && d.opmode != 0 && decide (fieldAt l 4 2 ≤ 1500) && decide (d.level ≤ 52) && zeroFrom l 11 &&
    (!d.secure || d.ctx.isSome) && (d.secure || d.secLevel == 0) && d.secLevel != 4 && rfTypeOk d.frameType &&
    (d.chanFixed || d.ctx.isSome) && (!d.chanFixed || chanValid s d.channel) &&
    (d.frameType != 0 ||
      (d.ctx.isNone && d.dest == 0xFFFF && d.chanFixed && !d.secure && !d.ackReq)) &&
    (d.frameType != 9 ||
      (match d.ctx with
       | some c => d.secure && d.ackReq && fieldAt l 4 2 == 0 && connectOk s c t
       | none => false))

/-- Payload of a `CONNECT` (R320): the staged words, the values of `RADIO_POLL` and the frequencies. -/
def connectPayload (s : State) (c : Nat) : List Byte :=
  let m := mapEntries (ctxPair s c 268)
  leBytes 8 (ctxPair s c 268).toNat ++ leBytes 1 (prmSeed s c 264) ++ leBytes 1 (prmInc s c 264) ++
    leBytes 2 (prmWakeN s c 264) ++ leBytes 1 (prmWakeS s c 264) ++ leBytes 1 (s.get F.radioPollRetxDelayMs) ++
    leBytes 2 (prmSupTo s c 264) ++ leBytes 4 (prmSf0 s c 264) ++ leBytes 2 (prmEvt0 s c 264) ++
    leBytes 1 (s.get F.radioPollPollListenMs) ++ leBytes 1 m.length ++
    leBytes 3 (chanKhz s (s.get F.radioCfgPollChan)) ++ m.flatMap fun i => leBytes 3 (chanKhz s i)

/-- Channel of an action and the counter of its event: the entry named, a poll's channel, or the hop function
at the nearest event (R318, R319, R323). -/
def actChannel (s : State) (ctx : Option Nat) (fixed : Bool) (channel t : Nat) : Nat × Option Nat :=
  match ctx with
  | none => (channel, none)
  | some c =>
    if fixed then
      (channel, if connState s c = 0 then none else some (nearestCounter s c t))
    else
      match pollChannel s c t with
      | some i => (i, none)
      | none =>
        let e := nearestCounter s c t
        (hopChannel (ctxPair s c 274) (prmSeed s c 270) (prmInc s c 270) e, some e)

/-- A channel that needs a connection the node does not have (R180). -/
def noConn (s : State) (ctx : Option Nat) (fixed : Bool) : Bool :=
  match ctx with
  | some c => !fixed && connState s c == 0
  | none => false

/-- Check 4 of an `RTX` (R306, R320). -/
def rtxInRegion (s : State) (d : RtxD) (i : Nat) : Bool :=
  chanInRegion s i d.opmode && levelInRegion s i d.opmode d.level &&
    (d.frameType != 9 || match d.ctx with
      | some c => (mapEntries (ctxPair s c 268)).all fun j => chanInRegion s j d.opmode
      | none => true)

/-- Ends of program emissions on the radio that overlap a span. -/
def rfClashes (s : State) (t e n k : Nat) : List Nat :=
  ((pendingActs s fun a =>
      (match a.body with
       | .rtx _ => true
       | _ => false) && (a.stage == .waiting || a.stage == .emitting) &&
        spansMeet a.instant.toNat a.endAt.toNat t e).filter fun p => p != (n, k)).map fun p =>
    (s.act p.1 p.2).endAt.toNat

/-- The transceiver is free for an emission (R151, R308). -/
def rfFree (s : State) (t e n k : Nat) : Bool :=
  (rfClashes s t e n k).isEmpty &&
    !(s.line.acks.any fun a => ackTx a == 3 && spansMeet a.due.toNat (ackEnd s a) t e)

/-- An `ASAP` emission is moved behind the commitments it meets. -/
def rfShift (s : State) (n k : Nat) : Nat → Nat → Nat → Nat
  | 0, t, _ => t
  | f + 1, t, dur =>
    let ends := rfClashes s t (t + dur) n k ++
      ((s.line.acks.filter fun a => ackTx a == 3 && spansMeet a.due.toNat (ackEnd s a) t (t + dur)).map (ackEnd s))
    if ends.isEmpty then t else rfShift s n k f (max (t + 1) (ends.foldl max 0)) dur

/-- Place of an `ASAP` emission from `t` on: each move passes a commitment for good. -/
def rfPlace (s : State) (n k t dur : Nat) : Nat := rfShift s n k (136 + s.line.acks.length) t dur

/-- An `ASAP` action placed anew, from `t` on (R149); its channel stays the one that issue gave it. -/
def asapFrom (n k : Nat) (a : Act) (t : Nat) (s : State) : Act :=
  match a.body with
  | .rtx d =>
    let dur := nsSteps (rfNs s (psduLength d.secLevel d.payload.length) d.fec d.opmode)
    let x := rfPlace s n k t dur
    { a with instant := BitVec.ofNat 64 x, endAt := BitVec.ofNat 64 (x + dur) }
  | .rrx d =>
    { a with instant := BitVec.ofNat 64 t, openAt := BitVec.ofNat 64 (t - usSteps a.w)
             endAt := BitVec.ofNat 64 (t + usSteps d.durUs + usSteps a.w) }
  | _ => asapLine n k a t s

/-- An `ASAP` action whose instant has gone by at `t` is placed anew; any other stands. -/
def asapAgain (n k : Nat) (a : Act) (t : Nat) (s : State) : Act :=
  if a.asap ∧ a.instant.toNat < t then asapFrom n k a t s else a

/-- Level of a frame: during last-gasp an outage frame goes at the cap when it asks for more (R454). -/
def rtxLevel (s : State) (d : RtxD) : Nat :=
  if lastGasp s then min d.level (s.get F.pwrLgCfgLgRfLevel) else d.level

/-- Check 7 and on: the airtime, then the grant (R331). -/
def rtxAir (n k cost : Nat) (f : FA) (d : RtxD) (a : Act) (ms : Nat) (s : State) : State :=
  let l := accountsOf s a.chan d.opmode
  let bad := dutyRefuses s l ms true
  if outage s n = false ∧ lastGasp s then actFail n k cost 0x38 s
  else if dutyUncovered s l ∨ ¬ bad.isEmpty then actDeny n k cost 0x0A (countDutyDeny bad s)
  else
    let a := { a with charge := if l.isEmpty then 0 else ms, bucket := s.radio.sec }
    let g : Grant := ⟨.act n k, grantDrawer s n, rtxMw (rtxLevel s d), 0, false⟩
    txGrant n k cost f.nw g a (takeSeq 2 (chargeDuty l ms s))

/-- Checks 2 to 6 of an `RTX`, its descriptor and payload read. -/
def rtxChecked (n k : Nat) (f : FA) (d : RtxD) (t : Time) (s : State) : State :=
  let cost := 4 + ceilDiv d.payload.length 16
  let d := if d.frameType = 9 then { d with payload := connectPayload s (d.ctx.getD 0) } else d
  let psdu := psduLength d.secLevel d.payload.length
  let dur := nsSteps (rfNs s psdu d.fec d.opmode)
  let at' := if f.asap then rfPlace s n k t.toNat dur else t.toNat
  let ch := actChannel s d.ctx d.chanFixed d.channel at'
  if slotLink s n k ≠ 0 then actFail n k cost (slotLink s n k) s
  else if noConn s d.ctx d.chanFixed then actFail n k cost 0x2F s
  else if ¬ chanValid s ch.1 then actFail n k cost 0x28 s
  else if silenced s ∨ ¬ rtxInRegion s d ch.1 then actFail n k cost 0x07 s
  else if ¬ inTime s f t then actTooLate n k cost t s
  else if ¬ rfFree s at' (at' + dur) n k then actFail n k cost 0x0C s
  else
    let a := { Act.empty with
      body := .rtx d, instant := BitVec.ofNat 64 at', asap := f.asap, endAt := BitVec.ofNat 64 (at' + dur)
      seq := seqOf s 2, chan := ch.1, evt := ch.2 }
    rtxAir n k cost f d a (rfMs s psdu d.fec d.opmode) s

/-- `RTX` on a descriptor's bytes. -/
def rtxDesc (n : Nat) (f : FA) (l : List Byte) (s : State) : State :=
  let d := rtxOf l (faCtx s n f)
  let len := fieldAt l 4 2
  let k := f.slot.toNat
  let cost := 4 + ceilDiv len 16
  let t := actInstant s n f
  let s := if f.asap then s.drew else s
  if ¬ rtxOk s l d t.toNat then actFail n k cost 0x28 s
  else if d.frameType = 0 ∧ len < 8 then actFail n k cost 0x29 s
  else payloadThen n (fieldAt l 8 2) len (fun p s => rtxChecked n k f { d with payload := p } t s) s

/-- `RTX` (R149, R180). -/
def execRtx (th : Fin 32) (s : State) : Ans :=
  .next (issue s th.val fun i _ s =>
    match i with
    | .rtx f =>
      some (ownThen th.val (mayRadio s th.val) (faCtx s th.val f)
        (fun s => descThen th.val (faDesc s th.val f) 32 (rtxDesc th.val f) s) s)
    | _ => none)

/-! ### `RRX` -/

def rrxOf (l : List Byte) (ctx : Option Nat) : RrxD :=
  let w := fieldAt l 0 4
  { opmode := bitsOf w 1 0, fec := bitAt w 2, whiten := bitAt w 3, widen := bitAt w 4, filterEn := bitAt w 5,
    channel := bitsOf w 11 6, chanFixed := bitAt w 12, durUs := fieldAt l 4 4, src := fieldAt l 8 2, ctx := ctx }

/-- The fields hold (R181, R318). -/
def rrxOk (s : State) (l : List Byte) (d : RrxD) : Bool :=
  bitsOf (fieldAt l 0 4) 31 13 == 0 && d.opmode != 0 && (!d.widen || d.ctx.isSome) &&
    (d.chanFixed || d.ctx.isSome) && (!d.chanFixed || chanValid s d.channel) && decide (1 ≤ d.durUs) &&
    decide (d.durUs ≤ 16000000) && zeroFrom l 10

/-- Widening in µs: none in `POLL_ONLY` (R324). -/
def rrxWiden (s : State) (d : RrxD) (t : Nat) : Nat × Bool :=
  match d.ctx with
  | some c =>
    if d.widen ∧ connState s c = 1 then (min (guardMaxUs s) (widenRaw s c t), decide (guardMaxUs s ≤ widenRaw s c t))
    else (0, false)
  | none => (0, false)

/-- A pending window of another channel, mode, FEC or whitening overlaps the span (R308). -/
def rxConflict (s : State) (ch : Nat) (d : RrxD) (t e : Nat) : Bool :=
  !(pendingActs s fun a => match a.body with
    | .rrx o =>
      (a.chan != ch || o.opmode != d.opmode || o.fec != d.fec || o.whiten != d.whiten) &&
        spansMeet (a.instant.toNat - usSteps a.w) a.endAt.toNat t e
    | _ => false).isEmpty

/-- `RRX` on a descriptor's bytes. -/
def rrxDesc (n : Nat) (f : FA) (l : List Byte) (s : State) : State :=
  let d := rrxOf l (faCtx s n f)
  let k := f.slot.toNat
  let t := actInstant s n f
  let s := if f.asap then s.drew else s
  let ch := actChannel s d.ctx d.chanFixed d.channel t.toNat
  let w := rrxWiden s d t.toNat
  let e := after t (usSteps d.durUs + usSteps w.1)
  let unconn : Bool := match d.ctx with
    | some c => d.widen && connState s c == 0
    | none => false
  let nom : Bool := match d.ctx with
    | some c => d.widen && connState s c == 1 && prmWakeN s c 270 != 0 &&
        eventInstant s c (nearestEvent s c t.toNat) == t.toNat
    | none => false
  if ¬ rrxOk s l d then actFail n k 4 0x28 s
  else if slotLink s n k ≠ 0 then actFail n k 4 (slotLink s n k) s
  else if noConn s d.ctx d.chanFixed ∨ unconn then actFail n k 4 0x2F s
  else if ¬ chanValid s ch.1 then actFail n k 4 0x28 s
  else if ¬ inTime s f t then actTooLate n k 4 t s
  else if rxConflict s ch.1 d (t.toNat - usSteps w.1) e.toNat then actFail n k 4 0x35 s
  else
    let a := { Act.empty with
      body := .rrx d, instant := t, asap := f.asap, endAt := e, chan := ch.1, evt := ch.2, w := w.1
      atMax := w.2, nominal := nom, openAt := BitVec.ofNat 64 (t.toNat - usSteps w.1) }
    rxGrant false n k 4 f.nw ⟨.act n k, grantDrawer s n, 40, 0, false⟩ a s

/-- `RRX` (R149, R181). -/
def execRrx (th : Fin 32) (s : State) : Ans :=
  .next (issue s th.val fun i _ s =>
    match i with
    | .rrx f =>
      some (ownThen th.val (mayRadio s th.val) (faCtx s th.val f)
        (fun s => descThen th.val (faDesc s th.val f) 16 (rrxDesc th.val f) s) s)
    | _ => none)

/-! ### `CANCEL` -/

/-- A frame already detected lies in the window of an action: a preamble begun on one of its chains, of a
family it names, within the window (R152, R179). -/
def detHits (a : Act) (d : RxwD) (c : Nat) (x : Det) : Bool :=
  bitAt a.units c && ((d.native && x.fam == 0) || (d.sweep && x.fam == 1) || (d.compat && x.fam == 2)) &&
    decide (a.instant.toNat ≤ x.start.toNat) && decide (x.start.toNat ≤ a.endAt.toNat)

/-- Detections a chain holds. -/
def chainDets (x : Chain) : List Det :=
  [x.nat, x.swp, x.swp2, x.cmp].flatMap fun d => (d.current.map fun r => r.det).toList ++ d.cands

/-- A line frame held for its context lies in the window of an action. -/
def heldHits (a : Act) (d : RxwD) (h : Held) : Bool :=
  match h.got with
  | .line g => (List.range 6).any fun c => bitAt g.chains c && detHits a d c ⟨g.fam, g.sf, 0, 0, 0, g.start, g.start⟩
  | .radio .. => false

/-- A radio reception lies in the window of an action: its channel and form, and a preamble begun within the
window (R179, R181). -/
def rrxHits (a : Act) (d : RrxD) (chan opmode : Nat) (fec whiten : Bool) (start : Time) : Bool :=
  chan == a.chan && opmode == d.opmode && fec == d.fec && whiten == d.whiten &&
    decide (a.openAt.toNat ≤ start.toNat) && decide (start.toNat ≤ a.endAt.toNat)

/-- A frame detected in the window is still on the air, or held for its context. -/
def frameInWindow (s : State) (a : Act) : Bool :=
  match a.body with
  | .rxw d =>
    ((List.range 6).any fun c => (chainDets (chain s c)).any (detHits a d c)) || s.line.held.any (heldHits a d)
  | .rrx d =>
    (match s.radio.rx with
     | some r => rrxHits a d r.chan r.opmode r.fec r.whiten r.start
     | none => false) ||
      s.line.held.any fun h => match h.got with
        | .radio r _ => rrxHits a d r.chan r.opmode r.fec r.whiten r.start
        | .line _ => false
  | _ => false

/-- A window closes to new preambles now; one that has closed already keeps its end (R152). -/
def closeWindow (a : Act) (s : State) : Act :=
  { a with stage := .closing, endAt := if a.stage = .closing then a.endAt else s.tb }

/-- `CANCEL` of a pending slot (R152, R182). -/
def cancelSlot (n k : Nat) (s : State) : State :=
  let a := s.act n k
  match a.body, a.stage with
  | .cyp _, .queued =>
    -- whether the pipeline has begun is not visible: free
    if s.free % 2 = 0 then done n 2 (failClear n (endAct n k stCancelled 0 0 s.drew))
    else done n 2 (failWith n k 0x08 s.drew)
  | .cyp _, _ => done n 2 (failWith n k 0x08 s)
  | .rxw _, .waiting | .rrx _, .waiting => done n 2 (failClear n (endAct n k stCancelled 0 0 s))
  | .rxw _, _ | .rrx _, _ =>
    if frameInWindow s a then done n 2 (failClear n (s.setAct n k (closeWindow a s)))
    else done n 2 (failClear n (endAct n k stCancelled 0 0 s))
  | _, .waiting => done n 2 (failClear n (endUnsent n k stCancelled 0 s))
  | _, .place => done n 2 (failClear n (endSent n k stCancelled 0 s))
  | _, _ => done n 2 (failWith n k 0x08 s)

/-- The drawer has the right to the kind of action in a slot (R153). -/
def mayCancel (s : State) (n : Nat) (a : Act) : Bool :=
  match a.body with
  | .txf _ | .rxw _ => mayLine s n
  | .rtx _ | .rrx _ => mayRadio s n
  | .cyp d => ownsKey s n d.key
  | .none => true

/-- `CANCEL` (R182). -/
def cancelIssue (n k : Nat) (s : State) : State :=
  let a := s.act n k
  if ¬ isPending a then done n 2 (failWith n k 0x2A s)
  else if ¬ mayCancel s n a then
    match a.body with
    | .cyp d => threadFault n causeOwnership d.key s
    | _ => threadFaultFree n causeOwnership s
  else cancelSlot n k s

/-- `CANCEL` (R152, R182). -/
def execCancel (th : Fin 32) (s : State) : Ans :=
  .next (issue s th.val fun i _ s =>
    match i with
    | .cancel k => some (cancelIssue th.val k.toNat s)
    | _ => none)

/-! ### `CYP` (R186 to R188) -/

/-- The fields of a `CYP` descriptor. -/
def cypFields (l : List Byte) : AesFields :=
  let w := fieldAt l 0 4
  { mode := bitsOf w 3 0, dec := bitAt w 4, pad := bitsOf w 6 5, tagLen := bitsOf w 12 8, len := fieldAt l 8 2,
    aadLen := fieldAt l 10 2, ivLen := fieldAt l 16 2 }

/-- A range lies in the thread's data window. -/
def rangeIn (s : State) (n a k : Nat) : Bool := (List.range k).all fun i => inDwin (s.thr n) (a + i)

/-- Bytes the output may take (R186). -/
def cypRoom (f : AesFields) : Nat := if padLengthens f then f.len + 16 else f.len

/-- The fields hold (R186). -/
def cypOk (s : State) (n : Nat) (l : List Byte) : Bool :=
  let f := cypFields l
  let w := fieldAt l 0 4
  bitAt w 7 == false && bitsOf w 31 13 == 0 && zeroFrom l 20 && decide (1 ≤ f.mode) && decide (f.mode ≤ 8) &&
    decide (f.len ≤ 4096) && decide (f.aadLen ≤ 1024) && aesOk f &&
    rangeIn s n (fieldAt l 4 2) f.len && rangeIn s n (fieldAt l 6 2) (cypRoom f) &&
    rangeIn s n (fieldAt l 12 2) f.aadLen && rangeIn s n (fieldAt l 14 2) f.ivLen &&
    rangeIn s n (fieldAt l 18 2) f.tagLen

/-- What `CYP` copies when its checks have passed: the areas that its descriptor names, and the key (R187). -/
def cypCopy (s : State) (n key : Nat) (l : List Byte) : CypD :=
  let x := cypFields l
  ⟨l, x.mode, x.dec, x.pad, x.tagLen, fieldAt l 6 2, fieldAt l 18 2, key, keyOf s key,
    ldBytes s n (fieldAt l 4 2) x.len, ldBytes s n (fieldAt l 12 2) x.aadLen,
    ldBytes s n (fieldAt l 14 2) x.ivLen, ldBytes s n (fieldAt l 18 2) x.tagLen⟩

/-- Any word that `CYP` copies is marked uncorrectable. -/
def cypBad (s : State) (n : Nat) (l : List Byte) : Bool :=
  let f := cypFields l
  let c := coreOf n
  dmemBad s c (fieldAt l 4 2) f.len || dmemBad s c (fieldAt l 12 2) f.aadLen || dmemBad s c (fieldAt l 14 2) f.ivLen ||
    (f.dec && dmemBad s c (fieldAt l 18 2) f.tagLen)

/-- `FAIL` and `DENY` written to 0: the flags of `CYP` (R187). -/
def clearCypFlags (n : Nat) (s : State) : State :=
  modThr s n fun t => { t with flags := { t.flags with fail := false, deny := false } }

/-- Check 4 of `CYP`: the key slot (R187, R348, R349); 0 when it passes. -/
def cypKeyCause (s : State) (key : Nat) (x : AesFields) : Nat :=
  if s.get (F.keyInfoType key) = 0 then 0x2B
  else if ¬ (typeSuits s key x.mode ∧ modesAllow s key x.mode) then 0x37
  else if keyLimit s key < keyUse s key + aesCharge x then 0x05
  else 0

/-- A refusal at check 4 counts an exhausted key. -/
def countCypKey (key cause : Nat) (s : State) : State := if cause = 0x05 then keyExhausted key s else s

/-- `CYP` with its grant: the key as it now stands is judged again (R349), the areas are copied and the job
becomes pending (R187).  A job that meets the cipher island in reset is refused as `ABORTED` (R18), and a word
of the areas marked uncorrectable faults the thread (DESIGN CHOICE, assumption 114). -/
def cypAccept (n k : Nat) (a : Act) (fin : State → State) (s : State) : State :=
  match a.body with
  | .cyp d =>
    let cause := if islandHeld s 1 then 0x30 else cypKeyCause s d.key (cypFields d.desc)
    if cause ≠ 0 then
      fin (failWith n k cause (clearCypFlags n (countCypKey d.key cause (releaseGrant (.act n k) s))))
    else if cypBad s n d.desc then threadFaultFree n causePoison (releaseGrant (.act n k) s)
    else
      let a := { a with status := stPending, cause := 0, info := 0, stage := .queued
                        body := .cyp (cypCopy s n d.key d.desc) }
      let s := setUse d.key (keyUse s d.key + a.charge) (clearCypFlags n s)
      fin (modThr s n fun t => { setAct t k a with wakeBits := t.wakeBits &&& (65535 ^^^ 2 ^ (8 + k)) })
  | _ => s

/-- `CYP` refused with a cause. -/
def cypFail (n k cost cause : Nat) (s : State) : State := done n cost (failWith n k cause (clearCypFlags n s))

/-- Check 5: the grant (R147, R187). -/
def cypGrant (n k cost : Nat) (nw : Bool) (g : Grant) (a : Act) (s : State) : State :=
  if givenNow s g then cypAccept n k a (done n cost) (giveGrant g s)
  else if nw then done n cost (denyWith n k 0x09 (clearCypFlags n (countDeny g.drawer s)))
  else enterWait n cost .waitGrant (.grant k a) (queueGrant g s)

/-- `CYP` on a descriptor's bytes and key slot `key` (R187); where an uncorrectable input word falls among its checks
is assumption 114. -/
def cypDesc (n key : Nat) (f : FA) (l : List Byte) (s : State) : State :=
  let k := f.slot.toNat
  let x := cypFields l
  let cost := 4 + ceilDiv (x.len + x.aadLen) 16
  if isPending (s.act n k) then cypFail n k cost 0x02 s
  else if ¬ cypOk s n l then cypFail n k cost 0x28 s
  else if cypKeyCause s key x ≠ 0 then
    cypFail n k cost (cypKeyCause s key x) (countCypKey key (cypKeyCause s key x) s)
  else
    let d : CypD := ⟨l, x.mode, x.dec, x.pad, x.tagLen, fieldAt l 6 2, fieldAt l 18 2, key, [], [], [], [], []⟩
    cypGrant n k cost f.nw ⟨.act n k, grantDrawer s n, 250, 0, false⟩
      { Act.empty with body := .cyp d, charge := aesCharge x } s

/-- `CYP` (R186, R187). -/
def execCyp (th : Fin 32) (s : State) : Ans :=
  .next (issue s th.val fun i _ s =>
    match i with
    | .cyp f =>
      let key := (gReg (s.thr th.val) f.rc).toNat % 256
      some (if ¬ ownsKey s th.val key then threadFault th.val causeOwnership key s
        else descThen th.val (faDesc s th.val f) 32 (cypDesc th.val key f) s)
    | _ => none)

/-- The end of a `CYP` job (R188, R364): the whole output at once; a failed tag or padding zero-fills the
output area; a mismatch leaves it. -/
def cypEnd (n k : Nat) (mismatch : Bool) (d : CypD) (s : State) : State :=
  let f : AesFields := ⟨d.mode, d.decrypt, d.pad, d.tagLen, d.input.length, d.aad.length, d.iv.length⟩
  let c := coreOf n
  if mismatch then endAct n k stFailed 0x2D 0 (cipherFault s)
  else
    match aesRun f d.keyMat d.iv d.aad d.input d.tag with
    | .ok out tag =>
      let s := stBytes s c d.dst out
      let s := if hasTag d.mode ∧ ¬ d.decrypt then stBytes s c d.tagAddr tag else s
      endAct n k stDone 0 out.length s
    | .auth =>
      endAct n k stFailed 0x2C 0 (authFail (stBytes s c d.dst (List.replicate (aesOutLen f) 0#8)))
    | .pad => endAct n k stFailed 0x36 0 (stBytes s c d.dst (List.replicate (aesOutLen f) 0#8))

/-- `CYP_JOB_END` (R188): the job of a thread's slot ends; nothing runs while the cipher island is in reset (R14). -/
def execCypJobEnd (th : Fin 32) (slot : Fin 4) (mismatch : Bool) (s : State) : Ans :=
  let a := s.act th.val slot.val
  match a.body with
  | .cyp d =>
    if isPending a ∧ ¬ islandHeld s 1 then .next (cypEnd th.val slot.val mismatch d s) else .next s
  | _ => .next s

/-! ### Grants given later (R147, R450) -/

/-- The transmitter that a frame waited with its grant for is committed to another by now (R151); an `ASAP` frame
moves behind the other. -/
def grantClash (s : State) (n k : Nat) (a : Act) : Bool :=
  !a.asap && (match a.body with
    | .txf _ => !txFree s a.units a.instant.toNat a.endAt.toNat n k
    | .rtx _ => !rfFree s a.instant.toNat a.endAt.toNat n k
    | _ => false)

/-- An action whose grant comes while its thread waits: an `ASAP` action is placed from 2 µs ahead on. -/
def grantAct (n k : Nat) (a : Act) (s : State) : Act := asapAgain n k a (s.tbCopy.toNat + usSteps 2) s

/-- A waiting thread's instruction completes with its grant. -/
def grantThread (n k : Nat) (s : State) : State :=
  match (s.thr n).wait with
  | .grant _ a =>
    match a.body with
    | .cyp _ => cypAccept n k a (exitWait n) s
    | _ => actAccept n k (grantClash s n k a) (grantAct n k a s) (exitWait n) s
  | _ => releaseGrant (.act n k) s

/-- The holder of a waiting request gets its grant. -/
def grantHolder (g : Grant) (s : State) : State :=
  let s := giveGrant g s
  match g.who with
  | .act n k => grantThread n k s
  | .job id =>
    match jobOf s id with
    | some j => setJob s { j with phase := 3 }
    | none => releaseGrant g.who s
  | .nand _ => s

/-- `GRANT_GIVEN` (R450): the waiting request that stands first is given. -/
def execGrantGiven (s : State) : Ans :=
  match nextGrant s with
  | some g => .next (grantHolder g s)
  | none => .next s

end Sys2Proof.Machine
end

