-- ==== Sys2Proof/Machine/JigCtl.lean ====
section
/-!
DEFINITION. Loading a Greune program (R154, R155), the commands `START`, `STOP` and `RESUME` (R142), and
what a reset of a thread or of a core does (R142, R159, R160); the measurement registers (R92).
-/

namespace Sys2Proof.Machine

/-! ### Measurement (R92) -/

/-- Bytes of a digest, byte 0 first. -/
def digestBytes (d : BitVec 384) : List Byte := beBytes 48 d.toNat

/-- The 48 bytes of `MEAS_n`. -/
def measBytes (s : State) (n : Nat) : List Byte :=
  (List.range 12).flatMap fun w => leBytes 4 (s.rd (R.meas n w)).toNat

/-- `MEAS_n` holding 48 bytes. -/
def setMeas (n : Nat) (l : List Byte) (s : State) : State :=
  foldUpto 12 (fun w s => s.wr (R.meas n w) (wordAt' l (4 * w))) s
where
  wordAt' (l : List Byte) (o : Nat) : Word := BitVec.ofNat 32 (fieldAt l o 4)

/-- `MEAS_n` extended with a digest (R92). -/
def extendMeas (n : Nat) (d : BitVec 384) (s : State) : State :=
  bumpStick (R.measCnt n) (setMeas n (digestBytes (Config.sha384 (measBytes s n ++ digestBytes d))) s)

/-! ### Stopping (R142) -/

/-- A pending action of slot `k` is cancelled unless it has started (R142). -/
def cancelUnstarted (n k : Nat) (s : State) : State :=
  let a := s.act n k
  if ¬ isPending a then s
  else
    match a.body, a.stage with
    | .cyp _, .queued =>
      -- whether the pipeline has begun is not visible: free
      if s.free % 2 = 0 then endAct n k stCancelled 0 0 s.drew else s.drew
    | .rxw _, .waiting | .rrx _, .waiting => endAct n k stCancelled 0 0 s
    | .txf _, .waiting | .rtx _, .waiting => endUnsent n k stCancelled 0 s
    | _, _ => s

/-- A thread's wait for a grant is given up: the request leaves, airtime taken goes back. -/
def leaveGrantWait (n : Nat) (s : State) : State :=
  match (s.thr n).wait with
  | .grant k a => returnAirtime a (dropRequest (.act n k) s)
  | _ => s

/-- Actions not yet started are cancelled and pins released; the program is kept (R142). -/
def stopThread (n : Nat) (s : State) : State :=
  let s := dropThreadPins n (leaveGrantWait n (foldUpto 4 (fun k s => cancelUnstarted n k s) s))
  modThr s n fun t => { t with state := .idle, wait := .none }

/-- The registers of thread `n` in the `JIG` block with keys from its base take their reset values. -/
def clearJt (n : Nat) (s : State) : State :=
  { s with regs := tabDropRange (0x41000 + 0x40 * n) 0x28 s.regs }

/-- What a reset of its core, its drawer or a scrub leaves of a thread: not loaded, `IDLE`; an action that
has started keeps its slot (R142, R159). -/
def unloadThread (n : Nat) (s : State) : State :=
  let s := stopThread n s
  modThr s n fun t => { Thread.init with acts := t.acts.filter fun e => isPending e.2 }

/-- `JT_PROG_n` and `JT_ENTRY_n` of a thread without a program. -/
def clearProg (n : Nat) (s : State) : State :=
  ((s.resetReg (R.jtEntry n)).resetReg (R.jtProg n 0)).resetReg (R.jtProg n 1)

/-- `JT_LAST_FAULT_n` takes the images of `JT_STAT_n` and `JT_FAULT_INFO_n` (R160). -/
def keepFault (n : Nat) (s : State) : State :=
  (s.wr (R.jtLastFault n 0) (jtStat s n)).wr (R.jtLastFault n 1) (s.rd (R.jtFaultInfo n))

/-- Both memories of a core filled with zeros (R159). -/
def zeroCore (c : Nat) (s : State) : State :=
  { s with jig := { s.jig with
      imem := tabDropRange (8192 * c) 8192 s.jig.imem
      imemPoison := tabDropRange (2048 * c) 2048 s.jig.imemPoison
      dmem := tabDropRange (16384 * c) 16384 s.jig.dmem
      dmemPoison := tabDropRange (1024 * c) 1024 s.jig.dmemPoison } }

/-- A level D reset of core `c` (R159, R160). -/
def resetCore (c : Nat) (s : State) : State :=
  let s := foldUpto 4 (fun t s => keepFault (4 * c + t) s) s
  let s := foldUpto 4 (fun t s => clearJt (4 * c + t) (unloadThread (4 * c + t) s)) s
  occur (zeroCore c s) (116 + 5 * c)

/-! ### `START`, `STOP`, `RESUME` (R142) -/

/-- A command that its state does not admit (R142). -/
def refuseCmd (n : Nat) (s : State) : State := s.put (F.jtStatCmdRefused n) 1

/-- The thread runs from its entry (R142, R158, R194); the return stack and the prefix latch are empty, and
a fault's cause and pins are given up. -/
def startThread (n : Nat) (s : State) : State :=
  let s := if (s.thr n).state = .fault then dropThreadPins n s else s
  modThr s n fun t => { t with
    state := .run, wait := .none, g := [], t := [], flags := Flags.zero, pc := s.get (F.jtEntryEntry n)
    stack := [], pfx := none, wakeBits := 0, faultCause := 0, wdogAt := s.tbCopy, runAt := s.tbCopy, cost := 0 }

def startCmd (n : Nat) (s : State) : State :=
  match (s.thr n).state with
  | .idle => if loaded (s.thr n) then startThread n s else refuseCmd n s
  | .halt | .fault => startThread n s
  | _ => refuseCmd n s

def stopCmd (n : Nat) (s : State) : State :=
  match (s.thr n).state with
  | .idle => refuseCmd n s
  | _ => stopThread n s

def resumeCmd (n : Nat) (s : State) : State :=
  match (s.thr n).state with
  | .halt => modThr s n fun t => { t with state := .run, pc := t.pc + 1, runAt := s.tbCopy }
  | _ => refuseCmd n s

/-- A write of `JT_CTL_n` (R142, R162). -/
def jtCtlWrite (n : Nat) (v : Word) (be : BitVec 4) (s : State) : State :=
  if ¬ be.getLsbD 0 then s
  else
    match v.toNat % 4 with
    | 1 => startCmd n s
    | 2 => stopCmd n s
    | 3 => resumeCmd n s
    | _ => s

/-- `START` (R142): a write of 1 to `JT_CTL_n.CMD` by the thread's owner. -/
def execStart (d : Drawer) (th : Fin 32) (v : Word) (s : State) : Ans :=
  if v.toNat % 4 ≠ 1 then .next s else .next (filtered s d.val (R.jtCtl th.val) (jtCtlWrite th.val v 15#4))

/-- `STOP` (R142). -/
def execStop (d : Drawer) (th : Fin 32) (v : Word) (s : State) : Ans :=
  if v.toNat % 4 ≠ 2 then .next s else .next (filtered s d.val (R.jtCtl th.val) (jtCtlWrite th.val v 15#4))

/-- `RESUME` (R142). -/
def execResume (d : Drawer) (th : Fin 32) (v : Word) (s : State) : Ans :=
  if v.toNat % 4 ≠ 3 then .next s else .next (filtered s d.val (R.jtCtl th.val) (jtCtlWrite th.val v 15#4))

/-! ### The loader (R154, R155) -/

/-- `n` words of four bytes. -/
def wordsOf : Nat → List Byte → List Word
  | 0, _ => []
  | n + 1, l => BitVec.ofNat 32 (leNat (l.take 4)) :: wordsOf n (l.drop 4)

/-- Bytes of a record after its header. -/
def loadImem (h : List Byte) : Nat := fieldAt h 10 2
def loadDmem (h : List Byte) : Nat := fieldAt h 14 2

/-- Check 2: the header (R154, R155). -/
def loadHdrOk (h : List Byte) : Bool :=
  fieldAt h 0 4 == 0x4C47584F && fieldAt h 4 2 == 1 && decide (fieldAt h 6 1 < 8) && decide (fieldAt h 7 1 < 16) &&
    decide (1 ≤ loadImem h) && decide (loadImem h ≤ 8192) && fieldAt h 12 2 % 16 == 0 && loadDmem h % 16 == 0 &&
    decide (loadDmem h ≤ 16128) && zeroFrom h 32

/-- Length of a record. -/
def loadLen (h : List Byte) : Nat := 64 + 4 * loadImem h + loadDmem h

/-- The record at an offset of drawer `d`'s staging memory. -/
def loadRecord (s : State) (d off : Nat) (h : List Byte) : Load :=
  let body := rdBulkN s d (off + 64) (4 * loadImem h + loadDmem h)
  { drawer := d, core := fieldAt h 6 1, threads := fieldAt h 7 1, imemBase := fieldAt h 8 2
    imem := wordsOf (loadImem h) body, dmemBase := fieldAt h 12 2, dmem := body.drop (4 * loadImem h)
    entry := (List.range 4).map fun t => fieldAt h (16 + 2 * t) 2
    prog0 := BitVec.ofNat 32 (fieldAt h 24 4), prog1 := BitVec.ofNat 32 (fieldAt h 28 4)
    imemBad := (List.range (loadImem h)).filter fun i => bulkPoisoned s d (off + 64 + 4 * i) 4
    dmemBad := (List.range (loadDmem h)).filter fun i => bulkPoisoned s d (off + 64 + 4 * loadImem h + i) 1 }

/-- Numbers of the threads a record names. -/
def loadThreads (l : Load) : List Nat := ((List.range 4).filter fun t => bitAt l.threads t).map fun t => 4 * l.core + t

/-- The window of a thread of the core that the record does not name overlaps one of the record's; an empty data
window overlaps nothing. -/
def loadOverlaps (l : Load) (t : Thread) : Bool :=
  loaded t &&
    ((decide (t.ibase < l.imemBase + l.imem.length) && decide (l.imemBase < t.ibase + t.ilen)) ||
      (l.dmem.length != 0 && t.dlen != 0 && decide (t.dbase < l.dmemBase + l.dmem.length) &&
        decide (l.dmemBase < t.dbase + t.dlen)))

/-- Check 7: the windows. -/
def loadWindowsOk (s : State) (l : Load) : Bool :=
  decide (l.imemBase + l.imem.length ≤ 8192) && decide (l.dmemBase + l.dmem.length ≤ 0x3F00) &&
    !((List.range 4).any fun t => !bitAt l.threads t && loadOverlaps l (s.thr (4 * l.core + t)))

/-- An opcode that accepts a prefix (R167). -/
def takesPrefix (w : Word) : Bool := [1, 2, 3, 4, 5, 9, 10, 0x22].contains (fieldOf w 26 6).toNat

/-- The instruction at the head of a list offends against check 8. -/
def loadBadWord : List Word → Bool
  | [] => false
  | w :: ws =>
    match gDecode w with
    | none => true
    | some (.pfx _) =>
      match ws with
      | [] => true
      | v :: _ => !takesPrefix v
    | some _ => false

/-- First index, counted from `i`, at which a test of the rest of the list holds. -/
def firstTail (p : List Word → Bool) : Nat → List Word → Option Nat
  | _, [] => none
  | i, w :: ws => if p (w :: ws) then some i else firstTail p (i + 1) ws

/-- First instruction that a test of instructions names. -/
def firstWord (p : GInstr → Bool) (l : Load) : Option Nat :=
  findIdxFrom (fun w => match gDecode w with | some i => p i | none => false) l.imemBase l.imem

/-- Check 9: an immediate target outside the window. -/
def badTarget (l : Load) : GInstr → Bool
  | .br _ t | .call t => decide (t.toNat < l.imemBase) || decide (l.imemBase + l.imem.length ≤ t.toNat)
  | _ => false

/-- A byte of an access with an immediate address lies where it may. -/
def loadByteOk (l : Load) (store : Bool) (a : Nat) : Bool :=
  (decide (l.dmemBase ≤ a) && decide (a < l.dmemBase + l.dmem.length)) ||
    (!store && decide (0x3F00 ≤ a) && decide (a < 0x4000) && bitAt l.threads ((a - 0x3F00) / 64))

/-- Check 10: an access with an immediate address (R155, R170). -/
def badAccess (l : Load) : GInstr → Bool
  | .load sz _ ra imm => ra == 0#4 && !((List.range (sizeOf' sz)).all fun i => loadByteOk l false (imm.toNat + i))
  | .store sz _ ra imm => ra == 0#4 && !((List.range (sizeOf' sz)).all fun i => loadByteOk l true (imm.toNat + i))
  | .tld _ ra imm => ra == 0#4 && !((List.range 8).all fun i => loadByteOk l false (imm.toNat + i))
  | .tst _ ra imm => ra == 0#4 && !((List.range 8).all fun i => loadByteOk l true (imm.toNat + i))
  | _ => false

/-- Check 11: an immediate resource operand not owned (R153). -/
def badResource (s : State) (l : Load) : GInstr → Bool
  | .enq q false _ _ _ | .deq q false _ _ _ _ _ =>
    !(ownerQueue s q.toNat == some l.drawer && s.get (F.queueCfgEndpoint q.toNat) == 0)
  | .evt i => ownerSource s (112 + 5 * l.core + i.toNat) != some l.drawer
  | _ => false

/-- Check 12: an action without the drawer's right. -/
def badRight (s : State) (l : Load) : GInstr → Bool
  | .txf _ | .rxw _ => !bitAt (s.get F.jigAirLine) l.drawer
  | .rtx _ | .rrx _ => !bitAt (s.get F.jigAirRadio) l.drawer
  | _ => false

/-- The thread whose entry lies outside the window first. -/
def badEntry (l : Load) : Option Nat :=
  findFirst (fun t => bitAt l.threads t && decide (l.imem.length ≤ l.entry.getD t 0)) (List.range 4)

/-- `JIG_LOAD_STATUS` of a refusal: `REASON`, `INDEX`, and the thread whose entry offended. -/
structure LoadRefusal where
  reason : Nat
  index : Nat
  entry : Option Nat
deriving DecidableEq, Repr

/-- A refusal at an instruction, if one offends. -/
def refuseAt (reason : Nat) (i : Option Nat) : Option LoadRefusal := i.map fun k => ⟨reason, k, none⟩

/-- Checks 5 to 12 in their order (R155). -/
def loadRefusal (s : State) (l : Load) : Option LoadRefusal :=
  if l.threads = 0 ∨ ¬ (loadThreads l).all (fun n => ownerThread s n == some l.drawer) then some ⟨2, 0, none⟩
  else if ¬ (loadThreads l).all (fun n =>
      (s.thr n).state == .idle || (s.thr n).state == .halt || (s.thr n).state == .fault) then some ⟨3, 0, none⟩
  else if ¬ loadWindowsOk s l then some ⟨4, 0, none⟩
  else
    (refuseAt 5 (firstTail loadBadWord l.imemBase l.imem)).orElse fun _ =>
    ((badEntry l).map fun t => ⟨5, 0, some t⟩).orElse fun _ =>
    (refuseAt 6 (firstWord (badTarget l) l)).orElse fun _ =>
    (refuseAt 7 (firstWord (badAccess l) l)).orElse fun _ =>
    (refuseAt 8 (firstWord (badResource s l) l)).orElse fun _ =>
    refuseAt 9 (firstWord (badRight s l) l)

/-- `JIG_LOAD_STATUS` of a drawer. -/
def setLoadStatus (d state : Nat) (r : LoadRefusal) (s : State) : State :=
  s.wr (selfKey d R.jigLoadStatus) (BitVec.ofNat 32
    (state + 16 * r.reason + 256 * (r.index % 8192) + 2 ^ 21 * b2n r.entry.isSome + 2 ^ 22 * r.entry.getD 0))

/-- A load refused. -/
def refuseLoad (d : Nat) (r : LoadRefusal) (s : State) : State := setLoadStatus d 3 r s

/-- A load of drawer `d` is in progress. -/
def loading (s : State) (d : Nat) : Bool := s.jig.loads.any fun l => l.drawer == d

/-- Checks 5 to 12, after the record has been measured. -/
def loadJudge (d : Nat) (l : Load) (s : State) : State :=
  match loadRefusal s l with
  | some r => refuseLoad d r s
  | none => setLoadStatus d 1 ⟨0, 0, none⟩ { s with jig := { s.jig with loads := s.jig.loads ++ [l] } }

/-- A write of `LOAD` (R155); one refused because a load runs shows that in `JIG_LOAD_STATUS` until the load completes
(assumption 128). -/
def loadStart (d : Nat) (s : State) : State :=
  let off := 64 * s.get (fldOf d F.jigLoadSrcOffset)
  let h := rdBulkN s d off 64
  if loading s d then refuseLoad d ⟨11, 0, none⟩ s
  else if (s.rd (R.measCnt (4 + d))).toNat = 0xFFFFFFFF then refuseLoad d ⟨10, 0, none⟩ s
  else if ¬ loadHdrOk h then refuseLoad d ⟨1, 0, none⟩ s
  else if bulkSize s d < off + loadLen h then refuseLoad d ⟨12, 0, none⟩ s
  else
    loadJudge d (loadRecord s d off h) (extendMeas (4 + d) (Config.sha384 (rdBulkN s d off (loadLen h))) s)

/-- A write of `JIG_LOAD_CMD` (R162). -/
def jigLoadWrite (d : Nat) (v : Word) (be : BitVec 4) (s : State) : State :=
  if be.getLsbD 0 ∧ v.getLsbD 0 then loadStart d s else s

/-- `JIG_LOAD` (R155): a drawer writes `JIG_LOAD_CMD`. -/
def execJigLoad (d : Drawer) (v : Word) (s : State) : Ans :=
  .next (filtered s d.val R.jigLoadCmd (jigLoadWrite d.val v 15#4))

/-- One 128-bit instruction word loses its mark, or takes one. -/
def setImemPoison (c i : Nat) (b : Bool) (s : State) : State :=
  { s with jig := { s.jig with imemPoison := tabSet (fun _ => false) s.jig.imemPoison ((8192 * c + i) / 4) b } }

/-- Instructions written from an index; SRAM words written whole lose their marks, and words that take
poisoned contents are marked (R471, R472). -/
def storeImem (l : Load) (s : State) : State :=
  let c := l.core
  let b := l.imemBase
  let n := l.imem.length
  let s := foldUpto n (fun i s => { s with jig := { s.jig with
      imem := tabSet (fun _ => 0#32) s.jig.imem (8192 * c + b + i) (l.imem.getD i 0#32) } }) s
  let s := foldUpto ((b + n) / 4 - ceilDiv b 4) (fun i s => setImemPoison c (4 * (ceilDiv b 4 + i)) false s) s
  l.imemBad.foldl (fun s i => setImemPoison c (b + i) true s) s

/-- Initial data written. -/
def storeDmem (l : Load) (s : State) : State :=
  let c := l.core
  let b := l.dmemBase
  let s := stBytes s c b l.dmem
  let s := foldUpto (l.dmem.length / 16) (fun i s => setDmemPoison s c (b + 16 * i) false) s
  l.dmemBad.foldl (fun s i => setDmemPoison s c (b + i) true) s

/-- A named thread takes its windows (R155 step 13, R140). -/
def loadThread (l : Load) (n : Nat) (s : State) : State :=
  let s := if (s.thr n).state = .idle then s else stopThread n s
  let s := modThr s n fun t => { t with
    ibase := l.imemBase, ilen := l.imem.length, dbase := l.dmemBase, dlen := l.dmem.length
    acts := t.acts.filter fun e => isPending e.2 }
  let s := s.put (F.jtEntryEntry n) (l.imemBase + l.entry.getD (lane n) 0)
  (s.wr (R.jtProg n 0) l.prog0).wr (R.jtProg n 1) l.prog1

/-- `JIG_LOAD_COMPLETE` (R155 step 13). -/
def execJigLoadComplete (d : Drawer) (s : State) : Ans :=
  match findFirst (fun l => l.drawer == d.val) s.jig.loads with
  | none => .next s
  | some l =>
    if coreHeld s l.core then .next s
    else
      let s := { s with jig := { s.jig with loads := dropFirst (fun x => x.drawer == d.val) s.jig.loads } }
      let s := (loadThreads l).foldl (fun s n => loadThread l n s) (storeDmem l (storeImem l s))
      .next (setLoadStatus d.val 2 ⟨0, 0, none⟩ s)

end Sys2Proof.Machine
end

