-- ==== Sys2Proof/Machine/Blanker.lean ====
section
/-!
DEFINITION. The impulse blanker of a receive chain (R250), and the symbols of its receptions that count as erased
(R251).
-/

namespace Sys2Proof.Machine

/-! ### Samples (R250) -/

/-- Twice the factor k, while the blanker is active: `BLANK_K` held within 4 to 16. -/
def blankK (s : State) : Option Nat :=
  if s.on F.lphyDetcfgBlankEn then some (min 16 (max 4 (s.get F.lphyDetcfgBlankK))) else none

/-- A sample's magnitude exceeds k times the running RMS: its square against k² times the mean of the squares. -/
def overRms (k2 : Nat) (squares : List Nat) (sq : Nat) : Bool :=
  decide (k2 ^ 2 * sumNat squares < 4 * sq * squares.length)

/-- A sample that no later one can zero any more: it enters the running RMS, or the instants zeroed. -/
def settleSample (e : Time × Nat × Bool) (b : Blank) : Blank :=
  if e.2.2 then { b with zeroed := e.1 :: b.zeroed } else { b with squares := (e.2.1 :: b.squares).take 1024 }

/-- One sample: `k2` as `blankK` gives it, and whether it clipped in `FROZEN` (R201).  A sample over the threshold is
zeroed with the two on each side of it; in the first 512 µs, 1,024 samples, only clipped ones are. -/
def blankSample (k2 : Option Nat) (cut : Bool) (t : Time) (sq : Nat) (b : Blank) : Blank :=
  let loud : Bool := decide (1024 ≤ b.age) && (k2.map fun k => overRms k b.squares sq).getD false
  let w := (t, sq, loud || cut || decide (0 < b.after)) :: (if loud then b.wait.map fun e => (e.1, e.2.1, true) else b.wait)
  let b := { b with age := min 1024 (b.age + 1), after := if loud then 2 else b.after - 1, wait := w.take 2 }
  match w[2]? with
  | some e => settleSample e b
  | none => b

/-- A sample at full scale: it counts as clipped (R201). -/
def fullScale (v : BitVec 16) : Bool := v.toInt == 32767 || v.toInt == -32768

/-- An instant lies in one of the spans in which the AGC was `FROZEN`. -/
def inSpans (l : List (Time × Option Time)) (t : Time) : Bool :=
  l.any fun e => decide (e.1.toNat ≤ t.toNat) && (match e.2 with
    | some u => decide (t.toNat < u.toNat)
    | none => true)

/-- The samples of an interval that ends at `now`, oldest first, 500 ns apart. -/
def blankSamples (k2 : Option Nat) (spans : List (Time × Option Time)) (now : Time) : List (BitVec 16) → Blank → Blank
  | [], b => b
  | v :: l, b =>
    let t : Time := BitVec.ofNat 64 (now.toNat - nsSteps (500 * (l.length + 1)))
    blankSamples k2 spans now l (blankSample k2 (fullScale v && inSpans spans t) t (v.toInt.natAbs ^ 2) b)

/-! ### Erased symbols (R251) -/

/-- The window of a reception's symbol `j`, counted from the header's first: its span in timebase steps and its
samples.  Native symbols are windowed over 512 samples after their prefix, Sweep symbols whole. -/
def symbolWindow (s : State) (c : Nat) (r : SymRun) (j : Nat) : Nat × Nat × Nat :=
  let b := chainBand c
  if r.det.fam = 1 then
    let ts := sweepTs b r.det.sf
    let lo := r.det.start.toNat + nsSteps ((10 + j) * ts)
    (lo, lo + nsSteps ts, ts / 500)
  else
    let h := headerSymbols s b
    let len := if r.long then 320 else 288
    let at' := if j < h then 1600 + 288 * j + 32 else 1600 + 288 * h + len * (j - h) + (len - 256)
    let lo := r.det.start.toNat + usSteps at'
    (lo, lo + usSteps 256, 512)

/-- The blanked samples of a window reach one sixteenth of it. -/
def erased (zeroed : List Time) (w : Nat × Nat × Nat) : Bool :=
  decide (w.2.2 ≤ 16 * (zeroed.filter fun t => decide (w.1 ≤ t.toNat) && decide (t.toNat < w.2.1)).length)

/-- Symbols of a reception whose windows have ended by `upto`, and how many of them are erased. -/
def countRun (s : State) (c : Nat) (zeroed : List Time) (upto : Nat) : Nat → SymRun → Nat → SymRun × Nat
  | 0, r, n => (r, n)
  | f + 1, r, n =>
    let w := symbolWindow s c r r.counted
    if w.2.1 ≤ min upto ((r.stop.map BitVec.toNat).getD upto) then
      countRun s c zeroed upto f { r with counted := r.counted + 1 } (n + b2n (erased zeroed w))
    else (r, n)

/-- Every symbol lasts at least its window of 256 µs: a bound of those that have ended by `upto`. -/
def runFuel (r : SymRun) (upto : Nat) : Nat := (upto - r.det.start.toNat) / usSteps 256 + 1

/-- Instant from which zeroed samples may still count: 9,000 µs back (R239), or the first symbol not counted of a
reception. -/
def keepFrom (s : State) (c now : Nat) (l : List SymRun) : Nat :=
  l.foldl (fun m r => min m (symbolWindow s c r r.counted).1) (now - usSteps 9000)

/-- The symbols that have ended are counted, and what is settled is forgotten. -/
def countSymbolsOf (s : State) (c : Nat) (now : Time) (b : Blank) : Blank × Nat :=
  let upto := ((b.wait.getLast?).map fun e => e.1.toNat).getD now.toNat
  let l := b.runs.map fun r => countRun s c b.zeroed upto (runFuel r upto) r 0
  let runs := (l.map Prod.fst).filter fun r => match r.stop with
    | some e => decide ((symbolWindow s c r r.counted).2.1 ≤ e.toNat)
    | none => true
  let lo := keepFrom s c now.toNat runs
  ({ b with runs := runs, zeroed := b.zeroed.filter fun t => decide (lo ≤ t.toNat) }, sumNat (l.map Prod.snd))

/-- An interval of chain `c` passes its blanker (R250, R251); the settings are those at its end (assumption 119). -/
def blankInterval (c : Nat) (now : Time) (l : List (BitVec 16)) (s : State) : State :=
  let x := chain s c
  let (b, n) := countSymbolsOf s c now (blankSamples (blankK s) x.frozen now l x.blank)
  addStat (R.lphyBlankCnt c) n phyOvf
    (setChain c { x with blank := b, frozen := x.frozen.filter fun e => e.2.isNone } s)

end Sys2Proof.Machine
end

