-- ==== Sys2Proof/Machine/Chains.lean ====
section
/-!
DEFINITION. Receive chains: decoders and candidates (R239 to R245), Dovetail sets (R246 to R249), the
AGC's `FROZEN` state (R201), suspension (R202), and the commands `PREAMBLE_DETECTION`, `HEADER_CHECK`,
`CHANNEL_STEP`, `AGC_INTERVAL_END` and `AGC_AUTO_WRITE`.
-/

namespace Sys2Proof.Machine

/-! ### Decoders and their registers -/

/-- Family of a decoder: 0 native, 1 the current Sweep context, 2 compatibility, 3 the candidate Sweep context
(R239, R245). -/
def decFam (k : Nat) : Nat := if k = 3 then 1 else k

/-- Decoders of a family. -/
def famDecs (fam : Nat) : List Nat := if fam = 1 then [1, 3] else [fam]

def decOf (x : Chain) (k : Nat) : Decoder :=
  match k with
  | 0 => x.nat
  | 1 => x.swp
  | 3 => x.swp2
  | _ => x.cmp

def withDec (k : Nat) (d : Decoder) (x : Chain) : Chain :=
  match k with
  | 0 => { x with nat := d }
  | 1 => { x with swp := d }
  | 3 => { x with swp2 := d }
  | _ => { x with cmp := d }

/-- Detection threshold of a family (R238). -/
def famThr (s : State) (fam : Nat) : Nat :=
  match fam with
  | 0 => s.get F.lphyDetthrNativeThr
  | 1 => s.get F.lphyDetthrSweepThr
  | _ => s.get F.lphyDetthrCompatThr

def suspended (s : State) (c : Nat) : Bool := s.on (F.lphyRxstatSuspended c)

/-- A chain delivers no samples: not running, or its link is lost (R240). -/
def deaf (s : State) (c : Nat) : Bool :=
  !chainRuns s c || s.on (F.lphyRxstatAbsent c) || bitAt (s.get F.rstStatusIslandHeld) 0 ||
    bitAt (s.get F.rstStatusIslandHeld) 3

/-- Some decoder of a chain holds a reception. -/
def chainHolds (x : Chain) : Bool :=
  x.nat.current.isSome || x.swp.current.isSome || x.swp2.current.isSome || x.cmp.current.isSome

/-- Some decoder of a chain holds a reception or a candidate. -/
def chainBusy (x : Chain) : Bool := x.nat != .listen || x.swp != .listen || x.swp2 != .listen || x.cmp != .listen

/-- The AGC has not been `FROZEN` from now on. -/
def closeSpan (now : Time) (l : List (Time × Option Time)) : List (Time × Option Time) :=
  l.map fun e => (e.1, some (e.2.getD now))

/-- The AGC leaves `FROZEN`: for `TRACK`, or for `MANUAL` (R201). -/
def unfreeze (c : Nat) (s : State) : State :=
  if ¬ s.on (F.lphyRxstatFrozen c) then s
  else setChain c { chain s c with frozen := closeSpan s.tb (chain s c).frozen } (s.put (F.lphyRxstatFrozen c) 0)

/-- The chain's receptions have ended, and no candidate waits: the AGC leaves `FROZEN`, and where `AGC_AUTO` went to 0
meanwhile the gain follows `PGA_SET` at the next boundary (R201). -/
def thaw (c : Nat) (s : State) : State :=
  if chainBusy (chain s c) then s
  else
    let s := unfreeze c s
    if (chain s c).owe then setChain c { chain s c with owe := false, gain := some (s.get (F.lphyRxcfgPgaSet c)) } s else s

/-- Receptions whose symbols the blanker's counts look at: the native one and the two Sweep ones. -/
def countedRecvs (x : Chain) : List Recv := [x.nat, x.swp, x.swp2].filterMap Decoder.current

/-- A reception that its decoder holds no longer has ended; one taken up begins (R251). -/
def syncRuns (now : Time) (x : Chain) : List SymRun :=
  let l := countedRecvs x
  let old := x.blank.runs.map fun r =>
    if r.stop.isSome then r
    else match findFirst (fun (h : Recv) => h.det == r.det) l with
      | some h => { r with long := h.valid && h.hdr.longPrefix }
      | none => { r with stop := some now }
  old ++ (l.filter fun h => !old.any fun r => r.stop.isNone && r.det == h.det).map fun h => ⟨h.det, false, 0, none⟩

/-- `LPHY_DETSTAT_c` follows the decoders, and the AGC what they hold. -/
def syncChain (c : Nat) (s : State) : State :=
  let x := chain s c
  let cand := ([0, 2].any fun k => (decOf x k).cands.any fun d => decide (famThr s k ≤ d.metric)) ||
    (x.swp2.current.map fun r => decide (famThr s 1 ≤ r.det.metric)).getD false
  let s := s.put (F.lphyDetstatNatBusy c) (b2n x.nat.current.isSome)
  let s := s.put (F.lphyDetstatSwpBusy c) (b2n (x.swp.current.isSome || x.swp2.current.isSome))
  let s := s.put (F.lphyDetstatCmpBusy c) (b2n x.cmp.current.isSome)
  let s := setChain c { x with blank := { x.blank with runs := syncRuns s.tb x } } (s.put (F.lphyDetstatCandHeld c) (b2n cand))
  thaw c s

/-- A decoder of a chain replaced. -/
def setDec (c k : Nat) (d : Decoder) (s : State) : State :=
  syncChain c (setChain c (withDec k d (chain s c)) s)

/-- A chain stops: its decoders and its blanker lose what they hold; a gain decided on waits for the next boundary. -/
def stopChain (c : Nat) (s : State) : State :=
  let x := chain s c
  syncChain c (setChain c { Chain.init with gain := x.gain, owe := x.owe } s)

/-- What a decoder of a chain holds. -/
def current (s : State) (c k : Nat) : Option Recv := (decOf (chain s c) k).current

/-! ### Dovetail sets (R246) -/

/-- The decoders of a family on all chains: chain and decoder. -/
def decsOf (fam : Nat) : List (Nat × Nat) := (List.range 6).flatMap fun c => (famDecs fam).map fun k => (c, k)

/-- Decoders of a family that hold a reception of a set. -/
def setMembers (s : State) (fam id : Nat) : List (Nat × Nat) :=
  (decsOf fam).filter fun p => match current s p.1 p.2 with
    | some r => r.set == id
    | none => false

/-- Instant of a member's declaration; 0 without one. -/
def seenOf (s : State) (p : Nat × Nat) : Nat :=
  match current s p.1 p.2 with
  | some r => r.det.seen.toNat
  | none => 0

/-- The member whose detector declared the detection first; the lower chain on a tie. -/
def primaryOf (s : State) (l : List (Nat × Nat)) : Nat × Nat :=
  (findFirst (fun p => l.all fun q => decide (seenOf s p ≤ seenOf s q)) l).getD (0, 0)

/-- Distance between two instants. -/
def apart (a b : Time) : Nat := max a.toNat b.toNat - min a.toNat b.toNat

/-- A reception that decoder `k` of chain `c` may join with detection `d`: of its family, band and spreading factor,
its header not yet checked, its set's first member's preamble start within 8 µs, and no member of its set on the chain
already. -/
def joinable (s : State) (c k : Nat) (d : Det) (e : Nat) (r : Recv) : Bool :=
  e != c && chainBand e == chainBand c && !r.valid && r.det.sf == d.sf && decide (apart r.first d.start ≤ usSteps 8) &&
    (setMembers s (decFam k) r.set).all fun p => p.1 != c || p.2 == k

/-- The reception whose set a detection joins (R246): one on the lowest chain. -/
def joinRecv (s : State) (c k : Nat) (d : Det) : Option Recv :=
  if ¬ s.on F.lphyDetcfgCombineEn then none
  else ((decsOf (decFam k)).filterMap fun p => (current s p.1 p.2).filter (joinable s c k d p.1)).head?

/-- A decoder takes a detection up, and joins a set or opens one. -/
def takeDet (c k : Nat) (d : Det) (cands : List Det) (s : State) : State :=
  match joinRecv s c k d with
  | some r => setDec c k ⟨some ⟨d, r.set, r.first, false, LineHdr.none, false, r.setStep, false, none⟩, cands⟩ s
  | none =>
    let id := s.line.nextSet
    setDec c k ⟨some ⟨d, id, d.start, false, LineHdr.none, false, false, false, none⟩, cands⟩
      { s with line := { s.line with nextSet := id + 1 } }

/-! ### The take-up rule (R241, R245) -/

/-- The candidate with the highest metric that may be taken up: it meets the threshold, and its preamble began within
the last 9,000 µs. -/
def bestCand (s : State) (fam : Nat) (l : List Det) : Option Det :=
  let ok := l.filter fun d =>
    decide (famThr s fam ≤ d.metric) && decide (s.tb.toNat ≤ d.start.toNat + usSteps 9000)
  findFirst (fun d => ok.all fun e => decide (e.metric ≤ d.metric)) ok

/-- A decoder that has become free: in place of a Sweep current reception the candidate context's becomes current
(R245). -/
def takeUp (c k : Nat) (s : State) : State :=
  let d := decOf (chain s c) k
  if k = 1 then syncChain c (setChain c { chain s c with swp := (chain s c).swp2, swp2 := .listen } s)
  else if k = 3 ∨ deaf s c then setDec c k .listen s
  else if suspended s c then setDec c k { d with current := none } s
  else
    match bestCand s k d.cands with
    | some x => takeDet c k x [] s
    | none => setDec c k .listen s

/-- `RADIO_STATUS.RX_OPEN` follows the windows. -/
def syncRxOpen (s : State) : State :=
  s.put F.radioStatusRxOpen (b2n (!(pendingActs s fun a => a.stage == .rxOpen && (match a.body with
    | .rrx _ => true
    | _ => false)).isEmpty))

/-- A window ends without a frame (R179); one that stood at the nominal instant of its node's event, in which
no verified frame of the node came, is a miss (R321). -/
def endWindow (n k : Nat) (s : State) : State :=
  let a := s.act n k
  let s := syncRxOpen (endAct n k stNoFrame 0 0 s)
  match a.body with
  | .rrx d =>
    match d.ctx with
    | some c => if a.nominal ∧ ¬ a.heard then update c (.miss a.atMax) s else s
    | none => s
  | _ => s

/-- A chain that has nothing to lose when it stops. -/
def chainClean (x : Chain) : Bool := x == { Chain.init with gain := x.gain, owe := x.owe }

/-- A chain that runs no longer loses what its decoders hold (R448). -/
def stopIdle (s : State) : State :=
  foldUpto 6 (fun c s => if chainClean (chain s c) ∨ chainRuns s c then s else stopChain c s) s

/-- Windows that have closed and wait for no frame any more record `NO_FRAME` (R179), and the chains that ran for
a window only stop with it. -/
def settleWindows (s : State) : State :=
  stopIdle (forActs (pendingActs s fun a => a.stage == .closing) (fun n k s =>
    if (s.act n k).awaits ∨ frameInWindow s (s.act n k) then s else endWindow n k s) s)

/-! ### Suspension (R202, R240) -/

/-- Receptions a decoder loses when its chain is suspended. -/
def dropSelf (c k : Nat) (s : State) : State :=
  let d := decOf (chain s c) k
  match d.current with
  | none => s
  | some _ => bumpStat (R.lphySelfDropCnt c) phyOvf (setDec c k { d with current := none } s)

/-- The chain's own transmitter starts to emit in its band. -/
def suspendChain (c : Nat) (s : State) : State :=
  settleWindows (dropSelf c 2 (dropSelf c 1 (dropSelf c 3 (dropSelf c 0 (s.put (F.lphyRxstatSuspended c) 1)))))

/-- The emission has ended: every decoder applies the take-up rule. -/
def resumeChain (c : Nat) (s : State) : State :=
  settleWindows (takeUp c 2 (takeUp c 1 (takeUp c 0 (s.put (F.lphyRxstatSuspended c) 0))))

/-! ### Detections (R237 to R245) -/

/-- The correlator of a detection's family runs on the chain (R237, R234, R265), and the sender lies in the range
of the wide search (R225). -/
def correlates (s : State) (c : Nat) (d : Det) : Bool :=
  let b := chainBand c
  decide (d.freq.natAbs ≤ 20000) &&
  match d.fam with
  | 0 => planOf s b != 0
  | 1 =>
    sweepOn s b && decide (7 ≤ d.sf) && decide (d.sf ≤ 12) &&
      bitAt (if b = 0 then s.get F.swpCfgLowSfRx else s.get F.swpCfgHighSfRx) (d.sf - 7)
  | _ => d.fam == 2 && compatOn s b

/-- An open window names, through its filter, a node whose offset is stored within 5 ppm of the sender's: the
narrow search detects at a threshold 1.5 dB lower (R225). -/
def narrow (s : State) (c : Nat) (freq : Int) : Bool :=
  !(pendingActs s fun a => (a.stage == .rxOpen || a.awaits) && bitAt a.units c && (match a.body with
    | .rxw d => d.filterEn && (match idxFind s (.short d.src) with
        | some x => ctxBits s x 12 16 16 == 1 &&
            decide ((freq - ((ctxWord s x 12).extractLsb' 0 16).toInt).natAbs ≤ 500)
        | none => false)
    | _ => false)).isEmpty

/-- The metric meets its threshold. -/
def meetsThr (s : State) (c : Nat) (d : Det) : Bool :=
  decide (famThr s d.fam ≤ d.metric + (if d.fam = 0 ∧ narrow s c d.freq then 6 else 0))

/-- A preamble within 8 µs of the start of the block's own emission on another phase of the band is
ignored (R202). -/
def ownEcho (s : State) (c : Nat) (d : Det) : Bool :=
  (List.range 3).any fun t => t != chainPhase c && (xmit s t).starts.any fun e =>
    e.2 == chainBand c && decide (apart e.1 d.start ≤ usSteps 8)

/-- The latest detection in `LPHY_DETSTAT_c` (R238). -/
def showDet (c : Nat) (d : Det) (s : State) : State :=
  let s := s.put (F.lphyDetstatMetric c) (min d.metric 1023)
  let s := s.put (F.lphyDetstatFamily c) d.fam
  let s := s.put (F.lphyDetstatSf c) (if d.fam = 1 then d.sf else 0)
  s.put (F.lphyDetstatPower c) (min d.power 255)

/-- The AGC holds its gain from a detection on (R201). -/
def freeze (c : Nat) (s : State) : State :=
  if ¬ s.on (F.lphyRxcfgAgcAuto c) ∨ s.on (F.lphyRxstatFrozen c) then s
  else setChain c { chain s c with quiet := 0, frozen := (s.tb, none) :: (chain s c).frozen } (s.put (F.lphyRxstatFrozen c) 1)

/-- A detection kept as a candidate: of a Sweep one the second context is the candidate, demodulated at once while the
chain decodes, and of a third detection and the candidate the weaker is discarded (R245). -/
def keepCand (c fam : Nat) (d : Det) (s : State) : State :=
  if fam = 1 then
    if suspended s c then s
    else match current s c 3 with
      | none => takeDet c 3 d [] s
      | some r => if r.det.power < d.power then takeDet c 3 d [] s else s
  else
    let x := decOf (chain s c) fam
    setDec c fam { x with cands := x.cands ++ [d] } s

/-- The table of R240 on a detection. -/
def detect (c : Nat) (d : Det) (s : State) : State :=
  let x := decOf (chain s c) d.fam
  if suspended s c then keepCand c d.fam d s
  else
    match x.current with
    | none => takeDet c d.fam d x.cands s
    | some r =>
      if ¬ r.valid then
        if r.det.metric + 4 * s.get F.lphyDetcfgResyncMargin ≤ d.metric then
          takeDet c d.fam d x.cands (occur (bumpStat (R.lphyResyncCnt c) phyOvf s) (22 + c))
        else keepCand c d.fam d s
      else if s.get F.lphyDetcfgCaptureMargin < 15 ∧ r.det.power + s.get F.lphyDetcfgCaptureMargin ≤ d.power then
        takeDet c d.fam d x.cands (occur (bumpStat (R.lphyCapturedCnt c) phyOvf s) (28 + c))
      else keepCand c d.fam d s

/-- Windows that waited for this detection have it. -/
def detSeen (c : Nat) (d : Det) (s : State) : State :=
  forActs (pendingActs s fun a => a.awaits && (match a.body with
    | .rxw w => detHits a w c d
    | _ => false)) (fun n k s => s.setAct n k { s.act n k with awaits := false }) s

/-- `PREAMBLE_DETECTION` (R238, R240): a correlator of chain `c` declares a detection. -/
def execPreambleDetection (c : Fin 6) (d : Det) (s : State) : Ans :=
  let s' := s.passTo d.seen
  if deaf s' c.val ∨ ¬ correlates s' c.val d ∨ ¬ meetsThr s' c.val d ∨ ownEcho s' c.val d then .next s'
  else .next (settleWindows (detSeen c.val d (thaw c.val (detect c.val d (freeze c.val (showDet c.val d s'))))))

/-! ### Headers (R210 to R212, R240, R248, R261) -/

/-- A header that is not dropped (R212, R261, R282). -/
def headerOk (fam : Nat) (h : LineHdr) : Bool :=
  match fam with
  | 0 =>
    h.version == 0 && modeOk h.mode && decide (h.length ≤ 2048) && (h.length == 0 || decide (10 ≤ h.length)) &&
      h.tmapId == 15 && !(decide (0x0C ≤ h.mode) && decide (h.mode < 0x0F))
  | 1 => h.version == 0 && h.reserved == 0 && (h.length == 0 || (decide (10 ≤ h.length) && decide (h.length ≤ 255)))
  | _ => true

/-- A header that fails its `HCS` on a decoder: the reception is dropped, and the take-up rule applied (R240). -/
def falseSync (p : Nat × Nat) (s : State) : State :=
  takeUp p.1 p.2 (occur (bumpStat (R.lphyFalseSyncCnt p.1) phyOvf s) (16 + p.1))

/-- What a decoder holds is changed. -/
def mapRecv (f : Recv → Recv) (p : Nat × Nat) (s : State) : State :=
  let x := decOf (chain s p.1) p.2
  match x.current with
  | some r => setDec p.1 p.2 { x with current := some (f r) } s
  | none => s

/-- A header that passed its `HCS` is judged on one decoder, which goes on in set `id`, or is dropped. -/
def headerOn (id : Nat) (h : LineHdr) (p : Nat × Nat) (s : State) : State :=
  if ¬ headerOk (decFam p.2) h then takeUp p.1 p.2 (bumpStat (R.lphyHdrDropCnt p.1) phyOvf s)
  else if decFam p.2 ≠ 2 ∧ 8 < h.fc.toNat % 16 then takeUp p.1 p.2 s
  else mapRecv (fun r => { r with set := id, valid := true, hdr := h, cut := r.cut || islandHeld s 1 }) p s

/-- A set whose combined header failed: each member goes by its own header; equal headers stay one set
(R248). -/
def splitSet (each : List (Option LineHdr)) : List (Nat × Nat) → List (LineHdr × Nat) → State → State
  | [], _, s => s
  | p :: rest, seen, s =>
    match each.getD p.1 none with
    | none => splitSet each rest seen (falseSync p s)
    | some h =>
      match findFirst (fun e => e.1 == h) seen with
      | some e => splitSet each rest seen (headerOn e.2 h p s)
      | none =>
        let id := s.line.nextSet
        let s := { s with line := { s.line with nextSet := id + 1 } }
        splitSet each rest (seen ++ [(h, id)]) (headerOn id h p s)

/-- The steps declared in a set after a split: those of its present members. -/
def gatherSteps (fam : Nat) (l : List (Nat × Nat)) (s : State) : State :=
  l.foldl (fun s p => mapRecv (fun r => { r with
    setStep := (setMembers s fam r.set).any fun q => ((current s q.1 q.2).map Recv.step).getD false }) p s) s

/-- A frame discarded for want of its context (R373). -/
def ctxLate (c : Nat) (s : State) : State :=
  update c (.stat 294) (occur (bumpStat R.ncpCtxLateCnt ncpOvf s) 234)

/-- The context that a frame resolves to once its addresses have come (R289 steps 2 and 3, R287). -/
def rxResolves (s : State) (fam : Nat) (h : LineHdr) (a : RxAddr) : Option Nat :=
  let ty := h.fc.toNat % 16
  let level := bitsOf h.fc.toNat 6 4
  if fam = 2 ∨ h.length = 0 ∨ ty = 2 ∨ level = 4 ∨ (a.dest ≠ s.get F.lmacOwnShort ∧ a.dest ≠ 0xFFFF) then none
  else if ty = 3 then idxFind s (.eui a.eui)
  else idxFind s (.short a.far)

/-- Frames in the frame buffer (R373): those held at their end, and those still being received whose context is
not resident. -/
def framesBuffered (s : State) : Nat :=
  s.line.held.length + ((rxSets s).filter fun e => !e.2.2 && !resident s e.2.1).length

/-- Deadline of a frame whose header has passed: 1.0 ms after the end that its header gives it (R23, R220, R263). -/
def frameDue (s : State) (c : Nat) (r : Recv) : Time :=
  let b := chainBand c
  let ns := if r.det.fam = 1 then sweepNs b r.det.sf r.hdr.length r.hdr.rep4
    else (nativeNs s none b r.hdr.mode 7 r.hdr.length r.hdr.longPrefix).getD 0
  after r.det.start (nsSteps ns + msSteps 1)

/-- What a set's frame resolved to, on every member. -/
def setRes (fam id c : Nat) (late : Bool) (s : State) : State :=
  (setMembers s fam id).foldl (fun s p => mapRecv (fun r => { r with res := some (c, late) }) p s) s

/-- A set's frame resolves to a context (R24): from here on the pager holds it, and a miss is requested; a frame
that finds the buffer full is discarded (R371, R373). -/
def resolveSet (fam : Nat) (addr : List (Option RxAddr)) (s : State) (p : Nat × Nat) : State :=
  match current s p.1 p.2 with
  | none => s
  | some r =>
    if ¬ r.valid ∨ r.res.isSome then s
    else
      match (addr.getD p.1 none).bind fun a => (rxResolves s fam r.hdr a).map fun c => (a.at', c) with
      | none => s
      | some (t, c) =>
        if resident s c then setRes fam r.set c false s
        else if 32 ≤ framesBuffered s then setRes fam r.set c true (ctxLate c (bumpStat R.ncpBufFullCnt ncpOvf s))
        else requestMissAt t (frameDue s p.1 r) c 1 (setRes fam r.set c false s)

/-- The header of a decoder's set is judged: on the combined soft values, and alone where those fail; a combined
failure of two or more members is a split, whatever their own headers say (assumption 120). -/
def headerCheck (p : Nat × Nat) (combined : Option LineHdr) (each : List (Option LineHdr)) (s : State) : State :=
  match current s p.1 p.2 with
  | none => s
  | some r =>
    if r.valid then s
    else
      let fam := decFam p.2
      let l := setMembers s fam r.set
      match combined with
      | some h => l.foldl (fun s q => headerOn r.set h q s) s
      | none =>
        if l.length < 2 then falseSync p s
        else gatherSteps fam l (splitSet each l [] (occur (bumpStat R.lphySplitCnt phyOvf s) 47))

/-- Decoders that hold the set of a decoder's reception. -/
def membersWith (s : State) (p : Nat × Nat) : List (Nat × Nat) :=
  match current s p.1 p.2 with
  | some r => setMembers s (decFam p.2) r.set
  | none => []

/-- `HEADER_CHECK` (R240, R248): the header of the set that a decoder of chain `c` holds ends; what
the combined and the single soft values decode to, none where `HCS` fails; and the addresses that follow it on
each chain. -/
def execHeaderCheck (c : Fin 6) (dec : Fin 4) (now : Time) (combined : Option LineHdr)
    (each : List (Option LineHdr)) (addr : List (Option RxAddr)) (s : State) : Ans :=
  let s := stopIdle (s.passTo now)
  let p := (c.val, dec.val)
  .next (settleWindows ((membersWith s p).foldl (resolveSet (decFam dec.val) addr) (headerCheck p combined each s)))

/-! ### Channel steps (R252, R253) -/

/-- An error vector exceeds its baseline by more than `thr` dB, 20 times the logarithm of their ratio. -/
def errorRose (thr : Nat) (x : Nat × Nat) : Bool := decide (x.1 ^ 20 * 10 ^ thr < x.2 ^ 20)

/-- A step is declared in a native symbol, the fifth after the preamble or later: the error vectors of more than a
quarter of its data carriers have risen (R252). -/
def stepDeclared (s : State) (sym : Nat) (carriers : List (Nat × Nat)) : Bool :=
  let thr := max 3 (s.get F.lphyDetcfgChanStepThr)
  decide (5 ≤ sym) && decide (carriers.length < 4 * (carriers.filter (errorRose thr)).length)

/-- `CHANNEL_STEP` (R252, R253): a symbol of the native frame that a chain receives; the first step of a frame
counts. -/
def execChannelStep (m : SymbolSeen) (s : State) : Ans :=
  let c := m.chain
  match current s c.val 0 with
  | none => .next s
  | some r =>
    if r.step ∨ ¬ stepDeclared s m.sym m.carriers then .next s
    else
      let s := mapRecv (fun r => { r with step := true }) (c.val, 0) s
      let s := (setMembers s 0 r.set).foldl (fun s p => mapRecv (fun r => { r with setStep := true }) p s) s
      .next (occur (bumpStat (R.lphyStepCnt c.val) phyOvf s) (34 + c.val))

/-! ### The AGC (R201) -/

/-- A gain change takes effect at the interval boundary. -/
def applyGain (c : Nat) (s : State) : State :=
  match (chain s c).gain with
  | none => s
  | some g => setChain c { chain s c with gain := none } (s.put (F.lphyRxstatPgaNow c) g)

/-- A gain decided on takes effect at the next boundary: that of the next interval end. -/
def setGain (c g : Nat) (s : State) : State := setChain c { chain s c with gain := some g } s

/-- The AGC on an interval's peak magnitude, in `TRACK`: at or above -3 dBFS, and below -21 dBFS. -/
def track (c : Nat) (peak : Nat) (s : State) : State :=
  let g := ((chain s c).gain).getD (s.get (F.lphyRxstatPgaNow c))
  if 32768 ^ 20 ≤ peak ^ 20 * 10 ^ 3 ∧ 0 < g then setGain c (g - 1) (setChain c { chain s c with quiet := 0 } s)
  else if peak ^ 20 * 10 ^ 21 < 32768 ^ 20 then
    let q := (chain s c).quiet + 1
    if q < 4 then setChain c { chain s c with quiet := q } s
    else
      let s := setChain c { chain s c with quiet := 0 } s
      if g < s.get (F.lphyRxcfgPgaMax c) then setGain c (g + 1) s else s
  else setChain c { chain s c with quiet := 0 } s

/-- Largest magnitude of an interval's samples. -/
def peakOf (l : List (BitVec 16)) : Nat := l.foldl (fun m v => max m v.toInt.natAbs) 0

/-- `AGC_INTERVAL_END` (R201, R250): a 128 µs interval of chain `c`, 256 samples, ends at `now`; its end is the
boundary at which a gain decided on takes effect. -/
def execAgcIntervalEnd (c : Fin 6) (now : Time) (samples : List (BitVec 16)) (s : State) : Ans :=
  if deaf s c.val then .next s
  else
    let s := s.passTo now
    let s := if samples.any fullScale then
        occur (bumpStat (R.lphyClipCnt c.val) phyOvf (s.put (F.lphyRxstatClip c.val) 1)) (0 + c.val)
      else s
    let s := blankInterval c.val now samples s
    let s := if s.on (F.lphyRxcfgAgcAuto c.val) ∧ ¬ s.on (F.lphyRxstatFrozen c.val) then track c.val (peakOf samples) s else s
    .next (applyGain c.val s)

/-- `AGC_AUTO` and `PGA_SET` are written, `AGC_AUTO` having been `was` (R201): from `MANUAL` to `TRACK`; from `TRACK`,
or within `MANUAL`, the gain follows `PGA_SET` at the next boundary; from `FROZEN`, at the first one after the reception
has ended. -/
def agcWrite (c : Nat) (was : Bool) (s : State) : State :=
  if s.on (F.lphyRxcfgAgcAuto c) then if was then s else setChain c { chain s c with quiet := 0, owe := false } s
  else if s.on (F.lphyRxstatFrozen c) then
    let s := unfreeze c s
    setChain c { chain s c with owe := true } s
  else
    let s := setGain c (s.get (F.lphyRxcfgPgaSet c)) s
    setChain c { chain s c with owe := false } s

/-- A write of `LPHY_RXCFG_c` (R201); a chain taken out of service loses what its decoders hold. -/
def rxcfgWrite (c : Nat) (v : Word) (be : BitVec 4) (s : State) : State :=
  let was := s.on (F.lphyRxcfgAgcAuto c)
  let s := s.wrTyped (R.lphyRxcfg c) v be
  let s := if be.getLsbD 0 then agcWrite c was s else s
  if chainRuns s c then s else settleWindows (stopChain c s)

/-- `AGC_AUTO_WRITE` (R201): drawer `d` writes `LPHY_RXCFG_c`. -/
def execAgcAutoWrite (d : Drawer) (c : Fin 6) (v : Word) (be : BitVec 4) (s : State) : Ans :=
  .next (filtered s d.val (R.lphyRxcfg c.val) (rxcfgWrite c.val v be))

end Sys2Proof.Machine
end

