-- ==== Sys2Proof/Machine/Air.lean ====
section
/-!
DEFINITION. Emissions and windows: the start of an action at its instant (R150, R151), what a transmitter
does at the start and the end of an emission (R202, R227 to R229, R255), channel access of compatibility
frames (R236, R477), and a window's end (R179, R181).
-/

namespace Sys2Proof.Machine

/-! ### A transmitter starts and ends (R202, R228, R229, R255) -/

/-- Default coefficient of tap `i` (R229). -/
def tapDefault (i : Nat) : Word := if i = 0 then 0x7FFF#32 else 0#32

/-- The shadow bank becomes active, and the formerly active one fills the shadow (R229). -/
def firSwap (t : Nat) (s : State) : State :=
  if ¬ s.on (F.lphyFirCtlSwap t) then s
  else
    let s := foldUpto 64 (fun i s =>
      let x := xmit s t
      let old := tabGet tapDefault x.active i
      let s := setXmit t { x with active := tabSet tapDefault x.active i (s.rd (R.lphyFir t i)) } s
      s.wr (R.lphyFir t i) old) s
    (s.put (F.lphyTxstatFirBank t) (1 - s.get (F.lphyTxstatFirBank t))).put (F.lphyFirCtlSwap t) 0

/-- Limit and trim of a carrier (R228, R230). -/
def limitOf (s : State) (b k : Nat) : Nat := bitsOf (s.rd (R.lphyLimit b (k / 4))).toNat (8 * (k % 4) + 7) (8 * (k % 4))
def trimOf (s : State) (t k : Nat) : Nat := bitsOf (s.rd (R.lphyTrim t (k / 4))).toNat (8 * (k % 4) + 6) (8 * (k % 4))

/-- Carriers within a band's chirp range (R265). -/
def chirpCarriers (b : Nat) : List Nat := if b = 0 then (List.range 14).map (· + 10) else (List.range 82).map (· + 41)

/-- Some carrier's level at the coupler exceeds its limit (R228, R266). -/
def overLimit (s : State) (t b fam atten : Nat) : Bool :=
  let base : Int := s.get (F.lphyTxcfgPathGainDb t) + 117
  let cut := (if fam = 1 then s.get F.swpCfgSwpAtten else s.get (F.lphyTxcfgRefAtten t)) + atten
  (if fam = 1 then chirpCarriers b else bandCarriers s b).any fun k =>
    limitOf s b k != 0 && decide ((limitOf s b k : Int) < base - cut - trimOf s t k)

/-- Carriers above their limit are lowered: `LIMITED` and its occurrence (R228).  The carriers of a
compatibility frame stand in the recommendation, not here: whether one is lowered is free. -/
def limitCheck (t b fam atten : Nat) (s : State) : State :=
  let hit : Bool := if fam = 2 then decide (s.free % 2 = 1) else overLimit s t b fam atten
  let s := if fam = 2 then s.drew else s
  if hit then occur (s.put (F.lphyTxstatLimited t) 1) (9 + t) else s

/-- A fault during an emission lowers the output (R255). -/
def lowerOutput (t : Nat) (at' : Time) (s : State) : State :=
  let s := setXmit t { xmit s t with flt := some at' } s
  occur ((s.put (F.lphyLdfltReduced t) 1).put (F.lphyLdfltFltSeen t) 1) (40 + t)

/-- Starts of emissions that a detection may still be measured against: every preamble is declared within 2 s of its
start (R238, R258). -/
def recentStarts (now : Time) (l : List (Time × Nat)) : List (Time × Nat) :=
  l.filter fun e => decide (now.toNat ≤ e.1.toNat + msSteps 2000)

/-- Transmitter `t` starts to emit in band `b`: what was deferred to its next frame takes effect, its levels
and a fault are looked at, and its own chain is suspended. -/
def txStart (t b fam atten : Nat) (at' : Time) (s : State) : State :=
  let s := match (xmit s t).cfg with
    | some w => s.wr (R.lphyTxcfg t) w
    | none => s
  let s := firSwap t s
  let s := setXmit t { xmit s t with cfg := none, under := false, flt := none, starts := (at', b) :: recentStarts at' (xmit s t).starts } s
  let s := limitCheck t b fam atten (s.put (F.lphyTxstatBusy t) 1)
  let s := if s.on (F.lphyLdfltFltNow t) then lowerOutput t at' s else s
  suspendChain (2 * t + b) s

/-- Transmitter `t` stops emitting. -/
def txStop (t : Nat) (s : State) : State :=
  if ¬ s.on (F.lphyTxstatBusy t) then s
  else
    let b := (xmit s t).band
    let s := (s.put (F.lphyTxstatBusy t) 0).put (F.lphyLdfltReduced t) 0
    resumeChain (2 * t + b) (setXmit t { xmit s t with flt := none } s)

/-- Transmitters of a set of them, in rising order. -/
def unitList (units : Nat) : List Nat := (List.range 3).filter fun t => bitAt units t

/-! ### Frames as they go out (R210, R283, R286, R313, R317) -/

/-- Tracker states in a beacon: 0 locked, 1 `MAINS_HOLD`, 2 `MAINS_LOST`, from bit 0 for A (R286). -/
def beaconTrackers (s : State) : Nat := sumNat ((List.range 3).map fun p => min 2 (s.get (F.zxStatState p)) * 4 ^ p)

/-- Bytes 0 to 7 of a line beacon (R286). -/
def lineBeacon (s : State) (t : Nat) : List Byte :=
  leBytes 4 (s.get F.lmacSfNumSfNum) ++ leBytes 1 (s.line.sf.cycles % 256) ++ leBytes 1 s.line.sf.anchor ++
    leBytes 1 (beaconTrackers s) ++ leBytes 1 (anchorIndex s t / 8)

/-- Bytes 0 to 7 of a radio beacon (R317). -/
def radioBeacon (s : State) (t : Nat) : List Byte :=
  leBytes 4 (s.get F.radioSfNumSfNum) ++ leBytes 2 (rfSfMs s) ++ leBytes 1 (rfSlotOf s t) ++
    leBytes 1 (s.get F.radioCfgPollChan)

/-- Hops of a node's route. -/
def routeHops (s : State) (c : Nat) : Nat := ctxBits s c 9 2 0

/-- Link receiver of a frame to a node (R283, R287). -/
def lineDest (s : State) (d : TxfD) : Nat :=
  match d.ctx with
  | none => d.dest
  | some c =>
    if d.frameType = 4 then 0xFFFE
    else if 0 < routeHops s c then ctxBits s c 8 15 0 else ctxShort s c

/-- EUI-64 of the block, the source of its frames (R356). -/
def ownEui (s : State) : Nat := (s.rd (R.ciphOwnEui 0)).toNat + (s.rd (R.ciphOwnEui 1)).toNat * 2 ^ 32

/-- A payload as it goes out, and its MIC, under the key and counter value that the action took (R28, R355, R356). -/
def sealed (s : State) (a : Act) (level : Nat) (auth payload : List Byte) : List Byte × List Byte :=
  if level = 0 then (payload, [])
  else
    let nonce := frameNonce (ownEui s) (a.fc.getD 0) level
    (frameText a.key nonce level payload, frameMic a.key nonce auth level payload)

/-- `END` of a frame to a node, or the descriptor's destination (R283, R287). -/
def lineFar (s : State) (d : TxfD) : Nat :=
  match d.ctx with
  | some c => if d.frameType = 4 then 0xFFFE else ctxShort s c
  | none => d.dest

/-- Payload and MIC of an action's line frame. -/
def lineSealed (s : State) (a : Act) (d : TxfD) (t : Nat) : List Byte × List Byte :=
  sealed s a d.secLevel (lineAuth d.frameType d.secLevel d.ackReq a.seq (lineFar s d) (a.fc.getD 0))
    (if d.family ≠ 2 ∧ d.frameType = 0 then lineBeacon s t ++ d.payload.drop 8 else d.payload)

/-- The line frame of an action as it goes out at instant `t` with a mode and a map (R210, R283). -/
def lineFrame (s : State) (a : Act) (d : TxfD) (mt : Nat × Nat) (t : Nat) : LineFrame :=
  { fam := d.family, sf := d.sf, mode := if d.family = 1 then 0 else mt.1, tmapId := if mt.2 < 4 then mt.2 else 15
    phaseCode := if a.units = 7 then 3 else (unitList a.units).getD 0 0
    longPrefix := d.longPrefix, rep4 := d.rep4
    length := if d.family = 2 then d.payload.length else airLength d.secLevel d.payload.length
    ftype := d.frameType, secLevel := d.secLevel, ackReq := d.ackReq, seq := a.seq
    pending := (d.ctx.map fun c => ctxBits s c 4 3 3 == 1).getD false
    hops := (d.ctx.map (routeHops s)).getD 0, dest := lineDest s d, src := s.get F.lmacOwnShort
    far := lineFar s d, counter := a.fc.getD 0
    payload := (lineSealed s a d t).1, mic := (lineSealed s a d t).2 }

/-- Receiver of a radio frame; an association response goes to 0xFFFE (R287, R312, R313). -/
def rfDest (s : State) (d : RtxD) : Nat :=
  if d.frameType = 4 ∧ d.ctx.isSome then 0xFFFE else (d.ctx.map (ctxShort s)).getD d.dest

/-- `PENDING` of a frame to a node. -/
def pendingOf (s : State) (ctx : Option Nat) : Bool := (ctx.map fun c => ctxBits s c 4 3 3 == 1).getD false

/-- Payload and MIC of an action's radio frame. -/
def rfSealed (s : State) (a : Act) (d : RtxD) (t : Nat) : List Byte × List Byte :=
  sealed s a d.secLevel
    (radioAuth (radioFctl d.frameType d.secLevel d.ackReq (pendingOf s d.ctx) a.evt.isSome 0) a.seq (rfDest s d)
      (s.get F.lmacOwnShort) (a.evt.getD 0) (a.fc.getD 0))
    (if d.frameType = 0 then radioBeacon s t ++ d.payload.drop 8 else d.payload)

/-- The radio frame of an action (R311, R313, R319). -/
def rfFrame (s : State) (n : Nat) (a : Act) (d : RtxD) (t : Nat) : RfFrame :=
  { chan := a.chan, opmode := d.opmode, fec := d.fec, whiten := d.whiten
    level := if lastGasp s ∧ bitAt (s.rd R.pwrLgThreads).toNat n then rtxLevel s d else d.level
    ftype := d.frameType, secLevel := d.secLevel, ackReq := d.ackReq, pending := pendingOf s d.ctx
    evtValid := a.evt.isSome, seq := a.seq, dest := rfDest s d, src := s.get F.lmacOwnShort, evt := a.evt.getD 0
    counter := a.fc.getD 0, payload := (rfSealed s a d t).1, mic := (rfSealed s a d t).2 }

/-! ### Starts (R150, R151, R257) -/

/-- The emission of a line frame begins at `t`: its mode and map as it is prepared, `PERTURB_LEFT` counted,
and every transmitter started. -/
def emitLine (n k : Nat) (d : TxfD) (t : Nat) (s : State) : State :=
  let a := s.act n k
  let mt := txfPrep s d a.mode
  let ns := txfNs s d mt
  let s := if d.family = 0 then s.drew else s
  let e := t + nsSteps ns
  let f := lineFrame s a d mt t
  let s := match d.ctx with
    | some c => if mt.2 < 4 then update c (.perturb mt.2) s else s
    | none => s
  let s := (unitList a.units).foldl (fun s x =>
    (txStart x d.band d.family d.atten (BitVec.ofNat 64 t) s).emit (.lineTx x f)) s
  s.setAct n k { s.act n k with
    stage := .emitting, emissions := a.emissions + 1, instant := BitVec.ofNat 64 t
    endAt := BitVec.ofNat 64 e }

/-- A line transmission reaches its instant: a hold-off, an acknowledgement or another frame on its transmitters
stops it; a compatibility frame begins channel access (R151, R227, R236, R257, R476, R477). -/
def startTxf (n k : Nat) (d : TxfD) (s : State) : State :=
  let a := s.act n k
  if heldOff s a.units a.instant.toNat then endUnsent n k stFailed 0x33 s
  else if ¬ (ackClashes s a.units a.instant.toNat a.endAt.toNat).isEmpty then endUnsent n k stFailed 0x0C s
  else if d.family = 2 then s.setAct n k { a with stage := .place }
  else if (unitList a.units).any (txBusy s) then endUnsent n k stFailed 0x0C s
  else emitLine n k d a.instant.toNat s

/-- The emission of a radio frame begins at `t`. -/
def emitRadio (n k : Nat) (d : RtxD) (t : Nat) (s : State) : State :=
  let a := s.act n k
  let e := t + nsSteps (rfNs s (psduLength d.secLevel d.payload.length) d.fec d.opmode)
  let f := rfFrame s n a d t
  let s := { s with radio := { s.radio with txEnd := e + 1 } }
  let s := ((s.put F.radioStatusTxBusy 1).emit (.radioTx f))
  s.setAct n k { a with
    stage := .emitting, emissions := a.emissions + 1, instant := BitVec.ofNat 64 t, endAt := BitVec.ofNat 64 e }

/-- Acknowledgements of the radio that overlap a span. -/
def rfAckMeets (s : State) (t e : Nat) : Bool :=
  s.line.acks.any fun a => ackTx a == 3 && spansMeet a.due.toNat (ackEnd s a) t e

/-- A radio transmission reaches its instant (R308). -/
def startRtx (n k : Nat) (d : RtxD) (s : State) : State :=
  let a := s.act n k
  if s.radio.rx.isSome ∨ s.on F.radioStatusTxBusy ∨ rfAckMeets s a.instant.toNat a.endAt.toNat then
    endUnsent n k stFailed 0x0C s
  else emitRadio n k d a.instant.toNat s

/-- A radio window opens; while the transceiver emits, 200 µs after the emission's end, and its close moves
alike (R181). -/
def startRrx (n k : Nat) (s : State) : State :=
  let a := s.act n k
  if s.on F.radioStatusTxBusy then
    let shift := s.radio.txEnd - 1 + usSteps 200 - a.openAt.toNat
    s.setAct n k { a with openAt := after a.openAt shift, endAt := after a.endAt shift }
  else syncRxOpen (s.setAct n k { a with stage := .rxOpen })

/-- Lead time of an action (R150). -/
def leadSteps (a : Act) : Nat :=
  match a.body with
  | .txf _ | .rtx _ => usSteps 300
  | _ => usSteps 20

/-- Instant at which an action starts. -/
def startAt (a : Act) : Time :=
  match a.body with
  | .rrx _ => a.openAt
  | _ => a.instant

/-- A waiting action whose instant has come; an `ASAP` one takes the first instant that it can still meet, and
while an island that the air needs is in reset the action is refused as `ABORTED` (R18, DESIGN CHOICE of the
code, assumption 115). -/
def startAct (n k : Nat) (ready : Bool) (s : State) : State :=
  let a := s.act n k
  let inLead := decide (a.made.toNat + leadSteps a ≤ (startAt a).toNat)
  if ¬ a.prep ∧ a.asap then s
  else
    let a := asapAgain n k a s.tb.toNat s
    let s := (s.setAct n k a).passTo (startAt a)
    if ¬ a.prep ∨ ¬ (inLead || ready || a.asap) then lateUnsent n k s
    else if airHeld s ∨ (actSecure a ∧ islandHeld s 1) then endUnsent n k stFailed 0x30 s
    else
      match a.body with
      | .txf d => startTxf n k d s
      | .rtx d => startRtx n k d s
      | .rxw _ => s.setAct n k { a with stage := .rxOpen }
      | .rrx _ => startRrx n k s
      | _ => s

/-- `ACTION_START` (R150): the instant of a waiting action comes.  `ready` says whether preparation, begun
with less than its lead time, is complete. -/
def execActionStart (th : Fin 32) (slot : Fin 4) (ready : Bool) (s : State) : Ans :=
  let a := s.act th.val slot.val
  if isPending a ∧ a.stage = .waiting then .next (startAct th.val slot.val ready s) else .next s

/-- `COMPAT_CSMA_ACCESS` (R236, R477): the backoff of a compatibility frame ends at `now`, and the medium is
granted or the last backoff is spent. -/
def execCompatCsmaAccess (th : Fin 32) (slot : Fin 4) (granted : Bool) (now : Time) (s : State) : Ans :=
  let n := th.val
  let k := slot.val
  let a := s.act n k
  match a.body with
  | .txf d =>
    if ¬ isPending a ∨ a.stage ≠ .place ∨ d.family ≠ 2 then .next s
    else
      let s := s.passTo now
      let t := s.tb.toNat
      if airHeld s then .next (endUnsent n k stFailed 0x30 s)
      else if ¬ granted ∨ (unitList a.units).any (txBusy s) then
        .next (endUnsent n k stFailed 0x32 (occur s 14))
      else if heldOff s a.units t then .next (endUnsent n k stFailed 0x33 s)
      else if ¬ (ackClashes s a.units t (t + nsSteps (txfNs s d (a.mode, 7)))).isEmpty then
        .next (endUnsent n k stFailed 0x0C s)
      else .next (emitLine n k d t s)
  | _ => .next s

/-! ### Ends (R295, R328) -/

/-- Symbols in which the clipper of transmitters 0 to 2 acted (R228). -/
def countClips (clips : List Nat) (s : State) : State :=
  foldUpto 3 (fun t s =>
    let n := clips.getD t 0
    if n = 0 then s
    else foldUpto n (fun _ s => occur s (6 + t)) (addStat (R.lphyTxclipCnt t) n phyOvf (s.put (F.lphyTxstatClip t) 1))) s

/-- The MAC header of a compatibility frame asks for an acknowledgement: bit 5 of its frame control. -/
def compatAckReq (d : TxfD) : Bool := bitAt (fieldAt d.payload 0 1) 5

/-- A line frame's emission has ended: the wait for its acknowledgement begins, or the slot is done (R236,
R294, R295). -/
def lineEnded (n k : Nat) (d : TxfD) (s : State) : State :=
  let a := s.act n k
  let wait :=
    if d.family = 2 then if compatAckReq d then some Config.compatAckNs else none
    else if d.ackReq then some (1050000 + ackNs s d.family d.sf d.band) else none
  match wait with
  | some ns => s.setAct n k { a with stage := .ackWait, endAt := after a.endAt (nsSteps ns) }
  | none => endSent n k stDone 0 s

/-- A radio frame's emission has ended (R327). -/
def radioEnded (n k : Nat) (d : RtxD) (s : State) : State :=
  let a := s.act n k
  let s := s.put F.radioStatusTxBusy 0
  if d.ackReq then
    s.setAct n k { a with stage := .ackWait, endAt := after a.endAt (nsSteps (1050000 + rfNs s 13 d.fec d.opmode)) }
  else endSent n k stDone 0 s

/-- An emission of a program's frame ends, before its time when the verification lane differed (R359). -/
def actEnded (n k : Nat) (clips : List Nat) (fault : Option Time) (s : State) : State :=
  let a := s.act n k
  let cut : Option Time := if actSecure a then fault else none
  let s := s.passTo (match cut with
    | some t => if t.toNat < a.endAt.toNat then t else a.endAt
    | none => a.endAt)
  match a.body with
  | .txf d =>
    let s := (unitList a.units).foldl (fun s t => txStop t s) (countClips clips s)
    if cut.isSome then endSent n k stFailed 0x2D (cipherFault s) else lineEnded n k d s
  | .rtx d =>
    if cut.isSome then
      endSent n k stFailed 0x2D (cipherFault ((s.put F.radioStatusTxBusy 0)))
    else radioEnded n k d s
  | _ => s

/-- An acknowledgement's emission ends: its context is held no longer (R24). -/
def ackEnded (i : Nat) (clips : List Nat) (s : State) : State :=
  match s.line.acks[i]? with
  | none => s
  | some a =>
    match a.sent with
    | none => s
    | some t =>
      let s := s.passTo a.endAt
      let s := { s with line := { s.line with acks := s.line.acks.eraseIdx i } }
      let s := match a.ctx with
        | some c => unhold c s
        | none => s
      if t < 3 then txStop t (countClips clips s) else s.put F.radioStatusTxBusy 0

/-- `EMISSION_END` (R295, R328, R24): an emission ends, with the symbols the clipper acted in on transmitters
0 to 2; `fault` is the instant at which a mismatch of the verification lane stopped it. -/
def execEmissionEnd (e : Emitter) (clips : List Nat) (fault : Option Time) (s : State) : Ans :=
  match e with
  | .act th slot =>
    let a := s.act th.val slot.val
    if isPending a ∧ a.stage = .emitting then .next (actEnded th.val slot.val clips fault s) else .next s
  | .ack i => .next (ackEnded i clips s)

/-- `RX_WINDOW_CLOSE` (R179, R181): a window's duration ends, while a preamble begun in it may be on its way to its
detection (`begun`); or that preamble has come to nothing. -/
def execRxWindowClose (th : Fin 32) (slot : Fin 4) (begun : Bool) (s : State) : Ans :=
  let n := th.val
  let k := slot.val
  let a := s.act n k
  if ¬ isPending a then .next s
  else if a.stage = .rxOpen then
    let s := s.passTo a.endAt
    if frameInWindow s a ∨ begun then .next (syncRxOpen (s.setAct n k { a with stage := .closing, awaits := begun }))
    else .next (settleWindows (endWindow n k s))
  else if a.stage = .closing ∧ a.awaits ∧ ¬ begun then .next (settleWindows (s.setAct n k { a with awaits := false }))
  else .next s

end Sys2Proof.Machine
end

