-- ==== Sys2Proof/Machine/Deliver.lean ====
section
/-!
DEFINITION. Deliveries: delivery rings and queues (R22, R124, R125, R290), descriptors and PHY reports of
line and radio frames (R226, R268, R291, R326), and what a received frame says.
-/

namespace Sys2Proof.Machine

/-! ### Rings and queues -/

/-- Ring of a drawer: size in bytes, and room (R290). -/
def ringSize (s : State) (d : Nat) : Nat := 4096 * 2 ^ min 10 (s.get (fldOf d F.dlvRingCfgSizeLog2))
def ringWr (s : State) (d : Nat) : Nat := s.get (fldOf d F.dlvRingWrWr)
def ringRoom (s : State) (d : Nat) : Nat :=
  (s.get (fldOf d F.dlvRingRdRd) % ringSize s d + 2 * ringSize s d - ringWr s d - 16) % ringSize s d

/-- Bytes that a payload takes, padded to 16. -/
def padded (n : Nat) : Nat := 16 * ceilDiv n 16

/-- Offset at which a payload goes, and the bytes it consumes: one that does not fit before the end starts at
0, and the tail counts. -/
def ringPlace (s : State) (d n : Nat) : Nat × Nat :=
  if ringWr s d + padded n ≤ ringSize s d then (ringWr s d, padded n) else (0, ringSize s d - ringWr s d + padded n)

/-- What a delivery meets. -/
inductive Fit where
  /-- it can be delivered -/
  | ok
  /-- no drawer takes it (R22, R125) -/
  | refused
  /-- no room in the queue, or in the ring (R124, R290) -/
  | full (ring : Bool)
deriving DecidableEq, Repr

/-- Queue `q` of drawer `d` takes a delivery with a payload of `n` bytes. -/
def fits (s : State) (d q n : Nat) : Fit :=
  if ownerQueue s q ≠ some d ∨ ¬ queueOn s q ∨ s.on (F.queueCfgDir q) ∨ s.get (F.queueCfgEndpoint q) ≠ 5 ∨
      drawerInReset s d ∨ ¬ s.on (fldOf d F.dlvRingCfgEnable) then .refused
  else if queueRoom s q < 4 then .full false
  else if 0 < n ∧ ringRoom s d < (ringPlace s d n).2 then .full true
  else .ok

/-- The payload goes into the ring; its offset in `BULK`. -/
def ringPut (d : Nat) (l : List Byte) (s : State) : State × Nat :=
  if l.isEmpty then (s, 64 * s.get (fldOf d F.dlvRingCfgBase) + ringWr s d)
  else
    let (o, used) := ringPlace s d l.length
    let at' := 64 * s.get (fldOf d F.dlvRingCfgBase) + o
    let s := wrBulkL s d at' (l ++ List.replicate (padded l.length - l.length) 0#8)
    (s.put (fldOf d F.dlvRingWrWr) ((ringWr s d + used) % ringSize s d), at')

/-- Words of a descriptor with no uncorrectable one. -/
def cleanWords (l : List Nat) : List QWordP := l.map fun v => ⟨BitVec.ofNat 128 v, false⟩

/-! ### Line reports (R226, R268, R291) -/

/-- Offset of an instant after the numbered crossing of a phase that precedes it, in 1/65,536 of the period in
force there, to the nearest; of an offset in a lengthened slot 7 that 16 bits do not hold the spec states no
value, and it is free. -/
def zxOffset (s : State) (p t : Nat) : Nat :=
  let c := cycleOf s p (cycleAt s p t)
  let n := (2 * 65536 * ((t : Int) - c.1).toNat + c.2) / (2 * c.2)
  if n < 65536 then n else Config.longOffset n % 65536

/-- Reference instant of a frame (R31): 1,024 µs after the start of a native preamble, eight symbols after
that of a Sweep one. -/
def refOf (fam sf band : Nat) (start : Time) : Time :=
  if fam = 1 then after start (nsSteps (8 * sweepTs band sf)) else after start (usSteps 1024)

/-- SNR of a chain in a report: 0x80 when it took no part. -/
def snrOf (chains : Nat) (l : List (BitVec 8)) (c : Nat) : Nat :=
  if bitAt chains c then ((l[c]?).getD 0x80#8).toNat else 0x80

/-- The PHY report (R226). -/
def phyReport (fam mode tmapId phaseCode : Nat) (long : Bool) (chains : Nat) (snr : List (BitVec 8)) (level primary
    pga : Nat) (freqOfs : BitVec 16) : Nat :=
  freqOfs.toNat + mode % 32 * 2 ^ 16 + tmapId % 16 * 2 ^ 21 + phaseCode % 4 * 2 ^ 25 + b2n long * 2 ^ 27 +
    fam % 4 * 2 ^ 28 + chains % 64 * 2 ^ 32 +
    sumNat ((List.range 6).map fun c => snrOf chains snr c * 2 ^ (40 + 8 * c)) +
    level % 256 * 2 ^ 88 + primary % 8 * 2 ^ 96 + pga % 8 * 2 ^ 99

/-- The report of a frame of the native MAC. -/
def reportOf (g : LineGot) : Nat :=
  phyReport g.fam (if g.fam = 1 then g.sf + 16 * b2n g.hdr.rep4 else g.hdr.mode)
    (if g.fam = 1 then 15 else g.hdr.tmapId) g.hdr.phaseCode (g.fam == 0 && g.hdr.longPrefix) g.chains g.rx.snr
    (g.levels.getD g.primary 0) g.primary g.pga g.freq

/-! ### What a received frame says -/

/-- A received frame of either medium, as the judgement reads it. -/
structure MFrame where
  line : Bool
  ftype : Nat
  level : Nat
  ackReq : Bool
  seq : Nat
  hops : Nat
  dest : Nat
  src : Nat
  /-- address that names its context: `END` on the line, `SRC` on the radio -/
  far : Nat
  counter : Nat
  payload : List Byte
  /-- authenticated data and MIC as they came (R356) -/
  auth : List Byte
  mic : List Byte
  mismatch : Bool
  /-- a reset of the cipher island cut its cipher work (R518) -/
  cut : Bool
  crcOk : Bool
  endAt : Time
  ref : Time
  freqOfs : BitVec 16
deriving DecidableEq, Repr

/-- Fields of `FRAME_CONTROL` (R280). -/
def fcType (v : BitVec 24) : Nat := v.toNat % 16
def fcLevel (v : BitVec 24) : Nat := bitsOf v.toNat 6 4
def fcAckReq (v : BitVec 24) : Bool := v.getLsbD 7
def fcSeq (v : BitVec 24) : Nat := bitsOf v.toNat 15 8
def fcHopsDone (v : BitVec 24) : Nat := bitsOf v.toNat 22 20

def mframe : Got → MFrame
  | .line g =>
    { line := true, ftype := fcType g.hdr.fc, level := fcLevel g.hdr.fc, ackReq := fcAckReq g.hdr.fc
      seq := fcSeq g.hdr.fc, hops := fcHopsDone g.hdr.fc, dest := g.rx.dest, src := g.rx.src, far := g.rx.far
      counter := g.rx.fc, payload := g.rx.payload
      auth := lineAuth (fcType g.hdr.fc) (fcLevel g.hdr.fc) (fcAckReq g.hdr.fc) (fcSeq g.hdr.fc) g.rx.far g.rx.fc
      mic := g.rx.mic, mismatch := g.rx.mismatch, cut := g.cut, crcOk := g.rx.crcOk, endAt := g.rx.endAt
      ref := refOf g.fam g.sf g.band g.start, freqOfs := g.freq }
  | .radio r cut =>
    { line := false, ftype := r.ftype, level := r.secLevel, ackReq := r.ackReq, seq := r.seq, hops := 0
      dest := r.dest, src := r.src, far := r.src, counter := r.fc, payload := r.payload
      auth := radioAuth (radioFctl r.ftype r.secLevel r.ackReq r.pending r.evtValid r.fctlTop) r.seq r.dest r.src r.evt r.fc
      mic := r.mic, mismatch := r.mismatch, cut := cut, crcOk := true, endAt := r.endAt, ref := r.refAt
      freqOfs := r.freqOfs }

/-- A frame with its payload decrypted. -/
def opened (p : List Byte) : Got → Got
  | .line g => .line { g with rx := { g.rx with payload := p } }
  | .radio r cut => .radio { r with payload := p } cut

/-! ### Descriptors (R291, R326) -/

/-- Word 0 of a delivery. -/
def dlvWord0 (prio op : Nat) (f : MFrame) (ctx : Option Nat) (unverified changed : Bool) (ofs : Nat) : Nat :=
  3 + prio % 4 * 4 + op * 16 + (f.seq + f.ftype * 256) * 2 ^ 16 + (ctx.getD 0x3FFF) % 2 ^ 14 * 2 ^ 32 +
    b2n unverified * 2 ^ 46 + b2n changed * 2 ^ 47 + f.far % 2 ^ 16 * 2 ^ 48 + ofs % 2 ^ 32 * 2 ^ 64 +
    f.payload.length % 4096 * 2 ^ 96 + f.level % 8 * 2 ^ 108 + f.hops % 8 * 2 ^ 111 + b2n ctx.isNone * 2 ^ 114

/-- Word 1 of a delivery. -/
def dlvWord1 (f : MFrame) : Nat := f.ref.toNat + (if f.level = 0 then 0 else f.counter % 2 ^ 32) * 2 ^ 64

/-- Word 3 of a line delivery; before the first opening no superframe slot has an index, and it is free. -/
def lineWord3 (s : State) (t phaseWord : Nat) : Nat :=
  zxOffset s 0 t + zxOffset s 1 t * 2 ^ 16 + zxOffset s 2 t * 2 ^ 32 + phaseWord % 2 ^ 16 * 2 ^ 48 +
    (if s.line.sf.running then anchorIndex s t else s.free) % 2 ^ 11 * 2 ^ 64

/-- Word 2 of a radio delivery: `w` is the widening of the window it came in. -/
def radioWord2 (r : RfRx) (w : Nat) : Nat :=
  r.freqOfs.toNat + r.opmode % 4 * 2 ^ 16 + b2n r.fec * 2 ^ 18 + b2n r.whiten * 2 ^ 19 + r.chan % 64 * 2 ^ 20 +
    r.rssi.toNat * 2 ^ 32 + r.snr.toNat * 2 ^ 40 + r.evt % 2 ^ 16 * 2 ^ 48 + w % 2 ^ 16 * 2 ^ 64

/-- Widening of a window that holds a radio frame; 0 when none does. -/
def windowW (s : State) (r : RfRx) : Nat :=
  match pendingActs s fun a => (a.stage == .rxOpen || a.stage == .closing) && (match a.body with
      | .rrx d => rrxHits a d r.chan r.opmode r.fec r.whiten r.start
      | _ => false) with
  | [] => 0
  | p :: _ => (s.act p.1 p.2).w

/-- Words 2 and 3 of a delivery, the context's after its update. -/
def dlvTail (s : State) (g : Got) (ctx : Option Nat) : Nat × Nat :=
  match g with
  | .line l =>
    (reportOf l, lineWord3 s (refOf l.fam l.sf l.band l.start).toNat ((ctx.map fun c => (ctxWord s c 5).toNat).getD 0))
  | .radio r _ =>
    (radioWord2 r (windowW s r),
      (ctx.map fun c => (if connState s c = 0 then 0 else nearestCounter s c r.refAt.toNat) + connState s c * 2 ^ 16).getD 0)

/-- `OP` of a delivery. -/
def dlvOp : Got → Nat
  | .line g => 1 + g.fam
  | .radio .. => 4

/-- The delivery of a frame to queue `q` of drawer `d`. -/
def deliver (d q prio : Nat) (g : Got) (ctx : Option Nat) (unverified changed : Bool) (s : State) : State :=
  let f := mframe g
  let (w2, w3) := dlvTail s g ctx
  let s := if f.line ∧ ¬ s.line.sf.running then s.drew else s
  let (s, ofs) := ringPut d f.payload s
  queueWrite s q (cleanWords [dlvWord0 prio (dlvOp g) f ctx unverified changed ofs, dlvWord1 f, w2, w3]) prio

/-- A delivery refused: no drawer takes it, or no room (R22, R124, R290). -/
def countRefused (d : Nat) (r : Fit) (s : State) : State :=
  match r with
  | .ok => s
  | .refused => occur (bumpStat R.delivRefusedCnt ncpOvf s) 232
  | .full ring =>
    let s := occur (bumpStat R.delivFullCnt ncpOvf s) 233
    if ring then occur s (70 + d) else s

end Sys2Proof.Machine
end

