-- ==== Sys2Proof/Machine/Judge.lean ====
section
/-!
DEFINITION. The judgement of received frames (R289, R297, R325, R357, R358): context, security, duplicates,
delivery, the context's one update (R25), tone-map responses (R288), association (R287), phase
identification (R301, R302), and the commands `FRAME_END`, `RF_FRAME_RX`, `SFD_DETECTED` and
`COMPAT_FRAME_RX`.
-/

namespace Sys2Proof.Machine

/-! ### Security (R281, R282, R297, R312, R357, R358) -/

/-- A level the type allows. -/
def levelAllowed (line : Bool) (ftype level : Nat) : Bool :=
  match ftype with
  | 0 | 2 => level == 0
  | 1 => true
  | 6 => line
  | _ => level != 0

/-- Nonce of a frame of node `c` (R356). -/
def rxNonce (s : State) (c : Nat) (f : MFrame) : List Byte := frameNonce (ctxEui s c) f.counter f.level

/-- A frame's payload under the key of position `p`. -/
def plainOf (s : State) (c p : Nat) (f : MFrame) : List Byte :=
  frameText (posKey s c p) (rxNonce s c f) f.level f.payload

/-- The MIC of a frame verifies under the key of position `p` (R356). -/
def verifies (s : State) (c p : Nat) (f : MFrame) : Bool :=
  frameMic (posKey s c p) (rxNonce s c f) f.auth f.level (plainOf s c p f) == f.mic

/-- The first key position that verifies a frame: `CURRENT`, `NEXT`, `RETIRED` (R357). -/
def verifyPos (s : State) (c : Nat) (f : MFrame) : Option Nat :=
  ([roleCurrent, roleNext, roleRetired].filterMap (keyPosOf s c)).find? fun p => verifies s c p f

/-- A frame is a duplicate: by its counter when secured, else by the last accepted `SEQ` within 2 s. -/
def isDup (s : State) (c : Nat) (f : MFrame) (pos : Option Nat) : Bool :=
  match pos with
  | some p => rxSeen s c p && decide (f.counter ≤ rxFc s c p)
  | none =>
    ctxBits s c 16 8 8 == 1 && ctxBits s c 16 7 0 == f.seq &&
      decide ((f.endAt.toNat / 2 ^ 16 + 2 ^ 32 - (ctxWord s c 17).toNat) % 2 ^ 32 ≤ 2 * 2 ^ 16)

/-! ### Acknowledgements (R27, R292, R293, R327) -/

/-- Required SNR of a rung in half dB. -/
def rungSnr (r : Nat) : Int :=
  match r with
  | 1 => 34 | 2 => 26 | 3 => 20 | 4 => 12 | 5 => 6 | 6 => -6 | _ => -10

/-- The most demanding rung an SNR in half dB allows (R293). -/
def adviceFor (s : State) (snr : Int) : Nat :=
  (findFirst (fun r => decide (rungSnr r ≤ snr - 2 * (s.get F.lmacArqAdviceMargin : Int))) [1, 2, 3, 4, 5, 6, 7]).getD 7

/-- SNR in half dB of a chain in a frame's list. -/
def snrAt (l : List (BitVec 8)) (c : Nat) : Int := ((l[c]?).getD 0x80#8).toInt

/-- Weight of a chain's SNR in a mean; the scale of the weights is the implementation's (assumption 121). -/
def weightOf (l : List (BitVec 8)) (c : Nat) : Nat := max 1 (Config.snrWeight (snrAt l c))

/-- Mean of a value over chains, each weighted by its SNR (R247, R293), to the nearest below. -/
def snrMean (snr : List (BitVec 8)) (chains : List Nat) (v : Nat → Int) : Int :=
  sumInt (chains.map fun c => weightOf snr c * v c) / (max 1 (sumNat (chains.map (weightOf snr))) : Nat)
where
  sumInt : List Int → Int
    | [] => 0
    | x :: l => x + sumInt l

/-- The combined SNR of a frame, in half dB: the mean over the members of its set (R293). -/
def combinedSnr (g : LineGot) : Int :=
  snrMean g.rx.snr ((List.range 6).filter (bitAt g.chains)) (snrAt g.rx.snr)

/-- The acknowledgement of a received frame is committed; its context is held until it ends (R23, R24). -/
def commitAck (g : Got) (ctx : Option Nat) (s : State) : State :=
  let f := mframe g
  let pend := (ctx.map fun c => ctxBits s c 4 3 3).getD 0
  let body : AckBody := match g with
    | .line l => .line l.fam l.sf l.band l.chains l.primary (adviceFor s (combinedSnr l)) pend
    | .radio r _ => .radio r.chan r.opmode r.fec r.whiten (r.ftype == 10) (if r.evtValid then r.evt + 1 else 0) pend
  let due := after f.endAt (msSteps 1)
  let s := { s with line := { s.line with acks := s.line.acks ++ [⟨due, due, none, f.seq, ctx, body⟩] } }
  match ctx with
  | some c => hold c s
  | none => s

/-- The frame asks for an acknowledgement; that it is for the block, step 2 has seen to, a broadcast included
(R287 to R289). -/
def asksAck (f : MFrame) : Bool := f.ackReq

/-- The second copy of a frame that ends within 1.0 ms of the first, whose acknowledgement stands (R27). -/
def copyOfDue (s : State) (c : Nat) (f : MFrame) : Bool :=
  s.line.acks.any fun a => a.ctx == some c && a.seq == f.seq && decide (f.endAt.toNat ≤ a.due.toNat)

/-! ### Windows (R140, R179) -/

/-- The window of an action holds a frame: chains, families and the source filter. -/
def windowTakes (a : Act) (g : Got) : Bool :=
  (a.stage == .rxOpen || a.stage == .closing) &&
    (match a.body, g with
     | .rxw d, .line l =>
       ((List.range 6).any fun c => bitAt l.chains c && detHits a d c ⟨l.fam, l.sf, 0, 0, 0, l.start, l.start⟩) &&
         (!d.filterEn || d.src == l.rx.src)
     | .rrx d, .radio r _ => rrxHits a d r.chan r.opmode r.fec r.whiten r.start && (!d.filterEn || d.src == r.src)
     | _, _ => false)

/-- An accepted frame completes every window that holds it. -/
def windowsDone (g : Got) (info : Nat) (s : State) : State :=
  syncRxOpen (forActs (pendingActs s fun a => windowTakes a g) (fun n k s => endAct n k stDone 0 info s) s)

/-- A verified frame of node `c` was heard in every radio window of that node (R321). -/
def windowsHeard (c : Nat) (g : Got) (s : State) : State :=
  match g with
  | .line _ => s
  | .radio r _ =>
    forActs (pendingActs s fun a => (a.stage == .rxOpen || a.stage == .closing) && (match a.body with
        | .rrx d => d.ctx == some c && rrxHits a d r.chan r.opmode r.fec r.whiten r.start
        | _ => false)) (fun n k s => s.setAct n k { s.act n k with heard := true }) s

/-! ### Link metrics, phase identification, neighbours (R284, R299 to R302) -/

/-- Link metrics of a node from a frame. -/
def linkUpdate (c : Nat) (g : Got) (s : State) : State :=
  match g with
  | .radio .. => s
  | .line l =>
    update c (.link l.band (((List.range 6).filter fun x => bitAt l.chains x).map fun x =>
      (chainPhase x, snrOf l.chains l.rx.snr x, l.levels.getD x 0))) s

/-- Distance d(p, h) of R301. -/
def phaseDist (o m h : Nat) : Nat :=
  let v : Int := ((o : Int) - m - 32768 * h + 32768) % 65536 - 32768
  v.natAbs

/-- The result of R301: phase, polarity and distance. -/
def phaseResult (s : State) (t m : Nat) : Nat × Nat × Nat :=
  let l := [0, 1, 2].flatMap fun p => [0, 1].map fun h => (p, h, phaseDist (zxOffset s p t) m h)
  (findFirst (fun x => l.all fun y => decide (x.2.2 ≤ y.2.2)) l).getD (0, 0, 0)

def phaseVotes (s : State) : Nat := max 1 (s.get F.lmacPhaseidPhaseVotes)

/-- A result for the candidate pair: votes, and the stored pair at `PHASE_VOTES`; whether a stored pair
changed. -/
def phaseVote (c p h : Nat) (s : State) : State × Bool :=
  let same := ctxBits s c 5 9 8 = p ∧ ctxBits s c 5 10 10 = h ∧ 0 < ctxBits s c 5 7 4
  let v := if same then min 15 (ctxBits s c 5 7 4 + 1) else 1
  let s := setCtxBits c 5 7 4 v (setCtxBits c 5 10 10 h (setCtxBits c 5 9 8 p s))
  if v < phaseVotes s then (s, false)
  else
    let changed := ctxBits s c 5 1 0 != 3
    let s := setCtxBits c 5 2 2 h (setCtxBits c 5 1 0 p s)
    (if changed then occur s 59 else s, changed)

/-- Phase identification of a node from its reported offset (R301, R302). -/
def identify (c t mzx : Nat) (s : State) : State × Bool :=
  let m := (mzx + ctxBits s c 6 15 0) % 65536
  let r := phaseResult s t m
  if s.get F.lmacPhaseidPhaseTol < r.2.2 then
    (occur (bumpStat R.lmacPhaseUncCnt macOvf (setCtxBits c 5 7 4 0 (setCtxBits c 5 3 3 1 s))) 60, false)
  else
    let s := setCtxBits c 5 3 3 0 s
    if ctxBits s c 5 1 0 = r.1 ∧ ctxBits s c 5 2 2 = r.2.1 then (setCtxBits c 5 7 4 0 s, false)
    else phaseVote c r.1 r.2.1 s

/-- The reported offset of a frame, when it is valid (R284). -/
def mzxOf (f : MFrame) : Option Nat :=
  if ¬ f.line ∨ f.hops ≠ 0 then none
  else if f.ftype = 3 ∧ 12 ≤ f.payload.length ∧ bitAt (fieldAt f.payload 9 1) 0 then some (fieldAt f.payload 10 2)
  else if f.ftype = 5 ∧ 3 ≤ f.payload.length ∧ bitAt (fieldAt f.payload 2 1) 0 then some (fieldAt f.payload 0 2)
  else none

/-- Neighbours that a verified `STATUS` reports (R366). -/
def neighbours (c : Nat) (f : MFrame) (s : State) : State :=
  if ¬ f.line ∨ f.ftype ≠ 5 ∨ f.payload.length < 4 then s
  else
    let e := min 8 (fieldAt f.payload 3 1)
    let s := setCtx c 185 (BitVec.ofNat 32 (s.tb.toNat / 2 ^ 32)) (setCtx c 184 (BitVec.ofNat 32 e) s)
    foldUpto e (fun i s => setCtx c (186 + i) (BitVec.ofNat 32 (fieldAt f.payload (4 + 4 * i) 4)) s) s

/-- Contexts whose record word `k` has bit `b` set. -/
def ctxsWith (s : State) (k b : Nat) : Nat :=
  (s.ncp.slots.filter fun e => ctxBits s e.ctx k b b == 1).length +
    (s.nand.ctx.filter fun e => e.1 % 512 == k && bitAt e.2.toNat b && !resident s (e.1 / 512)).length

/-- A verified association request that says `CAPABLE` (R287). -/
def markCapable (c : Nat) (f : MFrame) (s : State) : State :=
  if ¬ f.line ∨ f.ftype ≠ 3 ∨ ¬ bitAt (fieldAt f.payload 8 1) 0 ∨ ctxBits s c 9 4 4 = 1 then s
  else if ctxsWith s 9 4 < 1024 then setCtxBits c 9 4 4 1 s
  else s.put F.lmacRouteStatCapFull 1

/-! ### Tone-map responses (R288) -/

/-- The conditions of R288. -/
def tmapOk (s : State) (f : MFrame) : Bool :=
  let i := fieldAt f.payload 0 1
  let plan := fieldAt f.payload 1 1
  decide (4 ≤ f.payload.length) && decide (i < 4) && plan == planOf s (i / 2) &&
    fieldAt f.payload 2 2 == maskGen s (i / 2) && f.payload.length - 4 == (planCarriers (i / 2) plan).2

/-- A word of bytes of a list. -/
def wordAt (l : List Byte) (o : Nat) : Word := BitVec.ofNat 32 (fieldAt l o 4)

/-- A tone-map response is written, or rejected. -/
def takeTmap (c : Nat) (f : MFrame) (s : State) : State :=
  if ¬ tmapOk s f then occur (bumpStat R.lmacTmapRejCnt macOvf s) 57
  else
    let i := fieldAt f.payload 0 1
    let w0 := 1 + 2 * (i / 2) + 4 * (i % 2) + fieldAt f.payload 1 1 * 2 ^ 8 + fieldAt f.payload 2 2 * 2 ^ 16
    let s := setCtx c (mapBase i) (BitVec.ofNat 32 w0) s
    let s := setCtx c (mapBase i + 1) (BitVec.ofNat 32 (s.tb.toNat / 2 ^ 32)) s
    let s := foldUpto 22 (fun k s => setCtx c (mapBase i + 2 + k) (wordAt f.payload (4 + 4 * k)) s) s
    occur (setCtxBits c 7 15 8 0 (setCtxBits c 7 2 0 0 (clearBad c (mapBase i) 24 s))) 56

/-! ### Acceptance (R25, R289 step 10) -/

/-- Security state of the verifying key after an accepted frame (R354, R357, R358), journaled (R375), or of an
unsecured one (R297). -/
def acceptKey (c : Nat) (f : MFrame) (pos : Option Nat) (s : State) : State :=
  match pos with
  | some p =>
    let s := setRxSeen c p true (setCtxJ c (keyBase p + 10) (BitVec.ofNat 32 f.counter) s)
    let s := journal c 19 (journal c (keyBase p + 11) s)
    let s := rekeyWarn c p f.counter s
    if keyRole s c p = roleNext then promote c s else s
  | none =>
    setCtx c 17 (BitVec.ofNat 32 (f.endAt.toNat / 2 ^ 16)) (setCtx c 16 (BitVec.ofNat 32 (f.seq % 256 + 256)) s)

/-- The one update of an accepted frame (R25); whether its phase changed. -/
def acceptUpdate (c : Nat) (f : MFrame) (pos : Option Nat) (s : State) : State × Bool :=
  let s := acceptKey c f pos s
  let s := setCtx c 12 (BitVec.ofNat 32 (f.freqOfs.toNat + 2 ^ 16 + b2n (!f.line) * 2 ^ 17)) s
  let s := setCtx c 13 (BitVec.ofNat 32 (s.tb.toNat / 2 ^ 32)) s
  let s := setCtxPair c 14 f.ref s
  let s := if f.line ∨ pos.isNone then s else applySync c f.ref.toNat s
  let s := ctxStat c 288 (markCapable c f (neighbours c f s))
  if pos.isNone then (s, false)
  else
    match mzxOf f with
    | some m => identify c f.ref.toNat m s
    | none => (s, false)

/-- An accepted frame that is not delivered itself: a tone-map response, or an empty poll (R288, R323). -/
def keptBack (f : MFrame) : Bool := (f.line && f.ftype == 7) || (!f.line && f.ftype == 10 && f.payload.isEmpty)

/-- A verified frame whose event counter differs (R325), and a verified poll (R323). -/
def radioMarks (c : Nat) (g : Got) (pos : Option Nat) (s : State) : State :=
  match g with
  | .line _ => s
  | .radio r _ =>
    if pos.isNone then s
    else
      let s := if r.evtValid ∧ connState s c ≠ 0 ∧ r.evt ≠ nearestCounter s c r.refAt.toNat then
          occur (bumpStat R.rfEvtMismatchCnt rfOvf s) 92 else s
      if r.ftype = 10 then occur s 87 else s

/-- A verified poll whose delivery no drawer takes is acknowledged, and so it is raised and completes its windows
like any other (R323). -/
def pollRefused (c : Nat) (g : Got) (pos : Option Nat) (s : State) : State :=
  match g with
  | .line _ => s
  | .radio r _ => if r.ftype = 10 ∧ pos.isSome then windowsDone g c (occur s 87) else s

/-- Steps 9 and 10 (R289). -/
def judgeDeliver (c : Nat) (g : Got) (pos : Option Nat) (s : State) : State :=
  let f := mframe g
  let q := ctxBits s c 3 5 0
  let d := (ownerCtx s c).getD 4
  let fit := if keptBack f then Fit.ok else if (ownerCtx s c).isNone then .refused else fits s d q f.payload.length
  let s := linkUpdate c g s
  match fit with
  | .ok =>
    let s := radioMarks c g pos s
    let (s, changed) := acceptUpdate c f pos s
    let s := if f.line ∧ f.ftype = 7 then takeTmap c f s
      else if keptBack f then s
      else deliver d q (ctxBits s c 3 7 6) g (some c) false changed s
    let s := windowsDone g c s
    if asksAck f then commitAck g (some c) s else s
  | .refused =>
    let s := pollRefused c g pos (countRefused d fit s)
    if asksAck f then commitAck g (some c) s else s
  | .full _ => countRefused d fit s

/-- A duplicate (R26, R27, R297). -/
def judgeDup (c : Nat) (g : Got) (s : State) : State :=
  let f := mframe g
  let s := if f.line then occur (bumpStat R.lmacDupRx macOvf s) 50 else occur (bumpStat R.rfDupRx rfOvf s) 88
  let s := linkUpdate c g (ctxStat c 293 s)
  if asksAck f ∧ ¬ copyOfDue s c f then commitAck g (some c) s else s

/-- A frame below its required level. -/
def countSecLow (s : State) : State := occur (bumpStat R.lmacSecLowCnt macOvf s) 52

/-- Record words that a frame's judgement looks at, up to its verification; a verified frame that reports its offset
also needs those of the phase. -/
def judgeWords (f : MFrame) : List Nat :=
  [3, 4] ++ (if f.level = 0 then [16, 17] else [0, 1] ++ (List.range 24).map (· + 20))

def phaseWords (f : MFrame) : List Nat := if (mzxOf f).isSome then [5, 6] else []

/-- Steps 5 to 10 on a resident context (R289); a marked word that they need discards the frame (R472). -/
def judgeCtx (c : Nat) (g : Got) (s : State) : State :=
  let f := mframe g
  let s := touch c s
  if ¬ f.crcOk then s
  else if (judgeWords f).any (ctxBad s c) then bumpStat R.ctxPoisonDropCnt tnlOvf s
  else if f.level < ctxBits s c 4 2 0 then ctxStat c 295 (countSecLow s)
  else if ¬ levelAllowed f.line f.ftype f.level then countSecLow s
  else if f.level = 0 then if isDup s c f none then judgeDup c g s else judgeDeliver c g none s
  else if f.cut ∨ islandHeld s 1 then s
  else if f.mismatch then cipherFault s
  else
    match verifyPos s c f with
    | none =>
      let s := if f.line then occur (bumpStat R.lmacMicFailCnt macOvf s) 51 else occur (bumpStat R.rfMicFailCnt rfOvf s) 89
      ctxStat c 292 s
    | some p =>
      let g := opened (plainOf s c p f) g
      if (phaseWords (mframe g)).any (ctxBad s c) then bumpStat R.ctxPoisonDropCnt tnlOvf s
      else
      let s := windowsHeard c g s
      if ¬ fcValid s f.counter then occur (occur (bumpStat R.ciphFcInvalidCnt ciphOvf s) 225) 220
      else if isDup s c f (some p) then judgeDup c g s
      else judgeDeliver c g (some p) s

/-! ### Contexts (R23, R24, R287, R289 steps 2 to 4, R373) -/

/-- Step 4: the frame is judged at once, or held for its context until its deadline. -/
def judgeOn (c : Nat) (g : Got) (s : State) : State :=
  if resident s c then judgeCtx c g s
  else if 32 ≤ framesBuffered s then ctxLate c (bumpStat R.ncpBufFullCnt ncpOvf s)
  else
    let s := { s with line := { s.line with held := s.line.held ++ [⟨g, c, after (mframe g).endAt (msSteps 1)⟩] } }
    requestMissAt s.tbCopy (after (mframe g).endAt (msSteps 1)) c 1 (hold c s)

/-- A frame that resolved to no context. -/
def countUnknown (s : State) : State := occur (bumpStat R.lmacUnknownCnt macOvf s) 58

/-- An association request of an unknown node (R287). -/
def judgeUnknown (g : Got) (s : State) : State :=
  let f := mframe g
  let q := s.get F.lmacAssocCfgUnknownQueue
  if ¬ s.on F.lmacAssocCfgUnknownEn then countUnknown s
  else if ¬ f.crcOk then s
  else if f.level = 0 then countSecLow s
  else
    let fit := fits s 0 q f.payload.length
    match fit with
    | .ok =>
      let s := windowsDone g 0xFFFF (deliver 0 q 0 g none true false s)
      if asksAck f then commitAck g none s else s
    | .refused =>
      let s := countRefused 0 fit s
      if asksAck f then commitAck g none s else s
    | .full _ => countRefused 0 fit s

/-- EUI-64 that an association request names. -/
def payloadEui (f : MFrame) : Nat := leNat (f.payload.take 8)

/-- Steps 2 to 4 (R289, R325): the frame's destination, its context, which may have resolved already (R24, R382), its
residence. -/
def judge (g : Got) (res : Option Nat) (s : State) : State :=
  let f := mframe g
  if f.dest ≠ s.get F.lmacOwnShort ∧ f.dest ≠ 0xFFFF then
    match (if f.line then idxFind s (.short f.src) else none) with
    | some c => linkUpdate c g s
    | none => s
  else
    match res, f.ftype == 3 with
    | some c, _ => judgeOn c g s
    | none, true =>
      match idxFind s (.eui (payloadEui f)) with
      | some c => judgeOn c g s
      | none => judgeUnknown g s
    | none, false =>
      match idxFind s (.short f.far) with
      | some c => judgeOn c g s
      | none => countUnknown s

/-! ### `FRAME_END` -/

/-- Context that the source of a frame resolved to: of a frame for the block or for all the context found as its
addresses came, or else found now; of another node's frame that of its link transmitter (R24, R254, R300). -/
def sourceCtx (s : State) (f : MFrame) (res : Option (Nat × Bool)) : Option Nat :=
  if f.dest ≠ s.get F.lmacOwnShort ∧ f.dest ≠ 0xFFFF then idxFind s (.short f.src)
  else match res with
    | some x => some x.1
    | none => if f.ftype = 3 then idxFind s (.eui (payloadEui f)) else idxFind s (.short f.far)

/-- A tone map of the frame's node is marked when the channel stepped (R254). -/
def markStep (g : LineGot) (res : Option (Nat × Bool)) (s : State) : State :=
  match sourceCtx s (mframe (.line g)) res with
  | some c => if g.step then update c (.mark (mapIndex g.band (g.hdr.phaseCode == 3))) s else s
  | none => s

/-- A line frame of the native MAC that has ended marks a map where the channel stepped, and is judged; a header-only
frame says nothing, and one of level 4 and one discarded already nothing to judge (R254, R280, R281, R294, R373). -/
def judgeLine (g : LineGot) (res : Option (Nat × Bool)) (s : State) : State :=
  let f := mframe (.line g)
  if g.hdr.length = 0 ∨ f.ftype = 2 then s
  else
    let s := markStep g res s
    if f.level = 4 ∨ (res.map Prod.snd) = some true then s else judge (.line g) (res.map Prod.fst) s

/-- What a set's reception shows at its end: members, primary chain, levels, and the mean frequency offset (R247). -/
def setGot (s : State) (fam : Nat) (l : List (Nat × Nat)) (r : Recv) (rx : LineRx) : LineGot :=
  let p := primaryOf s l
  { fam := fam, sf := r.det.sf, hdr := r.hdr, rx := rx, chains := sumNat (l.map fun q => 2 ^ q.1), primary := p.1
    band := chainBand p.1
    start := ((current s p.1 p.2).map fun x => x.det.start).getD r.det.start
    levels := (List.range 6).map fun c =>
      ((findFirst (fun (q : Nat × Nat) => q.1 == c) l).bind fun q => (current s q.1 q.2).map fun x => x.det.power).getD 0
    pga := s.get (F.lphyRxstatPgaNow p.1)
    freq := BitVec.ofInt 16 (snrMean rx.snr (l.map Prod.fst) fun c => ((rx.freqOfs[c]?).getD 0#16).toInt)
    step := r.setStep, cut := r.cut }

/-- Counters of a frame's end (R249, R265). -/
def countEnd (fam : Nat) (l : List (Nat × Nat)) (crcOk : Bool) (s : State) : State :=
  let s := if 2 ≤ l.length then bumpStat R.lphyCombCnt phyOvf s else s
  if fam = 1 ∧ crcOk then bumpStat (R.swpRxCnt (chainBand ((l.head?.map Prod.fst).getD 0))) phyOvf s else s

/-- The decoders of a set become free: of a chain's two Sweep contexts the candidate first. -/
def freeSet (l : List (Nat × Nat)) (s : State) : State := l.foldl (fun s p => takeUp p.1 p.2 s) s

/-- `FRAME_END` (R240, R249, R289): the last symbol of the frame that a native or Sweep decoder of chain `c` holds ends
on every member of its set; the decoders apply the take-up rule and the frame is judged. -/
def execFrameEnd (c : Fin 6) (dec : Fin 4) (rx : LineRx) (s : State) : Ans :=
  let s := stopIdle s
  match current s c.val dec.val with
  | none => .next s
  | some r =>
    if ¬ r.valid ∨ dec.val = 2 then .next s
    else
      let s := s.passTo rx.endAt
      let fam := decFam dec.val
      let l := setMembers s fam r.set
      let g := setGot s fam l r rx
      .next (settleWindows (judgeLine g r.res (freeSet l (countEnd fam l rx.crcOk s))))

/-! ### Compatibility frames (R235) -/

/-- The frame is addressed to the block alone. -/
def compatOurs (s : State) (rx : CompatRx) : Bool :=
  rx.pan == s.get F.lphyCompatAddrPan &&
    (match rx.short, rx.eui with
     | some v, _ => v != 0xFFFF && v == s.get F.lphyCompatAddrShort
     | none, some e => e == (s.rd (R.lphyCompatEui 0)).toNat + (s.rd (R.lphyCompatEui 1)).toNat * 2 ^ 32
     | none, none => false)

/-- The frame is a broadcast within the PAN identifier. -/
def compatAll (s : State) (rx : CompatRx) : Bool :=
  rx.pan == s.get F.lphyCompatAddrPan && rx.short == some 0xFFFF

/-- Whether the compatibility delivery queue and drawer 0's ring take a frame (R124, R235). -/
def compatFit (s : State) (rx : CompatRx) : Fit := fits s 0 (s.get F.lphyCompatCfgDelivQueue) rx.data.length

/-- A delivery queue or ring without room (R124). -/
def fullFit : Fit → Bool
  | .full _ => true
  | .ok | .refused => false

/-- Delivery of a compatibility frame to `DELIV_QUEUE` of drawer 0 (R235, R291). -/
def compatDeliver (g : LineGot) (rx : CompatRx) (s : State) : State :=
  let q := s.get F.lphyCompatCfgDelivQueue
  match compatFit s rx with
  | .ok =>
    let t := g.start.toNat + usSteps 1024
    let (s, ofs) := ringPut 0 rx.data s
    let w0 := 3 + 3 * 16 + rx.seq % 256 * 2 ^ 16 + 0x3FFF * 2 ^ 32 + ofs % 2 ^ 32 * 2 ^ 64 +
      rx.data.length % 4096 * 2 ^ 96 + 2 ^ 114
    let w2 := phyReport 2 rx.mode 15 (chainPhase g.primary) false g.chains rx.snr (g.levels.getD g.primary 0) g.primary
      g.pga g.freq
    queueWrite s q (cleanWords [w0, g.start.toNat, w2, lineWord3 s t 0]) 0
  | _ => bumpStat R.lphyCompatDropCnt phyOvf s

/-- A hardware answer to a compatibility frame is committed, at the recommendation's timing: that instant is free
(R235). -/
def compatAnswer (rx : CompatRx) (body : AckBody) (s : State) : State :=
  let due := after rx.endAt (s.free % msSteps 10)
  { s.drew with line := { s.line with acks := s.line.acks ++ [⟨due, due, none, rx.seq, none, body⟩] } }

/-- The acknowledgement of a compatibility frame (R235). -/
def compatAck (g : LineGot) (rx : CompatRx) (s : State) : State :=
  compatAnswer rx (.line 2 0 g.band g.chains g.primary 0 0) s

/-- The tone-map response that a compatibility frame asks for (R233), formed from its SNR. -/
def compatResponse (g : LineGot) (rx : CompatRx) (s : State) : State :=
  let r := Config.compatTmr (s.get F.lphyCompatCfgPlan) rx.src rx.snr
  compatAnswer rx (.tmr g.band g.chains g.primary r.1 r.2) s

/-- A compatibility frame received whole: filtered, acknowledged, delivered (R235); without room it is discarded and
not acknowledged (R124). -/
def judgeCompat (g : LineGot) (rx : CompatRx) (s : State) : State :=
  let mine := compatOurs s rx
  if ¬ rx.fcsOk ∨ (¬ mine ∧ ¬ compatAll s rx ∧ ¬ s.on F.lphyCompatCfgPromisc) then s
  else if fullFit (compatFit s rx) then countRefused 0 (compatFit s rx) s
  else
    let s := compatDeliver g rx s
    let s := windowsDone (.line g) 0xFFFF s
    let s := if mine ∧ rx.ackReq then compatAck g rx s else s
    if mine ∧ rx.tmReq ∧ s.on F.lphyCompatCfgTmrAuto then compatResponse g rx s else s

/-- What a compatibility reception came to (R179, R235, R247); 0x10000, no short address, stands for a source without
one. -/
def compatGot (s : State) (l : List (Nat × Nat)) (r : Recv) (rx : CompatRx) : LineGot :=
  setGot s 2 l r
    ⟨rx.endAt, rx.fcsOk, 0, rx.src.getD 0x10000, 0, 0, rx.data, [], false, rx.freqOfs, rx.snr⟩

/-- A compatibility frame's end, on the chains of its set (R235). -/
def endCompat (r : Recv) (rx : CompatRx) (s : State) : State :=
  let l := setMembers s 2 r.set
  let g := compatGot s l r rx
  settleWindows (judgeCompat g rx (freeSet l (countEnd 2 l false s)))

/-- `COMPAT_FRAME_RX` (R235): the compatibility frame that chain `c` holds ends. -/
def execCompatFrameRx (c : Fin 6) (rx : CompatRx) (s : State) : Ans :=
  let s := stopIdle s
  match current s c.val 2 with
  | none => .next s
  | some r => if r.valid then .next (endCompat r rx (s.passTo rx.endAt)) else .next s

/-! ### Radio frames (R308, R310, R325) -/

/-- `SFD_DETECTED` (R308): the receiver finds a frame's SFD; it does so while a window of the frame's channel and
form is open, the transceiver does not emit, and no island that the air needs is in reset (R18). -/
def execSfdDetected (r : RfRecv) (s : State) : Ans :=
  let open' := pendingActs s fun a => (a.stage == .rxOpen || a.awaits) && (match a.body with
    | .rrx d => rrxHits a d r.chan r.opmode r.fec r.whiten r.start
    | _ => false)
  if ¬ s.on F.radioCfgEnable ∨ linkLost s ∨ airHeld s ∨ s.on F.radioStatusTxBusy ∨ s.radio.rx.isSome ∨
      open'.isEmpty then .next s
  else
    let s := s.passTo r.refAt
    let s := forActs open' (fun n k s => s.setAct n k { s.act n k with awaits := false }) s
    .next { s with radio := { s.radio with rx := some r, rxCut := islandHeld s 1 } }

/-- A received radio frame past its FCS is judged (R310, R312, R325). -/
def judgeRadio (r : RfRx) (cut : Bool) (s : State) : State :=
  if r.ftype = 2 ∨ ¬ rfTypeOk r.ftype ∨ r.secLevel = 4 then s
  else judge (.radio r cut) none s

/-- `RF_FRAME_RX` (R310, R325): the frame being received ends at its last bit. -/
def execRfFrameRx (r : RfRx) (s : State) : Ans :=
  match s.radio.rx with
  | none => .next s
  | some x =>
    if x.chan ≠ r.chan ∨ x.opmode ≠ r.opmode then .next s
    else
      let s := s.passTo r.endAt
      let r := { r with start := x.start, refAt := x.refAt, fec := x.fec, whiten := x.whiten }
      let cut := s.radio.rxCut
      let s := { s with radio := { s.radio with rx := none, rxCut := false } }
      let s := if ¬ r.phrOk ∨ 2047 < r.length then s
        else if ¬ r.fcsOk then occur (bumpStat R.rfFcsFailCnt rfOvf s) 90
        else judgeRadio r cut s
      .next (settleWindows s)

end Sys2Proof.Machine
end

