-- ==== Sys2Proof/Machine/CheckUnit.lean ====
section
/-!
DEFINITION. The check-value units (R437 to R440): feeds, results, comparison and the alive counter.
-/

namespace Sys2Proof.Machine

/-! ### Cyclic redundancy checks (R437) -/

/-- Width and polynomial of a `POLY` code; 6 and 7 act as 0. -/
def polyOf (p : Nat) : Nat × Nat :=
  match p with
  | 1 => (16, 0x1021)
  | 2 => (16, 0x8005)
  | 3 => (24, 0x864CFB)
  | 4 => (32, 0x04C11DB7)
  | 5 => (32, 0x1EDC6F41)
  | _ => (8, 0x07)

/-- The low `n` bits of a number in reverse order. -/
def reflect : Nat → Nat → Nat
  | 0, _ => 0
  | n + 1, v => v % 2 * 2 ^ n + reflect n (v / 2)

/-- `n` steps of a register of width `w`, most significant bit first. -/
def crcShift (w poly : Nat) : Nat → Nat → Nat
  | 0, r => r
  | n + 1, r => crcShift w poly n ((if r / 2 ^ (w - 1) % 2 = 1 then (2 * r) ^^^ poly else 2 * r) % 2 ^ w)

/-- One byte fed to a register. -/
def crcByte (w poly : Nat) (refin : Bool) (r : Nat) (b : Byte) : Nat :=
  crcShift w poly 8 (r ^^^ ((if refin then reflect 8 b.toNat else b.toNat) * 2 ^ (w - 8)))

def crcBytes (w poly : Nat) (refin : Bool) (r : Nat) (l : List Byte) : Nat := l.foldl (crcByte w poly refin) r

/-- The CRC-16 of R426: polynomial 0x1021, initial 0xFFFF, no reflection, no final XOR. -/
def crc16 (l : List Byte) : Nat := crcBytes 16 0x1021 false 0xFFFF l

/-! ### A unit's state (R438) -/

def chkUnit (s : State) (k : Nat) : Check := tabGet (fun _ => Check.init) s.ser.chks k

def setChk (k : Nat) (c : Check) (s : State) : State :=
  { s with ser := { s.ser with chks := tabSet (fun _ => Check.init) s.ser.chks k c } }

def chkPoly (s : State) (k : Nat) : Nat × Nat := polyOf (s.get (F.chkCfgPoly k))

/-- A counter of the chapter saturated (R442). -/
def serOvf (s : State) : State := occur s 279

/-- Restart (R438): register `INIT`, alive capture and bit count cleared. -/
def chkRestart (k : Nat) (s : State) : State :=
  setChk k { chkUnit s k with reg := (s.rd (R.chkInit k)).toNat % 2 ^ (chkPoly s k).1, bits := 0, cap := 0, ncap := 0 } s

/-- The result: the register after `REFOUT` and `XOROUT`. -/
def chkValue (s : State) (k : Nat) : Nat :=
  let w := (chkPoly s k).1
  let r := (chkUnit s k).reg
  (if s.on (F.chkCfgRefout k) then reflect w r else r) ^^^ ((s.rd (R.chkXorout k)).toNat % 2 ^ w)

/-- A cause of `CHK_STATUS_k` at bit `b` is set, and counts when enabled (R442). -/
def chkCause (k b : Nat) (s : State) : State :=
  let s := s.put ⟨R.chkStatus k, b, b⟩ 1
  if s.on ⟨R.chkStatus k, b + 7, b + 7⟩ then occur s (275 + k) else s

/-- Alive capture of one bit of the message (R440). -/
def captureBit (pos : Nat) (c : Check) (b : Bool) : Check :=
  if pos ≤ c.bits ∧ c.bits < pos + 4 then
    { c with bits := c.bits + 1, cap := c.cap + b2n b * 2 ^ (c.bits - pos), ncap := c.ncap + 1 }
  else { c with bits := c.bits + 1 }

/-- One byte fed: the register, and the capture while `ALIVE_EN` is 1. -/
def feedByte (k : Nat) (s : State) (b : Byte) : State :=
  let (w, p) := chkPoly s k
  let c := chkUnit s k
  let c := { c with reg := crcByte w p (s.on (F.chkCfgRefin k)) c.reg b }
  setChk k
    (if s.on (F.chkAliveAliveEn k) then
      (List.range 8).foldl (fun c i => captureBit (s.get (F.chkAlivePos k)) c (b.getLsbD i)) c
    else { c with bits := c.bits + 8 }) s

/-- A feed of `n` bytes that arrives at instant `t`: it costs `n` cycles of 400 MHz, and is lost when the
8-entry buffer is full (R438). -/
def feed (k n : Nat) (v : Word) (t : Time) (s : State) : State :=
  let s := s.passTo t
  let c := chkUnit s k
  let busy := c.busy.filter fun e => decide (s.tbCopy.toNat < e.toNat)
  if 8 ≤ busy.length then chkCause k 4 (setChk k { c with busy := busy } s)
  else
    let start := match busy.getLast? with
      | some e => e
      | none => s.tbCopy
    let s := setChk k { c with busy := busy ++ [after start (stepsOf 400000000 n)] } s
    let l := leBytes n v.toNat
    (if s.on (F.chkCfgBig k) then l.reverse else l).foldl (feedByte k) s

/-- A write of a feed register. -/
def feedWrite (k n : Nat) (v : Word) (be : BitVec 4) (t : Time) (s : State) : State :=
  if be = 0#4 then s else feed k n (beMerge 0#32 v be) t s

/-- `CHK_FEED8` (R438). -/
def execChkFeed8 (d : Drawer) (k : Fin 4) (v : Word) (be : BitVec 4) (t : Time) (s : State) : Ans :=
  .next (filtered s d.val (R.chkFeed8 k.val) (feedWrite k.val 1 v be t))

/-- `CHK_FEED16` (R438). -/
def execChkFeed16 (d : Drawer) (k : Fin 4) (v : Word) (be : BitVec 4) (t : Time) (s : State) : Ans :=
  .next (filtered s d.val (R.chkFeed16 k.val) (feedWrite k.val 2 v be t))

/-- `CHK_FEED32` (R438). -/
def execChkFeed32 (d : Drawer) (k : Fin 4) (v : Word) (be : BitVec 4) (t : Time) (s : State) : Ans :=
  .next (filtered s d.val (R.chkFeed32 k.val) (feedWrite k.val 4 v be t))

/-- A read of a register at `off` by drawer `d` that returns `v` when the filter takes it, and zero
otherwise (R103). -/
def filteredRead (s : State) (d off : Nat) (v : State → Word) (f : State → State) : State :=
  match findRow off with
  | none => s.emit (.read d off 0#32)
  | some (r, i, _) =>
    match filterRead s d r i off with
    | .take => (f s).emit (.read d off (v s))
    | .drop => s.emit (.read d off 0#32)
    | .refuse => (violation s d false off false).emit (.read d off 0#32)

/-- `CHK_RESULT` (R438). -/
def execChkResult (d : Drawer) (k : Fin 4) (s : State) : Ans :=
  .next (filteredRead s d.val (R.chkResult k.val) (fun s => BitVec.ofNat 32 (chkValue s k.val)) id)

/-! ### Comparison and the alive counter (R439, R440) -/

/-- `ALIVE_DELTA` as it acts. -/
def aliveDelta (s : State) (k : Nat) : Nat := max 1 (s.get (F.chkAliveAliveDelta k))

/-- The captured value is judged against the last one, and becomes the last one (R440). -/
def judgeAlive (k : Nat) (s : State) : State :=
  let c := chkUnit s k
  if ¬ s.on (F.chkAliveAliveEn k) ∨ c.ncap < 4 then s
  else
    let d := (c.cap + 16 - s.get (F.chkAliveLast k)) % 16
    let s :=
      if ¬ s.on (F.chkAliveLastValid k) then s
      else if d = 0 then chkCause k 2 s
      else if aliveDelta s k < d then chkCause k 3 s
      else s
    (s.put (F.chkAliveLast k) c.cap).put (F.chkAliveLastValid k) 1

/-- A write of `CHK_EXPECTED_k`: the result is compared with it (R439). -/
def expectedWrite (k : Nat) (v : Word) (be : BitVec 4) (s : State) : State :=
  let s := s.wrTyped (R.chkExpected k) v be
  let s :=
    if chkValue s k = (s.rd (R.chkExpected k)).toNat then s.put (F.chkStatusMatch k) 1
    else chkCause k 1 (bumpStat (R.chkMismatchCnt k) serOvf (s.put (F.chkStatusMatch k) 0))
  judgeAlive k s

/-- `CHK_EXPECTED` (R439). -/
def execChkExpected (d : Drawer) (k : Fin 4) (v : Word) (be : BitVec 4) (s : State) : Ans :=
  .next (filtered s d.val (R.chkExpected k.val) (expectedWrite k.val v be))

/-- A write of `CHK_CTL_k`. -/
def chkCtlWrite (k : Nat) (v : Word) (be : BitVec 4) (s : State) : State :=
  if be.getLsbD 0 ∧ v.getLsbD 0 then chkRestart k s else s

/-- `RESTART` (R438). -/
def execRestart (d : Drawer) (k : Fin 4) (v : Word) (be : BitVec 4) (s : State) : Ans :=
  .next (filtered s d.val (R.chkCtl k.val) (chkCtlWrite k.val v be))

/-- A write of `CHK_CFG_k` also restarts the unit (R438). -/
def chkCfgRegWrite (k : Nat) (v : Word) (be : BitVec 4) (s : State) : State := chkRestart k (s.wrTyped (R.chkCfg k) v be)

/-- `CHK_CFG_WRITE` (R438). -/
def execChkCfgWrite (d : Drawer) (k : Fin 4) (v : Word) (be : BitVec 4) (s : State) : Ans :=
  .next (filtered s d.val (R.chkCfg k.val) (chkCfgRegWrite k.val v be))

/-- A write of `CHK_ALIVE_k`: writing `ALIVE_EN` clears `LAST_VALID` (R440). -/
def chkAliveWrite (k : Nat) (v : Word) (be : BitVec 4) (s : State) : State :=
  let s := s.wrTyped (R.chkAlive k) v be
  if be.getLsbD 0 then s.put (F.chkAliveLastValid k) 0 else s

/-- A reset or a scrub discards pending feeds (R441). -/
def chkClear (k : Nat) (s : State) : State := setChk k Check.init s

end Sys2Proof.Machine
end

