-- ==== Sys2Proof/Machine/Ack.lean ====
section
/-!
DEFINITION. Acknowledgements sent and awaited (R23, R292 to R297, R327), retransmissions (R298, R328), and
line-driver faults (R255 to R257).
-/

namespace Sys2Proof.Machine

/-! ### Acknowledgements sent -/

/-- The acknowledgement of place `i` is not sent; its context is held no longer. -/
def dropAck (i : Nat) (s : State) : State :=
  match s.line.acks[i]? with
  | none => s
  | some a =>
    let s := { s with line := { s.line with acks := s.line.acks.eraseIdx i } }
    match a.ctx with
    | some c => unhold c s
    | none => s

/-- An acknowledgement replaced. -/
def putAck (i : Nat) (a : AckDue) (s : State) : State :=
  { s with line := { s.line with acks := s.line.acks.set i a } }

/-- Program frames committed to a transmitter that overlap the acknowledgement are not started (R151, R308). -/
def preempt (test : Act → Bool) (t e : Nat) (s : State) : State :=
  forActs (pendingActs s fun a => test a && a.stage == .waiting && spansMeet a.instant.toNat a.endAt.toNat t e)
    (fun n k s => endUnsent n k stFailed 0x0C s) s

/-- The action is a radio transmission. -/
def isRtx (a : Act) : Bool :=
  match a.body with
  | .rtx _ => true
  | _ => false

/-- Transmitter of a line acknowledgement: the primary chain's, or that of the next member whose transmitter
does not emit, lowest chain first (R292). -/
def ackUnit (s : State) (members primary : Nat) : Option Nat :=
  (findFirst (fun c => !txBusy s (chainPhase c))
    (primary :: ((List.range 6).filter fun c => bitAt members c && c != primary))).map chainPhase

/-- The frame of a line acknowledgement (R292). -/
def ackFrame (s : State) (t fam sf advice pend seq : Nat) : LineFrame :=
  { fam := fam, sf := sf, mode := 0, tmapId := 15, phaseCode := t, longPrefix := false, rep4 := false, length := 0
    ftype := 2, secLevel := 0, ackReq := false, seq := seq, pending := pend == 1, hops := advice, dest := 0
    src := s.get F.lmacOwnShort, far := 0, counter := 0, payload := [], mic := [] }

/-- A compatibility tone-map response (R233): the profile's mode and its whole MAC frame. -/
def tmrFrame (s : State) (t mode : Nat) (l : List Byte) : LineFrame :=
  { ackFrame s t 2 0 0 0 0 with mode := mode, length := l.length, ftype := 0, src := 0, payload := l }

/-- A line acknowledgement at its instant (R151, R257, R292), its family, band and duration in ns, and its frame on a
transmitter; in last-gasp it is not sent (R483). -/
def sendLineAck (i : Nat) (a : AckDue) (fam b members primary ns : Nat) (f : Nat → LineFrame) (s : State) : State :=
  match if lastGasp s then none else ackUnit s members primary with
  | none => dropAck i (bumpStat R.lmacAckBlockedCnt macOvf s)
  | some t =>
    if heldOff s (2 ^ t) a.due.toNat then dropAck i (occur (bumpStat (R.lphyAckHeldCnt t) phyOvf s) 46)
    else
      let e := after a.due (nsSteps ns)
      let s := preempt (fun x => usesTx x (2 ^ t)) a.due.toNat e.toNat s
      let s := txStart t b fam 0 a.due s
      let s := s.emit (.lineTx t (f t))
      putAck i { a with sent := some t, endAt := e } s

/-- The listening time of a node after an acknowledged poll with `PENDING` (R323). -/
def startListen (ctx : Option Nat) (poll : Bool) (pend chan : Nat) (e : Time) (s : State) : State :=
  match ctx with
  | none => s
  | some c =>
    if ¬ poll ∨ pend = 0 ∨ connState s c = 0 then s
    else
      let v := (e.toNat + msSteps (actListen s c)) * 64 + chan % 64 + 1
      { s with radio := { s.radio with pollEnd := tabSet (fun _ => 0) s.radio.pollEnd c v } }

/-- End of a radio acknowledgement that starts when it falls due (R308). -/
def radioAckEnd (s : State) (a : AckDue) (fec : Bool) (opmode : Nat) : Time :=
  after a.due (nsSteps (rfNs s 13 fec opmode))

/-- The frame of a radio acknowledgement (R313, R328). -/
def radioAckFrame (s : State) (a : AckDue) (chan opmode : Nat) (fec whiten : Bool) (evt pend : Nat) : RfFrame :=
  { chan := chan, opmode := opmode, fec := fec, whiten := whiten, level := ackLevel s chan opmode, ftype := 2
    secLevel := 0, ackReq := false, pending := pend == 1, evtValid := decide (0 < evt), seq := a.seq
    dest := (a.ctx.map (ctxShort s)).getD 0xFFFE, src := s.get F.lmacOwnShort, evt := evt - 1, counter := 0
    payload := [], mic := [] }

/-- The transceiver emits until `e`. -/
def radioUntil (e : Time) (s : State) : State := { s with radio := { s.radio with txEnd := e.toNat + 1 } }

/-- A radio acknowledgement whose airtime is granted goes out; a reception in progress at its start is dropped
(R308, R331). -/
def emitRadioAck (i : Nat) (a : AckDue) (chan opmode : Nat) (fec whiten poll : Bool) (evt pend : Nat) (s : State) :
    State :=
  let e := radioAckEnd s a fec opmode
  let s := { s with radio := { s.radio with rx := none, rxCut := false } }
  let s := preempt isRtx a.due.toNat e.toNat (chargeDuty (accountsOf s chan opmode) (rfMs s 13 fec opmode) s)
  let f := radioAckFrame s a chan opmode fec whiten evt pend
  let s := startListen a.ctx poll pend chan e (((radioUntil e s).put F.radioStatusTxBusy 1).emit (.radioTx f))
  putAck i { a with sent := some 3, endAt := e } s

/-- A radio acknowledgement at its instant: the transceiver, the region lock, airtime, the emission (R306, R308,
R327, R331). -/
def sendRadioAck (i : Nat) (a : AckDue) (chan opmode : Nat) (fec whiten poll : Bool) (evt pend : Nat) (s : State) :
    State :=
  let l := accountsOf s chan opmode
  if s.on F.radioStatusTxBusy ∨ ¬ chanInRegion s chan opmode then dropAck i s
  else if dutyUncovered s l ∨ ¬ (dutyRefuses s l (rfMs s 13 fec opmode) false).isEmpty then
    dropAck i (occur (bumpStat R.rfAckDeniedCnt rfOvf s) 94)
  else emitRadioAck i a chan opmode fec whiten poll evt pend s

/-- An acknowledgement falls due; while an island that the air needs is in reset it is not sent (R18). -/
def sendAck (i : Nat) (a : AckDue) (s : State) : State :=
  if linkLost s ∨ silenced s ∨ airHeld s then dropAck i s
  else
    match a.body with
    | .line fam sf b m p adv pend =>
      sendLineAck i a fam b m p (lineAckNs s fam sf b) (fun t => ackFrame s t fam sf adv pend a.seq) s
    | .tmr b m p mode l => sendLineAck i a 2 b m p (compatNs s mode l.length) (fun t => tmrFrame s t mode l) s
    | .radio ch op fec wh poll evt pend => sendRadioAck i a ch op fec wh poll evt pend s

/-- A held frame's deadline passes without its context: it is discarded (R23, R373). -/
def heldLate (i : Nat) (h : Held) (s : State) : State :=
  let s := { s with line := { s.line with held := s.line.held.eraseIdx i } }
  settleWindows (ctxLate h.ctx (unhold h.ctx s))

/-- `ACK_DEADLINE` (R23): the instant 1.0 ms after a received frame's end comes, for an acknowledgement due or
for a frame held for its context. -/
def execAckDeadline (d : DueOf) (s : State) : Ans :=
  match d with
  | .ack i =>
    match s.line.acks[i]? with
    | some a => if a.sent.isSome then .next s else .next (settleWindows (sendAck i a (s.passTo a.due)))
    | none => .next s
  | .held i =>
    match s.line.held[i]? with
    | some h => .next (heldLate i h (s.passTo h.due))
    | none => .next s

/-! ### Acknowledgements received (R294, R295, R327) -/

/-- An outcome enters the record of every phase that a frame used (R300). -/
def lineOutcome (a : Act) (d : TxfD) (ok : Bool) (s : State) : State :=
  match d.ctx with
  | none => s
  | some c =>
    if d.family = 2 then s else (unitList a.units).foldl (fun s t => update c (.outcome t d.band ok) s) s

/-- A line frame is acknowledged (R295, R297). -/
def lineAcked (n k : Nat) (d : TxfD) (advice : Nat) (s : State) : State :=
  let a := s.act n k
  let s := match d.ctx with
    | some c =>
      if d.family = 2 then s
      else
        update c (.stat 289) (update c
          (.acked (if d.family = 0 then some advice else none) (mapIndex d.band (a.units == 7))) s)
    | none => s
  endSent n k stDone 0 (lineOutcome a d true s)

/-- Words 270 to 275 of a connection from the payload of its `CONNECT` (R320). -/
def connectWords (l : List Byte) : List Word :=
  let f := fieldAt l
  [BitVec.ofNat 32 (f 10 2 + f 12 1 % 64 * 2 ^ 16 + f 8 1 % 64 * 2 ^ 22),
   BitVec.ofNat 32 (f 9 1 % 64 + f 14 2 % 2 ^ 13 * 2 ^ 16), BitVec.ofNat 32 (f 16 4), BitVec.ofNat 32 (f 20 2),
   BitVec.ofNat 32 (f 0 4), BitVec.ofNat 32 (f 4 4)]

/-- A radio frame is acknowledged at reference instant `ref` (R321, R328). -/
def radioAcked (n k : Nat) (d : RtxD) (ref : Time) (s : State) : State :=
  let s := match d.ctx with
    | some c =>
      let s := update c (.stat 289) s
      if d.frameType = 9 then
        update c (.connect ref (fieldAt d.payload 13 1) (fieldAt d.payload 22 1) (connectWords d.payload)) s
      else if d.frameType = 11 then update c .disconnect s
      else s
    | none => s
  endSent n k stDone 0 s

/-- Time from a frame's end to the end of its acknowledgement wait. -/
def waitSteps (s : State) (a : Act) : Nat :=
  match a.body with
  | .txf d => if d.family = 2 then nsSteps Config.compatAckNs else nsSteps (1050000 + ackNs s d.family d.sf d.band)
  | .rtx d => nsSteps (1050000 + rfNs s 13 d.fec d.opmode)
  | _ => 0

/-- Start of a radio acknowledgement's preamble, computed back from its reference instant, the end of its SFD
(R315, R327), with `PREAMBLE_BYTES` of preamble (DEDUCED, assumption 117). -/
def radioStart (s : State) (opmode : Nat) (ref : Time) : Nat :=
  ref.toNat - stepsOf (1000 * rfRate opmode) (8 * preambleBytes s + 16)

/-- A preamble that begins 1,000 ± 50 µs after the frame's end (R294, R327). -/
def ackInTime (s : State) (a : Act) (start : Nat) : Bool :=
  let e := a.endAt.toNat - waitSteps s a
  decide (e + usSteps 950 ≤ start) && decide (start ≤ e + usSteps 1050)

/-- Chain `c` receives. -/
def hears (s : State) (c : Nat) : Bool := !deaf s c && !suspended s c

/-- An acknowledgement on the line, its preamble begun at `start`, is that of a frame: on a chain of its band, of `FRAME_TYPE` 2 and in time
(R294); a compatibility one is of its family, and its timing is the recommendation's. -/
def lineAckFits (s : State) (a : Act) (d : TxfD) (c fam : Nat) (r : AckSeen) (start : Time) : Bool :=
  hears s c && chainBand c == d.band &&
    (if d.family = 2 then fam == 2 else fam != 2 && r.ftype == 2 && ackInTime s a start.toNat)

/-- An acknowledgement on the radio, its reference instant `ref`, is that of a frame (R327, R328). -/
def radioAckFits (s : State) (a : Act) (d : RtxD) (r : AckSeen) (ref : Time) : Bool :=
  r.ftype == 2 && r.chan == a.chan && r.opmode == d.opmode && r.fec == d.fec && r.whiten == d.whiten &&
    ackInTime s a (radioStart s d.opmode ref)

/-- An acknowledgement is that of an action's frame, `SEQ` among the rest (R294, R327). -/
def ackFits (s : State) (a : Act) (r : AckSeen) (start ref : Time) : Bool :=
  a.seq == r.seq && (match a.body, r.line with
    | .txf d, some (c, fam) => lineAckFits s a d c.val fam.val r start
    | .rtx d, none => radioAckFits s a d r ref
    | _, _ => false)

/-- `ACK_RX` (R294, R327): an acknowledgement whose header, or FCS, passes is received at `now`, with its
`RUNG_ADVICE`, the start of a line preamble and the reference instant of a radio frame. -/
def execAckRx (th : Fin 32) (slot : Fin 4) (r : AckSeen) (advice : Nat) (start ref : Time) (now : Time) (s : State) : Ans :=
  let n := th.val
  let k := slot.val
  let a := s.act n k
  if ¬ isPending a ∨ a.stage ≠ .ackWait ∨ ¬ ackFits s a r start ref then .next s
  else
    let s := s.passTo now
    match a.body with
    | .txf d => .next (lineAcked n k d (advice % 8) s)
    | .rtx d => .next (radioAcked n k d ref s)
    | _ => .next s

/-! ### The wait ends unacknowledged (R295, R296, R328) -/

/-- Mode of the remaining emissions: at an even `FAIL_RUN` a fixed mode steps down; 0x1F follows the node's
rung (R296). -/
def nextMode (s : State) (c : Nat) (mode : Nat) : Nat :=
  if mode = 0x1F ∨ min 255 (failRun s c + 1) % 2 = 1 then mode else rungMode (stepRung mode)

/-- A line frame's wait ends (R295); an outage frame is not placed again (R483). -/
def lineUnacked (n k : Nat) (d : TxfD) (s : State) : State :=
  let a := s.act n k
  let s := releaseGrant (.act n k) s
  let mode := match d.ctx with
    | some c => if d.family = 0 then nextMode s c a.mode else a.mode
    | none => a.mode
  let s := match d.ctx with
    | some c => if d.family = 2 then s else update c (.unacked (d.family == 1)) s
    | none => s
  let s := lineOutcome a d false s
  let native := d.family != 2
  if a.emissions < d.retry + 1 ∧ ¬ outage s n then
    let s := if native then bumpStat R.lmacRetxCnt macOvf s else s
    let s := match d.ctx with
      | some c => update c (.stat 290) s
      | none => s
    s.setAct n k { a with stage := .place, tries := 0, mode := mode, obstacle := 0x0C }
  else
    let s := if native then occur (bumpStat R.lmacNoAckCnt macOvf s) 53 else s
    let s := match d.ctx with
      | some c =>
        let s := update c (.stat 291) s
        if native ∧ 0 < routeHops s c then update c .suspect s else s
      | none => s
    endSent n k stFailed 0x2E s

/-- `RETX_DELAY_MS` of an action: its node's when it has a connection (R328). -/
def retxDelay (s : State) (d : RtxD) : Nat :=
  let own := max 1 (s.get F.radioPollRetxDelayMs)
  match d.ctx with
  | some c => if connState s c = 0 then own else max 1 (actRetx s c)
  | none => own

/-- A radio frame's wait ends (R321, R328). -/
def radioUnacked (n k : Nat) (d : RtxD) (s : State) : State :=
  let a := s.act n k
  let s := releaseGrant (.act n k) s
  if a.emissions < d.retry + 1 then
    let s := match d.ctx with
      | some c => update c (.stat 290) s
      | none => s
    s.setAct n k { a with stage := .place, endAt := after a.endAt (msSteps (retxDelay s d)) }
  else
    let s := occur (bumpStat R.rfNoAckCnt rfOvf s) 91
    let s := match d.ctx with
      | some c =>
        let s := update c (.stat 291) s
        if d.frameType = 11 then update c .disconnect s else s
      | none => s
    endSent n k stFailed 0x2E s

/-- `ACK_WAIT_END` (R295, R328): the wait for an acknowledgement ends without one. -/
def execAckWaitEnd (th : Fin 32) (slot : Fin 4) (s : State) : Ans :=
  let n := th.val
  let k := slot.val
  let a := s.act n k
  if ¬ isPending a ∨ a.stage ≠ .ackWait then .next s
  else
    let s := s.passTo a.endAt
    match a.body with
    | .txf d => .next (lineUnacked n k d s)
    | .rtx d => .next (radioUnacked n k d s)
    | _ => .next s

/-! ### Retransmissions (R298, R328) -/

/-- Phase whose slot clock places a retransmission. -/
def placePhase (s : State) (a : Act) : Nat := if a.units = 7 then s.line.sf.anchor else (unitList a.units).getD 0 0

/-- The boundary tested next: the `ARQ_GAP`-th after the wait's end, and then each later one. -/
def placeSlot (s : State) (a : Act) : Int × Nat :=
  slotPlus (slotOf s (placePhase s a) a.endAt.toNat) (max 1 (s.get F.lmacArqArqGap) + a.tries)

/-- A grant for a retransmission, in the schedule class and not waited for (R298, R328, R454). -/
def grantNow (s : State) (n : Nat) (g : Grant) : Bool := outage s n || (!lastGasp s && givenNow s g)

/-- A boundary passes without placement; after 64 the action fails (R295). -/
def passOver (n k obstacle : Nat) (s : State) : State :=
  let a := s.act n k
  if 63 ≤ a.tries then endSent n k stFailed obstacle s
  else s.setAct n k { a with tries := a.tries + 1, obstacle := obstacle }

/-- The tests of R298 at one boundary. -/
def placeLine (n k : Nat) (d : TxfD) (s : State) : State :=
  let a := s.act n k
  let p := placePhase s a
  let x := placeSlot s a
  let t := (slotStart s p x.1 x.2).toNat
  let s := s.passTo (BitVec.ofNat 64 t)
  let dur := nsSteps (txfNs s d (txfPrep s d a.mode))
  let g := txfGrantOf s n k a.units d.atten
  if airHeld s ∨ (actSecure (s.act n k) ∧ islandHeld s 1) then endSent n k stFailed 0x30 s
  else if slotKind s p x.1 x.2 = 2 ∨ (quietHit s a.units t dur).isSome then passOver n k a.obstacle s
  else if heldOff s a.units t ∨ ¬ txFree s a.units t (t + dur) n k then passOver n k 0x0C s
  else if ¬ grantNow s n g then passOver n k 0x09 (countDeny g.drawer s)
  else emitLine n k d t (giveGrant g s)

/-- `RETX_PLACE` (R298): the next slot boundary for a line retransmission comes. -/
def execRetxPlace (th : Fin 32) (slot : Fin 4) (s : State) : Ans :=
  let a := s.act th.val slot.val
  match a.body with
  | .txf d =>
    if isPending a ∧ a.stage = .place ∧ d.family ≠ 2 then .next (placeLine th.val slot.val d s) else .next s
  | _ => .next s

/-- The tests of R328 at the placement of a radio retransmission. -/
def placeRadio (n k : Nat) (d : RtxD) (s : State) : State :=
  let a := s.act n k
  let s := s.passTo a.endAt
  let t := s.tb.toNat
  let psdu := psduLength d.secLevel d.payload.length
  let e := t + nsSteps (rfNs s psdu d.fec d.opmode)
  let l := accountsOf s a.chan d.opmode
  let ms := rfMs s psdu d.fec d.opmode
  let bad := dutyRefuses s l ms true
  let g : Grant := ⟨.act n k, grantDrawer s n, rtxMw (rtxLevel s d), 0, false⟩
  if airHeld s ∨ (actSecure (s.act n k) ∧ islandHeld s 1) then endSent n k stFailed 0x30 s
  else if s.radio.rx.isSome ∨ ¬ rfFree s t e n k then endSent n k stFailed 0x0C s
  else if dutyUncovered s l ∨ ¬ bad.isEmpty then endSent n k stFailed 0x0A (countDutyDeny bad s)
  else if ¬ grantNow s n g then endSent n k stFailed 0x09 (countDeny g.drawer s)
  else emitRadio n k d t (giveGrant g (chargeDuty l ms s))

/-- `RF_RETX_PLACE` (R328): `RETX_DELAY_MS` after the wait. -/
def execRfRetxPlace (th : Fin 32) (slot : Fin 4) (s : State) : Ans :=
  let a := s.act th.val slot.val
  match a.body with
  | .rtx d => if isPending a ∧ a.stage = .place then .next (placeRadio th.val slot.val d s) else .next s
  | _ => .next s

/-! ### Line-driver faults (R255 to R257) -/

/-- `LD_FAULT_ASSERT` (R39, R255): `LD_FLT_t` has been high for 1 µs. -/
def execLdFaultAssert (t : Fin 3) (now : Time) (s : State) : Ans :=
  let s := (s.passTo now).put (F.lphyLdfltFltNow t.val) 1
  if s.on (F.lphyTxstatBusy t.val) then .next (lowerOutput t.val now s)
  else .next (s.put (F.lphyLdfltFltSeen t.val) 1)

/-- `LD_FLT_DEASSERT` (R256): `LD_FLT_t` falls; the hold-time count stops. -/
def execLdFltDeassert (t : Fin 3) (s : State) : Ans :=
  .next (setXmit t.val { xmit s t.val with flt := none } (s.put (F.lphyLdfltFltNow t.val) 0))

/-- Program frames that transmitter `t` emits. -/
def emittingOn (s : State) (t : Nat) : List (Nat × Nat) := pendingActs s fun a => usesTx a (2 ^ t) && a.stage == .emitting

/-- Hold time of R256 on a transmitter: two symbols of its frame. -/
def holdTime (s : State) (t : Nat) : Nat :=
  match emittingOn s t with
  | [] => usSteps 576
  | p :: _ =>
    match (s.act p.1 p.2).body with
    | .txf d => if d.family = 0 ∧ d.longPrefix then usSteps 640 else usSteps 576
    | _ => usSteps 576

/-- The frame of an aborted transmitter: the slot fails; of an all-three frame the others go on. -/
def abortFrame (n k : Nat) (s : State) : State :=
  let a := s.act n k
  if a.units = 7 then s
  else
    let s := match actCtx a with
      | some c => update c (.stat 297) s
      | none => s
    endSent n k stFailed 0x30 s

/-- The abort of what transmitter `t` emits (R256). -/
def abort (t : Nat) (s : State) : State :=
  let s := occur (bumpStat (R.lphyAbortCnt t) phyOvf s) (43 + t)
  let s := s.put (F.lphyTxstatHoldOff t) 1
  let s := setXmit t { xmit s t with holdOff := some (after s.tb (msSteps 20)) } s
  let l := emittingOn s t
  let s := txStop t s
  let s := forActs l abortFrame s
  match findIdxFrom (fun a => a.sent == some t) 0 s.line.acks with
  | some i => dropAck i s
  | none => s

/-- `TX_ABORT` (R256): the fault has stayed asserted for the hold time. -/
def execTxAbort (t : Fin 3) (s : State) : Ans :=
  match (xmit s t.val).flt with
  | none => .next s
  | some at' =>
    if ¬ s.on (F.lphyTxstatBusy t.val) ∨ ¬ s.on (F.lphyLdfltFltNow t.val) then .next s
    else .next (abort t.val (s.passTo (after at' (holdTime s t.val))))

/-- `HOLD_OFF_END` (R257). -/
def execHoldOffEnd (t : Fin 3) (s : State) : Ans :=
  match (xmit s t.val).holdOff with
  | none => .next s
  | some e =>
    let s := (s.passTo e).put (F.lphyTxstatHoldOff t.val) 0
    .next (setXmit t.val { xmit s t.val with holdOff := none } s)

end Sys2Proof.Machine
end

