-- ==== Sys2Proof/Machine/LineCtl.lean ====
section
/-!
DEFINITION. Control of the line: bands (R205), FIR banks (R229), the compatibility profile (R234), Sweep
(R265), delivery rings (R290), the mains trackers with slot clocks, superframes and noise maps (R273, R275,
R278, R279, R411 to R413), and the route engine (R300).
-/

namespace Sys2Proof.Machine

/-! ### Bands (R205, R265) -/

/-- Band refused: source 13. -/
def bandRefused (f : Fld) (s : State) : State := occur (s.put f 1) 13

def stagedPlan (s : State) (b : Nat) : Nat :=
  if b = 0 then s.get F.lphyBandcfgLowPlan else s.get F.lphyBandcfgHighPlan

/-- Staged mask words of a band as one number, bit k for carrier k. -/
def stagedMask (s : State) (b : Nat) : Nat :=
  sumNat ((List.range 4).map fun w => (s.rd (R.lphyMask b w)).toNat * 2 ^ (32 * w))

def pendingFld (b : Nat) : Fld := if b = 0 then F.lphyStatusLowPending else F.lphyStatusHighPending

/-- An apply of band `b`: the checks in their order, then the latch (R205); with Sweep on, a change of the
plan or a mask over the chirp is refused (R265). -/
def applyBand (b : Nat) (s : State) : State :=
  let plan := stagedPlan s b
  let mask := stagedMask s b
  if plan = 3 then bandRefused F.lphyStatusPlanInvalid s
  else if ¬ planAllowed s b plan then bandRefused F.lphyStatusRegionRefused s
  else if plan ≠ 0 ∧ (unmasked b plan mask).length < 8 then bandRefused F.lphyStatusMaskRefused s
  else if sweepOn s b ∧ (plan ≠ planOf s b ∨ (chirpCarriers b).any (bitAt mask)) then
    bandRefused F.swpStatusApplyBlocked s
  else
    let s := { s with line := { s.line with latched := tabSet (fun _ => ⟨0, 0⟩) s.line.latched b ⟨plan, mask⟩ } }
    (s.put (pendingFld b) 1).put (if b = 0 then F.lphyApplyLow else F.lphyApplyHigh) 1

/-- `LPHY_APPLY` (R205): drawer `d` writes the register. -/
def execLphyApply (d : Drawer) (v : Word) (be : BitVec 4) (s : State) : Ans :=
  .next (filtered s d.val R.lphyApply fun s =>
    let w := v &&& byteMask be
    let s := if w.getLsbD 0 then applyBand 0 s else s
    if w.getLsbD 1 then applyBand 1 s else s)

/-- The band is quiet: no emission, no reception, no frame of it pending (R205). -/
def bandQuiet (s : State) (b : Nat) : Bool :=
  !((List.range 3).any fun t => s.on (F.lphyTxstatBusy t) && (xmit s t).band == b) &&
    !((List.range 6).any fun c => chainBand c == b && chainHolds (chain s c)) &&
    (pendingActs s fun a => match a.body with
      | .txf d => d.band == b
      | _ => false).isEmpty

/-- A chain's noise map cleared (R279). -/
def clearNmap (c : Nat) (s : State) : State :=
  let s := { s with line := { s.line with nmap := tabKeep (fun k => k / 32 != c) s.line.nmap } }
  let s := foldUpto 32 (fun i s => s.wr (R.lmacNmap c i) 0#32) s
  (s.put (F.lmacNmapStatUnlearned c) 1).put (F.lmacNmapStatRestart c) 0

/-- The latched plan and mask take effect (R205). -/
def takeBand (b : Nat) (s : State) : State :=
  let l := tabGet (fun _ => ⟨0, 0⟩) s.line.latched b
  let changed := l.plan ≠ planOf s b ∨ unmasked b l.plan l.mask ≠ unmasked b (planOf s b) (maskOf s b)
  let s := { s with line := { s.line with
    mask := tabSet (fun _ => 0) s.line.mask b l.mask, latched := tabSet (fun _ => ⟨0, 0⟩) s.line.latched b ⟨0, 0⟩ } }
  let s := s.put (if b = 0 then F.lphyStatusLowPlan else F.lphyStatusHighPlan) l.plan
  let s := s.put (if b = 0 then F.lphyStatusLowD else F.lphyStatusHighD) (if l.plan = 0 then 0 else bandD s b)
  let s := (s.put (pendingFld b) 0).put (if b = 0 then F.lphyApplyLow else F.lphyApplyHigh) 0
  let s := if changed then
      let g := if b = 0 then F.lphyMaskGenLowGen else F.lphyMaskGenHighGen
      let s := s.put g (s.get g + 1)
      clearNmap (b + 4) (clearNmap (b + 2) (clearNmap b s))
    else s
  occur s 12

/-- `BAND_APPLIED` (R205): the band falls quiet with a change pending. -/
def execBandApplied (b : Fin 2) (s : State) : Ans :=
  if s.on (pendingFld b.val) ∧ bandQuiet s b.val then .next (takeBand b.val s) else .next s

/-! ### FIR banks, profile, Sweep -/

/-- `FIR_SWAP` (R229): a write of `LPHY_FIR_CTL_t`. -/
def execFirSwap (d : Drawer) (t : Fin 3) (v : Word) (be : BitVec 4) (s : State) : Ans :=
  .next (filtered s d.val (R.lphyFirCtl t.val) fun s => s.wrTyped (R.lphyFirCtl t.val) v be)

/-- Decoders of a family on a band's chains lose what they hold. -/
def silence (fam b : Nat) (s : State) : State :=
  settleWindows (((List.range 6).filter fun c => chainBand c == b).foldl
    (fun s c => (famDecs fam).reverse.foldl (fun s k => setDec c k .listen s) s) s)

/-- A write of `LPHY_COMPAT_CFG`: an enable whose plan lies outside the region lock is refused (R234); the other fields
are written, and the profile is off afterwards, also one that was on (assumption 125). -/
def compatWrite (v : Word) (be : BitVec 4) (s : State) : State :=
  let was := s.on F.lphyCompatCfgEnable
  let b := s.get F.lphyCompatCfgPlan
  let s := s.wrTyped R.lphyCompatCfg v be
  let s := if was ∧ (¬ s.on F.lphyCompatCfgEnable ∨ s.get F.lphyCompatCfgPlan ≠ b) then silence 2 b s else s
  if s.on F.lphyCompatCfgEnable ∧ ¬ planAllowed s (s.get F.lphyCompatCfgPlan) 1 then
    bandRefused F.lphyStatusRegionRefused (s.put F.lphyCompatCfgEnable 0)
  else s

/-- `COMPAT_ENABLE` (R234). -/
def execCompatEnable (d : Drawer) (v : Word) (be : BitVec 4) (s : State) : Ans :=
  .next (filtered s d.val R.lphyCompatCfg (compatWrite v be))

def swpEn (b : Nat) : Fld := if b = 0 then F.swpCfgLowEn else F.swpCfgHighEn
def swpOnFld (b : Nat) : Fld := if b = 0 then F.swpStatusLowOn else F.swpStatusHighOn

/-- The enable bit of a band is judged (R265). -/
def judgeSweep (b : Nat) (s : State) : State :=
  if ¬ s.on (swpEn b) then
    if s.on (swpOnFld b) then silence 1 b (s.put (swpOnFld b) 0) else s
  else if ¬ planAllowed s b 1 then
    bandRefused F.swpStatusRegionRefused ((s.put (swpEn b) 0).put (swpOnFld b) 0)
  else if planOf s b ≠ b + 1 ∨ (chirpCarriers b).any (bitAt (maskOf s b)) then
    bandRefused F.swpStatusPlanRefused ((s.put (swpEn b) 0).put (swpOnFld b) 0)
  else s.put (swpOnFld b) 1

/-- `SWEEP_ENABLE` (R265): a write of `SWP_CFG`. -/
def execSweepEnable (d : Drawer) (v : Word) (be : BitVec 4) (s : State) : Ans :=
  .next (filtered s d.val R.swpCfg fun s => judgeSweep 1 (judgeSweep 0 (s.wrTyped R.swpCfg v be)))

/-! ### Noise maps and rings -/

/-- `NMAP_RESTART` (R279): a write of `LMAC_NMAP_STAT_c`. -/
def execNmapRestart (d : Drawer) (c : Fin 6) (v : Word) (be : BitVec 4) (s : State) : Ans :=
  .next (filtered s d.val (R.lmacNmapStat c.val) fun s =>
    if (v &&& byteMask be).getLsbD 2 then clearNmap c.val s else s)

/-- A write of a drawer's own `DLV_RING_CFG`: a ring that would pass `BULK_SIZE` is not enabled (R290). -/
def ringCfgWrite (d : Nat) (v : Word) (be : BitVec 4) (s : State) : State :=
  let s := s.wrTyped (selfKey d R.dlvRingCfg) v be
  if s.on (fldOf d F.dlvRingCfgEnable) ∧
      bulkSize s d < 64 * s.get (fldOf d F.dlvRingCfgBase) + ringSize s d then s.put (fldOf d F.dlvRingCfgEnable) 0
  else s

/-- `DLV_RING_ENABLE` (R290). -/
def execDlvRingEnable (d : Drawer) (v : Word) (be : BitVec 4) (s : State) : Ans :=
  .next (filtered s d.val R.dlvRingCfg (ringCfgWrite d.val v be))

/-! ### The superframe (R275) -/

/-- A counter of the Plumb block saturated. -/
def plmbOvf (s : State) : State := occur s 267

def outGen (s : State) (n : Nat) : OutGen := tabGet (fun _ => OutGen.init) s.plmb.outs n

def setOut (n : Nat) (o : OutGen) (s : State) : State :=
  { s with plmb := { s.plmb with outs := tabSet (fun _ => OutGen.init) s.plmb.outs n o } }

/-- Output 1 pulses 1 µs after an opening of the superframe that it follows: 0 the line's, 1 the radio's
(R408). -/
def superPulse (src : Nat) (t : Time) (s : State) : State :=
  if s.on (F.plmbOutCfgEnable 1) ∧ s.get (F.plmbOutCfgSfsSrc 1) = src then
    setOut 1 { outGen s 1 with due := some (after t (usSteps 1)) } s
  else s

/-- A superframe opens at crossing `n` of its anchor. -/
def openSf (n : Nat) (t : Time) (s : State) : State :=
  let a := sfAnchor s
  let sf : SuperF :=
    { openNum := n, openAt := t, cycles := sfCycles s, anchor := a, running := true, from' := none
      opens := tabSet (fun _ => 0) [] a (n + 1) }
  let s := { s with line := { s.line with sf := sf } }
  let s := superPulse 0 t (s.put F.lmacSfNumSfNum (s.get F.lmacSfNumSfNum + 1))
  occur (s.put F.lmacSfOpenZx n) 48

/-- What crossing `n` of phase `p` means to the superframe. -/
def sfCrossing (p n : Nat) (t : Time) (s : State) : State :=
  let sf := s.line.sf
  if ¬ s.on F.lmacSfcfgEnable then s
  else if ¬ sf.running then if p = sfAnchor s then openSf n t s else s
  else
    match sf.from' with
    | some x => if p = sfAnchor s ∧ x.toNat ≤ t.toNat then openSf n t s else s
    | none =>
      if p = sf.anchor ∧ sf.openNum + sf.cycles ≤ n then
        if sfAnchor s = sf.anchor then openSf n t s
        else { s with line := { s.line with sf := { sf with from' := some t } } }
      else if tabGet (fun _ => 0) sf.opens p = 0 ∧ sf.openAt.toNat ≤ t.toNat then
        { s with line := { s.line with sf := { sf with opens := tabSet (fun _ => 0) sf.opens p (n + 1) } } }
      else s

/-! ### Noise maps (R278, R279) -/

/-- State of a mains tracker: 0 locked, 1 `MAINS_HOLD`, 2 `MAINS_LOST` (R411). -/
def zxState (s : State) (p : Nat) : Nat := s.get (F.zxStatState p)

def nbinZero : NBin := ⟨0, 0⟩
def nbin (s : State) (c b : Nat) : NBin := tabGet (fun _ => nbinZero) s.line.nmap (32 * c + b)

/-- Code of a mean power in µV² in 0.5 dBµV steps, to the nearest: code n stands for 10^(n/20) (R278, R279). -/
def levelCode (p : Rat) : Nat :=
  ((List.range 255).filter fun n => decide (10 ^ (2 * n + 1) * p.den ^ 40 ≤ p.num.toNat ^ 40)).length

/-- Registers of a bin. -/
def showBin (c b u : Nat) (x : NBin) (s : State) : State :=
  let s := s.put (F.lmacNmapLevel c b) (levelCode x.level)
  let s := s.put (F.lmacNmapImpulse c b) (min 255 (x.impulse + 1 / 2).floor.toNat)
  (s.put (F.lmacNmapUpdates c b) u).put (F.lmacNmapLearned c b) (b2n (u == 256))

/-- One bin of a cycle's measurements; while the phase is not locked its maps pause (R279). -/
def nmapUpdate (m : BinMeas) (s : State) : State :=
  let c := m.chain.val
  let b := m.bin.val
  if ¬ chainEnabled s c ∨ zxState s (chainPhase c) ≠ 0 then s
  else
    let u := s.get (F.lmacNmapUpdates c b)
    let x := nbin s c b
    let k : Rat := (min (u + 1) 256 : Nat)
    let x' : NBin := ⟨x.level + ((m.power : Rat) - x.level) / k, x.impulse + ((m.triggers : Rat) - x.impulse) / k⟩
    let s := { s with line := { s.line with nmap := tabSet (fun _ => nbinZero) s.line.nmap (32 * c + b) x' } }
    let s := showBin c b (min 256 (u + 1)) x' s
    if s.on (F.lmacNmapStatUnlearned c) ∧ (List.range 32).all fun i => s.on (F.lmacNmapLearned c i) then
      occur (s.put (F.lmacNmapStatUnlearned c) 0) (63 + c)
    else s

/-- The measurements of the cycle of phase `p` that has ended. -/
def nmapCycle (p : Nat) (l : List BinMeas) (s : State) : State :=
  (l.filter fun m => chainPhase m.chain.val == p).foldl (fun s m => nmapUpdate m s) s

/-! ### Mains trackers (R273, R411 to R413) -/

/-- A tracker changes its state (R412). -/
def setZxState (p v : Nat) (s : State) : State :=
  occur (s.put (F.zxStatState p) v) (263 + p)

/-- Slot starts of the old cycle at or after an early crossing are dropped (R273). -/
def countSkips (p t : Nat) (s : State) : State :=
  if ¬ (trk s p).run then s
  else
    let n := ((List.range 8).filter fun k => decide ((t : Int) ≤ slotStart s p (trk s p).num k)).length
    foldUpto n (fun _ s => occur (bumpStat R.lmacSlotSkipCnt macOvf s) 49) s

/-- Number of the next crossing: the first is 0 (R412). -/
def nextNum (s : State) (p : Nat) : Nat := if (trk s p).run then (trk s p).num + 1 else (trk s p).num

/-- Predicted instant of the next crossing. -/
def predicted (s : State) (p : Nat) : Nat := if (trk s p).run then nextCrossing s p else (trk s p).stamp.toNat

/-- The next crossing of phase `p` is numbered at instant `t` with period `per`. -/
def numberCrossing (p t per : Nat) (meas : List BinMeas) (s : State) : State :=
  let n := nextNum s p
  let s := countSkips p t s
  let at' : Time := BitVec.ofNat 64 t
  let tr := trk s p
  let past := if tr.run then (tr.stamp, tr.perAt) :: tr.past else []
  let s := setTrk p { tr with run := true, num := n, stamp := at', period := per, perAt := per, past := past, late := none } s
  let s := s.put (F.zxFreqFreqMhz p) ((2 * 1000 * 2 ^ 32 + per) / (2 * max 1 per))
  nmapCycle p meas (sfCrossing p n at' s)

/-- An edge within 1/8 cycle of the prediction (R411). -/
def nearPrediction (s : State) (p : Nat) (raw : Time) : Bool :=
  decide (8 * (max raw.toNat (predicted s p) - min raw.toNat (predicted s p)) ≤ zxPeriod s p)

/-- A period in the tracker's range, 45 to 65 Hz (R411). -/
def trackPeriod (n : Nat) : Nat := min (2 ^ 32 / 45) (max (2 ^ 32 / 65) n)

/-- An accepted edge of a locked tracker: the crossing stands at the loop's estimate. -/
def lockedEdge (p : Nat) (est : Time) (per : Nat) (meas : List BinMeas) (s : State) : State :=
  let s := numberCrossing p est.toNat (trackPeriod per) meas s
  setTrk p { trk s p with missed := 0, edges := [] } s

/-- An accepted edge in `MAINS_HOLD`: the third in a row relocks; before it the predicted crossing is
numbered. -/
def holdEdge (p : Nat) (raw est : Time) (per : Nat) (meas : List BinMeas) (s : State) : State :=
  if 2 ≤ (trk s p).edges.length then setZxState p 0 (lockedEdge p est per meas s)
  else
    let l := raw :: (trk s p).edges
    let s := numberCrossing p (predicted s p) (trk s p).period meas s
    setTrk p { trk s p with edges := l } s

/-- Two intervals that relock a lost tracker (R412). -/
def relocks (i j : Nat) : Bool :=
  decide (2 ^ 32 ≤ 65 * i) && decide (45 * i ≤ 2 ^ 32) && decide (2 ^ 32 ≤ 65 * j) && decide (45 * j ≤ 2 ^ 32) &&
    decide (100 * (max i j - min i j) ≤ max i j)

/-- An edge in `MAINS_LOST`: three in a row relock, and the crossing is numbered under R413. -/
def lostEdge (p : Nat) (raw : Time) (meas : List BinMeas) (s : State) : State :=
  let tr := trk s p
  match tr.edges with
  | e1 :: e2 :: _ =>
    let i := raw.toNat - e1.toNat
    let j := e1.toNat - e2.toNat
    if ¬ relocks i j then setTrk p { tr with edges := [raw, e1] } s
    else
      let s := setTrk p { tr with edges := [], missed := 0 } s
      let s :=
        if ¬ tr.run ∨ tr.period ≤ 2 * (raw.toNat - tr.stamp.toNat) then numberCrossing p raw.toNat i meas s
        else setTrk p { trk s p with period := i, late := some (after raw i) } s
      setZxState p 0 s
  | l => setTrk p { tr with edges := raw :: l } s

/-- A raw edge of phase `p`, with the instant and the period that the loop then estimates, and what the
chains measured in the cycle that it may end (R411, R412). -/
def mainsEdge (p : Nat) (raw est : Time) (per : Nat) (meas : List BinMeas) (s : State) : State :=
  if zxState s p = 2 then lostEdge p raw meas s
  else if ¬ nearPrediction s p raw then s
  else if zxState s p = 0 then lockedEdge p est per meas s
  else holdEdge p raw est per meas s

/-- No edge came: the crossing is numbered at its predicted instant (R411, R412). -/
def mainsMissed (n : Nat) (meas : List BinMeas) (s : State) : State :=
  let t := predicted s n
  let s := s.passTo (BitVec.ofNat 64 (if zxState s n = 2 then t else t + zxPeriod s n / 8))
  let st := zxState s n
  let s := numberCrossing n t (zxPeriod s n) meas s
  if st = 2 then s
  else if st = 1 then setTrk n { trk s n with edges := [] } s
  else
    let m := (trk s n).missed + 1
    if m < 3 then setTrk n { trk s n with missed := m } s
    else setZxState n 1 (setTrk n { trk s n with missed := 0, edges := [], holdAt := s.tb } s)

/-- `ZX_EDGE_REJECTED` (R411): an edge outside the window of a tracker that is not lost. -/
def execZxEdgeRejected (p : Fin 3) (raw : Time) (s : State) : Ans :=
  if ¬ s.plmb.started ∨ zxState s p.val = 2 ∨ nearPrediction s p.val raw then .next s
  else
    let s := bumpStat (R.zxRejectCnt p.val) plmbOvf (s.passTo raw)
    .next (setTrk p.val { trk s p.val with edges := [] } s)

/-- `MAINS_HOLD_TIMEOUT` (R412): 10 s in `MAINS_HOLD`. -/
def execMainsHoldTimeout (p : Fin 3) (s : State) : Ans :=
  if zxState s p.val ≠ 1 then .next s
  else
    let s := s.passTo (after (trk s p.val).holdAt (msSteps 10000))
    .next (setZxState p.val 2 (setTrk p.val { trk s p.val with period := nominalPeriod s p.val, edges := [] } s))

end Sys2Proof.Machine
end

