-- ==== Sys2Proof/Machine/RadioCtl.lean ====
section
/-!
DEFINITION. Control of the radio: `RADIO_ENABLE` (R336), superframes (R316), connection events and supervision
(R319, R322), and the duty-cycle rings and checkpoints (R330, R334).
-/

namespace Sys2Proof.Machine

/-- The region lock allows the configured band (R306, R336). -/
def bandAllowed (s : State) : Bool :=
  match regionLock s with
  | 1 => s.get F.radioCfgBand == 0
  | 2 => s.get F.radioCfgBand == 1
  | _ => true

/-- A valid channel entry lies outside the band. -/
def channelOutside (s : State) : Bool :=
  (List.range 64).any fun i => chanValid s i &&
    (decide (chanKhz s i < (bandEdges (s.get F.radioCfgBand)).1) ||
      decide ((bandEdges (s.get F.radioCfgBand)).2 < chanKhz s i))

/-- A write of `RADIO_CFG`: an enable is judged (R336); a superframe has begun only since the last enable
(R316). -/
def radioCfgWrite (v : Word) (be : BitVec 4) (s : State) : State :=
  let was := s.on F.radioCfgEnable
  let s := s.wrTyped R.radioCfg v be
  if s.on F.radioCfgEnable ∧ (¬ bandAllowed s ∨ channelOutside s) then
    occur ((s.put F.radioCfgEnable 0).put F.radioStatusRegionRefused 1) 98
  else if was = s.on F.radioCfgEnable then s
  else
    { s.put F.radioSfStatRunning 0 with radio := { s.radio with rx := none } }

/-- `RADIO_ENABLE` (R336). -/
def execRadioEnable (d : Drawer) (v : Word) (be : BitVec 4) (s : State) : Ans :=
  .next (filtered s d.val R.radioCfg (radioCfgWrite v be))

/-- Number of the superframe that begins next. -/
def nextRfSf (s : State) : Nat :=
  if s.tb.toNat < rfSfStart s 0 then 0 else rfSfOf s s.tb.toNat + 1

/-- `RF_SF_START` (R316): the next superframe begins. -/
def execRfSfStart (s : State) : Ans :=
  if ¬ s.on F.radioCfgEnable then .next s
  else
    let k := nextRfSf s
    let s := s.passTo (BitVec.ofNat 64 (rfSfStart s k))
    .next (superPulse 1 s.tb (occur ((s.put F.radioSfNumSfNum k).put F.radioSfStatRunning 1) 80))

/-- `CONN_EVENT_ADVANCE` (R319): the nominal instant of node `c`'s next event passes. -/
def execConnEventAdvance (c : Nat) (s : State) : Ans :=
  if connState s c ≠ 1 ∨ wakeNext s c = 0 ∨ s.line.upds.contains (c, .evtNext) then .next s
  else .next (update c .evtNext (s.passTo (BitVec.ofNat 64 (wakeNext s c))))

/-- `SUPERVISION_EXPIRE` (R322): `SUP_TO` × 100 ms after the latest restart; a frozen timer does not expire. -/
def execSupervisionExpire (c : Nat) (s : State) : Ans :=
  match tabGet (fun _ => 0) s.radio.sup c with
  | 0 => .next s
  | t + 1 =>
    if s.radio.frozen.isSome ∨ connState s c = 0 then .next s
    else .next (update c .connLost (s.passTo (BitVec.ofNat 64 (t + msSteps (100 * prmSupTo s c 270)))))

/-! ### Airtime rings (R330, R334) -/

/-- Buckets that have left the window are dropped. -/
def pruneRing (sec : Nat) (t : Tab Nat) : Tab Nat := tabKeep (fun k => decide (sec - 3599 ≤ k % 2 ^ 40)) t

/-- `DC_SECOND_TICK` (R330): a whole second. -/
def execDcSecondTick (s : State) : Ans :=
  let s := s.passTo (BitVec.ofNat 64 ((s.tb.toNat / 2 ^ 32 + 1) * 2 ^ 32))
  let n := s.radio.sec + 1
  .next (syncDuty { s with radio := { s.radio with
    sec := n, actual := pruneRing n s.radio.actual, prior := pruneRing n s.radio.prior } })

/-- The sum of both rings by age. -/
def ringsByAge (s : State) : Tab Nat :=
  foldUpto 8 (fun a t =>
    (s.radio.actual ++ s.radio.prior).foldl (fun t e =>
      if e.1 / 2 ^ 40 = a ∧ s.radio.sec < e.1 % 2 ^ 40 + 3600 then
        let k := acctKey a (s.radio.sec - e.1 % 2 ^ 40)
        tabSet (fun _ => 0) t k (tabGet (fun _ => 0) t k + e.2)
      else t) t) []

/-- A checkpoint is written, or its write fails (R334). -/
def checkpoint (ok fin : Bool) (s : State) : State :=
  if ok ∧ s.on F.storStatusMounted ∧ ¬ islandHeld s 2 then
    let stamp := s.tb.toNat / 2 ^ 32
    let s := { s with nand := { s.nand with ckpt := ⟨true, stamp, fin, ringsByAge s⟩ } }
    occur ((s.put F.dcCkptSStampS stamp).put F.dcStatusCkptValid 1) 95
  else occur (s.put F.dcStatusCkptFail 1) 96

/-- `DC_CHECKPOINT` (R334): 60 s have passed; whether the write succeeds. -/
def execDcCheckpoint (ok : Bool) (s : State) : Ans := .next (checkpoint ok false s)

end Sys2Proof.Machine
end

