-- ==== Sys2Proof/Machine/TimeStep.lean ====
section
/-!
DEFINITION. A step of the timebase (R395): the instants that measure elapsed time move with it, waits whose
target has come end, and actions that have become too near do not start.
-/

namespace Sys2Proof.Machine

/-- An instant moved by `δ` steps. -/
def shT (δ : Int) (t : Time) : Time := BitVec.ofInt 64 (t.toNat + δ)

def shO (δ : Int) (t : Option Time) : Option Time := t.map (shT δ)

/-- An instant held as a number plus 1, 0 for none. -/
def shN (δ : Int) (n : Nat) : Nat := if n = 0 then 0 else max 1 ((n : Int) + δ).toNat

/-- A table with each entry changed; `d` is what an unlisted key reads as. -/
def mapTab {α : Type} [DecidableEq α] (d : α) (f : α → α) (t : Tab α) : Tab α :=
  (t.map fun e => (e.1, f e.2)).filter fun e => decide (e.2 ≠ d)

/-- An action: its instant is the program's while it waits, unless it is `ASAP`. -/
def stepAct (δ : Int) (a : Act) : Act :=
  { a with instant := if a.stage == .waiting && !a.asap then a.instant else shT δ a.instant
           endAt := shT δ a.endAt, made := shT δ a.made, openAt := shT δ a.openAt }

def stepWait (δ : Int) (w : Wait) : Wait :=
  match w with
  | .page c i d => .page c i (shO δ d)
  | .grant k a => .grant k (stepAct δ a)
  | w => w

def stepThread (δ : Int) (t : Thread) : Thread :=
  { t with wait := stepWait δ t.wait, wdogAt := shT δ t.wdogAt, runAt := shT δ t.runAt, acts := mapTab Act.empty (stepAct δ) t.acts }

def stepDet (δ : Int) (d : Det) : Det := { d with start := shT δ d.start, seen := shT δ d.seen }

def stepDecoder (δ : Int) (d : Decoder) : Decoder :=
  ⟨d.current.map fun r => { r with det := stepDet δ r.det, first := shT δ r.first }, d.cands.map (stepDet δ)⟩

def stepBlank (δ : Int) (b : Blank) : Blank :=
  { b with wait := b.wait.map fun e => (shT δ e.1, e.2), zeroed := b.zeroed.map (shT δ)
           runs := b.runs.map fun r => { r with det := stepDet δ r.det, stop := shO δ r.stop } }

def stepChain (δ : Int) (c : Chain) : Chain :=
  { c with nat := stepDecoder δ c.nat, swp := stepDecoder δ c.swp, swp2 := stepDecoder δ c.swp2, cmp := stepDecoder δ c.cmp
           frozen := c.frozen.map fun e => (shT δ e.1, shO δ e.2), blank := stepBlank δ c.blank }

def stepXmit (δ : Int) (x : Xmit) : Xmit :=
  { x with holdOff := shO δ x.holdOff, flt := shO δ x.flt, starts := x.starts.map fun e => (shT δ e.1, e.2) }

/-- Stamps of a mains tracker move with the step. -/
def stepTrk (δ : Int) (t : Trk) : Trk :=
  { t with stamp := shT δ t.stamp, past := t.past.map fun e => (shT δ e.1, e.2), edges := t.edges.map (shT δ), holdAt := shT δ t.holdAt, late := shO δ t.late }

def stepLine (δ : Int) (l : Line) : Line :=
  { l with trk := mapTab Trk.init (stepTrk δ) l.trk, chains := mapTab Chain.init (stepChain δ) l.chains, xmit := mapTab Xmit.init (stepXmit δ) l.xmit
           sf := { l.sf with openAt := shT δ l.sf.openAt, from' := shO δ l.sf.from' }
           acks := l.acks.map fun a => { a with due := shT δ a.due, endAt := shT δ a.endAt }
           held := l.held.map fun h => { h with due := shT δ h.due }, routeAt := shT δ l.routeAt }

def stepRadio (δ : Int) (r : Radio) : Radio :=
  { r with rx := r.rx.map fun x => { x with start := shT δ x.start, refAt := shT δ x.refAt }
           sup := mapTab 0 (shN δ) r.sup, frozen := shO δ r.frozen, pollEnd := mapTab 0 (shN δ) r.pollEnd, txEnd := shN δ r.txEnd }

def stepRef (δ : Int) (r : RefIn) : RefIn :=
  { r with timer := shO δ r.timer, times := r.times.map (shT δ), seen := shT δ r.seen }

/-- The next whole second after an instant. -/
def nextSecond (t : Time) : Time := BitVec.ofNat 64 ((t.toNat / 2 ^ 32 + 1) * 2 ^ 32)

/-- A whole second awaited: it moves with a step of whole seconds, and is the next one after any other. -/
def stepSecond (δ : Int) (now : Time) (t : Time) : Time := if δ % 2 ^ 32 = 0 then shT δ t else nextSecond now

/-- A pulse output stays on its former lattice (R409). -/
def stepOut (δ : Int) (now : Time) (o : OutGen) : OutGen :=
  { o with base := o.base.map (· + δ), wait := o.wait.map (stepSecond δ now), edge := o.edge.map (· + δ)
           pulse := shO δ o.pulse, due := shO δ o.due }

def stepPlumb (δ : Int) (now : Time) (p : Plumb) : Plumb :=
  { p with refs := mapTab RefIn.init (stepRef δ) p.refs, startAt := p.startAt + δ, tod := p.tod.map fun x => (x.1, stepSecond δ now x.2)
           since := shT δ p.since, slopeDue := p.slopeDue.map (stepSecond δ now), mark := shT δ p.mark
           outs := mapTab OutGen.init (stepOut δ now) p.outs }

def stepPort (δ : Int) (p : Port) : Port :=
  { p with lastRx := shT δ p.lastRx, curEnd := shT δ p.curEnd, rise := shT δ p.rise, fall := shT δ p.fall, tail := shO δ p.tail
           await := p.await.map fun a => { a with limit := shT δ a.limit } }

def stepSerial (δ : Int) (x : Serial) : Serial :=
  { x with ports := mapTab Port.init (stepPort δ) x.ports
           ring := { x.ring with insEnd := shO δ x.ring.insEnd, due := shO δ x.ring.due, lastChar := shT δ x.ring.lastChar }
           chks := mapTab Check.init (fun (c : Check) => { c with busy := c.busy.map (shT δ) }) x.chks }

def stepTenon (δ : Int) (t : Tenon) : Tenon :=
  { t with logicLost := shO δ t.logicLost, last := mapTab 0#64 (shT δ) t.last
           kept := t.kept.map fun (k : Kept) => { k with sent := shT δ k.sent } }

/-- Queues, coalescing timers, the pager's ages. -/
def stepFabric (δ : Int) (f : Fabric) : Fabric :=
  { f with queues := mapTab Queue.empty (fun (q : Queue) => { q with chain := q.chain.map fun (d : QDesc) => { d with ready := shT δ d.ready } })
             f.queues
           evts := mapTab evtZero (fun (e : EvtSrc) => { e with timer := shO δ e.timer }) f.evts }

def stepNcp (δ : Int) (n : Ncp) : Ncp :=
  { n with slots := n.slots.map fun (x : Slot) => { x with since := shT δ x.since }
           misses := n.misses.map fun (m : Miss) => { m with start := shT δ m.start, due := shT δ m.due } }

/-- Waits of the logic die whose target has come end without `LATE` (R395). -/
def wakeReached (s : State) : State :=
  allThreads.foldl (fun s n =>
    match (s.thr n).wait with
    | .time g | .zx _ _ _ _ g => if atOrBefore g s.tbCopy then exitWait n s else s
    | .sig mask (some g) =>
      if atOrBefore g s.tbCopy then exitWait n (takeWake n mask (wakeGot s n mask true) (markDeadline n true s)) else s
    | _ => s) s

/-- Actions not yet started whose instant lies less than 2 µs ahead do not start (R395). -/
def failNear (s : State) : State :=
  forActs (pendingActs s fun a => a.stage == .waiting && !a.asap &&
      decide (a.instant.toNat < s.tbCopy.toNat + usSteps 2) && (match a.body with
        | .cyp _ | .none => false
        | _ => true)) lateUnsent s

/-- Everything that measures elapsed time moves by the step, so that it ignores it. -/
def moveElapsed (δ : Int) (s : State) : State :=
  { s with fab := stepFabric δ s.fab, jig := { s.jig with threads := mapTab Thread.init (stepThread δ) s.jig.threads }
           ncp := stepNcp δ s.ncp, line := stepLine δ s.line, radio := stepRadio δ s.radio
           plmb := stepPlumb δ s.tb s.plmb, ser := stepSerial δ s.ser, tnl := stepTenon δ s.tnl }

/-- No output is aligned after a step (R409). -/
def misalign (s : State) : State := foldUpto 4 (fun n s => s.put (F.plmbOutStatAligned n) 0) s

/-- The radio superframe number follows the timebase. -/
def renumberRf (s : State) : State :=
  if s.on F.radioSfStatRunning then s.put F.radioSfNumSfNum (rfSfOf s s.tb.toNat) else s

/-- A step of `δ` applies to the master and the copy in one instant (R395). -/
def stepTime (δ : Int) (s : State) : State :=
  if δ = 0 then s
  else
    failNear (wakeReached (renumberRf (misalign
      (moveElapsed δ { s with tb := shT δ s.tb, tbCopy := shT δ s.tbCopy }))))

end Sys2Proof.Machine
end

