-- ==== Sys2Proof/Machine/Plumb.lean ====
section
/-!
DEFINITION. The Plumb unit (R392 to R410): references and their selection, the states of the unit,
slewing, holdover, steering, the seconds count, pulse outputs and the copy on the logic die.
-/

namespace Sys2Proof.Machine

/-! ### References (R396, R398) -/

/-- State field, enable and rank of reference 0 `REF_PPS`, 1 `REF_10M`, 2 `REF_HOST`. -/
def refFld (r : Nat) : Fld :=
  match r with
  | 0 => F.plmbStatusPpsState
  | 1 => F.plmbStatusTenState
  | _ => F.plmbStatusHostState

def refState (s : State) (r : Nat) : Nat := s.get (refFld r)

def refEnabled (s : State) (r : Nat) : Bool :=
  match r with
  | 0 => s.on F.plmbCfgPpsEn
  | 1 => s.on F.plmbCfgTenEn
  | _ => s.on F.plmbCfgHostEn

def refPrio (s : State) (r : Nat) : Nat :=
  match r with
  | 0 => s.get F.plmbCfgPpsPrio
  | 1 => s.get F.plmbCfgTenPrio
  | _ => s.get F.plmbCfgHostPrio

def refIn (s : State) (r : Nat) : RefIn := tabGet (fun _ => RefIn.init) s.plmb.refs r

def setRef (r : Nat) (x : RefIn) (s : State) : State :=
  { s with plmb := { s.plmb with refs := tabSet (fun _ => RefIn.init) s.plmb.refs r x } }

def setRefState (r v : Nat) (s : State) : State := s.put (refFld r) v

/-- The reference selected, if any. -/
def selected (s : State) : Option Nat :=
  match s.get F.plmbStatusSelected with
  | 0 => none
  | n + 1 => some n

/-- Reference `r` ranks before `q`: lower `PRIO`, ties in the order of the inputs (R399). -/
def ranksBefore (s : State) (r q : Nat) : Bool :=
  decide (refPrio s r < refPrio s q) || (refPrio s r == refPrio s q && decide (r < q))

/-- The best of the eligible references. -/
def bestRef (s : State) : Option Nat :=
  findFirst (fun r => refState s r == 4 && (List.range 3).all fun q =>
    refState s q != 4 || !ranksBefore s q r) (List.range 3)

/-! ### Frequency (R401, R403, R404, R406) -/

/-- `SLOPE_NS` as it acts. -/
def slopeOf (s : State) : Nat := min 50000 (max 1 (s.get F.plmbSwitchSlopeNs))

/-- Slope in force: a change during a slew takes effect at a whole second (R404). -/
def slopeNow (s : State) : Nat :=
  match s.plmb.slopeDue with
  | some t => if t.toNat ≤ s.tb.toNat then slopeOf s else s.plmb.slope
  | none => s.plmb.slope

/-- The DCO's offset without steering, in ppt: a slope of 1,000 ns/s is 1 ppm (R403). -/
def loopPpt (s : State) : Int := s.plmb.loop + s.plmb.dir * (1000 * slopeNow s : Nat)

def steerPpt (s : State) : Int := (s.rd R.plmbSteer).toInt

/-- A sum held within ±(2^31 − 1). -/
def clamp31 (x : Int) : Int := min 2147483647 (max (-2147483647) x)

/-- `FREQ_PPT` (R406). -/
def freqPpt (s : State) : Int := clamp31 (loopPpt s + steerPpt s)

/-- `STEER_CLAMPED` sets when the sum is clamped (R406). -/
def checkClamp (s : State) : State :=
  if freqPpt s = loopPpt s + steerPpt s then s else s.put F.plmbStatusSteerClamped 1

/-- The time spent in `LOCKED` up to now, with its frequencies, newest first. -/
def lockHist (s : State) : List (Nat × Int) :=
  if s.get F.plmbStatusState = 2 then (s.tb.toNat - s.plmb.mark.toNat, s.plmb.loop) :: s.plmb.hist
  else s.plmb.hist

/-- The latest `n` steps of a history. -/
def lastSteps : Nat → List (Nat × Int) → List (Nat × Int)
  | _, [] => []
  | n, (d, f) :: l => if n = 0 then [] else (min d n, f) :: lastSteps (n - min d n) l

/-- Holdover frequency: the mean over the latest 60 s in `LOCKED`, once there have been 60 s (R401). -/
def holdPpt (s : State) : Option Int :=
  let l := lastSteps (60 * 2 ^ 32) (lockHist s)
  if sumNat (l.map Prod.fst) < 60 * 2 ^ 32 then none
  else some (l.foldl (fun (a : Int) e => a + (e.1 : Int) * e.2) 0 / (60 * 2 ^ 32 : Nat))

/-- The history closed at the present instant. -/
def markHist (s : State) : State :=
  { s with plmb := { s.plmb with hist := lastSteps (60 * 2 ^ 32) (lockHist s), mark := s.tb } }

/-- The loop's correction. -/
def setLoop (f : Int) (s : State) : State :=
  let s := markHist s
  checkClamp { s with plmb := { s.plmb with loop := f } }

/-! ### States (R400 to R403) -/

/-- The Plumb unit enters a state: 0 `FREERUN`, 1 `ACQUIRE`, 2 `LOCKED`, 3 `HOLDOVER`. -/
def toState (n : Nat) (s : State) : State :=
  if s.get F.plmbStatusState = n then s
  else
    let u := baseUnc s
    let s := markHist s
    let s := { s with plmb := { s.plmb with since := s.tb, unc := u } }
    let s := s.put F.plmbStatusState n
    occur (if n = 0 then s.put F.plmbStatusHoldoverReady 0 else s) 260

/-- The slew's direction; 0 ends it. -/
def setSlew (dir : Int) (s : State) : State :=
  let p := s.plmb
  let s := { s with plmb := { p with
    dir := dir, slope := if p.dir = 0 ∨ dir = 0 then slopeOf s else slopeNow s
    slopeDue := if p.dir = 0 ∨ dir = 0 then none else p.slopeDue } }
  s.put F.plmbStatusSlewing (b2n (dir != 0))

/-- Timebase steps in whole ns, signed. -/
def stepsToNs (δ : Int) : Int := δ * 1000000000 / 2 ^ 32

/-- Steps from the timebase's reading at a pulse to the nearest whole second: positive when the timebase
is late (R403). -/
def pulseOfs (t : Time) : Int :=
  let f : Nat := t.toNat % 2 ^ 32
  if f < 2 ^ 31 then -(f : Int) else ((2 ^ 32 - f : Nat) : Int)

/-- Phase error of a phase reference in steps, and as `PHASE_ERR_NS`. -/
def refOfs (s : State) (r : Nat) : Int :=
  let x := refIn s r
  if r = 0 then (match x.times with
    | t :: _ => pulseOfs t
    | [] => 0)
  else (match x.errs with
    | e :: _ => e * 2 ^ 32 / 1000000000
    | [] => 0)

def refErrNs (s : State) (r : Nat) : Int :=
  if r = 0 then stepsToNs (refOfs s r) else (refIn s r).errs.headD 0

def setPhaseErr (e : Int) (s : State) : State := s.wr R.plmbPhaseErr (BitVec.ofInt 32 (clamp31 e))

/-- The loop takes over: `LOCKED`. -/
def lockOn (r : Nat) (s : State) : State := toState 2 (setLoop (refIn s r).freq (setSlew 0 s))

/-- The unit turns to a newly selected reference: `REF_10M` moves the frequency alone; the first phase
reference before `TB_VALID` steps the fraction; another is slewed to (R394, R400, R403, R404). -/
def retarget (r : Nat) (s : State) : State :=
  let s := toState 1 s
  if r = 1 then lockOn r s
  else if ¬ s.on F.plmbStatusTbValid ∧ ¬ s.plmb.stepped then
    let δ := refOfs s r
    let s := stepTime δ { s with plmb := { s.plmb with stepped := true } }
    lockOn r (setPhaseErr 0 s)
  else
    let e := refErrNs s r
    let s := setPhaseErr e s
    if e = 0 then lockOn r s
    else setLoop (refIn s r).freq (setSlew (if 0 < e then 1 else -1) s)

/-- The selection changes (R399). -/
def countSwitch (s : State) : State := occur (bumpStat R.plmbSwitchCnt plmbOvf s) 258

/-- Reference `r` is selected; the former one, if still good, is eligible. -/
def selectRef (r : Nat) (s : State) : State :=
  let s := match selected s with
    | some q => if refState s q = 5 then setRefState q 4 s else s
    | none => s
  retarget r (countSwitch (setRefState r 5 (s.put F.plmbStatusSelected (r + 1))))

/-- All references are lost (R400). -/
def noRef (s : State) : State :=
  let s := countSwitch (s.put F.plmbStatusSelected 0)
  let f := (holdPpt s).getD (loopPpt s)
  let s := setLoop f (setSlew 0 s)
  toState (if s.on F.plmbStatusHoldoverReady then 3 else 0) s

/-- The selected reference is gone. -/
def reselect (s : State) : State :=
  match bestRef s with
  | some r => selectRef r s
  | none => noRef s

/-- A reference becomes `ELIGIBLE`; it is selected when it ranks before the selected one (R398, R399). -/
def eligible (r : Nat) (s : State) : State :=
  let s := setRef r { refIn s r with once := true, timer := none, bad := 0, misses := 0 } s
  let s := occur (setRefState r 4 s) 256
  match selected s with
  | none => selectRef r s
  | some q => if ranksBefore s r q then selectRef r s else s

/-- A reference has qualified (R398). -/
def qualified (r : Nat) (s : State) : State :=
  let w := min 3600 (s.get F.plmbSwitchWtrS)
  if ¬ (refIn s r).once ∨ w = 0 then eligible r s
  else setRefState r 3 (setRef r { refIn s r with timer := some (after s.tb (w * 2 ^ 32)), bad := 0, misses := 0 } s)

/-- A reference starts over with what it has seen last: `QUALIFYING`, or `ABSENT` when its input is
silent. -/
def restartRef (r : Nat) (silent : Bool) (times : List Time) (errs : List Int) (s : State) : State :=
  setRefState r (if silent then 1 else 2) (setRef r { refIn s r with
    good := 0, misses := 0, bad := 0, timer := none, times := times, errs := errs, seen := s.tb } s)

/-- A judgement fails in `QUALIFYING`, or a reference is lost (R396, R398). -/
def refLost (r : Nat) (silent : Bool) (times : List Time) (errs : List Int) (s : State) : State :=
  let st := refState s r
  let s := restartRef r silent times errs s
  let s := if 4 ≤ st then occur s 257 else s
  if st = 5 then reselect s else s

/-- The selected reference's phase and frequency are followed. -/
def follow (r : Nat) (s : State) : State :=
  if refState s r ≠ 5 then s
  else
    let s := if r = 1 then s else setPhaseErr (refErrNs s r) s
    if s.get F.plmbStatusState = 2 then setLoop (refIn s r).freq s else s

/-- A judgement of reference `r` passes. -/
def refGood (r : Nat) (times : List Time) (errs : List Int) (s : State) : State :=
  let x := refIn s r
  let s := setRef r { x with good := x.good + 1, misses := 0, bad := 0, times := times, errs := errs } s
  if refState s r = 2 then (if 4 ≤ x.good + 1 then qualified r s else s) else follow r s

/-- Absolute difference of two instants given as integers. -/
def apartInt (a b : Int) : Nat := (a - b).natAbs

/-- A pulse or a miss is judged against the prediction from the two pulses before it (R396). -/
def judgePulse (t : Time) (s : State) : State :=
  match (refIn s 0).times with
  | a :: b :: _ =>
    let pred : Int := 2 * (a.toNat : Int) - b.toNat
    let d := apartInt t.toNat pred * 1000000000
    if 1000 * 2 ^ 32 < d then s
    else if d ≤ 100 * 2 ^ 32 then refGood 0 [t, a] [] s
    else
      let s := bumpStat R.plmbPpsOutlierCnt plmbOvf s
      if refState s 0 = 2 ∨ 4 ≤ (refIn s 0).bad + 1 then refLost 0 false [t] [] s
      else setRef 0 { refIn s 0 with
        bad := (refIn s 0).bad + 1, misses := 0, times := [BitVec.ofInt 64 pred, a] } s
  | l => setRef 0 { refIn s 0 with times := t :: l } s

/-- `PPS_PULSE` (R44, R396): a rising edge of `REF_PPS`, and the DCO frequency that then follows it. -/
def execPpsPulse (t : Time) (freq : Int) (s : State) : Ans :=
  if ¬ s.plmb.started ∨ refState s 0 = 0 then .next s
  else
    let s := s.passTo t
    let s := setRef 0 { refIn s 0 with freq := freq } s
    if refState s 0 = 1 then .next (restartRef 0 false [t] [] s) else .next (judgePulse t s)

/-- `PPS_MISS` (R396): no pulse within 1 µs of the prediction. -/
def execPpsMiss (s : State) : Ans :=
  match (refIn s 0).times with
  | a :: b :: _ =>
    if refState s 0 < 2 then .next s
    else
      let pred := 2 * a.toNat - b.toNat
      let s := s.passTo (BitVec.ofNat 64 (pred + usSteps 1))
      let x := refIn s 0
      if refState s 0 = 2 ∨ 2 ≤ x.misses + 1 ∨ 4 ≤ x.bad + 1 then .next (refLost 0 true [] [] s)
      else
        .next (setRef 0 { x with misses := x.misses + 1, bad := x.bad + 1, times := [BitVec.ofNat 64 pred, a] } s)
  | _ => .next s

/-- `REF_10M` shows no edge, or fails its frequency test (R396). -/
def tenLost (silent : Bool) (s : State) : State :=
  if refState s 1 < 2 then s else refLost 1 silent [] [] s

/-- `TEN_QUALIFY` (R396): 16 s within ±2 ppm, and the DCO frequency that follows the input. -/
def execTenQualify (freq : Int) (s : State) : Ans :=
  if refState s 1 < 2 then .next s
  else
    let s := if refState s 1 = 2 then s.passTo (after (refIn s 1).seen (16 * 2 ^ 32)) else s
    let s := setRef 1 { refIn s 1 with freq := freq } s
    if refState s 1 = 2 then .next (qualified 1 s) else .next (follow 1 s)

/-- `REF_10M_EDGE_RETURN` (R398). -/
def execRef10mEdgeReturn (s : State) : Ans :=
  if refState s 1 = 1 then .next (restartRef 1 false [] [] s) else .next s

/-- Error predicted linearly from the two samples before (R396). -/
def hostPred (a b sec : Time) (e1 e2 : Int) : Rat :=
  e1 + ((e1 - e2 : Int) : Rat) * (((sec.toNat : Int) - a.toNat : Int) : Rat) / (((a.toNat : Int) - b.toNat : Int) : Rat)

/-- An accepted sample is judged (R396). -/
def judgeSample (e : Int) (s : State) : State :=
  let x := refIn s 2
  let sec : Time := BitVec.ofNat 64 (s.tb.toNat / 2 ^ 32 * 2 ^ 32)
  let s := setRef 2 { x with seen := s.tb } s
  let late : Bool := match x.times with
    | a :: _ => decide (a.toNat + 4 * 2 ^ 32 < sec.toNat)
    | [] => false
  if refState s 2 = 1 ∨ (refState s 2 = 2 ∧ late) then restartRef 2 false [sec] [e] s
  else
    match x.times, x.errs with
    | a :: b :: _, e1 :: e2 :: _ =>
      let d : Rat := (e : Rat) - hostPred a b sec e1 e2
      if -1000 ≤ d ∧ d ≤ 1000 then refGood 2 [sec, a] [e, e1] s
      else if refState s 2 = 2 ∨ 4 ≤ x.bad + 1 then refLost 2 false [sec] [e] s
      else follow 2 (setRef 2 { refIn s 2 with bad := x.bad + 1, times := [sec, a], errs := [e, e1] } s)
    | l, m => setRef 2 { refIn s 2 with times := sec :: l, errs := e :: m } s

/-- A sample written by the host drawer: late more than 0.9 s after its whole second (R397). -/
def hostWrite (e freq : Int) (s : State) : State :=
  if 9 * 2 ^ 32 < 10 * (s.tb.toNat % 2 ^ 32) then bumpStat R.plmbHostLateCnt plmbOvf s
  else if refState s 2 = 0 then s
  else judgeSample e (setRef 2 { refIn s 2 with freq := freq } s)

/-- `HOST_SAMPLE` (R397): a write of `PLMB_HOST_SAMPLE`, and the DCO frequency that then follows the host. -/
def execHostSample (d : Drawer) (v : Word) (be : BitVec 4) (freq : Int) (s : State) : Ans :=
  .next (filtered s d.val R.plmbHostSample (lineDieWrite (hostWrite (beMerge 0#32 v be).toInt freq)))

/-- `HOST_SAMPLE_TIMEOUT` (R396): 8 s without an accepted sample. -/
def execHostSampleTimeout (s : State) : Ans :=
  if refState s 2 < 2 then .next s
  else .next (refLost 2 true [] [] (s.passTo (after (refIn s 2).seen (8 * 2 ^ 32))))

/-- `WTR_EXPIRE` (R398). -/
def execWtrExpire (r : Fin 3) (s : State) : Ans :=
  match (refIn s r.val).timer with
  | some t => if refState s r.val = 3 then .next (eligible r.val (s.passTo t)) else .next s
  | none => .next s

/-- A reference is enabled or disabled (R398). -/
def refSwitch (r : Nat) (s : State) : State :=
  let st := refState s r
  if refEnabled s r then (if st = 0 then setRefState r 1 s else s)
  else if st = 0 then s
  else
    let s := setRefState r 0 (restartRef r true [] [] s)
    if st = 5 then reselect (occur s 257) else s

/-- A write of `PLMB_CFG`. -/
def plmbCfgWrite (v : Word) (be : BitVec 4) (s : State) : State :=
  foldUpto 3 refSwitch (s.wrTyped R.plmbCfg v be)

/-- A write of `PLMB_SWITCH`: during a slew the slope changes at the next whole second (R404). -/
def plmbSwitchWrite (v : Word) (be : BitVec 4) (s : State) : State :=
  let now := slopeNow s
  let s := s.wrTyped R.plmbSwitch v be
  if s.plmb.dir = 0 then s
  else { s with plmb := { s.plmb with slope := now, slopeDue := some (nextSecond s.tb) } }

/-- `SLEW_DONE` (R403): the phase error crosses zero at instant `t`. -/
def execSlewDone (t : Time) (s : State) : Ans :=
  match selected s with
  | none => .next s
  | some r =>
    if s.plmb.dir = 0 then .next s
    else .next (lockOn r (occur (setPhaseErr 0 (setSlew 0 (s.passTo t))) 259))

/-- `HOLDOVER_READY` (R401): one unbroken `LOCKED` period reaches 900 s. -/
def execHoldoverReady (s : State) : Ans :=
  if s.get F.plmbStatusState ≠ 2 ∨ s.on F.plmbStatusHoldoverReady then .next s
  else .next (occur ((s.passTo (after s.plmb.since (900 * 2 ^ 32))).put F.plmbStatusHoldoverReady 1) 261)

/-- `LOCK_S` (R401). -/
def lockS (s : State) : Nat :=
  if s.get F.plmbStatusState = 2 then min 65535 ((s.tb.toNat - s.plmb.since.toNat) / 2 ^ 32) else 0

/-- A write of `PLMB_STEER`. -/
def steerRegWrite (v : Word) (be : BitVec 4) (s : State) : State := checkClamp (s.wrTyped R.plmbSteer v be)

/-- `STEER_WRITE` (R406). -/
def execSteerWrite (d : Drawer) (v : Word) (be : BitVec 4) (s : State) : Ans :=
  .next (filtered s d.val R.plmbSteer (lineDieWrite (steerRegWrite v be)))

/-! ### The seconds count (R394, R395, R333) -/

/-- A write of `PLMB_TOD_SET`. -/
def todWrite (v : Word) (be : BitVec 4) (s : State) : State :=
  if s.on F.plmbStatusTbValid then s
  else { s with plmb := { s.plmb with tod := some ((beMerge 0#32 v be).toNat, nextSecond s.tb) } }

/-- `TOD_SET` (R394). -/
def execTodSet (d : Drawer) (v : Word) (be : BitVec 4) (s : State) : Ans :=
  .next (filtered s d.val R.plmbTodSet (lineDieWrite (todWrite v be)))

/-- Used airtime of account `a` at the checkpoint's stamp. -/
def ckptUsed (s : State) (a : Nat) : Nat :=
  sumNat ((s.nand.ckpt.buckets.filter fun e => e.1 / 2 ^ 40 == a && decide (e.1 % 2 ^ 40 < 3600)).map Prod.snd)

/-- Airtime added to the prior bucket of age `i` at release. -/
def addPrior (a i n : Nat) (t : Tab Nat) : Tab Nat :=
  if 3600 ≤ i ∨ n = 0 then t
  else
    let k := acctKey a (3600 - i)
    tabSet (fun _ => 0) t k (tabGet (fun _ => 0) t k + n)

/-- The prior buckets rebuilt from the checkpoint, `e` seconds before release (R333). -/
def priorFrom (s : State) (e : Nat) : Tab Nat :=
  let t := s.nand.ckpt.buckets.foldl (fun t b => addPrior (b.1 / 2 ^ 40) (b.1 % 2 ^ 40 + e) b.2 t) []
  if s.nand.ckpt.fin then t
  else foldUpto 8 (fun a t => addPrior a e (min (allowance s a - ckptUsed s a) 60000) t) t

/-- The elapsed time is known under `RESTORE` (R333). -/
def dcRestore (s : State) : State :=
  if s.get F.optActive0DcStart ≠ 1 ∨ s.on F.dcStatusElapsedKnown then s
  else
    let s := s.put F.dcStatusElapsedKnown 1
    let rel := (s.rd R.plmbRelS).toNat
    if ¬ s.nand.ckpt.valid ∨ rel < s.nand.ckpt.stamp then s
    else
      let s := { s with radio := { s.radio with cold := 0, prior := priorFrom s (rel - s.nand.ckpt.stamp) } }
      occur (syncDuty (s.put F.dcStatusRestored 1)) 97

/-- `TOD_APPLY` (R394): the seconds word takes the written value at the whole second awaited. -/
def execTodApply (s : State) : Ans :=
  match s.plmb.tod with
  | none => .next s
  | some (v, due) =>
    let s := s.passTo due
    let s := stepTime ((v * 2 ^ 32 : Nat) - (due.toNat : Int)) { s with plmb := { s.plmb with tod := none } }
    let s := occur (s.put F.plmbStatusTbValid 1) 262
    .next (dcRestore (s.wr R.plmbRelS (BitVec.ofInt 32 (s.plmb.startAt / 2 ^ 32))))

/-! ### Pulse outputs (R408, R409) -/

/-- Align bit of an output. -/
def alignFld (n : Nat) : Fld := ⟨R.plmbAlign, n, n⟩

/-- An alignment is requested. -/
def askAlign (n : Nat) (s : State) : State :=
  if n = 1 then s else setOut n { outGen s n with wait := some (nextSecond s.tb) } s

/-- A write of `PLMB_ALIGN`. -/
def alignWrite (v : Word) (be : BitVec 4) (s : State) : State :=
  let s := s.wrTyped R.plmbAlign v be
  foldUpto 4 (fun n s => if s.on (alignFld n) ∧ (outGen s n).wait = none then askAlign n s else s) s

/-- A write of `PLMB_OUT_CFG_n`: `ENABLE` 1 asks for an alignment, `ENABLE` 0 drives the pin low. -/
def outCfgWrite (n : Nat) (v : Word) (be : BitVec 4) (s : State) : State :=
  let s := s.wrTyped (R.plmbOutCfg n) v be
  if ¬ be.getLsbD 0 then s
  else if v.getLsbD 0 then askAlign n s
  else setOut n OutGen.init (s.put (F.plmbOutStatAligned n) 0)

/-- `PLMB_ALIGN` (R409): a write of `PLMB_ALIGN`, or of an output's configuration. -/
def execPlmbAlign (d : Drawer) (o : Option (Fin 4)) (v : Word) (be : BitVec 4) (s : State) : Ans :=
  match o with
  | none => .next (filtered s d.val R.plmbAlign (lineDieWrite (alignWrite v be)))
  | some n => .next (filtered s d.val (R.plmbOutCfg n.val) (lineDieWrite (outCfgWrite n.val v be)))

/-- The earliest whole second at which an alignment is due. -/
def alignDue (s : State) : Option Time :=
  ((List.range 4).filterMap fun n => (outGen s n).wait).foldl (fun a t =>
    match a with
    | none => some t
    | some u => some (if t.toNat < u.toNat then t else u)) none

/-- Output `n` is aligned at whole second `t`. -/
def alignOut (n : Nat) (t : Time) (s : State) : State :=
  if (outGen s n).wait = some t then
    let s := (s.put (alignFld n) 0).put (F.plmbOutStatAligned n) 1
    setOut n { outGen s n with base := some t.toNat, wait := none, edge := none } s
  else s

/-- `OUTPUT_ALIGN` (R409). -/
def execOutputAlign (s : State) : Ans :=
  match alignDue s with
  | none => .next s
  | some t => .next (foldUpto 4 (fun n s => alignOut n t s) (s.passTo t))

/-- Period of an output in ns; what a period below 100 ns does is open. -/
def outPeriod (s : State) (n : Nat) : Nat :=
  let p := (s.rd (R.plmbOutPeriod n)).toNat
  if n = 0 then 1000000000 else if p < 100 then max 1 (Config.shortPeriod p) else p

/-- Edge `k` of an output's lattice (R408). -/
def outEdge (s : State) (n : Nat) (base : Int) (k : Nat) : Int :=
  base + nsSteps (s.get (F.plmbOutPhasePhaseNs n) + k * outPeriod s n)

/-- The first edge at or after an instant. -/
def nextEdge (s : State) (n : Nat) (base t : Int) : Int :=
  let k := (stepsToNs (t - base) - s.get (F.plmbOutPhasePhaseNs n)).toNat / outPeriod s n
  let k := k - 1
  match findFirst (fun i => decide (t ≤ outEdge s n base (k + i))) (List.range 4) with
  | some i => outEdge s n base (k + i)
  | none => outEdge s n base (k + 4)

/-- Width of an output's pulse in steps (R408). -/
def outWidth (s : State) (n : Nat) : Nat :=
  let w := 1000 * max 1 (s.get (F.plmbOutCfgWidthUs n))
  if n ≠ 1 ∧ outPeriod s n ≤ w then nsSteps (outPeriod s n) / 2 else nsSteps w

/-- A pulse of output `n` begins at instant `t`. -/
def startPulse (n : Nat) (t : Int) (s : State) : State :=
  let x := outGen s n
  setOut n { x with edge := some t, due := none, pulse := some (BitVec.ofInt 64 (t + outWidth s n)) }
    (s.passTo (BitVec.ofInt 64 t))

/-- `PULSE_OUTPUT_EDGE` (R408): the pulse in progress ends, or the next one begins. -/
def execPulseOutputEdge (o : Fin 4) (s : State) : Ans :=
  let n := o.val
  let x := outGen s n
  if ¬ s.on (F.plmbOutCfgEnable n) then .next s
  else
    match x.pulse with
    | some t => .next (setOut n { x with pulse := none } (s.passTo t))
    | none =>
      if n = 1 then
        match x.due with
        | some t => .next (startPulse n t.toNat s)
        | none => .next s
      else
        match x.base with
        | some b =>
          let t : Int := match x.edge with
            | some e => max (e + 1) s.tb.toNat
            | none => s.tb.toNat
          .next (startPulse n (nextEdge s n b t) s)
        | none => .next s

/-- Level of an output's pin (R45, R408). -/
def outPin (s : State) (n : Nat) : Bool :=
  s.on (F.plmbOutCfgEnable n) && ((outGen s n).pulse.isSome != s.on (F.plmbOutCfgPolarity n))

/-! ### The copy on the logic die (R410) -/

/-- Two values of the timebase agree within 8 ns. -/
def within8 (a b : Time) : Bool := decide (apartInt a.toNat b.toNat * 1000000000 ≤ 8 * 2 ^ 32)

/-- The copy's value as its rate is corrected: within 8 ns of the master, 34 steps (R19). -/
def nearMaster (tb c : Time) : Time := BitVec.ofNat 64 (max (tb.toNat - 34) (min c.toNat (tb.toNat + 34)))

/-- `TIME_MESSAGE` (R19, R410): what the master counts when the message arrives, the fixed latency removed, and what
the copy counts, which the correction keeps near it but after a retraining; a copy ahead goes at half rate. -/
def execTimeMessage (master copy : Time) (s : State) : Ans :=
  if (s.get F.tnlStatusState ≠ 1 ∧ s.get F.tnlStatusState ≠ 3) ∨ ¬ s.plmb.started then .next s
  else
    let first := s.plmb.resync
    let tb := if s.tb.toNat < master.toNat then master else s.tb
    let copy := if first then copy
      else if s.plmb.ahead then BitVec.ofNat 64 (s.tbCopy.toNat + (tb.toNat - s.tb.toNat) / 2) else nearMaster tb copy
    let c := if s.tbCopy.toNat < copy.toNat then copy else s.tbCopy
    let ahead := decide (tb.toNat < c.toNat) && (first || s.plmb.ahead)
    let c' := if first && decide (c.toNat < tb.toNat) then tb else c
    let s := { s with tb := tb, tbCopy := c', plmb := { s.plmb with resync := false, ahead := ahead } }
    let s := if c' = c then s else failNear (wakeReached s)
    .next (s.put F.plmbStatusCopySynced (b2n (within8 tb c')))

/-! ### The Plumb start (R393, R400, R412) -/

/-- Tracker `p` starts in `MAINS_LOST`; its crossing 0 is predicted one nominal cycle on (R412). -/
def startTrk (p : Nat) (s : State) : State :=
  let n := nominalPeriod s p
  setTrk p { Trk.init with stamp := after s.tb n, period := n, perAt := n } s

/-- The Plumb start: the master counts from zero, `FREERUN`, history cleared. -/
def plumbStart (s : State) : State :=
  let s := { s with
    tb := 0#64, tbCopy := 0#64
    plmb := { s.plmb with started := true, startAt := 0, tod := none, stepped := false, since := 0#64,
                          loop := 0, dir := 0, slopeDue := none, hist := [], mark := 0#64 } }
  foldUpto 3 startTrk s

/-- A reference of which nothing has been seen during a sleep starts over as `ABSENT`. -/
def refUnseen (r : Nat) (s : State) : State :=
  let st := refState s r
  if st < 2 then s
  else
    let s := restartRef r true [] [] s
    if 4 ≤ st then occur s 257 else s

/-- A sleep of the sample-clock island ends: `FREERUN`, `HOLDOVER_READY` clear; no reference has been seen
during it, so none is selected (R393). -/
def plumbWake (s : State) : State :=
  let was := (selected s).isSome
  let s := (foldUpto 3 refUnseen s).put F.plmbStatusHoldoverReady 0
  toState 0 (if was then noRef s else s)

end Sys2Proof.Machine
end

