-- ==== Sys2Proof/Machine/GreuneCtx.lean ====
section
/-!
DEFINITION. Context access by programs (R146, R184, R185): `LDN`, `STN`, `PREF`, `PIN`, `UNPIN`, the end
of a page wait, and what a program's or a host's write of a record word does.
-/

namespace Sys2Proof.Machine

/-- What a write of a class `W` word by a program or a host leaves in the record: `STATS` words go to
zero, `PHASE` loses its votes, `ROUTE` and `HOPS` clear `SUSPECT`, `ROUTE_PROP_INFO` only loses `VALID`,
and bits that hold nothing stay zero (R299, R302, R366, R369). -/
def progWrite (c k : Nat) (v : Word) (s : State) : State :=
  if 288 ≤ k ∧ k ≤ 303 then setCtx c k 0#32 s
  else if k = 5 then setCtx c 5 (v &&& 0x0000070F#32) s
  else if k = 8 then setCtxBits c 9 3 3 0 (setCtx c 8 v s)
  else if k = 9 then setCtx c 9 ((ctxWord s c 9 &&& 0x00000010#32) ||| (v &&& 0x00000007#32)) s
  else if k = 11 then
    if v.getLsbD 3 then s else setCtxBits c 11 3 3 0 s
  else if k = 262 then setCtx c 262 (v &&& 0x000000FF#32) s
  else setCtx c k (v &&& wordMask k) s

/-- Words a context instruction moves: one, or a pair. -/
def pairWords (wide : Bool) (k : Nat) : List Nat := if wide then [k, k + 1] else [k]

/-- A context instruction on a record that is not resident: storage reported it unreadable, or its fetch
starts; the no-wait form goes on with `MISS`, the wait form enters `WAIT_PAGE` (R146, R184). -/
def ctxMiss (n c cost : Nat) (nw : Bool) (i : GInstr) (s : State) : State :=
  if ctxDead s c then done n cost (failWith n 0 0x27 (if nw then missSet n true s else s))
  else
    let s := requestMiss c 2 s
    if nw then done n cost (missSet n true (failClear n s))
    else
      let bound := s.get (F.jtWdogPageToUs n)
      enterWait n cost .waitPage
        (.page c (gEncode i) (if bound = 0 then none else some (after s.tbCopy (usSteps bound)))) s

/-- `LDN` from a resident record (R184); `fin` ends the instruction or its wait. -/
def ldnResident (n c rd : Nat) (wide nw : Bool) (k : Nat) (fin : State → State) (s : State) : State :=
  let s := touch c s
  let s := if nw then missSet n false s else s
  if (pairWords wide k).any (ctxBad s c) then fin (failWith n 0 0x26 s)
  else if wide then fin (failClear n (modThr s n fun t => setT t (BitVec.ofNat 2 rd) (ctxPair s c k)))
  else fin (failClear n (modThr s n fun t => setG t (BitVec.ofNat 4 rd) (ctxWord s c k)))

/-- `STN` to a resident record, as one update (R184). -/
def stnResident (n c rd : Nat) (wide : Bool) (k : Nat) (fin : State → State) (s : State) : State :=
  let t := s.thr n
  let s :=
    if wide then
      let v := tReg t (BitVec.ofNat 2 rd)
      progWrite c (k + 1) (v.extractLsb' 32 32) (progWrite c k (v.extractLsb' 0 32) s)
    else progWrite c k (gReg t (BitVec.ofNat 4 rd)) s
  fin (failClear n s)

/-- `PIN` of a resident record (R146, R184). -/
def pinResident (n c : Nat) (nw : Bool) (fin : State → State) (s : State) : State :=
  let s := touch c s
  let s := if nw then missSet n false s else s
  if s.ncp.pins.contains (c, n) then fin (failClear n s)
  else if 512 ≤ s.ncp.pins.length then fin (failWith n 0 0x0B s)
  else fin (failClear n (setPins s (s.ncp.pins ++ [(c, n)])))

/-- A context instruction once its record is resident. -/
def ctxResident (n : Nat) (i : GInstr) (fin : State → State) (s : State) : State :=
  let t := s.thr n
  match i with
  | .ldn rd rc wide nw k => ldnResident n (ctxOperand t rc) rd.toNat wide nw k.toNat fin s
  | .stn rd rc wide k => stnResident n (ctxOperand t rc) rd.toNat wide k.toNat fin s
  | .pin rc nw => pinResident n (ctxOperand t rc) nw fin s
  | _ => s

/-- A context instruction on context `c`: ownership, the word's class by cause code 0 for none, then
residence (R153, R184). -/
def ctxIssue (n c refuse : Nat) (nw : Bool) (i : GInstr) (s : State) : State :=
  if ¬ ownsCtx s n c then threadFault n causeOwnership c s
  else if refuse ≠ 0 then done n 4 (failWith n 0 refuse (if nw then missSet n false s else s))
  else if resident s c then ctxResident n i (done n 4) s
  else ctxMiss n c 4 nw i s

/-- `LDN` of a hidden word is refused (R184). -/
def ldnRefuse (wide : Bool) (k : Nat) : Nat :=
  if (pairWords wide k).any fun x => wordClass x == .h then 0x24 else 0

/-- `STN` to a word that is not program-writable is refused (R184). -/
def stnRefuse (wide : Bool) (k : Nat) : Nat :=
  if (pairWords wide k).any fun x => wordClass x != .w then 0x25 else 0

/-- `LDN` (R184). -/
def execLdn (th : Fin 32) (s : State) : Ans :=
  .next (issue s th.val fun i _ s =>
    match i with
    | .ldn rd rc wide nw k =>
      some (ctxIssue th.val (ctxOperand (s.thr th.val) rc) (ldnRefuse wide k.toNat) nw (.ldn rd rc wide nw k) s)
    | _ => none)

/-- `STN` (R184). -/
def execStn (th : Fin 32) (s : State) : Ans :=
  .next (issue s th.val fun i _ s =>
    match i with
    | .stn rd rc wide k =>
      some (ctxIssue th.val (ctxOperand (s.thr th.val) rc) (stnRefuse wide k.toNat) false (.stn rd rc wide k) s)
    | _ => none)

/-- `PREF` of context `c` (R146): `MISS` says it was absent. -/
def prefIssue (n c : Nat) (s : State) : State :=
  if ¬ ownsCtx s n c then threadFault n causeOwnership c s
  else if resident s c then done n 2 (missSet n false (touch c s))
  else done n 2 (missSet n true (requestMiss c 3 s))

/-- `PREF` (R146). -/
def execPref (th : Fin 32) (s : State) : Ans :=
  .next (issue s th.val fun i _ s =>
    match i with
    | .pref rc => some (prefIssue th.val (ctxOperand (s.thr th.val) rc) s)
    | _ => none)

/-- `PIN` (R146, R184). -/
def execPin (th : Fin 32) (s : State) : Ans :=
  .next (issue s th.val fun i _ s =>
    match i with
    | .pin rc nw => some (ctxIssue th.val (ctxOperand (s.thr th.val) rc) 0 nw (.pin rc nw) s)
    | _ => none)

/-- `UNPIN` of context `c` (R184). -/
def unpinIssue (n c : Nat) (s : State) : State :=
  if ¬ ownsCtx s n c then threadFault n causeOwnership c s
  else done n 2 (setPins s (s.ncp.pins.filter fun p => p != (c, n)))

/-- `UNPIN` (R184). -/
def execUnpin (th : Fin 32) (s : State) : Ans :=
  .next (issue s th.val fun i _ s =>
    match i with
    | .unpin rc => some (unpinIssue th.val (ctxOperand (s.thr th.val) rc) s)
    | _ => none)

/-- `PAGE_TIMEOUT` (R142): the bound of a page wait has elapsed; the fetch continues. -/
def execPageTimeout (th : Fin 32) (s : State) : Ans :=
  match (s.thr th.val).wait with
  | .page _ _ (some t) => .next (exitWait th.val (failWith th.val 0 0x04 (s.passTo t)))
  | _ => .next s

/-- Threads that wait for context `c`, in rising order. -/
def pageWaiters (s : State) (c : Nat) : List Nat :=
  allThreads.filter fun n => match (s.thr n).wait with
    | .page d _ _ => d == c
    | _ => false

/-- A thread's page wait ends: its instruction completes, or fails with `PAGE_ERROR` (R142, R184). -/
def pageResume (ok : Bool) (n : Nat) (s : State) : State :=
  match (s.thr n).wait with
  | .page _ w _ =>
    if ok then
      match gDecode w with
      | some i => ctxResident n i (exitWait n) s
      | none => exitWait n s
    else exitWait n (failWith n 0 0x27 s)
  | _ => s

end Sys2Proof.Machine
end

