-- ==== Sys2Proof/Machine/Pager.lean ====
section
/-!
DEFINITION. Host access to contexts (R379 to R382), write-back and the journal (R375, R376), and index
rebuilds (R378).
-/

namespace Sys2Proof.Machine

/-! ### Write-back and the journal -/

/-- `CONTEXT_WRITEBACK` (R375): a dirty resident record is written back. -/
def execContextWriteback (c : Nat) (s : State) : Ans :=
  if (s.ncp.slots.any fun e => e.ctx == c && e.dirty) ∧ ¬ islandHeld s 2 then .next (issueReads (writeBack c s)) else .next s

/-- `TX_FC` of every resident key position as the `FINAL` commit carries it: a mount after that commit moves no
`TX_FC`, and no value may be sent again (R376, R389). -/
def finalFcs (s : State) : List (Nat × Word) :=
  s.ncp.slots.flatMap fun e => [0, 1].map fun p => (512 * e.ctx + keyBase p + 8, ctxWord s e.ctx (keyBase p + 8))

/-- The journal is committed (R375): context words, the namespace table, the map and the grown bad blocks become
durable, and the commit takes the next number. -/
def commitJournal (fin : Bool) (s : State) : State :=
  let l := s.ncp.journal ++ (if fin then finalFcs s else [])
  let ctx := l.foldl (fun t e => tabSet zeroWord t e.1 e.2) s.nand.ctx
  let seq := (s.nand.seq + 1) % 2 ^ 32
  let s := { s with
    nand := { s.nand with
      ctx := ctx, committed := true, seq := seq, isFinal := fin, idxGen := idxGen s
      ns := s.stor.ns, data := s.stor.data, mapped := s.stor.mapped, grownBad := s.get F.storBadGrownBad },
    ncp := { s.ncp with journal := [] } }
  s.wr R.storJournalSeq (BitVec.ofNat 32 seq)

/-! ### Index rebuilds -/

/-- `REBUILD` (R378): drawer 0 writes `NCP_CFG` with `REBUILD` set. -/
def execRebuild (d : Drawer) (v : Word) (be : BitVec 4) (s : State) : Ans :=
  if be.getLsbD 1 ∧ v.getLsbD 8 then
    .next (filtered s d.val R.ncpCfg fun s => startRebuild (s.wrTyped R.ncpCfg v be))
  else .next s

/-- `IDX_REBUILT` (R378): lookups switch to the new generation; a trigger that came meanwhile starts a
further rebuild. -/
def execIdxRebuilt (s : State) : Ans :=
  if ¬ s.on F.ncpStatusRebuilding then .next s
  else
    let g := (idxGen s + 1) % 16
    let again := s.ncp.again
    let s := (s.put F.ncpStatusRebuilding 0).put F.ncpStatusIdxGen g
    let s := setIdx s (idxRehash g s.ncp.idx)
    let s := { s with ncp := { s.ncp with again := false } }
    let s := if again then startRebuild s else s.put F.ncpCfgRebuild 0
    .next (autoRebuild (occur s 237))

/-! ### Host context jobs -/

/-- Bits after the header that a pager operation's word may hold (R379). -/
def pagerBits (op : Nat) : List (Nat × Nat) :=
  match op with
  | 0x010 => [(45, 0), (95, 64)]
  | 0x011 => [(63, 0), (95, 64)]
  | 0x012 => [(45, 0), (74, 48)]
  | 0x013 => [(45, 0)]
  | _ => [(45, 0), (63, 48)]

def jFirst (j : Job) : Nat := bitsOf (jw j 0) 54 46
def jLast (j : Job) : Nat := bitsOf (jw j 0) 63 55
def jShort (j : Job) : Nat := bitsOf (jw j 0) 63 48

/-- The descriptor's fields, beside the record: `DESC_INVALID` when they do not hold (R379). -/
def pagerFieldsOk (j : Job) : Bool :=
  j.words.length == 1 && onlyBits (jw j 0) (pagerBits (jOp j)) &&
    (match jOp j with
     | 0x010 => jSrc j % 16 == 0
     | 0x011 => jSrc j % 16 == 0 && decide (jFirst j ≤ jLast j)
     | _ => true)

/-- A pager job ends; the spec states no `RESULT` for it: that value is free. -/
def pagerEnd (j : Job) (status : Nat) (s : State) : State := endJob j status s.free s.drew

/-- A fresh pager job is judged: ownership of the context, the fields, then residence (R379). -/
def pagerAccept (j : Job) (s : State) : State :=
  if ownerCtx s (jTarget j) ≠ some j.drawer then pagerEnd j 3 s
  else if ¬ pagerFieldsOk j then pagerEnd j 0x16 s
  else setJob (requestMiss (jTarget j) 4 s) { j with phase := 3 }

/-- `CTX_READ`: the record to `BULK`, hidden words as zero; uncorrectable words are written as zero and
the job completes with `POISON` (R379, R472). -/
def ctxReadRun (j : Job) (s : State) : State :=
  let c := jTarget j
  let word (k : Nat) : Nat := if wordClass k = .h ∨ ctxBad s c k then 0 else (ctxWord s c k).toNat
  let bad := (List.range 512).any fun k => ctxBad s c k
  let s := wrBulkL (touch c s) j.drawer (jSrc j) ((List.range 512).flatMap fun k => leBytes 4 (word k))
  pagerEnd j (if bad then 1 else 0) s

/-- `CTX_WRITE`: words `FIRST` to `LAST` from `BULK`, all of class `W` or none (R379). -/
def ctxWriteRun (j : Job) (s : State) : State :=
  let c := jTarget j
  let ks := (List.range (jLast j + 1 - jFirst j)).map fun i => jFirst j + i
  if ks.any fun k => wordClass k != .w then pagerEnd j 0x10 s
  else if bulkPoisoned s j.drawer (jSrc j) (4 * ks.length) then pagerEnd j 1 s
  else
    let b := s
    pagerEnd j 0 (clearBad c (jFirst j) ks.length (ks.foldl (fun s k =>
      progWrite c k (BitVec.ofNat 32 (leNat (rdBulkN b j.drawer (jSrc j + 4 * (k - jFirst j)) 4))) s) s))

/-- A record zeroed but for `KEY_GEN` (R380, R382). -/
def zeroRecord (c : Nat) (s : State) : State :=
  let g := ctxWord s c 18
  let s := { s with ncp := { s.ncp with
    words := tabDropRange (512 * c) 512 s.ncp.words, bad := tabDropRange (128 * c) 128 s.ncp.bad } }
  journalPos c 1 (journalPos c 0 (setCtx c 18 g s))

/-- `CTX_INIT` (R380); the new node is direct, `FIRST_HOP` and `PARENT` 0xFFFF (R299, assumption 123). -/
def ctxInitRun (j : Job) (s : State) : State :=
  let c := jTarget j
  let w := jw j 0
  let at' := hdrTag (word0 j.words) * 16
  let eui := leNat (rdBulkN s j.drawer at' 8).reverse
  let sh := jShort j
  if ctxValid s c then pagerEnd j 0x11 s
  else if bulkPoisoned s j.drawer at' 8 then pagerEnd j 1 s
  else if (idxFind s (.eui eui)).isSome ∨ (idxFind s (.short sh)).isSome then pagerEnd j 0x12 s
  else if shortExcluded s sh then pagerEnd j 0x16 s
  else
    match (idxAdd (idxGen s) s.ncp.idx (.eui eui) c).bind fun l => idxAdd (idxGen s) l (.short sh) c with
    | none => pagerEnd j 0x13 (occur s 238)
    | some l =>
      let s := zeroRecord c s
      let s := setCtx c 0 (BitVec.ofNat 32 eui) s
      let s := setCtx c 1 (BitVec.ofNat 32 (eui / 2 ^ 32)) s
      let s := setCtx c 2 (BitVec.ofNat 32 (sh + 2 ^ 16)) s
      let s := setCtx c 3 (BitVec.ofNat 32 (bitsOf w 72 67 + 64 * bitsOf w 74 73)) s
      let s := setCtx c 4 (BitVec.ofNat 32 (bitsOf w 66 64)) s
      let s := setCtx c 8 0xFFFFFFFF#32 (setCtx c 5 3#32 s)
      pagerEnd j 0 (autoRebuild (setIdx s l))

/-- A free or a renaming counts towards the next rebuild (R378). -/
def countChange (s : State) : State :=
  autoRebuild { s with ncp := { s.ncp with changes := s.ncp.changes + 1 } }

/-- `CTX_FREE` (R382): the index entries go first; the record is zeroed once no frame holds it. -/
def ctxFreeRun (j : Job) (s : State) : State :=
  let c := jTarget j
  if ¬ ctxValid s c then pagerEnd j 0x14 s
  else
    let s := idxRemove c s
    if isHeld s c then s
    else pagerEnd j 0 (countChange (dropCtxPins c (zeroRecord c s)))

/-- `CTX_SHORT` (R379). -/
def ctxShortRun (j : Job) (s : State) : State :=
  let c := jTarget j
  let sh := jShort j
  if ¬ ctxValid s c then pagerEnd j 0x14 s
  else if sh = ctxShort s c then pagerEnd j 0 (countChange s)
  else if shortExcluded s sh then pagerEnd j 0x16 s
  else if (idxFind s (.short sh)).isSome then pagerEnd j 0x12 s
  else
    match idxAdd (idxGen s) (s.ncp.idx.filter fun e => e.key != .short (ctxShort s c)) (.short sh) c with
    | none => pagerEnd j 0x13 (occur s 238)
    | some l => pagerEnd j 0 (countChange (setIdx (setCtxBits c 2 15 0 sh s) l))

/-- A judged pager job does its work once its record is resident; an unreadable record ends it. -/
def pagerRun (j : Job) (s : State) : State :=
  let c := jTarget j
  if resident s c then
    match jOp j with
    | 0x010 => ctxReadRun j s
    | 0x011 => ctxWriteRun j s
    | 0x012 => ctxInitRun j s
    | 0x013 => ctxFreeRun j s
    | _ => ctxShortRun j s
  else if ctxDead s c then pagerEnd j 0x15 s
  else s

/-- An operation of R379 on the job of number `id`: a fresh job is judged, and does its work when its
record is there; a job that waits for its record is taken up again by the same command. -/
def pagerCommand (op id : Nat) (s : State) : State :=
  match jobOf s id with
  | none => s
  | some j =>
    if j.unit ≠ .pager ∨ jOp j ≠ op then s
    else
      let s := if j.phase = 0 then pagerAccept j s else s
      match jobOf s id with
      | some j => if j.phase = 3 then pagerRun j s else s
      | none => s

/-- `CTX_READ` (R379). -/
def execCtxRead (id : Nat) (s : State) : Ans := .next (pagerCommand 0x010 id s)

/-- `CTX_WRITE` (R379). -/
def execCtxWrite (id : Nat) (s : State) : Ans := .next (pagerCommand 0x011 id s)

/-- `CTX_INIT` (R380). -/
def execCtxInit (id : Nat) (s : State) : Ans := .next (pagerCommand 0x012 id s)

/-- `CTX_FREE` (R382). -/
def execCtxFree (id : Nat) (s : State) : Ans := .next (pagerCommand 0x013 id s)

/-- `CTX_SHORT` (R379). -/
def execCtxShort (id : Nat) (s : State) : Ans := .next (pagerCommand 0x014 id s)

/-- `PAGER_JOB_COMPLETE` (R382): the completion of an ended job is written. -/
def execPagerJobComplete (id : Nat) (s : State) : Ans := .next (completeEnded .pager id s)

end Sys2Proof.Machine
end

