-- ==== Sys2Proof/Machine/Storage.lean ====
section
/-!
DEFINITION. Attached storage (R383 to R390): storage jobs, namespaces, NAND operations, the mount and
the last-gasp flush.
-/

namespace Sys2Proof.Machine

def storOvf (s : State) : State := occur s 249

/-! ### Namespaces and granules -/

def nsOf (s : State) (n : Nat) : NsRec := tabGet (fun _ => NsRec.none) s.stor.ns n

def setNs (n : Nat) (r : NsRec) (s : State) : State :=
  { s with stor := { s.stor with ns := tabSet (fun _ => NsRec.none) s.stor.ns n r } }

/-- Key of a granule. -/
def granKey (n g : Nat) : Nat := n * 2 ^ 32 + g

/-- How a granule is mapped: 0 not, else 1 more than its key's number. -/
def granMap (s : State) (n g : Nat) : Nat := tabGet (fun _ => 0) s.stor.mapped (granKey n g)

/-- Granules not allocated to a namespace (R385). -/
def freeGranules (s : State) : Nat :=
  (s.rd R.storCap).toNat - 65536 - sumNat ((List.range 15).map fun n => (nsOf s n).size)

/-- `STOR_FREE` and a namespace's registers follow the table and the map. -/
def syncNs (n : Nat) (s : State) : State :=
  let r := nsOf s n
  let s := s.wr (R.storNsSize n) (BitVec.ofNat 32 r.size)
  let s := s.put (F.storNsStatExists n) (b2n r.made)
  let s := s.wr (R.storNsUsed n)
    (BitVec.ofNat 32 (s.stor.mapped.filter fun e => e.1 / 2 ^ 32 == n).length)
  s.wr R.storFree (BitVec.ofNat 32 (freeGranules s))

/-- Bytes of a granule: zeros while it is not mapped; free values when the key it was written under has
been discarded (R386, R387). -/
def granBytes (n g : Nat) (s : State) : List Byte × State :=
  if granMap s n g = 0 then (List.replicate 4096 0#8, s)
  else if granMap s n g = (nsOf s n).key + 1 then
    ((List.range 4096).map fun i => tabGet (fun _ => 0#8) s.stor.data (granKey n g * 4096 + i), s)
  else randomBytes 4096 s

/-- Entries of a list of bytes from a key, leaving out zeros. -/
def byteEntries : Nat → List Byte → Tab Byte
  | _, [] => []
  | k, b :: bs => if b = 0#8 then byteEntries (k + 1) bs else (k, b) :: byteEntries (k + 1) bs

/-- A granule written under the namespace's key. -/
def writeGranule (n g : Nat) (l : List Byte) (s : State) : State :=
  let k := granKey n g
  { s with stor := { s.stor with
      data := tabCopyRange (k * 4096) 4096 (byteEntries (k * 4096) (l.take 4096)) s.stor.data,
      mapped := tabSet (fun _ => 0) s.stor.mapped k ((nsOf s n).key + 1) } }

/-- A granule unmapped. -/
def trimGranule (n g : Nat) (s : State) : State :=
  let k := granKey n g
  { s with stor := { s.stor with
      data := tabDropRange (k * 4096) 4096 s.stor.data, mapped := tabSet (fun _ => 0) s.stor.mapped k 0 } }

/-- Every granule of a namespace unmapped. -/
def dropNsData (n : Nat) (s : State) : State :=
  { s with stor := { s.stor with
      data := tabKeep (fun k => k / 4096 / 2 ^ 32 != n) s.stor.data,
      mapped := tabKeep (fun k => k / 2 ^ 32 != n) s.stor.mapped } }

/-- A number that no key has had. -/
def nextKey (s : State) : State := { s with stor := { s.stor with nextKey := s.stor.nextKey + 1 } }

/-- The key that the stored namespace table holds for a namespace is discarded at once: its stored contents can never be
read, mounted or not (R386, assumption 131). -/
def forgetStoredKey (n : Nat) (s : State) : State :=
  let r := tabGet (fun _ => NsRec.none) s.nand.ns n
  if ¬ r.made then s
  else { s with nand := { s.nand with ns := tabSet (fun _ => NsRec.none) s.nand.ns n { r with key := s.stor.nextKey } } }

/-- A namespace's key is discarded by a scrub: earlier contents can never be read, and their blocks are erased (R107,
R386). -/
def discardNsKey (n : Nat) (s : State) : State :=
  let s' := forgetStoredKey n s
  if (nsOf s n).made then nextKey (syncNs n (setNs n { nsOf s n with key := s.stor.nextKey } (dropNsData n s')))
  else nextKey s'

/-! ### NAND health and operations -/

/-- A target enters read retry: counted, and `HEALTHY` falls (R383). -/
def enterRetry (t : Nat) (s : State) : State :=
  if bitAt s.stor.retry t then s
  else
    let s := { s with stor := { s.stor with retry := s.stor.retry + 2 ^ t } }
    let s := bumpStat R.storRetryCnt storOvf s
    if s.on F.storStatusHealthy then occur (s.put F.storStatusHealthy 0) 242 else s

/-- What a NAND read leaves in the counters: corrections, a retry entry. -/
def nandRead (r : NandRead) (s : State) : State :=
  let s := addStat R.storCorrCnt r.corr storOvf s
  match r.retry with
  | some t => enterRetry t.val s
  | none => s

/-- `READ_RETRY_EXIT` (R383): a target leaves read retry or reset recovery; with none left, the storage is
healthy again. -/
def execReadRetryExit (t : Fin 8) (s : State) : Ans :=
  if ¬ bitAt s.stor.retry t.val ∨ islandHeld s 2 then .next s
  else
    let s := { s with stor := { s.stor with retry := s.stor.retry - 2 ^ t.val } }
    .next (if s.stor.retry = 0 ∧ s.on F.storStatusMounted then s.put F.storStatusHealthy 1 else s)

/-- A program or erase starts on a target; a program asks for its burst (R448). -/
def startNandOp (d ch target : Nat) (erase own : Bool) (s : State) : State :=
  let s := { s with stor := { s.stor with ops := s.stor.ops ++ [⟨ch, target, erase, own, d, false, 0⟩] } }
  let g : Grant := ⟨.nand ch, d, 150, 0, !own⟩
  if erase ∨ s.pwr.held.any (fun x => x.who == .nand ch) ∨ s.pwr.waiting.any (fun x => x.who == .nand ch) then s
  else if givenNow s g then giveGrant g s else queueGrant g s

/-- With no spare block left the storage becomes read-only (R385). -/
def wornOut (s : State) : State :=
  if s.stor.spare = 0 ∧ ¬ s.on F.storStatusReadOnly then occur (s.put F.storStatusReadOnly 1) 246 else s

/-- A block is retired (R385): counted. -/
def retireBlock (s : State) : State :=
  let bad := min 0xFFFF (s.get F.storBadGrownBad + 1)
  let left := s.get F.storBadSpareLeft - 1
  let s := (s.put F.storBadGrownBad bad).put F.storBadSpareLeft left
  let s := { s with stor := { s.stor with spare := left } }
  wornOut (occur s 244)

/-- The wear figures after an operation (R385). -/
def wear (maxPe avgPe : Nat) (s : State) : State :=
  let s := { (s.put F.storWearMaxPe maxPe).put F.storWearAvgPe avgPe with
    nand := { s.nand with maxPe := maxPe, avgPe := avgPe } }
  if ¬ s.stor.warned ∧ s.get F.storCfgPeRated * s.get F.storCfgWearWarnPct ≤ 100 * avgPe then
    occur { s with stor := { s.stor with warned := true } } 245
  else s

/-- `NAND_OP_COMPLETE` (R385): a program or erase of a target ends; a failed one retires its block. -/
def execNandOpComplete (ch : Fin 2) (target : Fin 4) (ok : Bool) (maxPe avgPe : BitVec 16) (s : State) : Ans :=
  let p : NandOp → Bool := fun o => o.ch == ch.val && o.target == target.val && !o.susp
  if ¬ s.stor.ops.any p then .next s
  else
    let s := { s with stor := { s.stor with ops := dropFirst p s.stor.ops } }
    let s := if s.stor.ops.any fun o => o.ch == ch.val && !o.erase then s
      else dropRequest (.nand ch.val) (releaseGrant (.nand ch.val) s)
    let s := if ok then s else retireBlock s
    .next (wear maxPe.toNat avgPe.toNat s)

/-! ### Storage jobs (R387, R388) -/

def jNs (j : Job) : Nat := bitsOf (jw j 0) 35 32
def jFua (j : Job) : Bool := bitAt (jw j 0) 36
def jBulk (j : Job) : Nat := bitsOf (jw j 0) 95 64
def jGran (j : Job) : Nat := bitsOf (jw j 1) 31 0
def jCount (j : Job) : Nat := bitsOf (jw j 1) 42 32 + 1

/-- A storage job ends after `n` granules; `bad` is the first granule that failed, and with none the
spec states no value there: it is free. -/
def storEnd (j : Job) (status n : Nat) (bad : Option Nat) (s : State) : State :=
  match bad with
  | some g => endJob j status (n % 2 ^ 32 + g % 2 ^ 32 * 2 ^ 32) s
  | none => endJob j status (n % 2 ^ 32 + s.free % 2 ^ 32 * 2 ^ 32) s.drew

/-- Granules read from index `i` of a job of `k` left (R388). -/
def readLoop (j : Job) (r : NandRead) : Nat → Nat → State → State
  | 0, i, s => storEnd j 0 i none s
  | k + 1, i, s =>
    let g := jGran j + i
    let at' := jBulk j + 4096 * i
    if (nsOf s (jNs j)).size ≤ g then storEnd j 0x10 i (some g) s
    else if r.uncorr = some i then
      let s := occur (bumpStat R.storUncorrCnt storOvf s) 243
      storEnd j 1 i (some g) (wrBulkL s j.drawer at' (List.replicate 4096 0#8))
    else if r.fault = some i then storEnd j 0x13 i (some g) (cipherFault s)
    else
      let b := granBytes (jNs j) g s
      readLoop j r k (i + 1) (wrBulkL b.2 j.drawer at' b.1)

/-- A write job ends after `i` granules; with `FUA` those done are durable first (R387, R388). -/
def writeEnd (j : Job) (status i : Nat) (bad : Option Nat) (s : State) : State :=
  storEnd j status i bad (if jFua j then commitJournal false s else s)

/-- Granules written. -/
def writeLoop (j : Job) (r : NandRead) : Nat → Nat → State → State
  | 0, i, s => writeEnd j 0 i none s
  | k + 1, i, s =>
    let g := jGran j + i
    let at' := jBulk j + 4096 * i
    if (nsOf s (jNs j)).size ≤ g then writeEnd j 0x10 i (some g) s
    else if bulkPoisoned s j.drawer at' 4096 then writeEnd j 1 i (some g) s
    else if r.fault = some i then writeEnd j 0x13 i (some g) (cipherFault s)
    else writeLoop j r k (i + 1) (writeGranule (jNs j) g (rdBulkN s j.drawer at' 4096) s)

/-- Granules unmapped. -/
def trimLoop (j : Job) : Nat → Nat → State → State
  | 0, i, s => storEnd j 0 i none s
  | k + 1, i, s =>
    let g := jGran j + i
    if (nsOf s (jNs j)).size ≤ g then storEnd j 0x10 i (some g) s
    else trimLoop j k (i + 1) (trimGranule (jNs j) g s)

/-- A namespace created by drawer 0 (R386); of one that exists already the spec states no status: that
value is free and nothing changes.  With `mismatch` the cores that wrap its key differed (R359). -/
def nsCreate (mismatch : Bool) (j : Job) (s : State) : State :=
  let n := jNs j
  if s.on F.ciphStatusRngFail then storEnd j 0x15 0 (some (jGran j)) s
  else if (nsOf s n).made then storEnd j (s.free % 256) 0 none s.drew
  else if freeGranules s < jGran j then storEnd j 0x12 0 (some (jGran j)) s
  else if mismatch then storEnd j 0x13 0 (some (jGran j)) (cipherFault s)
  else
    let s := s.put ⟨if n < 8 then R.ownNs0 else R.ownNs1, 4 * (n % 8) + 3, 4 * (n % 8) + 3⟩ 0
    let s := setNs n ⟨true, jGran j, s.stor.nextKey⟩ s
    let s := { s with stor := { s.stor with nextKey := s.stor.nextKey + 1 } }
    storEnd j 0 (jGran j) none (syncNs n s)

/-- A namespace deleted by drawer 0: its key is discarded and its blocks are erased behind (R386). -/
def nsDelete (j : Job) (s : State) : State :=
  let n := jNs j
  if ¬ (nsOf s n).made then storEnd j 0x11 0 (some (jGran j)) s
  else
    let s := nextKey (syncNs n (setNs n NsRec.none (dropNsData n (forgetStoredKey n s))))
    storEnd j 0 0 none (s.put (F.storNsStatErasing n) 1)

/-- The programs of a write start on the targets named. -/
def startPrograms (d : Nat) (l : List (Fin 2 × Fin 4)) (s : State) : State :=
  l.foldl (fun s p => startNandOp d p.1.val p.2.val false false s) s

/-- Ownership of a storage job (R387). -/
def storOwned (s : State) (j : Job) : Bool :=
  match jOp j with
  | 0x013 => true
  | 0x020 | 0x021 => j.drawer == 0 && decide (jNs j < 15)
  | _ => decide (jNs j < 15) && ownerNs s (jNs j) == some j.drawer

/-- The job needs the cipher engines: a read, a write, the key of a new namespace (R339). -/
def storCiphers (j : Job) : Bool := jOp j == 0x010 || jOp j == 0x011 || jOp j == 0x020

/-- A storage job does its work (R387, R388); its cipher work is refused as `ABORTED` while the cipher island is in
reset (R18, R518). -/
def storRun (r : NandRead) (progs : List (Fin 2 × Fin 4)) (j : Job) (s : State) : State :=
  let n := jNs j
  if storCiphers j ∧ islandHeld s 1 then storEnd j 2 0 (some (jGran j)) s
  else
  match jOp j with
  | 0x010 =>
    if ¬ (nsOf s n).made then storEnd j 0x11 0 (some (jGran j)) s
    else readLoop j r (jCount j) 0 (nandRead r s)
  | 0x011 =>
    if ¬ (nsOf s n).made then storEnd j 0x11 0 (some (jGran j)) s
    else if s.on F.storStatusReadOnly then storEnd j 0x14 0 (some (jGran j)) s
    else syncNs n (writeLoop j r (jCount j) 0 (startPrograms j.drawer progs (nandRead r s)))
  | 0x012 =>
    if ¬ (nsOf s n).made then storEnd j 0x11 0 (some (jGran j)) s
    else if s.on F.storStatusReadOnly then storEnd j 0x14 0 (some (jGran j)) s
    else syncNs n (trimLoop j (jCount j) 0 s)
  | 0x013 => storEnd j 0 0 none (commitJournal false s)
  | 0x020 => nsCreate r.fault.isSome j s
  | _ => nsDelete j s

/-- A fresh storage job is judged and asks for its cipher burst (R387, R448). -/
def storAccept (j : Job) (s : State) : State :=
  if ¬ storOwned s j then endJob j 3 0 s
  else if lastGasp s then storEnd j 0x16 0 (some (jGran j)) s
  else if givenNow s (burstOf j) then setJob (giveGrant (burstOf j) s) { j with phase := 3 }
  else setJob (queueGrant (burstOf j) s) { j with phase := 1 }

/-- An operation of R387 on the job of number `id`: judged when fresh, and done once its grant is held; a
job that waits for its grant is taken up again by the same command, and while the storage island is in reset it stands
still (assumption 137). -/
def storCommand (op id : Nat) (r : NandRead) (progs : List (Fin 2 × Fin 4)) (s : State) : State :=
  match jobOf s id with
  | none => s
  | some j =>
    if j.unit ≠ .storage ∨ jOp j ≠ op ∨ islandHeld s 2 then s
    else
      let s := if j.phase = 0 then storAccept j s else s
      match jobOf s id with
      | some j => if j.phase = 3 then storRun r progs j s else s
      | none => s

/-- A NAND read without any finding. -/
def NandRead.clean : NandRead := ⟨0, none, none, none⟩

/-- `READ` (R387). -/
def execRead (id : Nat) (r : NandRead) (s : State) : Ans := .next (storCommand 0x010 id r [] s)

/-- `WRITE` (R387): the NAND programs start on the targets named. -/
def execWrite (id : Nat) (r : NandRead) (progs : List (Fin 2 × Fin 4)) (s : State) : Ans :=
  .next (storCommand 0x011 id r progs s)

/-- `TRIM` (R387). -/
def execTrim (id : Nat) (s : State) : Ans := .next (storCommand 0x012 id NandRead.clean [] s)

/-- `FLUSH` (R387): every write completed before it is made durable. -/
def execFlush (id : Nat) (s : State) : Ans := .next (storCommand 0x013 id NandRead.clean [] s)

/-- `NS_CREATE` (R386). -/
def execNsCreate (run : CoreRun) (s : State) : Ans :=
  .next (storCommand 0x020 run.id { NandRead.clean with fault := if run.mismatch then some 0 else none } [] s)

/-- `NS_DELETE` (R386). -/
def execNsDelete (id : Nat) (s : State) : Ans := .next (storCommand 0x021 id NandRead.clean [] s)

/-- `STORAGE_JOB_COMPLETE` (R388): the completion of an ended job is written. -/
def execStorageJobComplete (id : Nat) (s : State) : Ans := .next (completeEnded .storage id s)

/-- `NS_ERASED` (R386): the background erase of a deleted namespace ends. -/
def execNsErased (n : Fin 15) (s : State) : Ans :=
  if s.on (F.storNsStatErasing n.val) ∧ ¬ islandHeld s 2 then .next (occur (s.put (F.storNsStatErasing n.val) 0) 248) else .next s

/-! ### Mount (R383, R385, R390) -/

/-- A part admitted (R383). -/
def partAdmitted (p : NandPart) : Bool :=
  p.pageBytes == 16384 && decide (2080 ≤ p.spareBytes) && p.nvddr2 && p.suspends && decide (p.suspendUs ≤ 30) &&
    decide (p.trUs ≤ 80) && p.uniform && p.rated.isSome && decide (16 * 10 ^ 9 ≤ p.rawBytes) && decide (p.rawBytes ≤ 256 * 10 ^ 9)

/-- Allocatable capacity in granules (R385). -/
def allocatable (raw : Nat) : Nat := 93 * raw / 409600

/-- Every key position of the stored records takes `TX_FC` := `TX_CEIL` (R376). -/
def skipCounters (t : Tab Word) : Tab Word :=
  t.foldl (fun a e => if e.1 % 512 = 29 ∨ e.1 % 512 = 41 then tabSet zeroWord a (e.1 - 1) e.2 else a) t

/-- An entry that the index takes as it is loaded: none twice (R377). -/
def idxLoad (g : Nat) (k : IdxKey) (c : Nat) (l : List IdxEnt) : List IdxEnt :=
  if l.any fun e => e.key == k then l else (idxAdd g l k c).getD l

/-- Index entries of the stored valid records, without excluded short addresses (R377). -/
def loadIndex (s : State) (g : Nat) (t : Tab Word) : List IdxEnt :=
  t.foldl (fun l e =>
    if e.1 % 512 = 2 ∧ e.2.getLsbD 16 then
      let c := e.1 / 512
      let eui := (tabGet zeroWord t (512 * c)).toNat + (tabGet zeroWord t (512 * c + 1)).toNat * 2 ^ 32
      let l := idxLoad g (.eui eui) c l
      let sh := e.2.toNat % 65536
      if shortExcluded s sh then l else idxLoad g (.short sh) c l
    else l) []

/-- The storage is mounted: journal replayed, counters skipped after an unclean end, index loaded, the
namespace table and the map taken up, and `STOR_MOUNTED` raised (R376, R378, R390). -/
def mountStorage (p : NandPart) (s : State) : State :=
  let unclean := s.nand.committed && !s.nand.isFinal
  let s := { s with
    nand := { s.nand with ctx := if unclean then skipCounters s.nand.ctx else s.nand.ctx },
    stor := { s.stor with
      ns := s.nand.ns, data := s.nand.data, mapped := s.nand.mapped, retry := 0, spare := p.spareBlocks } }
  let s := s.wr R.storCap (BitVec.ofNat 32 (allocatable p.rawBytes))
  let s := (List.range 15).foldl (fun s n => syncNs n s) s
  let s := (s.wr (R.storNsSize 15) 65536#32).put (F.storNsStatExists 15) 1
  let s := (s.put F.storBadGrownBad s.nand.grownBad).put F.storBadSpareLeft p.spareBlocks
  let s := (s.put F.storWearMaxPe s.nand.maxPe).put F.storWearAvgPe s.nand.avgPe
  let s := s.wr R.storJournalSeq (BitVec.ofNat 32 s.nand.seq)
  let s := (s.put F.storStatusMounted 1).put F.storStatusHealthy 1
  let s := (s.put F.storStatusUnclean (b2n unclean)).put F.ncpStatusIdxGen s.nand.idxGen
  let s := s.put F.dcStatusCkptValid (b2n s.nand.ckpt.valid)
  let s := autoRebuild (setIdx s (loadIndex s s.nand.idxGen s.nand.ctx))
  issueReads (wornOut (occur (s.put F.bootStatusMounted 1) 241))

/-- The targets found present (R383). -/
def showTargets (p : NandPart) (s : State) : State :=
  (s.put F.storStatusCh0Targets p.ch0.toNat).put F.storStatusCh1Targets p.ch1.toNat

end Sys2Proof.Machine
end

