-- ==== Sys2Proof/Machine/PowerCtl.lean ====
section
/-!
DEFINITION. Last-gasp (R453 to R455, R484), the mains edges that may enter or end last-gasp, and the commands on
shares, tolerances and islands (R443 to R446, R450).
-/

namespace Sys2Proof.Machine

/-! ### Last-gasp -/

/-- The mains trackers are all out of lock. -/
def mainsOut (s : State) : Bool := (List.range 3).all fun p => zxState s p != 0

/-- Every receive chain stops: what it receives is lost (R454). -/
def stopChains (s : State) : State :=
  settleWindows (foldUpto 6 (fun c s =>
    if s.on (F.lphyRxcfgEnable c) ∨ ¬ chainClean (chain s c) then stopChain c s else s) s)

/-- Transmissions of threads outside `PWR_LG_THREADS` that have not begun (R454). -/
def failUnsent (s : State) : State :=
  forActs ((pendingActs s fun a => a.stage == .waiting && (match a.body with
      | .txf _ | .rtx _ => true
      | _ => false)).filter fun p => !bitAt (s.rd R.pwrLgThreads).toNat p.1)
    (fun n k s => endUnsent n k stFailed 0x38 s) s

/-- Actions that check 7 refuses in last-gasp (R454, R483): those of a thread outside `PWR_LG_THREADS`, and every
line window. -/
def lgRefuses (s : State) (n : Nat) (a : Act) : Bool :=
  match a.body with
  | .txf _ | .rtx _ | .rrx _ => !bitAt (s.rd R.pwrLgThreads).toNat n
  | .rxw _ => true
  | _ => false

/-- Threads that wait for the grant of such an action give `FAIL` (R454, R483). -/
def failWaiting (s : State) : State :=
  allThreads.foldl (fun s n =>
    match (s.thr n).wait with
    | .grant k a =>
      if lgRefuses s n a then exitWait n (failWith n k 0x38 (dropRequest (.act n k) (returnAirtime a s))) else s
    | _ => s) s

/-- Storage jobs in progress end with `POWER_LOSS` (R388, R389). -/
def endStorageJobs (s : State) : State :=
  (s.fab.jobs.filter fun j => j.unit == .storage && decide (j.phase < 4)).foldl
    (fun s j => storEnd j 0x16 0 (some (jGran j)) s) s

/-- Last-gasp is entered (R389, R454); whether the checkpoint's write succeeds is open. -/
def lgEnter (byCmd : Bool) (s : State) : State :=
  if lastGasp s then s
  else
    let s := (s.put F.pwrStatusLastGasp 1).put F.pwrStatusLgByCmd (b2n byCmd)
    let s := { s.put F.storStatusLastGaspFlushed 0 with pwr := { s.pwr with armed := false } }
    let s := endStorageJobs (failWaiting (failUnsent (stopChains s)))
    let s := checkpoint (s.free % 2 == 0) true s.drew
    let s := { s with stor := { s.stor with flushing := true } }
    occur (s.put F.pwrCauseLgEntry 1) 285

/-- Last-gasp ends; one commit without `FINAL` is owed (R455). -/
def lgExit (s : State) : State :=
  if ¬ lastGasp s then s
  else
    let s := (s.put F.pwrStatusLastGasp 0).put F.pwrStatusLgByCmd 0
    let s := { s with stor := { s.stor with flushing := false, owed := true } }
    occur (s.put F.pwrCauseLgExit 1) 285

/-- Both conditions of entry have been false together since the last exit. -/
def armLg (s : State) : State :=
  if ¬ mainsOut s ∧ ¬ s.pwr.vinLow then { s with pwr := { s.pwr with armed := true } } else s

/-- The conditions of entry and exit are judged (R453, R455); the logic die cannot judge them while the
link is lost (R484). -/
def judgeLg (s : State) : State :=
  let s := armLg s
  if s.get F.tnlStatusState = 2 ∨ ¬ s.on F.pwrLgCfgLgAuto then s
  else if lastGasp s then (if ¬ mainsOut s ∧ ¬ s.pwr.vinLow then lgExit s else s)
  else if s.pwr.armed ∧ mainsOut s ∧ s.pwr.vinLow then lgEnter false s
  else s

/-- `VIN_MON_FALL` (R46, R453). -/
def execVinMonFall (s : State) : Ans := .next (judgeLg { s with pwr := { s.pwr with vinLow := true } })

/-- `VIN_MON_RISE` (R46, R455). -/
def execVinMonRise (s : State) : Ans := .next (judgeLg { s with pwr := { s.pwr with vinLow := false } })

/-- `MAINS_CROSSING` (R411, R412): a raw edge of phase `p`, with the instant and the period that the loop then
estimates, and what the chains measured in the cycle that it may end. -/
def execMainsCrossing (p : Fin 3) (raw est : Time) (per : Nat) (meas : List BinMeas) (s : State) : Ans :=
  if ¬ s.plmb.started then .next s else .next (judgeLg (reanchor p.val (mainsEdge p.val raw est per meas (s.passTo raw))))

/-- `MAINS_CROSSING_MISSED` (R411, R412). -/
def execMainsCrossingMissed (p : Fin 3) (meas : List BinMeas) (s : State) : Ans :=
  if ¬ s.plmb.started then .next s else .next (judgeLg (reanchor p.val (mainsMissed p.val meas s)))

/-- `LINK_LOSS_LAST_GASP` (R484): the link has been lost for 20 ms. -/
def execLinkLossLastGasp (s : State) : Ans :=
  match s.tnl.logicLost with
  | some t =>
    if s.get F.tnlStatusState = 2 ∧ s.on F.pwrLgCfgLgAuto then .next (lgEnter false (s.passTo (after t (msSteps 20))))
    else .next s
  | none => .next s

/-! ### Shares, tolerances, islands -/

/-- Sum of the shares of a word. -/
def sharesOf (w : Word) : Nat := sumNat ((List.range 4).map fun d => bitsOf w.toNat (8 * d + 6) (8 * d))

/-- A write of `PWR_SHARE`: shares above 100 % together are refused (R450). -/
def shareWrite (v : Word) (be : BitVec 4) (s : State) : State :=
  let t := s.wrTyped R.pwrShare v be
  if 100 < sharesOf (t.rd R.pwrShare) then s.put F.pwrStatusShareRefused 1 else t

/-- `PWR_SHARE_WRITE` (R450). -/
def execPwrShareWrite (d : Drawer) (v : Word) (be : BitVec 4) (s : State) : Ans :=
  .next (filtered s d.val R.pwrShare (shareWrite v be))

/-- `PWR_LTR_WRITE` (R446): `PWR_LTR_A`, or `PWR_LTR_B`; the islands' states follow from it. -/
def execPwrLtrWrite (d : Drawer) (b : Bool) (v : Word) (be : BitVec 4) (s : State) : Ans :=
  let off := if b then R.pwrLtrB else R.pwrLtrA
  .next (filtered s d.val off fun s => s.wrTyped (selfKey d.val off) v be)

/-- Wake time of an island state, in µs (R443). -/
def wakeUs (st : Nat) : Nat :=
  match st with
  | 0 => 0
  | 1 => 1
  | 2 => 40
  | _ => 1200

/-- `ISLAND_WAKE` (R445): the wake time passes before the island acts. -/
def execIslandWake (i : Fin 16) (s : State) : Ans := .next (s.pass (usSteps (wakeUs (islandState s i.val))))

/-- `PCIE_LINK_CHANGE` (R444, R513): 0 down, 1 in L0, 2 in L1; the host island's holds and `CLKREQ_N` follow. -/
def execPcieLinkChange (st : Fin 3) (s : State) : Ans :=
  .next { s with pwr := { s.pwr with pcie := st.val, perstLow := s.pwr.perstLow && st.val == 0 } }

/-- `CLKREQ_N` is driven low: the endpoint needs the reference clock, in L0 and while its link trains, from step 6
of the release on with `PERST_N` high (R52, R72, R513). -/
def clkreqLow (s : State) : Bool := s.pwr.pcie == 1 || (s.pwr.pcie == 0 && !s.pwr.perstLow && decide (6 ≤ s.rst.seq))

end Sys2Proof.Machine
end

