-- ==== Sys2Proof/Machine/Uart.lean ====
section
/-!
DEFINITION. The general UARTs (R416 to R429, R441): reception, the receive FIFO and its drain, transmission
and driver enable, breaks, frame mode and the serial jobs.
-/

namespace Sys2Proof.Machine

def port (s : State) (n : Nat) : Port := tabGet (fun _ => Port.init) s.ser.ports n

/-- A port's state, with the levels its status shows. -/
def setPort (n : Nat) (p : Port) (s : State) : State :=
  let s := { s with ser := { s.ser with ports := tabSet (fun _ => Port.init) s.ser.ports n p } }
  let s := (s.put (F.uartStatusRxLevel n) p.rx.length).put (F.uartStatusTxLevel n) p.tx.length
  s.put (F.uartStatusTxBusy n) (b2n p.cur.isSome)

/-- Cause `j` of `UART_CAUSE_n` is set, and counts when enabled (R442). -/
def uartCause (n j : Nat) (s : State) : State :=
  let s := s.put ⟨R.uartCause n, j, j⟩ 1
  if s.on ⟨R.uartCause n, 16 + j, 16 + j⟩ then occur s (268 + n) else s

def frameMode (s : State) (n : Nat) : Bool := s.on (F.uartCfgFrameMode n)

/-! ### Times (R417, R418) -/

/-- `DIV` as it acts. -/
def uartDiv (s : State) (n : Nat) : Nat := max 4000 (s.get (F.uartBaudDiv n))

/-- Timebase steps of `k` sixteenths of a bit: `DIV` / 64 cycles of 250 MHz for a bit. -/
def bitSteps16 (s : State) (n k : Nat) : Nat := stepsOf 16000000000 (uartDiv s n * k) / 16

def bitSteps (s : State) (n k : Nat) : Nat := stepsOf 16000000000 (uartDiv s n * k)

/-- Sixteenths of a bit in a character: start, data, parity and stop bits. -/
def charBits16 (s : State) (n : Nat) : Nat :=
  if frameMode s n then 160
  else
    16 * (1 + s.get (F.uartCfgDataBits n) + b2n (s.on (F.uartCfgParity n))) +
      (match s.get (F.uartCfgStop n) with
       | 0 => 16
       | 1 => 24
       | _ => 32)

/-- Sixteenths of a bit that an item takes: a break is followed by a high time. -/
def itemBits16 (s : State) (n item : Nat) : Nat :=
  if item < 65536 then charBits16 s n
  else 16 * (item - 65536 + (if frameMode s n then max 1 (s.get (F.uartFrameDelimBits n)) else 1))

/-! ### Frames (R426) -/

/-- Protected identifier of an identifier. -/
def protect (id : Nat) : Nat :=
  let b (i : Nat) : Nat := id / 2 ^ i % 2
  id % 64 + 64 * ((b 0 + b 1 + b 2 + b 4) % 2) + 128 * ((1 + b 1 + b 3 + b 4 + b 5) % 2)

/-- Sum with end-around carry, inverted. -/
def linSum (l : List Byte) : Nat :=
  255 - l.foldl (fun a b => if 255 < a + b.toNat then a + b.toNat - 255 else a + b.toNat) 0

/-- Check bytes of a form: 0 classic, 1 enhanced, 2 CRC-16. -/
def linCheck (chk pid : Nat) (l : List Byte) : List Byte :=
  match chk with
  | 0 => [BitVec.ofNat 8 (linSum l)]
  | 1 => [BitVec.ofNat 8 (linSum (BitVec.ofNat 8 pid :: l))]
  | _ => beBytes 2 (crc16 (BitVec.ofNat 8 pid :: l))

/-- Bytes of check of a form. -/
def checkLen (chk : Nat) : Nat := if 2 ≤ chk then 2 else 1

/-- Steps from the identifier's stop bit to the frame time limit. -/
def limitSteps (s : State) (n len chk : Nat) : Nat := bitSteps s n (14 * (len + checkLen chk))

/-! ### Jobs of the serial unit -/

def sPort (j : Job) : Nat := bitsOf (jw j 0) 34 32
def sCount (j : Job) : Nat := bitsOf (jw j 0) 47 36
def sLength (j : Job) : Nat := bitsOf (jw j 0) 63 48
def sId (j : Job) : Nat := bitsOf (jw j 0) 41 36
def sGet (j : Job) : Bool := bitAt (jw j 0) 42
def sChk (j : Job) : Nat := bitsOf (jw j 0) 44 43
def sLen (j : Job) : Nat := bitsOf (jw j 0) 51 45
def sOff (j : Job) : Nat := bitsOf (jw j 0) 95 64

/-- A serial job ends; where the spec states no `RESULT`, that value is free. -/
def serEnd (id status : Nat) (s : State) : State :=
  match jobOf s id with
  | some j => if j.phase < 4 then endJob j status s.free s.drew else s
  | none => s

def serEndWith (id status result : Nat) (s : State) : State :=
  match jobOf s id with
  | some j => if j.phase < 4 then endJob j status result s else s
  | none => s

/-- The job of a port ends. -/
def endPortJob (n status : Nat) (s : State) : State :=
  match (port s n).job with
  | some id => serEnd id status (setPort n { port s n with job := none, left := [], await := none } s)
  | none => s

/-! ### Transmission (R423, R424) -/

/-- Items of a job enter the transmit FIFO while it has room. -/
def refillTx (p : Port) : Port :=
  let k := 64 - p.tx.length
  { p with tx := p.tx ++ p.left.take k, left := p.left.drop k }

/-- A character as the line carries it: the configured data bits of it (R418, R426). -/
def lineItem (s : State) (n item : Nat) : Nat :=
  if item < 65536 then item % 2 ^ (if frameMode s n then 8 else s.get (F.uartCfgDataBits n)) else item

/-- The next item starts at the earliest `space` sixteenths of a bit from now, with the lead of `UART_DE` at the
start of a burst. -/
def txAfter (n space : Nat) (s : State) : State :=
  let p := refillTx (port s n)
  match p.cur, p.tx with
  | none, item :: rest =>
    let i := lineItem s n item
    let de := s.on (F.uartStatusDe n)
    let lead := bitSteps16 s n (max space (if de then 0 else s.get (F.uartTimingDeLead n)))
    let p := refillTx { p with
      tx := rest, cur := some i, tail := none, rise := if de then p.rise else s.tbCopy
      curEnd := after s.tbCopy (lead + bitSteps16 s n (itemBits16 s n i)) }
    let s := (setPort n p (s.put (F.uartStatusDe n) 1)).emit (.serial n i)
    if p.tx.isEmpty then uartCause n 1 s else s
  | _, _ => setPort n p s

/-- The next item starts. -/
def txNext (n : Nat) (s : State) : State := txAfter n 0 s

/-- A character for the transmit FIFO. -/
def txPush (n c : Nat) (s : State) : State :=
  let p := port s n
  if p.job.isSome ∨ frameMode s n ∨ 64 ≤ p.tx.length then s.put (F.uartStatusTxDropped n) 1
  else
    let s := setPort n { p with tx := p.tx ++ [c] } s
    if s.on (F.uartCfgEnable n) then txNext n s else s

/-- A write of `UART_TXDATA_n`. -/
def txdataWrite (n : Nat) (v : Word) (be : BitVec 4) (s : State) : State :=
  if be = 0#4 then s else txPush n ((beMerge 0#32 v be).toNat % 512) s

/-- `UART_TXDATA` (R423). -/
def execUartTxdata (d : Drawer) (n : Fin 4) (v : Word) (be : BitVec 4) (s : State) : Ans :=
  .next (filtered s d.val (R.uartTxdata n.val) (txdataWrite n.val v be))

/-- What a port's job does once all its items are out: a `GET` waits for the response. -/
def sentAll (n : Nat) (s : State) : State :=
  match (port s n).job with
  | none => s
  | some id =>
    match jobOf s id with
    | none => s
    | some j =>
      if jOp j = 0x012 ∧ sGet j then
        let a : Await := ⟨protect (sId j), sLen j, sChk j, [], after s.tbCopy (limitSteps s n (sLen j) (sChk j)), false⟩
        setPort n { port s n with await := some a } s
      else endPortJob n 0 s

/-- An item's last bit has been sent. -/
def itemSent (n : Nat) (s : State) : State :=
  let p := refillTx (port s n)
  let s := setPort n { p with cur := none } s
  if ¬ p.tx.isEmpty then txNext n s
  else
    let tail := p.tail.getD (after s.tbCopy (bitSteps16 s n (s.get (F.uartTimingDeTail n))))
    sentAll n (setPort n { port s n with tail := some tail } s)

/-- A byte read back by a commander differs from the byte sent (R427). -/
def readBackBad (s : State) (n item : Nat) (back : BitVec 9) : Bool :=
  frameMode s n && (port s n).job.isSome && decide (item < 65536) && back.toNat != item

/-- `UART_CHAR_TX_END` (R423, R427): the character being sent ends; `back` is what the receiver then reads of
it. -/
def execUartCharTxEnd (n : Fin 4) (back : BitVec 9) (s : State) : Ans :=
  match (port s n.val).cur with
  | none => .next s
  | some item =>
    let s := s.passTo (port s n.val).curEnd
    if readBackBad s n.val item back then
      .next (itemSent n.val (endPortJob n.val 0x12 (setPort n.val { port s n.val with tx := [] } s)))
    else .next (itemSent n.val s)

/-- `UART_DE_TAIL_END` (R423). -/
def execUartDeTailEnd (n : Fin 4) (s : State) : Ans :=
  match (port s n.val).tail with
  | none => .next s
  | some t =>
    let s := s.passTo t
    .next (setPort n.val { port s n.val with tail := none, fall := t } (s.put (F.uartStatusDe n.val) 0))

/-! ### Receive FIFO (R421, R422) -/

/-- The queue takes an entry of the port now. -/
def rxqTakes (s : State) (n : Nat) : Bool :=
  let q := s.get (F.uartCfgRxq n)
  queueOn s q && !s.on (F.queueCfgDir q) && s.get (F.queueCfgEndpoint q) == 4 &&
    (ownerUart s n).isSome && ownerQueue s q == ownerUart s n && decide (1 ≤ queueRoom s q)

/-- A character entry of port `n` (R422). -/
def charEntry (n prio : Nat) (l : List Nat) : Nat :=
  prio * 4 + 0x010 * 16 + n * 2 ^ 16 + l.length * 2 ^ 32 +
    sumNat ((List.range 7).map fun c => l.getD c 0 * 2 ^ (12 * c + 36))

/-- Entries are written while the FIFO holds 7 characters, or any when `force`, and the queue has room; in standby they
wait in the wake island's FIFO while the host island sleeps (R425), otherwise they wake it (R445). -/
def drainLoop (n : Nat) (force : Bool) : Nat → State → State
  | 0, s => s
  | k + 1, s =>
    let p := port s n
    if s.on (F.uartCfgRxqEn n) ∧ (7 ≤ p.rx.length ∨ (force ∧ p.rx ≠ [])) ∧ rxqTakes s n ∧
        (standby s = false ∨ islandState s 5 = 0) then
      let prio := s.get (F.uartCfgRxqPrio n)
      let w := BitVec.ofNat 128 (charEntry n prio (p.rx.take 7))
      let s := setPort n { p with rx := p.rx.drop 7 } s
      drainLoop n force k (queueWrite s (s.get (F.uartCfgRxq n)) [⟨w, false⟩] prio)
    else s

/-- The FIFO drains into its queue (R422). -/
def drain (n : Nat) (force : Bool) (s : State) : State := drainLoop n force 10 s

/-- An overrun (R421). -/
def overrun (n : Nat) (s : State) : State :=
  uartCause n 2 (bumpStat (R.uartOvrCnt n) serOvf (s.put (F.uartStatusOverrun n) 1))

/-- An entry for the receive FIFO. -/
def rxStore (n entry : Nat) (s : State) : State :=
  let p := port s n
  if 64 ≤ p.rx.length then overrun n s
  else uartCause n 0 (setPort n { p with rx := p.rx ++ [entry] } s)

/-- An error of a character or a frame is counted. -/
def countErr (n : Nat) (s : State) : State := bumpStat (R.uartErrCnt n) serOvf s

/-- A frame error of a responder (R428). -/
def frameErr (n : Nat) (s : State) : State := uartCause n 6 (countErr n s)

/-- Half duplex: what the receiver does with a character that ran from `start` to now: 0 takes it,
1 ignores it, 2 discards and counts it (R423). -/
def halfDuplex (s : State) (n : Nat) (start : Time) : Nat :=
  let p := port s n
  if ¬ s.on (F.uartCfgHalfDuplex n) then 0
  else if start.toNat < p.rise.toNat ∧ p.rise.toNat ≤ s.tbCopy.toNat then 2
  else if s.on (F.uartStatusDe n) ∨ start.toNat < p.fall.toNat then 1
  else 0

/-- A character in character mode, of the configured data bits; without a parity bit it has no parity error. -/
def charRx (n : Nat) (raw rawTag : Nat) (s : State) : State :=
  let data := raw % 2 ^ s.get (F.uartCfgDataBits n)
  let tag := if s.on (F.uartCfgParity n) then rawTag else rawTag / 2 * 2
  let s := setPort n { port s n with lastRx := s.tbCopy } s
  if tag = 0 then drain n false (rxStore n data s)
  else
    let s := uartCause n 3 (countErr n s)
    if s.on (F.uartCfgErrPolicy n) then drain n false (rxStore n (data + 512 * tag) s) else s

/-! ### Frames received (R427 to R429) -/

/-- The queue and the ring of a drawer take a frame entry of `len` bytes. -/
def frameTakes (s : State) (d q len : Nat) : Bool :=
  queueOn s q && !s.on (F.queueCfgDir q) && s.get (F.queueCfgEndpoint q) == 4 && ownerQueue s q == some d &&
    !drawerInReset s d && decide (1 ≤ queueRoom s q) && s.on (fldOf d F.dlvRingCfgEnable) &&
    decide ((ringPlace s d len).2 ≤ ringRoom s d)

/-- A frame entry (R429) is delivered. -/
def frameDeliver (d q port' prio id chk src : Nat) (l : List Byte) (s : State) : State :=
  let (s, off) := ringPut d l s
  let w := prio * 4 + 0x011 * 16 + port' * 2 ^ 16 + id * 2 ^ 32 + l.length * 2 ^ 38 + chk * 2 ^ 45 + src * 2 ^ 48 +
    off * 2 ^ 64
  queueWrite s q [⟨BitVec.ofNat 128 w, false⟩] prio

/-- A subscribed frame that passes goes to the port's queue; without room it is an overrun (R124). -/
def subDeliver (n : Nat) (a : Await) (s : State) : State :=
  let l := a.got.take a.len
  match ownerUart s n with
  | none => overrun n s
  | some d =>
    if s.on (F.uartCfgRxqEn n) ∧ frameTakes s d (s.get (F.uartCfgRxq n)) l.length then
      frameDeliver d (s.get (F.uartCfgRxq n)) n (s.get (F.uartCfgRxqPrio n)) (a.pid % 64) a.chk 0 l s
    else overrun n s

/-- The check of a received frame passes. -/
def awaitOk (a : Await) : Bool := a.got.drop a.len == linCheck a.chk a.pid (a.got.take a.len)

/-- All bytes of an awaited frame have come. -/
def awaitDone (n : Nat) (a : Await) (s : State) : State :=
  let s := setPort n { port s n with await := none } s
  if a.sub then (if awaitOk a then subDeliver n a s else frameErr n s)
  else
    match (port s n).job with
    | none => s
    | some id =>
      let s := setPort n { port s n with job := none, left := [] } s
      if awaitOk a then serEndWith id 0 a.len s else serEnd id 0x15 s

/-- A byte of an awaited frame: a commander's goes to `BULK` (R427). -/
def frameByte (n : Nat) (b : Byte) (s : State) : State :=
  match (port s n).await with
  | none => s
  | some a =>
    let i := a.got.length
    let s := match (port s n).job with
      | some id =>
        (match jobOf s id with
         | some j => if ¬ a.sub ∧ i < a.len then wrBulkL s j.drawer (sOff j + i) [b] else s
         | none => s)
      | none => s
    let a := { a with got := a.got ++ [b] }
    if a.got.length = a.len + checkLen a.chk then awaitDone n a s
    else setPort n { port s n with await := some a } s

/-- `UART_CHAR_RX` (R419, R421): a character that began at `start` completes at `fin`; tag bit 0 a parity, bit 1 a
framing error. -/
def execUartCharRx (n : Fin 4) (data : BitVec 9) (tag : Fin 4) (start fin : Time) (s : State) : Ans :=
  if ¬ s.on (F.uartCfgEnable n.val) ∨ s.on (F.uartStatusLineStuck n.val) then .next s
  else
    let s := s.passTo fin
    match halfDuplex s n.val start with
    | 2 => .next (countErr n.val s)
    | 1 => .next s
    | _ =>
      if frameMode s n.val then .next (frameByte n.val (BitVec.ofNat 8 data.toNat) s)
      else .next (charRx n.val data.toNat tag.val s)

/-- A break entry is stored, its length latched and counted (R424). -/
def storeBreak (n len : Nat) (sat : Bool) (s : State) : State :=
  let s := (s.put (F.uartBrkLenLength n) (min 65535 len)).put (F.uartBrkLenSat n) (b2n sat)
  let s := uartCause n 3 (bumpStat (R.uartBrkCnt n) serOvf s)
  let s := setPort n { port s n with lastRx := s.tbCopy } s
  drain n true (uartCause n 4 (rxStore n (min len 511 + 512 * 4) s))

/-- `UART_BREAK_RX` (R424): the line rises after a break of `len` bit times; a stuck line is one no more after
one bit time. -/
def execUartBreakRx (n : Fin 4) (len : Nat) (fin : Time) (s : State) : Ans :=
  if ¬ s.on (F.uartCfgEnable n.val) then .next s
  else
    let s := s.passTo fin
    if (port s n.val).sat then
      let s := s.pass (bitSteps s n.val 1)
      .next (setPort n.val { port s n.val with sat := false } (s.put (F.uartStatusLineStuck n.val) 0))
    else if frameMode s n.val then .next s
    else
      match halfDuplex s n.val (BitVec.ofNat 64 (fin.toNat - bitSteps s n.val len)) with
      | 2 => .next (countErr n.val s)
      | 1 => .next s
      | _ => .next (storeBreak n.val len false s)

/-- `UART_LINE_STUCK` (R424): 65,535 bit times low; a transmission that meets it ends. -/
def execUartLineStuck (n : Fin 4) (s : State) : Ans :=
  if ¬ s.on (F.uartCfgEnable n.val) ∨ s.on (F.uartStatusLineStuck n.val) ∨
      halfDuplex s n.val (BitVec.ofNat 64 (s.tbCopy.toNat - bitSteps s n.val 65535)) = 1 then .next s
  else
    let s := setPort n.val { port s n.val with sat := true } (storeBreak n.val 65535 true s)
    let s := uartCause n.val 5 (s.put (F.uartStatusLineStuck n.val) 1)
    .next (if (port s n.val).job.isSome then endPortJob n.val 0x18 (setPort n.val { port s n.val with tx := [] } s)
      else s)

/-- `UART_RX_IDLE` (R422). -/
def execUartRxIdle (n : Fin 4) (s : State) : Ans :=
  if ¬ s.on (F.uartCfgEnable n.val) ∨ ¬ s.on (F.uartCfgRxqEn n.val) then .next s
  else
    let k := max 1 (s.get (F.uartTimingRxIdle n.val))
    let s := s.passTo (after (port s n.val).lastRx (bitSteps16 s n.val (k * charBits16 s n.val)))
    .next (drain n.val true s)

/-- What a read of `UART_RXDATA_n` returns and pops (R422). -/
def rxdataWord (s : State) (n : Nat) : Word :=
  if s.on (F.uartCfgRxqEn n) then 0#32
  else
    match (port s n).rx with
    | [] => 0#32
    | e :: _ => BitVec.ofNat 32 (e + 2 ^ 12)

def rxdataPop (n : Nat) (s : State) : State :=
  if s.on (F.uartCfgRxqEn n) then drain n false s
  else setPort n { port s n with rx := (port s n).rx.drop 1 } s

/-- `UART_RXDATA_POP` (R422). -/
def execUartRxdataPop (d : Drawer) (n : Fin 4) (s : State) : Ans :=
  .next (filteredRead s d.val (R.uartRxdata n.val) (fun s => rxdataWord s n.val) (rxdataPop n.val))

/-- The host island wakes: the ports' FIFOs drain (R422, R425). -/
def drainAll (s : State) : State := (List.range 4).foldl (fun s n => drain n false s) s

/-- `UART_START_EDGE_WAKE` (R425): a start edge while the host island sleeps wakes it. -/
def execUartStartEdgeWake (n : Fin 4) (t : Time) (s : State) : Ans :=
  if ¬ s.on (F.uartCfgEnable n.val) ∨ islandState s 5 ≠ 3 then .next s
  else
    let s := s.passTo t
    .next (if standby s then drainAll { s with pwr := { s.pwr with hostAwake := true } } else s)

/-! ### Enable and disable (R418, R422, R441) -/

/-- The format or the queue of a configuration word is refused (R418, R422). -/
def uartCfgBad (s : State) (n : Nat) (w : Word) : Bool :=
  let f (hi lo : Nat) : Nat := bitsOf w.toNat hi lo
  decide (f 4 1 < 5) || decide (9 < f 4 1) || decide (4 < f 7 5) || f 9 8 == 3 ||
    (f 14 14 == 1 && !(ownerQueue s (f 20 15) == ownerUart s n && (ownerUart s n).isSome &&
      !s.on (F.queueCfgDir (f 20 15)) && s.get (F.queueCfgEndpoint (f 20 15)) == 4))

/-- A port goes out of service: the character in progress is finished, its job ends with `PORT_OFF`, the
receive FIFO stays (R441). -/
def uartOff (n : Nat) (s : State) : State :=
  let s := endPortJob n 0x10 (s.put (F.uartCfgEnable n) 0)
  setPort n { port s n with tx := [], left := [], await := none, sat := false } (s.put (F.uartStatusLineStuck n) 0)

/-- A write of `UART_CFG_n` (R418). -/
def uartCfgWrite (n : Nat) (v : Word) (be : BitVec 4) (s : State) : State :=
  if s.on (F.uartCfgEnable n) then (if be.getLsbD 0 ∧ ¬ v.getLsbD 0 then uartOff n s else s)
  else
    let new := beMerge (s.rd (R.uartCfg n)) v be
    if new.getLsbD 0 ∧ uartCfgBad s n new then s.put (F.uartStatusCfgRefused n) 1
    else
      let s := s.wrTyped (R.uartCfg n) v be
      if s.on (F.uartCfgEnable n) then drain n false (txNext n s) else s

/-- A write of `UART_BAUD_n` while the port is out of service (R418). -/
def uartBaudWrite (n : Nat) (v : Word) (be : BitVec 4) (s : State) : State :=
  if s.on (F.uartCfgEnable n) then s else s.wrTyped (R.uartBaud n) v be

/-- A write of `UART_RESP_n_i`: a write of `ACTION` clears `READY` (R428). -/
def uartRespWrite (n i : Nat) (v : Word) (be : BitVec 4) (s : State) : State :=
  let s := s.wrTyped (R.uartResp n i) v be
  if be.getLsbD 0 then s.put (F.uartRespReady n i) 0 else s

/-- `UART_ENABLE` (R418). -/
def execUartEnable (d : Drawer) (n : Fin 4) (v : Word) (be : BitVec 4) (s : State) : Ans :=
  if be.getLsbD 0 ∧ v.getLsbD 0 then .next (filtered s d.val (R.uartCfg n.val) (uartCfgWrite n.val v be)) else .next s

/-- `UART_DISABLE` (R441). -/
def execUartDisable (d : Drawer) (n : Fin 4) (v : Word) (be : BitVec 4) (s : State) : Ans :=
  if be.getLsbD 0 ∧ ¬ v.getLsbD 0 then .next (filtered s d.val (R.uartCfg n.val) (uartCfgWrite n.val v be)) else .next s

/-! ### Serial jobs (R429) -/

/-- Bits a descriptor may set beside the header. -/
def serBits (op : Nat) : List (Nat × Nat) :=
  match op with
  | 0x010 => [(31, 0), (34, 32), (47, 36), (95, 64)]
  | 0x011 => [(31, 0), (34, 32), (63, 48)]
  | _ => [(31, 0), (34, 32), (51, 36), (95, 64)]

/-- The drawer may use the port. -/
def serOwned (s : State) (j : Job) : Bool :=
  if sPort j < 4 then ownerUart s (sPort j) == some j.drawer
  else sPort j == 4 && s.get F.ringCfgRingDrawer == j.drawer

def serEnabled (s : State) (p : Nat) : Bool := if p < 4 then s.on (F.uartCfgEnable p) else s.on F.ringCfgEnable

/-- The descriptor suits the port's mode and its fields hold. -/
def serFieldsOk (s : State) (j : Job) : Bool :=
  let fm := if sPort j < 4 then frameMode s (sPort j) else true
  j.words.length == 1 && onlyBits (jw j 0) (serBits (jOp j)) &&
    (match jOp j with
     | 0x010 => !fm && decide (1 ≤ sCount j) && sOff j % 2 == 0
     | 0x011 => !fm && decide (1 ≤ sLength j)
     | op =>
       fm && decide (1 ≤ sLen j) && decide (sLen j ≤ 64) && sChk j != 3 && (decide (sLen j ≤ 8) || sChk j == 2) &&
         (op != 0x013 || (!sGet j && decide (sPort j < 4))) &&
         (decide (sPort j < 4) || (sChk j == 2 && !sGet j)))

/-- The checks of R429 at the take; 0 when all pass. -/
def serCheck (s : State) (j : Job) : Nat :=
  if ¬ serOwned s j then 3
  else if ¬ serEnabled s (sPort j) then 0x10
  else if ¬ serFieldsOk s j then 0x11
  else if jOp j ≠ 0x013 ∧ sPort j < 4 ∧ s.on (F.uartStatusLineStuck (sPort j)) then 0x18
  else 0

/-- Bytes that a job takes from `BULK`. -/
def serSource (j : Job) : Nat :=
  match jOp j with
  | 0x010 => 2 * sCount j
  | 0x011 => 0
  | _ => if sGet j then 0 else sLen j

/-- Characters of a `TX_CHARS` job. -/
def charItems (s : State) (j : Job) : List Nat :=
  (List.range (sCount j)).map fun i => leNat (rdBulkN s j.drawer (sOff j + 2 * i) 2) % 512

/-- Items of a commander's frame (R426, R427). -/
def frameItems (s : State) (j : Job) : List Nat :=
  let pid := protect (sId j)
  let l := rdBulkN s j.drawer (sOff j) (sLen j)
  [65536 + max 13 (s.get (F.uartFrameBrkBits (sPort j))), 0x55, pid] ++
    (if sGet j then [] else (l ++ linCheck (sChk j) pid l).map fun b => b.toNat)

/-- The job runs on its port. -/
def serStart (j : Job) (items : List Nat) (s : State) : State :=
  let s := setJob s { j with phase := 3 }
  txNext (sPort j) (setPort (sPort j) { port s (sPort j) with job := some j.id, left := items } s)

def respBuf (s : State) (n i : Nat) : List Byte := tabGet (fun _ => []) s.ser.resp (64 * n + i)

/-- A responder buffer is written and becomes ready (R428). -/
def setResp (j : Job) (s : State) : State :=
  let n := sPort j
  let l := rdBulkN s j.drawer (sOff j) (sLen j)
  let l := l ++ (respBuf s n (sId j)).drop l.length
  let s := { s with ser := { s.ser with resp := tabSet (fun _ => []) s.ser.resp (64 * n + sId j) l } }
  serEnd j.id 0 (s.put (F.uartRespReady n (sId j)) 1)

/-- The ring port takes a job. -/
def ringStart (j : Job) (s : State) : State :=
  let s := setJob s { j with phase := 3 }
  { s with ser := { s.ser with ring := { s.ser.ring with job := some j.id } } }

/-- A serial job that passed its checks begins. -/
def serRun (j : Job) (s : State) : State :=
  if bulkPoisoned s j.drawer (sOff j) (serSource j) then serEnd j.id 1 s
  else
    match jOp j with
    | 0x010 => serStart j (charItems s j) s
    | 0x011 => serStart j [65536 + sLength j] s
    | 0x012 => if sPort j < 4 then serStart j (frameItems s j) s else ringStart j s
    | _ => setResp j s

/-- An operation of R429 on the job of number `id`, as taken. -/
def serCommand (op id : Nat) (s : State) : State :=
  match jobOf s id with
  | none => s
  | some j =>
    if j.unit ≠ .serial ∨ jOp j ≠ op ∨ j.phase ≠ 0 then s
    else if serCheck s j = 0 then serRun j s
    else serEnd j.id (serCheck s j) s

/-- `TX_CHARS` (R429). -/
def execTxChars (id : Nat) (s : State) : Ans := .next (serCommand 0x010 id s)

/-- `TX_BREAK` (R424). -/
def execTxBreak (id : Nat) (s : State) : Ans := .next (serCommand 0x011 id s)

/-- `TX_FRAME` (R427). -/
def execTxFrame (id : Nat) (s : State) : Ans := .next (serCommand 0x012 id s)

/-- `SET_RESPONSE` (R428). -/
def execSetResponse (id : Nat) (s : State) : Ans := .next (serCommand 0x013 id s)

/-- `SERIAL_JOB_COMPLETE` (R118, R427): the completion of an ended job is written. -/
def execSerialJobComplete (id : Nat) (s : State) : Ans := .next (completeEnded .serial id s)

/-- `FRAME_TIME_LIMIT` (R426 to R428): the limit of an awaited frame passes. -/
def execFrameTimeLimit (n : Fin 4) (s : State) : Ans :=
  match (port s n.val).await with
  | none => .next s
  | some a =>
    let s := s.passTo a.limit
    if a.sub then .next (frameErr n.val (setPort n.val { port s n.val with await := none } s))
    else .next (endPortJob n.val (if a.got.isEmpty then 0x13 else 0x14) s)

/-- The identifier's parity passes (R426). -/
def pidOk (pid : Byte) : Bool := protect pid.toNat == pid.toNat

/-- A responder acts on a header (R428): it answers one bit time after the identifier (R426). -/
def linAct (n id : Nat) (s : State) : State :=
  let len := min 64 (s.get (F.uartRespLen n id))
  let chk := s.get (F.uartRespChk n id)
  match s.get (F.uartRespAction n id) with
  | 1 =>
    if ¬ s.on (F.uartRespReady n id) then uartCause n 7 s
    else
      let l := (respBuf s n id ++ List.replicate 64 0#8).take len
      txAfter n 16 (setPort n { port s n with left := (l ++ linCheck chk (protect id) l).map fun b => b.toNat } s)
  | 2 =>
    let a : Await := ⟨protect id, len, chk, [], after s.tbCopy (limitSteps s n len chk), true⟩
    setPort n { port s n with await := some a } s
  | _ => s

/-- `LIN_HEADER_RX` (R428, R486): a header ends at `t`; `ok` when its break and sync pass. -/
def execLinHeaderRx (n : Fin 4) (pid : Byte) (ok : Bool) (t : Time) (s : State) : Ans :=
  if ¬ s.on (F.uartCfgEnable n.val) ∨ ¬ frameMode s n.val ∨ ¬ s.on (F.uartCfgRole n.val) then .next s
  else
    let s := s.passTo t
    if islandState s 5 ≠ 0 ∨ ¬ ok ∨ ¬ pidOk pid then .next (frameErr n.val s)
    else .next (linAct n.val (pid.toNat % 64) s)

/-- A reset or a scrub of a port: the character in progress is finished, and `UART_DE` falls after the tail time that
was in force (R59); both FIFOs are emptied (R107, R441). -/
def uartClear (n : Nat) (s : State) : State :=
  let p := port s n
  let tail := if p.cur.isSome then some (after p.curEnd (bitSteps16 s n (s.get (F.uartTimingDeTail n)))) else p.tail
  let s := { s with ser := { s.ser with
    ports := tabSet (fun _ => Port.init) s.ser.ports n { Port.init with cur := p.cur, curEnd := p.curEnd, tail := tail }
    resp := tabKeep (fun k => k / 64 != n) s.ser.resp } }
  s

end Sys2Proof.Machine
end

