-- ==== Sys2Proof/Machine/RingPort.lean ====
section
/-!
DEFINITION. The Cabinet Ring port (R48 to R51, R430 to R436).
-/

namespace Sys2Proof.Machine

def setRing (x : Ring) (s : State) : State := { s with ser := { s.ser with ring := x } }

/-- Cause `j` of `RING_CAUSE` is set, and counts on its source when enabled (R442). -/
def ringCause (j : Nat) (s : State) : State :=
  let s := s.put ⟨R.ringCause, j, j⟩ 1
  if s.on ⟨R.ringCause, 16 + j, 16 + j⟩ then
    occur s (if j = 0 then 272 else if j < 4 then 273 else 274)
  else s

/-- The bypass is open: the node regenerates. -/
def ringActive (s : State) : Bool := !s.on F.ringStatusBypassClosed

/-- Steps of `n` bit times (R430). -/
def ringBits (s : State) (n : Nat) : Nat := stepsOf 64000000 (n * max 32 (s.get F.ringCfgRateDiv))

/-- The bypass closes (R49, R50); what was being inserted is cut. -/
def closeBypass (s : State) : State :=
  let s := setRing { s.ser.ring with opening := false, insEnd := none, buf := 0 } (s.put F.ringStatusAutonomous 0)
  if ringActive s then ringCause 4 (s.put F.ringStatusBypassClosed 1) else s

/-- The ring's job ends. -/
def endRingJob (status : Nat) (s : State) : State :=
  match s.ser.ring.job with
  | some id => serEnd id status (setRing { s.ser.ring with job := none, due := none } s)
  | none => s

/-- Characters in the insertion buffer now: what came during the insertion, going out one character time after the
other from its end (R433). -/
def ringLevel (s : State) : Nat :=
  let x := s.ser.ring
  match x.insEnd with
  | some e => x.buf - (s.tb.toNat - e.toNat) / max 1 (ringBits s 10)
  | none => 0

/-- A write of `RING_CFG`: an enable needs `RING_ALLOW` and waits for an idle input (R50, R430). -/
def ringWrite (v : Word) (be : BitVec 4) (s : State) : State :=
  let was := s.on F.ringCfgEnable
  let s := s.wrTyped R.ringCfg v be
  if ¬ s.on F.ringCfgEnable then (if was then closeBypass s else s)
  else if was then s
  else if ¬ s.on F.optActive0RingAllow then (s.put F.ringCfgEnable 0).put F.ringStatusRefused 1
  else setRing { s.ser.ring with opening := true, lastChar := s.tb } s

/-- `RING_ENABLE` (R50). -/
def execRingEnable (d : Drawer) (v : Word) (be : BitVec 4) (s : State) : Ans :=
  if be.getLsbD 0 ∧ v.getLsbD 0 then .next (filtered s d.val R.ringCfg (lineDieWrite (ringWrite v be))) else .next s

/-- `RING_DISABLE` (R50). -/
def execRingDisable (d : Drawer) (v : Word) (be : BitVec 4) (s : State) : Ans :=
  if be.getLsbD 0 ∧ ¬ v.getLsbD 0 then .next (filtered s d.val R.ringCfg (lineDieWrite (ringWrite v be))) else .next s

/-- The bypass opens and the driver enables (R50). -/
def openBypass (s : State) : State :=
  ringCause 4 ((setRing { s.ser.ring with opening := false } s).put F.ringStatusBypassClosed 0)

/-- `RING_BYPASS_OPEN` (R50): the input has been idle for 11 bit times. -/
def execRingBypassOpen (s : State) : Ans :=
  if s.ser.ring.opening ∧ s.on F.ringCfgEnable ∧ ¬ islandHeld s 3 then
    .next (openBypass (s.passTo (after s.ser.ring.lastChar (ringBits s 11))))
  else .next s

/-- `RING_FILTER` admits an identifier. -/
def ringAdmits (s : State) (id : Nat) : Bool := bitAt (s.rd (R.ringFilter (id / 32))).toNat (id % 32)

def countRing (k : Nat) (s : State) : State := bumpStat k serOvf s

/-- A copy of a frame goes to `RING_RXQ` of `RING_DRAWER`, at a level the spec leaves open (R435). -/
def ringCopy (f : RingFrame) (s : State) : State :=
  let d := s.get F.ringCfgRingDrawer
  let q := s.get F.ringCfg2RingRxq
  if s.on F.ringStatusAutonomous ∨ ¬ frameTakes s d q f.data.length then countRing R.ringRxLostCnt s
  else
    let prio := s.free % 4
    ringCause 0 (countRing R.ringRxCnt (frameDeliver d q 4 prio (f.pid % 64) 2 f.src f.data s.drew))

/-- The node's own frame is back (R434, R435). -/
def ringOwn (f : RingFrame) (s : State) : State :=
  if s.ser.ring.due.isSome then endRingJob (if f.whole ∧ f.crcOk then 0 else 0x16) s else s

/-- `INSERTING` (R433). -/
def ringInserting (s : State) : Bool :=
  match s.ser.ring.insEnd with
  | some t => decide (s.tb.toNat < t.toNat)
  | none => false

/-- A frame goes on, marked by the master (R434); while the node inserts, its characters wait in the buffer
(R433). -/
def ringForward (f : RingFrame) (s : State) : State :=
  let s := if ringInserting s ∨ 0 < ringLevel s then
      setRing { s.ser.ring with buf := min 128 (s.ser.ring.buf + 8 + f.data.length) } s
    else s
  s.emit (.ring (if s.on F.ringCfgMaster then { f with mark := 1 } else f))

/-- A frame is removed: consumed from the buffer while the node inserts, else a fragment of it has gone on (R434). -/
def ringRemove (f : RingFrame) (s : State) : State :=
  if ringInserting s then s else s.emit (.ring { f with whole := false, data := [] })

/-- Removal and forwarding of a frame (R434). -/
def ringPass (f : RingFrame) (s : State) : State :=
  if f.src = s.get F.ringCfgAddr then ringOwn f (ringRemove f s)
  else if ¬ f.whole then s
  else if s.on F.ringCfgMaster ∧ f.mark = 1 then ringCause 3 (countRing R.ringOrphanCnt (ringRemove f s))
  else ringForward f s

/-- Counting of a frame's faults, and its copy (R434, R435). -/
def ringJudge (f : RingFrame) (s : State) : State :=
  if ¬ f.whole then ringCause 2 (countRing R.ringFragCnt s)
  else if ¬ f.crcOk then ringCause 1 (countRing R.ringCrcCnt s)
  else if f.src ≠ s.get F.ringCfgAddr ∧ f.src ≠ 0 ∧ f.src ≠ 255 ∧ ringAdmits s (f.pid % 64) then ringCopy f s
  else s

/-- `RING_FRAME_RX` (R434, R435): a frame has passed the node by instant `t`. -/
def execRingFrameRx (f : RingFrame) (t : Time) (s : State) : Ans :=
  if ¬ ringActive s then .next s
  else
    let s := s.passTo t
    let s := setRing { s.ser.ring with lastChar := s.tb } ((s.put F.ringStatusStuck 0).put F.ringStatusSilent 0)
    .next (ringJudge f (ringPass f s))

/-- Bit times of a frame with `n` data bytes (R431). -/
def ringFrameBits (n : Nat) : Nat := 14 + 10 * (7 + n)

/-- The frame of a ring job. -/
def ringFrameOf (s : State) (j : Job) : RingFrame :=
  ⟨s.get F.ringCfgAddr, 0, protect (sId j), rdBulkN s j.drawer (sOff j) (sLen j), true, true⟩

/-- The instant from which the node may insert: its input idle for `GAP_BITS`, its buffer empty (R433). -/
def ringFree (s : State) : Time :=
  let x := s.ser.ring
  let gap := after x.lastChar (ringBits s (max 15 (s.get F.ringCfg2GapBits)))
  match x.insEnd with
  | some e =>
    let out := after e (x.buf * ringBits s 10)
    if gap.toNat < out.toNat then out else gap
  | none => gap

/-- `RING_INSERT` (R433); `RETURN_TO` counts from the frame's end (R435). -/
def execRingInsert (s : State) : Ans :=
  match s.ser.ring.job with
  | none => .next s
  | some id =>
    if ¬ ringActive s ∨ s.on F.ringStatusAutonomous ∨ s.ser.ring.due.isSome then .next s
    else
      match jobOf s id with
      | none => .next s
      | some j =>
        let s := s.passTo (ringFree s)
        let e := after s.tb (ringBits s (ringFrameBits (sLen j)))
        .next ((setRing { s.ser.ring with insEnd := some e, buf := 0, due := some (after e (ringBits s (s.get F.ringCfg2ReturnTo))) }
          s).emit (.ring (ringFrameOf s j)))

/-- `RING_RETURN_TIMEOUT` (R435). -/
def execRingReturnTimeout (s : State) : Ans :=
  match s.ser.ring.due with
  | some t => .next (endRingJob 0x17 (s.passTo t))
  | none => .next s

/-- `RING_STUCK` (R432). -/
def execRingStuck (s : State) : Ans :=
  if ¬ s.on F.ringCfgEnable ∨ s.on F.ringStatusStuck then .next s else .next (ringCause 5 (s.put F.ringStatusStuck 1))

/-- `RING_SILENT` (R432): no character for `SILENT_MS`. -/
def execRingSilent (s : State) : Ans :=
  if ¬ s.on F.ringCfgEnable ∨ s.on F.ringStatusSilent then .next s
  else
    let s := s.passTo (after s.ser.ring.lastChar (msSteps (s.get F.ringSilentSilentMs)))
    .next (ringCause 6 (s.put F.ringStatusSilent 1))

/-- A level D reset of the sample-clock island closes the bypass, clears the enable and ends the job
(R51, R441). -/
def ringIsland (s : State) : State := endRingJob 0x17 ((closeBypass s).put F.ringCfgEnable 0)

end Sys2Proof.Machine
end

