-- ==== Sys2Proof/Machine/View.lean ====
section
/-!
DEFINITION. What a register reads as: the live values that other state gives (R414, R491, R494), the captures,
and the mirror of the line die's registers (R468).
-/

namespace Sys2Proof.Machine

/-- Registers held on the line die (R494). -/
def lineDieReg (off : Nat) : Bool :=
  (decide (0x160000 ≤ off) && decide (off < 0x170000)) || (decide (0x171000 ≤ off) && decide (off ≤ 0x171030)) ||
    (decide (0xE0400 ≤ off) && decide (off ≤ 0xE0504))

/-- Their offsets. -/
def lineDieOffs : List Nat :=
  (List.range 88).map (fun i => 0x160000 + 4 * i) ++ (List.range 13).map (fun i => 0x171000 + 4 * i) ++
    (List.range 66).map fun i => 0xE0400 + 4 * i

/-- Bits [hi:lo] of a word replaced. -/
def withBits (w : Word) (hi lo n : Nat) : Word := BitVec.ofNat 32 (putBits w.toNat hi lo n)

/-- `ZX_PHASE_x` (R414). -/
def zxPhase (s : State) (p : Nat) : Word :=
  let d := s.tb.toNat - (trk s p).stamp.toNat
  if zxPeriod s p ≤ d then 0xFFFFFFFF#32 else BitVec.ofNat 32 (d * 2 ^ 32 / zxPeriod s p)

/-- Words of one phase's registers from `PLMB_ZX_CFG_x` on. -/
def zxWord (s : State) (p o : Nat) (w : Word) : Word :=
  match o with
  | 8 => BitVec.ofNat 32 (trk s p).num
  | 12 => (trk s p).stamp.extractLsb' 0 32
  | 16 => (trk s p).stamp.extractLsb' 32 32
  | 24 => zxPhase s p
  | _ => w

/-- A register of the Plumb unit as it stands. -/
def plmbWord (s : State) (off : Nat) (w : Word) : Word :=
  if off = R.plmbFunc then BitVec.ofNat 32 (min 0xFFFF (freqUnc s) + lockS s % 65536 * 65536)
  else if off = R.plmbFreq then BitVec.ofInt 32 (freqPpt s)
  else if off = R.plmbTbSec then s.tb.extractLsb' 32 32
  else if off = R.plmbTbFrac then s.tb.extractLsb' 0 32
  else if 0x160100 ≤ off ∧ off < 0x160160 then zxWord s ((off - 0x160100) / 32) ((off - 0x160100) % 32) w
  else w

/-- A cipher job that runs in the cluster, or one that runs in the pipeline. -/
def ciphBusy (s : State) (cluster : Bool) : Bool :=
  s.fab.jobs.any fun j => j.unit == .cipher && clusterWork j == cluster && (j.phase == 2 || j.phase == 3)

/-- Bits of staging word `n` that are not reserved: the others read zero (R8, R82), though `PREPARE` meets them as
they were written (R84). -/
def stageMask (n : Nat) : Word :=
  match n with
  | 0 => 0x0001FFFF#32
  | 1 => 0xFFFF00FF#32
  | _ => 0#32

/-- A register of the logic die as it stands, for drawer `d`. -/
def logicWord (s : State) (d off : Nat) (w : Word) : Word :=
  if R.evtPend 0 ≤ off ∧ off ≤ R.evtPend 8 then
    let w := (off - R.evtPend 0) / 4
    s.rd off &&& pendMask s d w
  else if off = R.drwSelf then withBits (withBits w 1 0 d) 2 2 (b2n (!isPcie s d))
  else if R.optStage0 ≤ off ∧ off < R.optCmd then w &&& stageMask ((off - R.optStage0) / 4)
  else if off = R.lmacSfStat then
    BitVec.ofNat 32 (if s.line.sf.running then anchorIndex s s.tb.toNat % 2048 + 2048 else 0)
  else if R.lmacNmapStat 0 ≤ off ∧ off ≤ R.lmacNmapStat 5 then
    withBits w 1 1 (b2n (s.get (F.zxStatState ((off - R.lmacNmapStat 0) / 8)) != 0))
  else if off = R.lmacRouteStat then withBits (withBits w 10 0 (ctxsWith s 9 4)) 25 12 (ctxsWith s 11 3)
  else if off = R.radioSfStat then withBits w 5 0 (if s.on F.radioSfStatRunning then rfSlotOf s s.tb.toNat else 0)
  else if off = R.ciphStatus then
    withBits (withBits w 0 0 (b2n (ciphBusy s false || cypPending s))) 1 1
      (b2n (ciphBusy s true || s.att.report.isSome))
  else if off = R.ringStatus then withBits (withBits w 2 2 (b2n (ringInserting s))) 9 3 (min 127 (ringLevel s))
  else if off = R.pwrStatus then withBits w 3 3 (b2n (poolOver s))
  else if off = R.pwrBase then BitVec.ofNat 32 (baseMw s % 65536 + reserveMw s % 65536 * 65536)
  else if off = R.pwrHeld then BitVec.ofNat 32 (heldMw s % 65536 + heldExt s % 65536 * 65536)
  else if R.pwrDrw 0 ≤ off ∧ off ≤ R.pwrDrw 3 then
    let e := (off - R.pwrDrw 0) / 4
    BitVec.ofNat 32 (heldOf s e % 65536 + min 255 (s.pwr.waiting.filter fun g => g.drawer == e).length * 65536)
  else if off = R.pwrIsland then BitVec.ofNat 32 (sumNat ((List.range 16).map fun i => islandState s i * 4 ^ i))
  else if off = R.dbgStatus then
    withBits (withBits w 1 0 (s.get F.optActive0DebugLock)) 3 2 (s.get F.optActive0DbgReach)
  else if 0x41000 ≤ off ∧ off < 0x41800 then
    let n := (off - 0x41000) / 64
    match off % 64 with
    | 12 => jtStat s n
    | 16 => jtIwin s n
    | 20 => jtDwin s n
    | _ => w
  else if 0x170000 ≤ off ∧ off < 0x170400 ∧ off % 256 = 0x18 then rxdataWord s ((off - 0x170000) / 256)
  else if 0x172000 ≤ off ∧ off < 0x172100 ∧ off % 64 = 0x18 then BitVec.ofNat 32 (chkValue s ((off - 0x172000) / 64))
  else w

/-- Key of a drawer's register, or capture. -/
def viewKey (d off : Nat) : Nat :=
  match findRow off with
  | some (r, _, _) => if r.filt == .self then selfKey d off else off
  | none => off

/-- A register as it stands, companion words live. -/
def standing (s : State) (d off : Nat) : Word :=
  let w := s.rd (viewKey d off)
  if 0x160000 ≤ off ∧ off < 0x170000 then plmbWord s off w else logicWord s d off w

/-- The line die's registers as they stand, listed where they differ from reset (R468). -/
def mirrorNow (s : State) : State :=
  let t := lineDieOffs.foldl (fun t off => tabSet regDefault t off (standing s 0 off)) []
  { s with tnl := { s.tnl with mirror := t } }

/-- A register as drawer `d` finds it: the mirror in place of the line die's while the link is down (R468, R494). -/
def found (s : State) (d off : Nat) : Word :=
  if lineDieReg off ∧ regsCut s then tabGet regDefault s.tnl.mirror off else standing s d off

/-- A word that returns a capture (R491). -/
def captured (off : Nat) : Bool :=
  off == R.plmbTbFrac ||
    (decide (0x160100 ≤ off) && decide (off < 0x160160) && (off % 32 == 8 || off % 32 == 12)) ||
    (decide (0x18000 ≤ off) && decide (off < 0x18200) && off % 64 != 0)

/-- What drawer `d` has captured of a word. -/
def capture (s : State) (d off : Nat) : Word := tabGet (fun _ => 0#32) s.caps (selfKey d off)

def setCapture (d off : Nat) (w : Word) (s : State) : State :=
  { s with caps := tabSet (fun _ => 0#32) s.caps (selfKey d off) w }

/-- What a read of a `CTL` register returns to drawer `d` (R491). -/
def viewWord (s : State) (d off : Nat) : Word :=
  if captured off then capture s d off
  else if 0x101000 ≤ off ∧ off < 0x102000 ∧ off % 16 = 12 then
    withBits (standing s d off) 15 0 (capture s d off).toNat
  else found s d off

/-- The companion words of a capturing read (R491). -/
def companions (off : Nat) : List Nat :=
  if off = R.plmbTbSec then [R.plmbTbFrac]
  else if 0x160100 ≤ off ∧ off < 0x160160 ∧ off % 32 = 16 then [off - 4, off - 8]
  else if 0x101000 ≤ off ∧ off < 0x102000 ∧ off % 16 = 4 then [off + 8]
  else if 0x18000 ≤ off ∧ off < 0x18200 ∧ off % 64 = 0 then (List.range 11).map fun i => off + 4 + 4 * i
  else []

/-- A capturing read latches its companions for the drawer (R491). -/
def captureRead (d off : Nat) (s : State) : State :=
  (companions off).foldl (fun t o => setCapture d o (found s d o) t) s

/-- A read of a `CTL` word by drawer `d`: what it returns, and its side effects (R103, R489 to R491). -/
def ctlRead (d off : Nat) (s : State) : State × Word :=
  match findRow off with
  | none => (s, 0#32)
  | some (r, i, _) =>
    match filterRead s d r i off with
    | .take =>
      let w := viewWord s d off
      let s := captureRead d off s
      if 0x170000 ≤ off ∧ off < 0x170400 ∧ off % 256 = 0x18 then (rxdataPop ((off - 0x170000) / 256) s, w) else (s, w)
    | .drop => (s, 0#32)
    | .refuse => (violation s d false off false, 0#32)

/-- Offset of a capturing register. -/
def capOff : CapReg → Nat
  | .tbSec => R.plmbTbSec
  | .zxTHi x => R.zxTHi x.val
  | .keyUseLo n => R.keyUseLo n.val
  | .meas n => R.meas n.val 0

/-- `CAPTURING_READ` (R491): what the read returns goes outward. -/
def execCapturingRead (d : Drawer) (r : CapReg) (s : State) : Ans :=
  let x := ctlRead d.val (capOff r) s
  .next (x.1.emit (.read d.val (capOff r) x.2))

end Sys2Proof.Machine
end

