-- ==== Sys2Proof/Machine/Standby.lean ====
section
/-!
DEFINITION. Standby (R452, R464) and the commands of `PWR_CMD` (R452, R454, R455).
-/

namespace Sys2Proof.Machine

/-- Something is in service that refuses standby (R452). -/
def standbyRefused (s : State) : Bool :=
  (List.range 6).any (fun c => s.on (F.lphyRxcfgEnable c)) || (List.range 3).any (fun t => s.on (F.lphyTxcfgEnable t)) ||
    s.on F.radioCfgEnable || s.on F.ringCfgEnable || allThreads.any (fun n => (s.thr n).state != .idle) || lastGasp s

/-- Standby is entered, or refused (R452); the link is parked (R464). -/
def enterStandby (s : State) : State :=
  if standby s then s
  else if standbyRefused s then s.put F.pwrStatusCmdRefused 1
  else
    let s := { s.put F.pwrStatusStandby 1 with pwr := { s.pwr with hostAwake := false } }
    if s.get F.tnlStatusState = 1 then (mirrorNow s).put F.tnlStatusState 4 else s

/-- The oscillators start, which takes 1.2 ms (R452). -/
def wakeClocks (s : State) : State := (s.pass (usSteps 1200)).put F.pwrStatusStandby 0

/-- A parked link carries flits again (R466). -/
def unparkLink (s : State) : State :=
  if s.get F.tnlStatusState = 4 then deliverHeld (s.put F.tnlStatusState 1) else s

/-- The logic die's copy of the timebase waits for the next time flit (R410). -/
def copyStale (s : State) : State :=
  { s.put F.plmbStatusCopySynced 0 with plmb := { s.plmb with resync := true } }

/-- Standby ends: every island wakes within 1.2 ms, the ports' FIFOs drain, the link trains, the Plumb unit starts from
`FREERUN` (R393, R425, R452, R464). -/
def leaveStandby (s : State) : State :=
  if ¬ standby s then s
  else
    let s := wakeClocks s
    let s := { s with pwr := { s.pwr with hostAwake := false } }
    drainAll (plumbWake (copyStale (unparkLink s)))

/-- A write of `PWR_CMD.OP`: other codes have no effect. -/
def pwrCmd (op : Nat) (s : State) : State :=
  match op with
  | 1 => lgEnter true s
  | 2 => lgExit s
  | 3 => enterStandby s
  | 4 => leaveStandby s
  | _ => s

/-- `LAST_GASP` (R454): drawer `d` writes `PWR_CMD.OP`. -/
def execLastGasp (d : Drawer) (s : State) : Ans := .next (filtered s d.val R.pwrCmd (pwrCmd 1))

/-- `EXIT` (R455). -/
def execExit (d : Drawer) (s : State) : Ans := .next (filtered s d.val R.pwrCmd (pwrCmd 2))

/-- `STANDBY` (R452). -/
def execStandby (d : Drawer) (s : State) : Ans := .next (filtered s d.val R.pwrCmd (pwrCmd 3))

/-- `WAKE` (R452). -/
def execWake (d : Drawer) (s : State) : Ans := .next (filtered s d.val R.pwrCmd (pwrCmd 4))

end Sys2Proof.Machine
end

