-- ==== Sys2Proof/Machine/Jobs.lean ====
section
/-!
DEFINITION. The taking of descriptors by the units (R119, R345, R429), the end of a context miss (R25, R371,
R372), and what the storage manager does of itself: journal commits, the mount and the last-gasp flush
(R375, R389, R390).
-/

namespace Sys2Proof.Machine

/-! ### Taking a descriptor -/

/-- A unit serves its queues now: after `READY`, its island out of reset, outside last-gasp (R454); storage
once mounted (R390), the serial unit in standby only while the host island runs (R485). -/
def unitServes (s : State) (u : QUnit) : Bool :=
  stageReady s && !lastGasp s &&
    (match u with
     | .storage => s.on F.storStatusMounted && !bitAt (s.get F.rstStatusIslandHeld) 2
     | .cipher => !bitAt (s.get F.rstStatusIslandHeld) 1
     | .pager => true
     | .serial => !standby s || s.pwr.hostAwake)

/-- The front descriptor of a queue names a port at work (R429). -/
def frontBusy (s : State) (n : Nat) : Bool :=
  match (s.queue n).sub with
  | [] => false
  | h :: _ =>
    let p := bitsOf (word0 h.words).toNat 34 32
    s.fab.jobs.any fun j => j.unit == .serial && decide (j.phase < 4) && sPort j == p

/-- The queue that a unit serves next (R119, R429). -/
def servesNext (s : State) (u : QUnit) : Option Nat :=
  let last := tabGet (fun _ => 63) s.fab.turn (unitCode u)
  findFirst (fun n => takable s u n && !(u == .serial && frontBusy s n))
    ((List.range 64).map fun i => (last + 1 + i) % 64)

/-- `UNIT_TAKE` (R119). -/
def execUnitTake (u : QUnit) (s : State) : Ans :=
  if ¬ unitServes s u then .next s
  else
    match servesNext s u with
    | some n => .next (takeFrom u n s)
    | none => .next s

/-! ### The end of a miss -/

/-- Device updates that waited for a context are applied in the order they fell due (R25). -/
def applyWaiting (c : Nat) (s : State) : State :=
  let l := s.line.upds.filter fun x => x.1 == c
  let s := { s with line := { s.line with upds := s.line.upds.filter fun x => x.1 != c } }
  l.foldl (fun s x => applyUpd c x.2 s) s

/-- Frames held for a context are judged, and its holds for them end unless an acknowledgement takes one
(R23, R24, R373). -/
def judgeWaiting (c : Nat) (s : State) : State :=
  let l := s.line.held.filter fun h => h.ctx == c
  let s := { s with line := { s.line with held := s.line.held.filter fun h => h.ctx != c } }
  settleWindows (l.foldl (fun s h => unhold c (judgeCtx c h.got s)) s)

/-- The context has become resident (R25, R142, R355). -/
def contextArrived (c : Nat) (s : State) : State :=
  let s := prepareAll (judgeWaiting c (applyWaiting c (insertRecord c s)))
  (pageWaiters s c).foldl (fun s n => pageResume true n s) s

/-- The miss ends with `PAGE_ERROR`: the context stays unresident until a level B reset (R372). -/
def contextFailed (c : Nat) (s : State) : State :=
  let s := { s with ncp := { s.ncp with dead := s.ncp.dead ++ [c] },
                    line := { s.line with upds := s.line.upds.filter fun x => x.1 != c } }
  let s := occur (bumpStat R.ncpPageErrCnt ncpOvf s) 235
  (pageWaiters s c).foldl (fun s n => pageResume false n s) s

/-- A program or erase that holds a target. -/
def opOn (t : Nat) (o : NandOp) : Bool := o.ch == t / 4 && o.target == t % 4 && !o.susp

/-- The read of a miss may end now: of those under way on its target it was issued first, and no program or erase there
has been suspended eight times already (R371). -/
def mayFill (s : State) (m : Miss) : Bool :=
  match m.issued with
  | some (t, n) => ((readsOn s t).all fun k => decide (n ≤ k)) && !(s.stor.ops.any fun o => opOn t o && decide (8 ≤ o.yields))
  | none => false

/-- A context read suspends what its target is doing, counted (R371). -/
def yieldOp (m : Miss) (s : State) : State :=
  match m.issued with
  | some (t, _) =>
    if s.stor.ops.any (opOn t) then
      bumpStat R.storSuspendCnt storOvf
        { s with stor := { s.stor with ops := mapFirst (opOn t) (fun o => { o with yields := o.yields + 1 }) s.stor.ops } }
    else s
  | none => s

/-- `CONTEXT_FILL_DONE` (R372): the read of a missed context ends, with what it showed; while the storage island is in
reset, or before the mount, nothing is read, and without a namespace 15 every miss fails. -/
def execContextFillDone (c : Nat) (ok : Bool) (r : NandRead) (s : State) : Ans :=
  match findFirst (fun m => m.ctx == c) s.ncp.misses with
  | none => .next s
  | some m =>
    if islandHeld s 2 then .next s
    else if s.on F.storStatusUnsupported then .next (contextFailed c (dropMiss c (missEnd m s)))
    else if ¬ s.on F.storStatusMounted ∨ ¬ mayFill s m then .next s
    else
      let s := issueReads (dropMiss c (missEnd m (nandRead r (yieldOp m s))))
      .next (if ok then contextArrived c s else contextFailed c s)

/-! ### The storage manager -/

/-- `JOURNAL_COMMIT` (R375, R376, R455): frames that waited for the durable record go on.  The flush of
last-gasp makes its own commit, and after it one is made only when something has been journaled. -/
def execJournalCommit (s : State) : Ans :=
  if ¬ s.on F.storStatusMounted ∨ islandHeld s 2 ∨ s.stor.flushing ∨ (lastGasp s ∧ s.ncp.journal.isEmpty) then .next s
  else
    let s := commitJournal false s
    .next (prepareAll { s with stor := { s.stor with owed := false } })

/-- `STORAGE_MOUNT` (R383, R390): step 10 of the release; the part that the parameter pages declare is
admitted or not. -/
def execStorageMount (p : NandPart) (s : State) : Ans :=
  if s.rst.seq ≠ 9 ∨ s.on F.storStatusUnsupported ∨ bitAt (s.get F.rstStatusIslandHeld) 2 then .next s
  else
    let s := showTargets p s
    if partAdmitted p then
      let s := { s with rst := { s.rst with seq := 10, level := .none } }
      .next (mountStorage p s)
    else .next (s.put F.storStatusUnsupported 1)

/-- `JOURNAL_FLUSHED` (R389): the `FINAL` commit of the last-gasp flush is durable. -/
def execJournalFlushed (s : State) : Ans :=
  if ¬ s.stor.flushing ∨ islandHeld s 2 then .next s
  else
    let s := commitJournal true s
    let s := { s with stor := { s.stor with flushing := false } }
    .next (occur (s.put F.storStatusLastGaspFlushed 1) 247)

end Sys2Proof.Machine
end

