-- ==== Sys2Proof/Machine/Scrub.lean ====
section
/-!
DEFINITION. Ownership writes and the scrubs they start (R105 to R108), and what a level C reset does to a
drawer (R109 to R111).
-/

namespace Sys2Proof.Machine

/-! ### Scrubs (R107) -/

/-- Registers of keys from `lo` to `lo + n - 1` take their reset values. -/
def dropRegs (lo n : Nat) (s : State) : State := { s with regs := tabDropRange lo n s.regs }

/-- Queue `n` emptied and out of service: registers at reset values, `QUEUE_EPOCH_n` kept, completions of jobs
taken from it discarded (R107, R109); the words staged in `QW_STAGE` go with it (assumption 127). -/
def wipeQueue (n : Nat) (s : State) : State :=
  let s := orphanPair n (orphanJobs n (s.setQueue n Queue.empty))
  wakeDeqOff n (dropRegs (R.queueCfg n) 0x18 s)

/-- Partners of queue `n` in an enabled pair (R107, R113). -/
def partners (s : State) (n : Nat) : List Nat :=
  let submits (m : Nat) : Bool :=
    queueOn s m && s.on (F.queueCfgDir m) && decide (1 ≤ s.get (F.queueCfgEndpoint m)) &&
      decide (s.get (F.queueCfgEndpoint m) ≤ 4)
  (List.range 64).filter fun m =>
    queueOn s n && queueOn s m &&
      ((submits m && s.get (F.queueCfgPair m) == n) || (submits n && s.get (F.queueCfgPair n) == m))

def scrubQueue (n : Nat) (s : State) : State :=
  wipeQueue n ((partners s n).foldl (fun s m => if m = n then s else disableQueue m s) s)

def scrubThread (n : Nat) (s : State) : State := clearProg n (unloadThread n s)

/-- A scrub of a thread returns its `JT_LAST_FAULT_n` to 0 (R162). -/
def forgetFault (n : Nat) (s : State) : State := (s.resetReg (R.jtLastFault n 0)).resetReg (R.jtLastFault n 1)

/-- Check unit `k`: pending feeds are discarded, registers at reset values (R441). -/
def scrubChk (k : Nat) (s : State) : State := dropRegs (0x172000 + 0x40 * k) 0x30 (chkClear k s)

/-- Port `n`: the character in progress is finished, a running job of it ends with `PORT_OFF`, registers at
reset values (R441); `UART_DE` stays high until the tail has passed (R59). -/
def scrubUart (n : Nat) (s : State) : State :=
  let s := uartClear n (endPortJob n 0x10 s)
  let s := dropRegs (0x170400 + 0x100 * n) 0x100 (dropRegs (0x170000 + 0x100 * n) 0x30 s)
  s.put (F.uartStatusDe n) (b2n ((port s n).cur.isSome || (port s n).tail.isSome))

/-- `IRQ_k` is deasserted: no routing entry names it any longer. -/
def scrubPin (k : Nat) (s : State) : State :=
  foldUpto 288 (fun n s =>
    if s.on (F.evtRoutePinEn n) ∧ s.get (F.evtRoutePin n) = k then s.put (F.evtRoutePinEn n) 0 else s) s

/-- Event source `n`: coalescing and pending bit cleared, routing at reset values. -/
def scrubEvt (n : Nat) (s : State) : State :=
  dropRegs (R.evtRoute n) 8 (setEvtPending (s.setEvt n evtZero) n false)

/-- Pins that threads of the former owner hold on context numbers whose owner has changed from `old` (R107). -/
def scrubCtx (old : State) (s : State) : State :=
  setPins s (s.ncp.pins.filter fun p =>
    !(ownerCtx old p.1 != ownerCtx s p.1 && (ownerCtx old p.1).isSome && ownerThread s p.2 == ownerCtx old p.1))

/-- What entry `k` of the ownership word at `off` assigns, scrubbed (R105, R107). -/
def scrubEntry (off k : Nat) (s : State) : State :=
  if off < 0x120 then scrubQueue (8 * ((off - 0x100) / 4) + k) s
  else if off < 0x1A0 then emptyKey (8 * ((off - 0x120) / 4) + k) s
  else if off < 0x1B0 then
    forgetFault (8 * ((off - 0x1A0) / 4) + k) (scrubThread (8 * ((off - 0x1A0) / 4) + k) s)
  else if off < 0x1B8 then discardNsKey (8 * ((off - 0x1B0) / 4) + k) s
  else if off = R.ownMisc then (if k < 4 then scrubChk k s else scrubUart (k - 4) s)
  else scrubPin k s

/-! ### Ownership writes (R105, R106, R108) -/

/-- A word of eight 4-bit entries. -/
def entryWord (off : Nat) : Bool := decide (0x100 ≤ off) && decide (off < 0x1C0)

/-- `OWN_CTX_n`. -/
def ctxWord' (off : Nat) : Bool := decide (0x1C0 ≤ off) && decide (off < 0x200)

/-- `EVT_OWN_n` of a source that drawer 0 may assign; those of `ATT_DONE` are fixed (R130). -/
def evtOwnWord (off : Nat) : Bool :=
  decide (0x20000 ≤ off) && decide (off < 0x21200) && off % 16 == 8 &&
    !(decide (0x21188 ≤ off) && decide (off < 0x211C8))

/-- An ownership register (R105, R130). -/
def ownReg (off : Nat) : Bool := entryWord off || ctxWord' off || off == R.ownBulk || evtOwnWord off

/-- Entry `k` of a word. -/
def entryOf (w : Word) (k : Nat) : Nat := w.toNat / 16 ^ k % 16

/-- Fields of `OWN_CTX_n`. -/
def rangeOf (w : Word) : Nat × Nat := (w.toNat % 16384, w.toNat / 16384 % 16384)

/-- Check 1: a valid range that overlaps another, or that is turned round. -/
def rangeBad (s : State) (n : Nat) (new : Word) : Bool :=
  let r := rangeOf new
  new.getLsbD 31 &&
    (decide (r.2 < r.1) ||
      (List.range 16).any fun m =>
        m != n && s.on (F.ownCtxValid m) && decide (r.1 ≤ s.get (F.ownCtxLast m)) && decide (s.get (F.ownCtxFirst m) ≤ r.2))

/-- Check 2: the four sizes together, in units of 64 KiB. -/
def bulkTotal (new : Word) : Nat := sumNat ((List.range 4).map fun d => 2 ^ (new.toNat / 256 ^ d % 8))

/-- Check 3: an entry that changes and is assigned names a drawer that is not enabled. -/
def entryBad (s : State) (off : Nat) (old new : Word) : Bool :=
  if entryWord off then
    (List.range 8).any fun k =>
      entryOf old k != entryOf new k && entryOf new k / 8 == 1 && !drawerEnabled s (entryOf new k % 4)
  else if ctxWord' off then old != new && new.getLsbD 31 && !drawerEnabled s (new.toNat / 2 ^ 28 % 4)
  else if evtOwnWord off then old != new && new.getLsbD 2 && !drawerEnabled s (new.toNat % 4)
  else false

/-- Check 4: a reserved bit. -/
def ownReserved (off : Nat) (new : Word) : Bool :=
  if entryWord off then (List.range 8).any fun k => entryOf new k / 4 % 2 == 1
  else if ctxWord' off then new.getLsbD 30
  else if off = R.ownBulk then new &&& ~~~0x07070707#32 != 0#32
  else decide (8 ≤ new.toNat)

/-- Lowest number of the checks that an ownership write breaks; 0 for none (R106). -/
def ownReason (s : State) (off : Nat) (old new : Word) : Nat :=
  if ctxWord' off && rangeBad s ((off - 0x1C0) / 4) new then 1
  else if off == R.ownBulk && decide (128 < bulkTotal new) then 2
  else if entryBad s off old new then 3
  else if ownReserved off new then 4
  else if s.on F.ownStatusBusy then 5
  else 0

/-- Entries of a word whose effective owner the write changes. -/
def movedEntries (s : State) (old new : Word) : List Nat :=
  (List.range 8).filter fun k => entryOwner s old k != entryOwner s new k

/-- A source number's owner under a word. -/
def evtOwnerOf (s : State) (w : Word) : Option Nat :=
  if w.getLsbD 2 ∧ drawerEnabled s (w.toNat % 4) then some (w.toNat % 4) else none

/-- A scrub is in progress: it ends with `SCRUB_DONE` (R107). -/
def ownBusy (s : State) : State := s.put F.ownStatusBusy 1

/-- Drawers whose `BULK_SIZE` a write changes. -/
def resized (old new : Word) : List Nat :=
  (List.range 4).filter fun d => old.toNat / 256 ^ d % 8 != new.toNat / 256 ^ d % 8

/-- Context numbers at which the owner may change: the first, and where a range begins or has just ended. -/
def rangePoints (s : State) : List Nat :=
  0 :: (List.range 16).flatMap fun n => [s.get (F.ownCtxFirst n), (s.get (F.ownCtxLast n) + 1) % 16384]

/-- The effective owner of some context number differs between two states. -/
def ctxMoved (s t : State) : Bool := (rangePoints s ++ rangePoints t).any fun c => ownerCtx s c != ownerCtx t c

/-- Effects of an ownership write that is not refused: the scrubs of what changes hands (R107), zeros in
resized staging memory (R102). -/
def ownApply (off : Nat) (old new : Word) (s : State) : State :=
  let t := s.wr off new
  if entryWord off then
    let l := movedEntries s old new
    l.foldl (fun s k => scrubEntry off k s) (if l.isEmpty then t else ownBusy t)
  else if ctxWord' off then
    if ctxMoved s t then scrubCtx s (ownBusy t) else t
  else if off = R.ownBulk then ((resized old new).foldl zeroBulk s).wr off new
  else if evtOwnerOf s old = evtOwnerOf s new then t
  else scrubEvt ((off - 0x20008) / 16) (ownBusy t)

/-- An ownership write refused (R106); the FABRIC_CAUSE bit and its event are R134's. -/
def refuseOwn (off reason : Nat) (s : State) : State :=
  fabricNotice F.fabricCauseOwnRefused
    (((s.put F.ownStatusRefused 1).put F.ownStatusReason reason).put F.ownStatusOffset off)

/-- A write to an ownership register by drawer 0 (R106). -/
def ownWrite (off : Nat) (v : Word) (be : BitVec 4) (s : State) : State :=
  let old := s.rd off
  let new := beMerge old v be
  let new := if off = R.ownNs1 then new &&& 0x0FFFFFFF#32 else new
  let r := ownReason s off old new
  if r = 0 then ownApply off old new s else refuseOwn off r s

/-- `OWNERSHIP_WRITE` (R106). -/
def execOwnershipWrite (d : Drawer) (off : Nat) (v : Word) (be : BitVec 4) (s : State) : Ans :=
  if ownReg off then .next (filtered s d.val off (ownWrite off v be)) else .next s

/-- `SCRUB_DONE` (R107). -/
def execScrubDone (s : State) : Ans := .next (s.put F.ownStatusBusy 0)

/-! ### Drawer reset (R109 to R111) -/

/-- Drawer a resource's registers belong to for a reset: drawer 0 where nobody owns it (R10). -/
def resetOwner (o : Option Nat) : Nat := o.getD 0

/-- Indices below `n` of a resource of drawer `d`. -/
def resourcesOf (owner : State → Nat → Option Nat) (s : State) (d n : Nat) : List Nat :=
  (List.range n).filter fun i => resetOwner (owner s i) == d

/-- An erase issued for a job of the drawer is suspended, or goes on (R110). -/
def suspendErases (d : Nat) (b : Bool) (s : State) : State :=
  { s with stor := { s.stor with ops := s.stor.ops.map fun o =>
      if o.drawer = d ∧ o.erase ∧ ¬ o.own then { o with susp := b } else o } }

/-- Jobs of the drawer end without a completion, and their grants with them (R110). -/
def endJobs (d : Nat) (s : State) : State :=
  let s := suspendErases d true s
  (s.fab.jobs.filter fun j => j.drawer == d).foldl (fun s j =>
    dropJob (dropRequest (.job j.id) (releaseGrant (.job j.id) s)) j.id) s

/-- The ports and the ring let go of a job that has ended (R110). -/
def freePorts (s : State) : State :=
  let s := foldUpto 4 (fun n s =>
    match (port s n).job with
    | some id =>
      if (jobOf s id).isSome then s else setPort n { port s n with job := none, left := [], tx := [], await := none } s
    | none => s) s
  match s.ser.ring.job with
  | some id => if (jobOf s id).isSome then s else setRing { s.ser.ring with job := none, due := none } s
  | none => s

/-- Pending attestation requests of the drawer are discarded (R94). -/
def dropAtt (d : Nat) (s : State) : State :=
  let serving := match s.att.queue with
    | r :: _ => r.drawer == d
    | [] => false
  { s with att := ⟨s.att.queue.filter fun r => r.drawer != d, if serving then none else s.att.report⟩ }

/-- Registers of the drawer's own instance that lie in domain C; `EVT_PEND` goes by source. -/
def selfDomainC (d k : Nat) : Bool :=
  k / drawerStride == d &&
    (match findRow (k % drawerStride) with
     | some (r, _, _) => r.dom == .c && r.filt == .self && !(decide (R.evtPend 0 ≤ r.base) && decide (r.base ≤ R.evtPend 8))
     | none => false)

/-- Pending bits of a drawer's function, and at a function-level reset its whole table (R109). -/
def resetMsix (d : Nat) (flr : Bool) (s : State) : State :=
  if flr then
    setMsixCtl { s with fab := { s.fab with
      msix := tabKeep (fun k => k / 64 != d) s.fab.msix, bars := tabKeep (fun k => k / 8 != d) s.fab.bars } } d 0
  else foldUpto 64 (fun v s => setMsix s d v { msixOf s d v with pba := false }) s

/-- A level C reset of drawer `d` (R75, R109). -/
def resetDrawer (d : Nat) (flr : Bool) (s : State) : State :=
  let s := s.put F.rstStatusDrwInReset (s.get F.rstStatusDrwInReset ||| 2 ^ d)
  let s := if flr then { s with rst := { s.rst with flrHeld := d :: s.rst.flrHeld.filter fun x => x != d } } else s
  let threads := resourcesOf ownerThread s d 32
  let s := threads.foldl (fun s n => clearJt n (scrubThread n s)) s
  let s := { s with jig := { s.jig with loads := s.jig.loads.filter fun l => l.drawer != d } }
  let s := dropRegs (R.measCnt (4 + d)) 4 (dropRegs (R.meas (4 + d) 0) 0x30 s)
  let s := freePorts (endJobs d s)
  let s := (resourcesOf ownerQueue s d 64).foldl (fun s n => wipeQueue n s) s
  let s := (resourcesOf ownerKey s d 256).foldl (fun s n => emptyKey n s) s
  let s := (resourcesOf ownerChk s d 4).foldl (fun s k => scrubChk k s) s
  let s := (resourcesOf ownerUart s d 4).foldl (fun s n => scrubUart n s) s
  let s := (resourcesOf ownerSource s d 288).foldl (fun s n => scrubEvt n s) s
  let s := { s with pwr := { s.pwr with waiting := s.pwr.waiting.filter fun g => g.drawer != d } }
  let s := { s with regs := tabKeep (fun k => !selfDomainC d k) s.regs }
  resetMsix d flr (dropAtt d s)

/-- A unit has not reached the boundary at which a job of the drawer ends (R110): a NAND program already issued, a
character in progress. -/
def unitBusyFor (s : State) (d : Nat) : Bool :=
  s.fab.jobs.any (fun j => j.drawer == d) || s.stor.ops.any (fun o => o.drawer == d && !o.erase && !o.own) ||
    (resourcesOf ownerUart s d 4).any fun n => (port s n).cur.isSome

/-- `PERST_N` as the release finds it: while it is low it holds the drawers of PCIe functions (R52, R61). -/
def perstHolds (s : State) (d : Nat) (high : Bool) : Bool := isPcie s d && s.pwr.perstLow && !high

/-- `DRAWER_RESET_RELEASE` (R61, R110): every job of the drawer has ended at its boundary, no scrub is in progress and
no source holds the drawer. -/
def execDrawerResetRelease (e : DrawerEnd) (s : State) : Ans :=
  let d := e.drawer
  let s : State := { s with pwr := { s.pwr with perstLow := s.pwr.perstLow && !e.perstHigh } }
  if ¬ drawerInReset s d.val ∨ unitBusyFor s d.val ∨ s.on F.ownStatusBusy ∨ perstHolds s d.val e.perstHigh then .next s
  else
    let s := suspendErases d.val false { s with rst := { s.rst with flrHeld := s.rst.flrHeld.filter fun x => x != d.val } }
    .next (s.put F.rstStatusDrwInReset (s.get F.rstStatusDrwInReset &&& (15 - 2 ^ d.val)))

end Sys2Proof.Machine
end

