-- ==== Sys2Proof/Machine/OptStore.lean ====
section
/-!
DEFINITION. The option store (R78 to R86): the selection of the active image, the failsafe image, the checks of
`PREPARE` and the two-step commit.
-/

namespace Sys2Proof.Machine

/-! ### Copies and generations (R78, R79) -/

/-- Copy 0 or 1. -/
def optCopy (o : OptStore) (k : Nat) : OptCopy := if k = 0 then o.copy0 else o.copy1

/-- The store with copy `k` written. -/
def setCopy (k : Nat) (c : OptCopy) (o : OptStore) : OptStore :=
  if k = 0 then { o with copy0 := c } else { o with copy1 := c }

/-- Generation `a` is newer than `b`, modulo 2^32 (R79). -/
def newerGen (a b : BitVec 32) : Bool := decide (1 ≤ (a - b).toNat) && decide ((a - b).toNat < 2 ^ 31)

/-- The valid copy that is active, or newer: copy 0 on equal generations and at a distance of exactly 2^31 (R79). -/
def newestCopy (o : OptStore) : Option Nat :=
  match o.copy0.valid, o.copy1.valid with
  | true, true => if newerGen o.copy1.gen o.copy0.gen then some 1 else some 0
  | true, false => some 0
  | false, true => some 1
  | false, false => none

/-! ### Fields of an image (R82) -/

def imgWord (l : List Word) (n : Nat) : Nat := (l.getD n 0#32).toNat
def imgLock (l : List Word) : Nat := bitsOf (imgWord l 0) 1 0
def imgDebug (l : List Word) : Nat := bitsOf (imgWord l 0) 5 4
def imgDcStart (l : List Word) : Nat := bitsOf (imgWord l 0) 11 10
def imgKeySel (l : List Word) : Nat := bitsOf (imgWord l 0) 16 16
def imgBudget (l : List Word) : Nat := bitsOf (imgWord l 1) 7 0
def imgSvn (l : List Word) : Nat := bitsOf (imgWord l 1) 31 16

/-- The failsafe image on a part of a region floor (R80): lock = floor, host push, signatures enforced,
`SEALED`, drawer 0 alone, 2.0 W. -/
def failsafeImage (floor : Nat) : List Word :=
  BitVec.ofNat 32 (floor + 2 ^ 2 + 2 ^ 3 + 2 * 2 ^ 4 + 2 ^ 12) :: 20#32 :: List.replicate 24 0#32

/-- The words of `OPT_ACTIVE_n`, and of `OPT_STAGE_n`. -/
def activeWords (s : State) : List Word := (List.range 26).map fun n => s.rd (R.optActive0 + 4 * n)
def stagedWords (s : State) : List Word := (List.range 26).map fun n => s.rd (R.optStage0 + 4 * n)

/-- The staging words take the active image's (R82, R83). -/
def stageActive (s : State) : State :=
  foldUpto 26 (fun n s => s.wr (R.optStage0 + 4 * n) (s.rd (R.optActive0 + 4 * n))) s

/-- The public key of an internal slot of P-384, X then Y. -/
def innerPublic (s : State) (n : Nat) : List Byte := fit 96 (Config.ecPublic 48 (innerKey s n))

/-- Words 0 to 23 of 96 bytes in the registers from `base` on, byte 4n in bits [7:0] of word n (R93, R362). -/
def showBytes (base : Nat → Nat) (l : List Byte) (s : State) : State :=
  foldUpto 24 (fun n s => s.wr (base n) (BitVec.ofNat 32 (leNat ((l.drop (4 * n)).take 4)))) s

/-- `ATT_PUBKEY_n` shows the key that the image selects (R93). -/
def showPubKey (s : State) : State := showBytes R.attPubkey (innerPublic s (s.get F.optActive0AttKeySel)) s

/-- An image in force: `OPT_ACTIVE_n`, the staging words, and what they set at once (R82, R83, R93, R447). -/
def setActive (l : List Word) (s : State) : State :=
  let s := foldUpto 26 (fun n s => s.wr (R.optActive0 + 4 * n) (l.getD n 0#32)) s
  (showPubKey (stageActive s)).put F.pwrBudgetBudget (imgBudget l)

/-- Step 2 of the release (R79): the image that the two copies give, and its status. -/
def readOptions (s : State) : State :=
  match newestCopy s.opt with
  | some k =>
    let s := s.put F.optStatusDegraded (b2n (!(s.opt.copy0.valid && s.opt.copy1.valid)))
    setActive (optCopy s.opt k).words (s.put F.optStatusFailsafe 0)
  | none =>
    setActive (failsafeImage s.opt.floor) ((s.put F.optStatusDegraded 0).put F.optStatusFailsafe 1)

/-! ### `PREPARE` (R83, R84) -/

/-- The images that a staged one is held against: the active one, and a newer valid copy's. -/
def heldImages (s : State) : List (List Word) :=
  match newestCopy s.opt with
  | some k => [activeWords s, (optCopy s.opt k).words]
  | none => [activeWords s]

/-- A reserved bit of an image is set (R82). -/
def reservedSet (l : List Word) : Bool :=
  bitsOf (imgWord l 0) 31 17 != 0 || bitsOf (imgWord l 1) 15 8 != 0 || (l.drop 2).any fun w => w != 0#32

/-- The lowest check of R84 that a staged image breaks; 0 for none. -/
def prepareReason (s : State) (l : List Word) : Nat :=
  let floor := s.opt.floor
  let held := heldImages s
  if imgLock l = 3 ∨ (floor ≠ 0 ∧ imgLock l ≠ floor) ∨ held.any (fun a => imgLock a != 0 && imgLock l != imgLock a) then 1
  else if imgDebug l = 3 ∨ held.any (fun a => decide (imgDebug l < imgDebug a)) then 2
  else if held.any fun a => decide (imgKeySel l < imgKeySel a) then 3
  else if imgDcStart l = 3 ∨ (imgDcStart l = 2 ∧ (if floor = 0 then imgLock l else floor) ≠ 0) then 4
  else if ¬ bitAt (imgWord l 0) 12 then 5
  else if 100 < imgBudget l then 6
  else if held.any fun a => decide (imgSvn l < imgSvn a) then 7
  else if reservedSet l ∨ bitsOf (imgWord l 0) 7 6 = 3 then 8
  else if s.on F.optStatusFailsafe ∧ floor = 0 ∧ imgLock l = 0 ∧ imgDcStart l ≠ 0 then 9
  else 0

/-- Generation that a commit writes: one past the newer valid copy's; with no valid copy the spec gives none,
and it is free (R85). -/
def commitGen (s : State) : BitVec 32 :=
  match newestCopy s.opt with
  | some k => (optCopy s.opt k).gen + 1#32
  | none => BitVec.ofNat 32 s.free

/-- The copy that a commit writes first (R85). -/
def firstCopy (o : OptStore) : Nat :=
  match o.copy0.valid, o.copy1.valid with
  | true, true => if newerGen o.copy1.gen o.copy0.gen then 0 else 1
  | true, false => 1
  | false, _ => 0

/-- `PREPARE` and `DISCARD` act: not while a commit writes, nor after `DONE` (R85, R86). -/
def optOpen (s : State) : Bool := s.get F.optStatusState != 2 && !s.rst.stageLocked

/-- `PREPARE` (R83, R84). -/
def prepareImage (s : State) : State :=
  if ¬ optOpen s then s
  else
    let l := stagedWords s
    let r := prepareReason s l
    if r = 0 then
      let c : OptCopy := ⟨true, commitGen s, l⟩
      let crc := Config.optCrc32 l c.gen
      let s := ((s.put F.optStatusState 1).put F.optStatusReason 0).put F.optStatusStageCrc crc.toNat
      { s.drew with rst := { s.rst with prepared := c } }
    else (s.put F.optStatusState 4).put F.optStatusReason r

/-- `COMMIT` with a value of `CONFIRM` (R83, R85). -/
def commitImage (confirm : Nat) (s : State) : State :=
  if s.get F.optStatusState = 2 then s
  else if s.get F.optStatusState = 1 ∧ confirm = s.get F.optStatusStageCrc then
    { s.put F.optStatusState 2 with rst := { s.rst with commitFirst := firstCopy s.opt } }
  else (s.put F.optStatusState 4).put F.optStatusReason 10

/-- `DISCARD` (R83). -/
def discardImage (s : State) : State :=
  if ¬ optOpen s then s else (stageActive s).put F.optStatusState 0

/-- A write of `OPT_CMD`. -/
def optCmdWrite (v : Word) (be : BitVec 4) (s : State) : State :=
  let w := (beMerge 0#32 v be).toNat
  match bitsOf w 3 0 with
  | 1 => prepareImage s
  | 2 => commitImage (bitsOf w 31 16) s
  | 3 => discardImage s
  | _ => s

/-- A write of staging word `n`: nothing once a commit has completed (R9, R86); after `PREPARE` the state returns
to `IDLE`, but for a commit that is writing, which goes on with the image prepared (R83, R85). -/
def stageWrite (n : Nat) (v : Word) (be : BitVec 4) (s : State) : State :=
  if s.rst.stageLocked then s
  else
    let k := R.optStage0 + 4 * n
    let t := s.wr k (beMerge (s.rd k) v be)
    if s.get F.optStatusState = 2 then t else t.put F.optStatusState 0

/-- `OPT_STAGE_WRITE` (R83). -/
def execOptStageWrite (d : Drawer) (n : Fin 26) (v : Word) (be : BitVec 4) (s : State) : Ans :=
  .next (filtered s d.val (R.optStage0 + 4 * n.val) (stageWrite n.val v be))

/-- A write of `OPT_CMD` whose `OP` is `op`. -/
def optCommand (op : Nat) (d : Drawer) (v : Word) (s : State) : State :=
  if v.toNat % 16 = op then filtered s d.val R.optCmd (optCmdWrite v 15#4) else s

/-- `PREPARE` (R84). -/
def execPrepare (d : Drawer) (v : Word) (s : State) : Ans := .next (optCommand 1 d v s)

/-- `COMMIT` (R85). -/
def execCommit (d : Drawer) (v : Word) (s : State) : Ans := .next (optCommand 2 d v s)

/-- `DISCARD` (R83). -/
def execDiscard (d : Drawer) (v : Word) (s : State) : Ans := .next (optCommand 3 d v s)

/-- A commit's end: the copies as the read-backs left them (R85). -/
def commitEnd (firstOk secondOk : Bool) (s : State) : State :=
  let c := s.rst.prepared
  let a := s.rst.commitFirst
  if ¬ firstOk then { s.put F.optStatusState 5 with opt := setCopy a { c with valid := false } s.opt }
  else if ¬ secondOk then
    { s.put F.optStatusState 5 with opt := setCopy (1 - a) { c with valid := false } (setCopy a c s.opt) }
  else
    { s.put F.optStatusState 3 with
      opt := setCopy (1 - a) c (setCopy a c s.opt), rst := { s.rst with stageLocked := true } }

/-- `COMMIT_WRITE_DONE` (R85): whether each copy's read-back was good. -/
def execCommitWriteDone (firstOk secondOk : Bool) (s : State) : Ans :=
  if s.get F.optStatusState = 2 then .next (commitEnd firstOk secondOk s) else .next s

/-- The store as a reset leaves it that cuts a commit: the first copy untouched, broken or written, and the other
changed only once the first was written (R85); which of these is free. -/
def cutCommit (s : State) : State :=
  if s.get F.optStatusState ≠ 2 then s
  else
    let c := s.rst.prepared
    let a := s.rst.commitFirst
    let o := match s.free % 5 with
      | 0 => s.opt
      | 1 => setCopy a { c with valid := false } s.opt
      | 2 => setCopy a c s.opt
      | 3 => setCopy (1 - a) { c with valid := false } (setCopy a c s.opt)
      | _ => setCopy (1 - a) c (setCopy a c s.opt)
    { s.drew with opt := o }

/-! ### The boot counter record (R78, R91) -/

/-- The newest count of the record; 0 with neither slot good. -/
def bootCount (o : OptStore) : Nat :=
  max (if o.slot0.1 then o.slot0.2 else 0) (if o.slot1.1 then o.slot1.2 else 0)

/-- `BOOT_COUNT_LO` and `BOOT_COUNT_HI` show the count. -/
def showBootCount (s : State) : State :=
  (s.wr R.bootCountLo (BitVec.ofNat 32 (bootCount s.opt))).put F.bootCountHiCountHi (bootCount s.opt / 2 ^ 32)

/-- The count rises by one, stuck at its limit, in the older slot (R91). -/
def raiseBootCount (s : State) : State :=
  let n := min (bootCount s.opt + 1) (2 ^ 48 - 1)
  let older1 := s.opt.slot0.1 && (!s.opt.slot1.1 || decide (s.opt.slot1.2 ≤ s.opt.slot0.2))
  showBootCount { s with opt := if older1 then { s.opt with slot1 := (true, n) } else { s.opt with slot0 := (true, n) } }

end Sys2Proof.Machine
end

