-- ==== Sys2Proof/Machine/Tenon.lean ====
section
/-!
DEFINITION. The Tenon link (R456 to R470, R484): flits, replay, loss, training and `RESUME`.
-/

namespace Sys2Proof.Machine

/-! ### Loss (R465 to R468) -/

/-- An action of the line or the radio. -/
def airBody (a : Act) : Bool :=
  match a.body with
  | .none | .cyp _ => false
  | _ => true

/-- A pending line or radio action ends with `LINE_DIE_ABSENT`; a charge stays once something was emitted. -/
def endAir (n k : Nat) (s : State) : State :=
  if (s.act n k).stage = .waiting then endUnsent n k stFailed 0x03 s else endSent n k stFailed 0x03 s

/-- Line and radio actions whose thread still waits for the grant give `FAIL`. -/
def failGrantWaits (s : State) : State :=
  allThreads.foldl (fun s n =>
    match (s.thr n).wait with
    | .grant k a =>
      if airBody a then exitWait n (failWith n k 0x03 (dropRequest (.act n k) (returnAirtime a s))) else s
    | _ => s) s

/-- Every PHY reads `ABSENT`, or no longer (R467, R470). -/
def setAbsent (v : Nat) (s : State) : State :=
  foldUpto 6 (fun c s => s.put (F.lphyRxstatAbsent c) v) (s.put F.radioStatusAbsent v)

/-- Both `MUTED` bits (R466, R470). -/
def setMuted (v : Nat) (s : State) : State :=
  foldUpto 3 (fun t s => s.put (F.lphyTxstatMuted t) v) (s.put F.radioStatusMuted v)

/-- Radio supervision freezes (R322). -/
def freezeSup (s : State) : State :=
  if s.radio.frozen.isSome then s else { s with radio := { s.radio with frozen := some s.tb } }

/-- It runs again, with what was left of each timer. -/
def thawSup (s : State) : State :=
  match s.radio.frozen with
  | none => s
  | some t =>
    { s with radio := { s.radio with
        frozen := none, sup := s.radio.sup.map fun e => (e.1, if e.2 = 0 then 0 else e.2 + (s.tb.toNat - t.toNat)) } }

/-- The logic die declares the link lost (R467, R468), with the offset of a write whose effect is unknown. -/
def logicLoss (reason : Nat) (wr : Option Nat) (s : State) : State :=
  let s := mirrorNow s
  let s := (s.put F.tnlStatusState 2).put F.tnlStatusTries 0
  let s := setTnl (fun t => { t with
    logicLost := some s.tbCopy, naks := [], nakSeq := [], expect := [], kept := [], index := [] }) s
  let s := s.put F.tnlLossInfoReason reason
  let s := (s.put F.tnlLossInfoWritePending (b2n wr.isSome)).put F.tnlLossInfoOffset (wr.getD 0)
  let s := tnlCause 0 (bumpStat R.tnlLossCnt tnlOvf s)
  let s := if wr.isSome then tnlCause 4 s else s
  let s := { s.put F.plmbStatusCopySynced 0 with plmb := { s.plmb with resync := true }, radio := { s.radio with rx := none } }
  let s := stopChains (setAbsent 1 s)
  let s := failGrantWaits (forActs (pendingActs s airBody) endAir s)
  freezeSup (syncRxOpen s)

/-- Acknowledgements on the air are cut. -/
def cutAcks (s : State) : State :=
  (s.line.acks.filter fun a => a.sent.isSome).foldl (fun s _ =>
    match findIdxFrom (fun a => a.sent.isSome) 0 s.line.acks with
    | some i => dropAck i s
    | none => s) s

/-- Every transmitter and the radio stop, muted. -/
def muteAll (s : State) : State :=
  cutAcks (setMuted 1 ((foldUpto 3 (fun t s => txStop t s) s).put F.radioStatusTxBusy 0))

/-- The ring port at a loss: closed, or regenerating by itself; its job ends (R466, R436). -/
def ringLoss (s : State) : State :=
  let s := endRingJob 0x17 s
  if s.on F.optActive0RingAutonomous ∧ ringActive s then s.put F.ringStatusAutonomous 1 else closeBypass s

/-- The line die declares the link lost (R466). -/
def lineLoss (s : State) : State :=
  if s.tnl.lineLost then s
  else
    let s := setTnl (fun t => { t with lineLost := true }) s
    let s := muteAll s
    ringLoss (forActs (pendingActs s airBody) (fun n k s => releaseGrant (.act n k) s) s)

/-- The die that receives on side `r` declares loss for a reason of R465. -/
def declareLoss (r reason : Nat) (wr : Option Nat) (s : State) : State :=
  if r = 0 then (if carries s then logicLoss reason wr s else s)
  else if s.get F.tnlStatusState = 0 ∨ s.get F.tnlStatusState = 4 then s
  else lineLoss s

/-- `LINK_SILENCE` (R465): 4 µs without a valid flit at the logic die (0) or the line die (1). -/
def execLinkSilence (die : Fin 2) (wr : Option Nat) (s : State) : Ans :=
  let t := after (tabGet (fun _ => 0#64) s.tnl.last die.val) (usSteps 4)
  if die.val = 0 ∧ ¬ carries s then .next s
  else if die.val = 1 ∧ (s.tnl.lineLost ∨ s.get F.tnlStatusState = 0 ∨ s.get F.tnlStatusState = 4) then .next s
  else .next (declareLoss die.val 1 wr (s.passTo t))

/-! ### Flits and replay (R456 to R461) -/

/-- A flit is valid (R457). -/
def flitValid (f : Flit) : Bool := f.parOk && f.ecc.val != 2

/-- A receiver sends a NAK that names the last replay-class `SEQ` it received in order; the sixteenth in a row
with one name declares loss (R460, R465). -/
def sendNak (r : Nat) (s : State) : State :=
  let name := (tabGet (fun _ => 0) s.tnl.expect r + 7) % 8
  let same := 0 < tabGet (fun _ => 0) s.tnl.naks r ∧ tabGet (fun _ => 0) s.tnl.nakSeq r = name
  let k := if same then tabGet (fun _ => 0) s.tnl.naks r + 1 else 1
  let s := setTnl (fun t => { t with
    naks := tabSet (fun _ => 0) t.naks r k, nakSeq := tabSet (fun _ => 0) t.nakSeq r name }) s
  let s := s.emit (.nak r name)
  if 16 ≤ k then declareLoss r 2 none s else s

/-- Stream flits missing before an index (R459, R461): modulo 8,192 of an ADC stream, 256 of radio receive. -/
def countGap (st : Fin 7 × Nat) (s : State) : State :=
  let w := if st.1.val < 6 then 8192 else 256
  let next := tabGet (fun _ => 0) s.tnl.index st.1.val
  let gap := if next = 0 then 0 else (st.2 + w - (next - 1) % w) % w
  let s := setTnl (fun t => { t with index := tabSet (fun _ => 0) t.index st.1.val ((st.2 + 1) % w + 1) }) s
  addStat R.tnlEraseCnt gap tnlOvf s

/-- The sender of a replay-class flit keeps it; one it resends stands at its new place (R460). -/
def keepFlit (r : Nat) (f : Flit) (sent : Nat) (s : State) : State :=
  setTnl (fun t => { t with
    kept := t.kept.filter (fun k => !(k.side == r && k.seq == f.seq.val)) ++ [⟨r, f.seq.val, BitVec.ofNat 64 sent⟩] }) s

/-- A valid flit (R460, R461, R465). -/
def takeFlit (r : Nat) (f : Flit) (s : State) : State :=
  let s := setTnl (fun t => { t with last := tabSet (fun _ => 0#64) t.last r s.tb }) s
  let s := match f.stream with
    | some st => countGap st s
    | none => s
  let s :=
    if ¬ f.replay then s
    else if f.seq.val = tabGet (fun _ => 0) s.tnl.expect r then
      setTnl (fun t => { t with expect := tabSet (fun _ => 0) t.expect r ((f.seq.val + 1) % 8) }) s
    else sendNak r s
  if f.lossMsg then declareLoss r 3 none s else s

/-- `FLIT_RX` (R457, R460): a flit is received on side `r`, 0 the logic die, by instant `t`. -/
def execFlitRx (r : Fin 2) (f : Flit) (t : Time) (s : State) : Ans :=
  if (r.val = 0 ∧ ¬ carries s) ∨
      (r.val = 1 ∧ (s.tnl.lineLost ∨ s.get F.tnlStatusState = 0 ∨ s.get F.tnlStatusState = 4)) then .next s
  else
    let s := s.passTo t
    let s := if f.ecc.val = 1 then bumpStat (R.tnlCorrCnt r.val) tnlOvf s else s
    let s := if f.replay then keepFlit r.val f (s.tb.toNat - nsSteps 120) s else s
    if flitValid f then .next (takeFlit r.val f s) else .next (sendNak r.val s)

/-- Flits kept for side `r` and sent within 400 ns of an instant, oldest first. -/
def keptFlits (s : State) (r now : Nat) : List Kept :=
  s.tnl.kept.filter fun k => k.side == r && decide (now ≤ k.sent.toNat + nsSteps 400)

/-- Those after the named one: all of them when it is no longer kept. -/
def afterSeq (q : Nat) (l : List Kept) : List Kept :=
  if l.any fun k => k.seq == q then (l.dropWhile fun k => k.seq != q).drop 1 else l

/-- `NAK_RX` (R460): the sender towards side `r` resends every kept flit after the named one, in order. -/
def execNakRx (r : Fin 2) (seq : Fin 8) (t : Time) (s : State) : Ans :=
  if ¬ carries s then .next s
  else
    let s := s.passTo t
    let l := afterSeq seq.val (keptFlits s r.val s.tb.toNat)
    let s := setTnl (fun t => { t with
      kept := t.kept.map fun k => if l.contains k then { k with sent := s.tb } else k }) s
    .next (l.foldl (fun s k => (bumpStat (R.tnlReplayCnt r.val) tnlOvf s).emit (.flit r.val k.seq)) s)

/-- A frame whose stream has run dry: truncated, its slot `FAILED` (R461). -/
def underrunAct (n k : Nat) (s : State) : State :=
  let u := (s.act n k).units
  endSent n k stFailed 0x03 ((unitList u).foldl (fun s t => txStop t s) s)

/-- `TX_STREAM_UNDERRUN` (R461): the stream of transmitter `t`, or of the radio (3), underruns. -/
def execTxStreamUnderrun (t : Fin 4) (s : State) : Ans :=
  let cut (s : State) : State :=
    match findIdxFrom (fun a => a.sent == some t.val) 0 s.line.acks with
    | some i => dropAck i s
    | none => s
  if t.val < 3 then
    if ¬ s.on (F.lphyTxstatBusy t.val) then .next s
    else
      let s := cut (txStop t.val (forActs (emittingOn s t.val) underrunAct s))
      .next (setXmit t.val { xmit s t.val with under := true } s)
  else if ¬ s.on F.radioStatusTxBusy then .next s
  else
    let l := pendingActs s fun a => isRtx a && a.stage == .emitting
    .next (cut (forActs l (fun n k s => endSent n k stFailed 0x03 s) (s.put F.radioStatusTxBusy 0)))

/-! ### Training and `RESUME` (R462 to R464, R469, R470, R484) -/

/-- Both receivers have just had a valid flit. -/
def freshLast (s : State) : Tab Time := tabSet (fun _ => 0#64) (tabSet (fun _ => 0#64) [] 0 s.tb) 1 s.tb

/-- `UP_MUTED` is entered: the mirror is refreshed and the events come (R469). -/
def upMuted (s : State) : State :=
  let s := setMuted 1 (s.put F.tnlStatusState 3)
  let s := setTnl (fun t => { t with logicLost := none, lineLost := false, mirror := [], last := freshLast s }) s
  let s := tnlCause 1 (deliverHeld s)
  judgeLg s

/-- The first training after a release succeeds (R462); steps 6 and 7 of R72 follow of themselves. -/
def firstUp (s : State) : State :=
  let s := s.put F.tnlStatusState 1
  let s := deliverHeld (setTnl (fun t => { t with last := freshLast s, mirror := [] }) s)
  if s.rst.seq = 4 then { s with rst := { s.rst with seq := 7 } } else s

/-- `TRAINING_ATTEMPT` (R462, R463, R469): an attempt ends within 300 µs. -/
def execTrainingAttempt (ok : Bool) (s : State) : Ans :=
  let st := s.get F.tnlStatusState
  if (st ≠ 0 ∧ st ≠ 2) ∨ s.rst.level ≠ .none ∧ s.rst.seq < 4 then .next s
  else
    let s := if st = 2 then lineLoss s else s
    let s := s.pass (usSteps 300)
    let s := s.put F.tnlStatusTries (min 65535 (s.get F.tnlStatusTries + 1))
    if ¬ ok then .next s
    else if st = 2 ∨ s.on F.bootStatusLinkDown then .next (upMuted s)
    else .next (firstUp s)

/-- The ring port after a `RESUME` (R470). -/
def ringResume (s : State) : State :=
  let s := s.put F.ringStatusAutonomous 0
  if s.on F.ringCfgEnable ∧ s.on F.optActive0RingAllow ∧ ¬ ringActive s then
    setRing { s.ser.ring with opening := true, lastChar := s.tb } s
  else s

/-- A write of `RESUME` (R470). -/
def resumeLink (s : State) : State :=
  if s.get F.tnlStatusState ≠ 3 ∨ s.on F.bootStatusLinkDown then s.put F.tnlStatusCmdRefused 1
  else
    let s := setMuted 0 (setAbsent 0 (s.put F.tnlStatusState 1))
    tnlCause 2 (ringResume (thawSup s))

/-- `TNL_RESUME` (R470): a write of `TNL_CMD`. -/
def execTnlResume (d : Drawer) (v : Word) (be : BitVec 4) (s : State) : Ans :=
  .next (filtered s d.val R.tnlCmd fun s => if be.getLsbD 0 ∧ v.getLsbD 0 then resumeLink s else s)

end Sys2Proof.Machine
end

