-- ==== Sys2Proof/Machine/Reset.lean ====
section
/-!
DEFINITION. Reset sources, levels and islands (R61 to R71, R75 to R77, R498): what a reset of each level does to
the state.
-/

namespace Sys2Proof.Machine

/-! ### Causes (R61, R68) -/

/-- Bit of a source in `RESET_CAUSE`. -/
def causeBit : Src → Nat
  | .por => 0
  | .bor i => 1 + i
  | .pin => 6
  | .tcxoLost => 7
  | .pllLost => 8
  | .keeperWdt => 9
  | .keeperLock => 10
  | .swDevice => 11
  | .dbgFull => 12
  | .dbgIsland => 13
  | .jigLock => 14
  | .jigWdt => 15
  | .islandClk => 16
  | .swDrw d => 20 + d
  | .flr d => 24 + d

/-- A level A source. -/
def sourceA : Src → Bool
  | .por | .bor _ => true
  | _ => false

/-- A source that stays asserted until its condition ends; the others are pulses of 1 µs. -/
def lasting : Src → Bool
  | .por | .bor _ | .pin | .tcxoLost | .pllLost | .islandClk => true
  | _ => false

/-- A level A or level B reset is asserted and not yet released. -/
def unreleased (s : State) : Bool := s.rst.level != .none && decide (s.rst.seq < 4)

/-- A level A reset is asserted and not yet released. -/
def inLevelA (s : State) : Bool := s.rst.level == .a && decide (s.rst.seq < 4)

/-- A list with a source, once. -/
def withSrc (x : Src) (l : List Src) : List Src := if l.contains x then l else l ++ [x]

/-- `RESET_CAUSE` records a source; during a level A reset it does so at the release (R68). -/
def noteCause (x : Src) (s : State) : State :=
  if inLevelA s then { s with rst := { s.rst with latched := withSrc x s.rst.latched } }
  else s.put ⟨R.resetCause, causeBit x, causeBit x⟩ 1

/-! ### Levels A and B (R64 to R67) -/

/-- Level C and level D sources that stay asserted: an island's clock still bad, a function-level reset or `PERST_N`
(R61). -/
def narrowAsserted (s : State) : List Src :=
  ((s.rst.dHeld.filter fun h => lasting h.2).map fun h => h.2) ++ s.rst.flrHeld.map fun d => .flr d

/-- The narrower resets that hold on through a wider one: their islands, and their drawers (R65). -/
def keepNarrow (old : RstState) (s : State) : State :=
  let s := { s with rst := { s.rst with dHeld := old.dHeld.filter fun h => lasting h.2, flrHeld := old.flrHeld } }
  s.put F.rstStatusDrwInReset (sumNat ((List.range 4).map fun d => b2n (old.flrHeld.contains d) * 2 ^ d))

/-- A level A reset: everything takes its reset values but the MRAM, the attached NAND and the levels that the
board drives (R10, R61). -/
def resetA (as : List Src) (s : State) : State :=
  let s := cutCommit s
  let z := State.reset
  keepNarrow s.rst { z with
    pending := s.pending, freeIdx := s.freeIdx, opt := s.opt, nand := s.nand
    fab := { z.fab with out := s.fab.out }
    pwr := { z.pwr with vinLow := s.pwr.vinLow, csLow := s.pwr.csLow, perstLow := s.pwr.perstLow }
    stor := { z.stor with nextKey := s.stor.nextKey }
    rst := { z.rst with asserted := as, latched := as } }

/-- Key of a register in reset domain A (R10, R64). -/
def domainA (k : Nat) : Bool :=
  match findRow (k % drawerStride) with
  | some (r, _, _) => r.dom == .a
  | none => false

/-- The option image that stood before that of R463. -/
def restoreImage (s : State) : State :=
  match s.rst.saved with
  | none => s
  | some (l, st) =>
    let s := foldUpto 26 (fun n s => s.wr (R.optActive0 + 4 * n) (l.getD n 0#32)) s
    (s.put F.optStatusDegraded (st % 2)).put F.optStatusFailsafe (st / 2)

/-- `ISLAND_HELD` follows the islands held. -/
def syncHeld (s : State) : State :=
  s.put F.rstStatusIslandHeld (sumNat ((List.range 16).map fun i => b2n (s.rst.dHeld.any fun h => h.1 == i) * 2 ^ i))

/-- A level B reset: reset domain A, the always-on island and the Plumb unit run on; everything else on both
dies takes its reset values (R64). -/
def resetB (as : List Src) (s : State) : State :=
  let s := restoreImage (cutCommit s)
  let z := State.reset
  let deg := s.get F.optStatusDegraded
  let fs := s.get F.optStatusFailsafe
  let t : State := { z with
    pending := s.pending, freeIdx := s.freeIdx, opt := s.opt, nand := s.nand, tb := s.tb, tbCopy := s.tbCopy
    regs := tabKeep domainA s.regs
    fab := { z.fab with out := s.fab.out }
    pwr := { z.pwr with vinLow := s.pwr.vinLow, csLow := s.pwr.csLow, perstLow := s.pwr.perstLow }
    stor := { z.stor with nextKey := s.stor.nextKey }
    line := { z.line with trk := s.line.trk }
    radio := { z.radio with sec := s.radio.sec, cold := s.radio.cold, actual := s.radio.actual, prior := s.radio.prior
                            low := s.radio.low }
    plmb := { s.plmb with resync := true }
    rst := { z.rst with
      level := .b, asserted := as, latched := [], seq := 3, sel2 := s.rst.sel2, sel3 := s.rst.sel3 } }
  syncHeld (((( keepNarrow s.rst t).put F.optStatusDegraded deg).put F.optStatusFailsafe fs).put F.plmbStatusCopySynced 0)

/-- A source of level A or B asserts (R61, R65, R67). -/
def assertAB (x : Src) (s : State) : State :=
  let hold (l : List Src) : List Src := if lasting x then withSrc x l else l
  let old := if unreleased s then s.rst.asserted else []
  if sourceA x ∧ (¬ inLevelA s ∨ 3 ≤ s.rst.seq) then
    -- what this level A reset has recorded, or what is asserted as it begins (R68)
    let seen := if inLevelA s then s.rst.latched else old ++ narrowAsserted s
    let s := resetA (hold old) s
    { syncHeld s with rst := { s.rst with latched := withSrc x seen } }
  else if unreleased s then noteCause x { s with rst := { s.rst with asserted := hold old } }
  else noteCause x (resetB (hold []) s)

/-! ### Level D (R63, R71, R159, R518) -/

/-- An island that admits a level D reset (R63). -/
def eligibleD (i : Nat) : Bool := decide (i < 4) || (decide (8 ≤ i) && decide (i < 16))

/-- Emissions and receptions end with the front ends or the DSP: outputs at mid-scale (R59, R63); a frame cut on
the air is recorded `ABORTED`. -/
def airReset (s : State) : State :=
  let s := forActs (pendingActs s fun a => airBody a && a.stage == .emitting) (fun n k s => endSent n k stFailed 0x30 s) s
  let s := cutAcks ((foldUpto 3 (fun t s => txStop t s) s).put F.radioStatusTxBusy 0)
  stopChains { s with radio := { s.radio with rx := none } }

/-- The cipher work of frames being received is cut: which of them had work in the pipeline is free (R518). -/
def cutReceptions (s : State) : State :=
  let s := (List.range 6).foldl (fun s c => (List.range 4).foldl (fun s k =>
    match current s c k with
    | some r => if r.valid then (mapRecv (fun r => { r with cut := r.cut || s.free % 2 == 0 }) (c, k) s).drew else s
    | none => s) s) s
  if s.radio.rx.isSome then
    ({ s with radio := { s.radio with rxCut := s.radio.rxCut || s.free % 2 == 0 } } : State).drew
  else s

/-- Both cipher engines lose their work (R518).  Whether a secured frame on the air, or a storage job, had
work in them at that moment is free; a storage job cut ends at its first granule, as none is done before the job's
own command. -/
def cipherReset (s : State) : State :=
  let s := cutReceptions s
  let s := s.fab.jobs.foldl (fun s j =>
    if 4 ≤ j.phase then s
    else if j.unit = .cipher then endJob j 2 s.free s.drew
    else if j.unit = .storage ∧ j.phase = 3 then
      (if s.free % 2 = 0 then storEnd j 2 0 (some (jGran j)) s.drew else s.drew)
    else s) s
  let s := forActs (pendingActs s fun a => match a.body with
      | .cyp _ => true
      | _ => false) (fun n k s => endAct n k stFailed 0x30 0 s) s
  forActs (pendingActs s fun a => airBody a && actSecure a && a.stage == .emitting) (fun n k s =>
    if s.free % 2 = 0 then
      let u := (s.act n k).units
      let s := if isRtx (s.act n k) then s.put F.radioStatusTxBusy 0 else (unitList u).foldl (fun s t => txStop t s) s
      endSent n k stFailed 0x30 s.drew
    else s.drew) s

/-- The storage island leaves its reset with a reset command to every target present: until a target has recovered
`HEALTHY` reads 0 (R55, R383).  The programs and the erases under way end with the pins (R59). -/
def storageReset (s : State) : State :=
  if ¬ s.on F.storStatusMounted then s
  else
    let present := s.get F.storStatusCh0Targets + 16 * s.get F.storStatusCh1Targets
    let s : State := { s with stor := { s.stor with ops := [], retry := s.stor.retry ||| present } }
    let s := foldUpto 2 (fun ch s => dropRequest (.nand ch) (releaseGrant (.nand ch) s)) s
    if s.on F.storStatusHealthy then occur (s.put F.storStatusHealthy 0) 242 else s

/-- What a level D reset of island `i` does to the island, for its source. -/
def islandReset (i : Nat) (x : Src) (s : State) : State :=
  match i with
  | 0 => airReset s
  | 1 => cipherReset s
  | 2 => storageReset s
  | 3 => ringIsland (airReset s)
  | _ =>
    let c := i - 8
    let s := match x with
      | .jigLock => s.put (F.jigNoticeLockup c) 1
      | .jigWdt => s.put (F.jigNoticeWdog c) 1
      | _ => s
    resetCore c s

/-- A level D source asserts on island `i`; where the island admits none, the device is reset at level B with
the same bit (R63, R65, R67). -/
def assertD (i : Nat) (x : Src) (s : State) : State :=
  if ¬ eligibleD i then assertAB x s
  else
    let held := s.rst.dHeld.any fun h => h.1 == i
    let s := syncHeld { s with rst := { s.rst with dHeld := s.rst.dHeld ++ [(i, x)] } }
    noteCause x (if unreleased s ∨ held then s else islandReset i x s)

/-- `LEVEL_D_RELEASE` (R66, R70, R75): the island's `CLK_OK` holds.  Under a level A or level B reset its own source
has ended, and the island waits for the release of that reset. -/
def execLevelDRelease (island : Fin 16) (s : State) : Ans :=
  if ¬ s.rst.dHeld.any (fun h => h.1 == island.val) then .next s
  else
    let t := syncHeld { s with rst := { s.rst with dHeld := s.rst.dHeld.filter fun h => h.1 != island.val } }
    if unreleased s then .next t else .next (occur (t.put ⟨R.rstIsland, island.val, island.val⟩ 1) 284)

/-! ### The sources -/

/-- `POWER_ON` (R61): the supplies have come up and the power-on source ends; on a running device this is a
whole power cycle. -/
def execPowerOn (s : State) : Ans :=
  let s := if s.rst.asserted.contains .por then s else assertAB .por s
  .next { s with rst := { s.rst with asserted := s.rst.asserted.filter fun x => x != .por } }

/-- `BROWN_OUT` (R61, R503). -/
def execBrownOut (rail : Fin 5) (s : State) : Ans := .next (assertAB (.bor rail.val) s)

/-- `RESET_N_TAKEN` (R47). -/
def execResetNTaken (s : State) : Ans := .next (assertAB .pin s)

/-- Loss of `TCXO_IN` (R62, R407): 2 µs without an edge. -/
def execTcxoLost (s : State) : Ans :=
  if s.on F.plmbStatusTcxoFallback then .next s
  else if ¬ inLevelA s ∧ s.get F.plmbStatusState = 2 ∧ selected s = some 1 then
    .next (occur (s.put F.plmbStatusTcxoFallback 1) 266)
  else .next (assertAB .tcxoLost s)

/-- `TEN_EDGE_LOST` (R396, R407): `REF_10M` is lost, with no edge or out of its range; under the fallback the device
has then no clock source (R62). -/
def execTenEdgeLost (silent : Bool) (s : State) : Ans :=
  let fb := s.on F.plmbStatusTcxoFallback
  let s := tenLost silent s
  if fb then .next (assertAB .tcxoLost (s.put F.plmbStatusTcxoFallback 0)) else .next s

/-- `PLL_LOST_LOCK` (R61, R71). -/
def execPllLostLock (s : State) : Ans := .next (assertAB .pllLost s)

/-- `KEEPER_WATCHDOG` (R61). -/
def execKeeperWatchdog (s : State) : Ans := .next (assertAB .keeperWdt s)

/-- `KEEPER_LOCKUP` (R61). -/
def execKeeperLockup (s : State) : Ans := .next (assertAB .keeperLock s)

/-- `ISLAND_CLOCK_FAILURE` (R61, R63, R71). -/
def execIslandClockFailure (island : Fin 16) (s : State) : Ans := .next (assertD island.val .islandClk s)

/-- A drawer's level C reset asserts (R61, R65, R67): under a level A or level B reset its resources stand at their
reset values already, and a source that lasts holds the drawer beyond the release. -/
def assertC (d : Nat) (flr : Bool) (s : State) : State :=
  let s := noteCause (if flr then .flr d else .swDrw d) s
  if ¬ unreleased s then resetDrawer d flr s
  else if flr then
    keepNarrow { s.rst with flrHeld := d :: s.rst.flrHeld.filter fun x => x != d } s
  else s

/-- Each presented function's drawer of a list takes a level C reset (R52). -/
def resetFunctions (ds : List Nat) (s : State) : State :=
  (ds.filter fun d => isPcie s d && drawerEnabled s d).foldl (fun s d => assertC d true s) s

/-- `FUNCTION_LEVEL_RESET` (R52): of one function; or, with none named, `PERST_N` low, which resets the link too and
acts on every function presented. -/
def execFunctionLevelReset (fn : Option Drawer) (s : State) : Ans :=
  match fn with
  | some d => .next (resetFunctions [d.val] s)
  | none =>
    .next (resetFunctions (List.range 4) { s with pwr := { s.pwr with pcie := 0, perstLow := true } })

/-- A write of `RST_CMD` by drawer `d` (R77). -/
def rstCmdWrite (d : Nat) (v : Word) (be : BitVec 4) (s : State) : State :=
  let w := (beMerge 0#32 v be).toNat
  let op := bitsOf w 7 4
  let target := bitsOf w 3 0
  if bitsOf w 31 16 = 0xC1A7 ∧ op = 1 ∧ d = 0 then assertAB .swDevice s
  else if bitsOf w 31 16 = 0xC1A7 ∧ op = 2 ∧ target < 4 ∧ (d = 0 ∨ target = d) then assertC target false s
  else s.put F.rstStatusCmdRefused 1

/-- `SW_DEVICE_RESET` (R77): a write of `RST_CMD`. -/
def execSwDeviceReset (d : Drawer) (v : Word) (s : State) : Ans :=
  .next (filtered s d.val R.rstCmd (rstCmdWrite d.val v 15#4))

/-- `SW_DRAWER_RESET` (R77): a write of `RST_CMD`. -/
def execSwDrawerReset (d : Drawer) (v : Word) (s : State) : Ans :=
  .next (filtered s d.val R.rstCmd (rstCmdWrite d.val v 15#4))

/-- A debug request (R498). -/
def dbgGo (island : Nat) (s : State) : State :=
  match s.get F.optActive0DbgReach with
  | 1 => assertD island .dbgIsland s
  | 2 => assertAB .dbgFull s
  | _ => s.put F.dbgStatusReqRefused 1

/-- A write of `DBG_REQ`. -/
def dbgReqWrite (v : Word) (be : BitVec 4) (s : State) : State :=
  let w := beMerge 0#32 v be
  if ¬ w.getLsbD 4 then s else dbgGo (w.toNat % 16) s

/-- Identification code of the test port (R58; bit 0 is 1 by IEEE 1149.1). -/
def tapIdcode : Nat := Config.tapVersion.toNat * 2 ^ 28 + 0x9640 * 2 ^ 12 + Config.tapMaker.toNat * 2 + 1

/-- A debug request through the test port, which passes boundary scan under the lock `OPEN` alone (R82). -/
def tapRequest (v : Word) (s : State) : State :=
  if unreleased s ∨ ¬ v.getLsbD 4 then s
  else if s.get F.optActive0DebugLock ≠ 0 then s.put F.dbgStatusReqRefused 1
  else dbgGo (v.toNat % 16) s

/-- `RESET_N` holds the device in a level B reset. -/
def pinHoldsB (s : State) : Bool := unreleased s && s.rst.level == .b && s.rst.asserted.contains .pin

/-- An operation of the test port (R58): `v` is what is shifted in.  The bypass register is one bit that reads 0 at
first; the boundary chain, whose order the spec does not give, is free. -/
def tapDo (op : TapOp) (v : Word) (s : State) : State :=
  match op with
  | .bypass => s.emit (.tap .bypass (v.toNat * 2))
  | .idcode => s.emit (.tap .idcode tapIdcode)
  | .sample => s.drew.emit (.tap .sample s.free)
  | .extest => if pinHoldsB s then { s with rst := { s.rst with extest := true } } else s
  | .debug => tapRequest v s

/-- `DBG_REQ_GO` (R58, R496, R498): a write of `DBG_REQ`, or an operation of the test access port. -/
def execDbgReqGo (src : DbgFrom) (v : Word) (s : State) : Ans :=
  match src with
  | .drawer d =>
    if dbgSealed s then
      if reachesAll s d.val ∧ v.getLsbD 4 then .next (s.put F.dbgStatusReqRefused 1) else .next s
    else .next (filtered s d.val R.dbgReq (dbgReqWrite v 15#4))
  | .tap op => .next (tapDo op v s)

/-- `DBG_TRACE_CFG_WRITE` (R497): the records are cleared. -/
def traceCfgWrite (v : Word) (be : BitVec 4) (s : State) : State :=
  let s := s.wrTyped R.dbgTraceCfg v be
  let s := foldUpto 32 (fun r s => s.put ⟨R.dbgTrace (2 * r), 9, 9⟩ 0) s
  ((s.put F.dbgStatusNext 0).put F.dbgStatusWrapped 0).put F.dbgStatusStopped 0

def execDbgTraceCfgWrite (d : Drawer) (v : Word) (be : BitVec 4) (s : State) : Ans :=
  .next (filtered s d.val R.dbgTraceCfg (traceCfgWrite v be))

/-! ### Jig lock-up and watchdog (R157, R158) -/

/-- Threads of core `c` that hold a window. -/
def loadedOn (s : State) (c : Nat) : List Nat := ((List.range 4).map fun t => 4 * c + t).filter fun n => loaded (s.thr n)

/-- Steps of 2^20 core cycles. -/
def lockSteps : Nat := nsSteps 5242880

/-- `JIG_LOCKUP` (R157): a thread has been in `RUN` for 2^20 cycles, or every loaded thread of the core is in
`FAULT`. -/
def execJigLockup (c : Fin 8) (s : State) : Ans :=
  if coreHeld s c.val ∨ coreNaps s c.val then .next s
  else
    let l := loadedOn s c.val
    if ¬ l.isEmpty ∧ l.all (fun n => (s.thr n).state == .fault) then .next (assertD (8 + c.val) .jigLock s)
    else
      match findFirst (fun n => (s.thr n).state == .run) l with
      | some n => .next (assertD (8 + c.val) .jigLock (s.passTo (after (s.thr n).runAt lockSteps)))
      | none => .next s

/-- `JIG_WATCHDOG` (R158): `WDOG_MS` pass without a `YIELD`. -/
def execJigWatchdog (th : Fin 32) (s : State) : Ans :=
  let n := th.val
  let ms := s.get (F.jtWdogWdogMs n)
  let t := s.thr n
  if coreHeld s (coreOf n) ∨ coreNaps s (coreOf n) ∨ ms = 0 then .next s
  else
    match t.state with
    | .idle | .halt | .fault => .next s
    | _ => .next (assertD (8 + coreOf n) .jigWdt (s.passTo (after t.wdogAt (msSteps ms))))

/-! ### Uncorrectable and corrected words (R471 to R473) -/

/-- What an uncorrectable word does to the structure that holds it (R472). -/
def markWord (x : EccLoc) (s : State) : State :=
  match x with
  | .queue n i => poisonEntry n.val i s
  | .bulk d off => setBulkPoison s d.val off true
  | .ctx c w => if resident s c then setCtxBad c w true s else s
  | .imem c i => setImemPoison c.val i true s
  | .dmem c a => setDmemPoison s c.val a true
  | .queueCfg n => tnlCause 5 (disableQueue n.val s)
  | .evtRoute n => tnlCause 5 ((s.put (F.evtRouteEnable n.val) 0).setEvt n.val evtZero)
  | .keySlot n => tnlCause 5 (emptyKey n.val s)
  | .keeper => assertAB .keeperLock s
  | .other => s
where
  /-- Entry `i` of queue `n`, counted from the front: the chain, the ring, then what was submitted. -/
  poisonEntry (n i : Nat) (s : State) : State :=
    let q := s.queue n
    let a := descWords q.chain
    let b := descWords q.ring
    if i < a then s.setQueue n { q with chain := markDesc i q.chain }
    else if i < a + b then s.setQueue n { q with ring := markDesc (i - a) q.ring }
    else s.setQueue n { q with sub := markSub (i - a - b) q.sub }
  markAt (i : Nat) (l : List QWordP) : List QWordP := l.modify i fun w => { w with poison := true }
  markDesc (i : Nat) : List QDesc → List QDesc
    | [] => []
    | d :: l =>
      if i < d.words.length then { d with words := markAt i d.words } :: l else d :: markDesc (i - d.words.length) l
  markSub (i : Nat) : List HDesc → List HDesc
    | [] => []
    | d :: l =>
      if i < d.words.length then { d with words := markAt i d.words } :: l else d :: markSub (i - d.words.length) l

/-- One error found by a read (R471, R472). -/
def takeHit (h : EccHit) (s : State) : State :=
  if ¬ h.uncorr then bumpStat (R.eccCorrCnt h.str.val) tnlOvf s
  else
    let s := bumpStat (R.eccUncorrCnt h.str.val) tnlOvf s
    let s := (s.put F.eccLogStruct h.str.val).put F.eccLogWord h.word
    markWord h.loc s

/-- `ECC_SCRUB_PASS` (R471): the scrubber has read every word, and has found these errors. -/
def execEccScrubPass (l : List EccHit) (s : State) : Ans := .next (l.foldl (fun s h => takeHit h s) s)

end Sys2Proof.Machine
end

