-- ==== Sys2Proof/Machine/Boot.lean ====
section
/-!
DEFINITION. The release sequences (R66, R72, R73), the boot of Keeper (R87 to R92), the boot without the line die
(R463) and attestation (R93 to R96).
-/

namespace Sys2Proof.Machine

/-! ### Steps 1 to 4 (R72, R332) -/

/-- The signature of the transport key by identity key 0 (R362). -/
def transportSig (s : State) : List Byte :=
  signDigest 48 (innerKey s 0) (curveHash 48 ([0x4F#8, 0x58#8, 0x54#8, 0x4B#8] ++ innerPublic s 2))

/-- Accounts whose prior buckets are to be laid out as under `COLD_FULL`: all, or none (R332). -/
def coldAccounts (s : State) : Nat := if s.get F.optActive0DcStart = 2 then 0 else 255

/-- The always-on island, the option store and the Plumb unit start (R72 steps 1 to 3, R332, R393). -/
def alwaysOn (s : State) : State :=
  let s := ((s.put F.optMfgRegionFloor s.opt.floor).put F.optMfgVariant s.opt.variant).put F.optMfgIdKeys s.opt.idKeys
  let s := showBootCount (readOptions s)
  let s := (s.wr (R.ciphOwnEui 0) (s.opt.eui.extractLsb' 0 32)).wr (R.ciphOwnEui 1) (s.opt.eui.extractLsb' 32 32)
  let s := showBytes R.ciphXsig (transportSig s) (showBytes R.ciphXpub (innerPublic s 2) s)
  let s := plumbStart s
  let s : State := { s with radio := { s.radio with sec := 3600, cold := coldAccounts s, prior := [] } }
  syncDuty (if s.get F.optActive0DcStart = 1 then s else s.put F.dcStatusElapsedKnown 1)

/-- The release (R68, R72, R73): `RESET_CAUSE` takes what a level A reset latched, the staging words take the active
image (R82), the line-die islands start and the straps are sampled (R53). -/
def releaseStep4 (sel2 sel3 : Bool) (s : State) : State :=
  let s := s.rst.latched.foldl (fun s x => s.put ⟨R.resetCause, causeBit x, causeBit x⟩ 1) s
  let s := (showPubKey (stageActive s)).put F.pwrBudgetBudget (imgBudget (activeWords s))
  { s with rst := { s.rst with latched := [], seq := 4, sel2 := sel2, sel3 := sel3, extest := false } }

/-- The conditions of some level A and level B sources have ended (R61); power-on ends by its own command. -/
def endSources (ends : List Src) (s : State) : State :=
  { s with rst := { s.rst with asserted := s.rst.asserted.filter fun x => x == .por || !ends.contains x } }

/-- Steps 1 to 3 run once no level A source is asserted, whatever level B source still is (R66, R72, R393). -/
def releaseStep3 (s : State) : State :=
  if s.rst.level = .a ∧ s.rst.seq < 3 ∧ ¬ s.rst.asserted.any sourceA then
    let s := alwaysOn s
    { s with rst := { s.rst with seq := 3 } }
  else s

/-- `RESET_RELEASE` (R66, R72, R73): sources end, and the sequence goes as far as those still asserted let it; step 4
waits for the last of level A or B and for the sample clock (R70). -/
def execResetRelease (ends : List Src) (sel : DrwSel) (s : State) : Ans :=
  if ¬ unreleased s then .next s
  else
    let s := releaseStep3 (endSources ends s)
    if ¬ s.rst.asserted.isEmpty ∨ s.rst.dHeld.any (fun h => h.1 == 3) then .next s
    else .next (releaseStep4 sel.sel2 sel.sel3 s)

/-! ### Keeper (R87 to R92) -/

/-- Steps 6 to 8 begin with the always-on counts and measurements: boot count, `MEAS_0`, `MEAS_3` (R91, R92). -/
def measureStart (s : State) : State :=
  let image := s.opt.mfgRow ++ (activeWords s).flatMap fun w => leBytes 4 w.toNat
  extendMeas 3 (Config.sha384 image) (extendMeas 0 Config.romDigest (raiseBootCount s))

/-- Signatures are enforced. -/
def secureBoot (s : State) : Bool := s.on F.optActive0SecureBoot

/-- 48 bytes, byte 0 first, as a digest. -/
def digestOf (l : List Byte) : BitVec 384 := BitVec.ofNat 384 (leNat l.reverse)

/-- Fields of a boot image's header (R88). -/
def imgMagic (i : BootImg) : Nat := fieldAt i.header 0 4
def imgFormat (i : BootImg) : Nat := fieldAt i.header 4 2
def imgKfwLen (i : BootImg) : Nat := fieldAt i.header 8 4
def imgUcodeLen (i : BootImg) : Nat := fieldAt i.header 12 4
def imgFwSvn (i : BootImg) : Nat := fieldAt i.header 16 2
def imgKfwDigest (i : BootImg) : BitVec 384 := digestOf ((i.header.drop 32).take 48)
def imgUcodeDigest (i : BootImg) : BitVec 384 := digestOf ((i.header.drop 80).take 48)

/-- The signature at offset 128, r then s, fits bytes 0 to 127 under the key in the ROM, and the cluster's two cores
agree on it (R88, R89, R359). -/
def imgSigOk (i : BootImg) : Bool :=
  !i.mismatch &&
    Config.ecVerify 1 Config.romKey (digestBytes (Config.sha384 (i.header.take 128))) ((i.header.drop 128).take 96)

/-- The first check that an image fails, as `ERROR` codes it; 0 for none (R89, in its order). -/
def imageError (s : State) (i : BootImg) : Nat :=
  if imgMagic i ≠ 0x464B584F ∨ imgFormat i ≠ 1 then 1
  else if imgKfwLen i % 16 ≠ 0 ∨ 2 ^ 21 < imgKfwLen i ∨ imgUcodeLen i % 16 ≠ 0 ∨ 2 ^ 20 < imgUcodeLen i then 2
  else if secureBoot s ∧ ¬ imgSigOk i then 4
  else if secureBoot s ∧ imgFwSvn i < s.get F.optActive1FwMinSvn then 5
  else if i.kfw ≠ imgKfwDigest i ∨ i.ucode ≠ imgUcodeDigest i then 3
  else 0

/-- The body of an image is read and measured once its header passes (R89); a difference of the two cores over an
enforced signature raises `CIPH_FAULT` (R359). -/
def measureImage (s : State) (i : BootImg) : State :=
  if imageError s i = 1 ∨ imageError s i = 2 then s
  else
    let t := extendMeas 2 i.ucode (extendMeas 1 i.kfw s)
    if secureBoot s ∧ i.mismatch then cipherFault t else t

def setStage (n : Nat) (s : State) : State := s.put F.bootStatusStage n

def bootError (n : Nat) (s : State) : State := s.put F.bootStatusError n

/-- Image `k` has passed and runs (R90). -/
def runImage (k : Nat) (i : BootImg) (s : State) : State :=
  let s := ((setStage 3 s).put F.bootStatusImage k).put F.bootStatusVerified (b2n (secureBoot s))
  { s with rst := { s.rst with romTry := 0, svn := imgFwSvn i, seq := 8 } }

/-- The secondary image, or a flash that does not answer for it; when it fails too, `FAILED` (R89, R90). -/
def trySecondary (sec : Option BootImg) (s : State) : State :=
  match sec with
  | none => { s with rst := { s.rst with romTry := 2 } }
  | some i =>
    let e := imageError s i
    let s := measureImage s i
    if e = 0 then runImage 2 i s
    else
      let s := setStage 5 (bootError e s)
      { s with rst := { s.rst with romTry := 0, seq := 8 } }

/-- The primary image, then the secondary. -/
def tryPrimary (prim sec : Option BootImg) (s : State) : State :=
  match prim with
  | none => { s with rst := { s.rst with romTry := 1 } }
  | some i =>
    let e := imageError s i
    let s := measureImage s i
    if e = 0 then runImage 1 i s else trySecondary sec (bootError e s)

/-- The image at offset 0 of drawer 0's staging memory (R88, R90). -/
def pushedImage (s : State) (mismatch : Bool) : BootImg :=
  let h := rdBulkN s 0 0 256
  let kfw := fieldAt h 8 4
  { header := h, kfw := Config.sha384 (rdBulkN s 0 256 kfw)
    ucode := Config.sha384 (rdBulkN s 0 (256 + kfw) (fieldAt h 12 4)), mismatch := mismatch }

/-- The ROM has checked a pushed image: it runs, or `WAIT_PUSH` with its failure (R90). -/
def tryPushed (mismatch : Bool) (s : State) : State :=
  let i := pushedImage s mismatch
  let e := imageError s i
  let s := measureImage s i
  if e = 0 then runImage 3 i s
  else { setStage 2 (bootError e s) with rst := { s.rst with romTry := 0 } }

/-- Step 8 starts (R72, R89, R90). -/
def romStart (prim sec : Option BootImg) (s : State) : State :=
  let s := measureStart s
  if s.on F.optActive0BootSrc then { setStage 2 s with rst := { s.rst with seq := 8 } } else tryPrimary prim sec s

/-- `KEEPER_ROM_BOOT` (R89, R90): step 8 starts, or, after a write of `BOOT_PUSH`, the ROM checks the pushed image, over which its two cores may differ (R359). -/
def execKeeperRomBoot (flash : BootFlash) (mismatch : Bool) (s : State) : Ans :=
  if s.rst.romTry = 3 then .next (tryPushed mismatch s)
  else if s.rst.seq ≠ 7 ∨ s.rst.romTry ≠ 0 then .next s
  else .next (romStart flash.prim flash.sec s)

/-- `FLASH_TIMEOUT` (R87): 10 ms without an answer for the image being read. -/
def execFlashTimeout (sec : Option BootImg) (s : State) : Ans :=
  match s.rst.romTry with
  | 1 => .next (trySecondary sec (bootError 6 s))
  | 2 =>
    let s := setStage 5 (bootError 6 s)
    .next { s with rst := { s.rst with romTry := 0, seq := 8 } }
  | _ => .next s

/-- A write of `BOOT_PUSH` by drawer 0 (R90) that enables a byte: taken in `WAIT_PUSH` and `FAILED`; `STAGE` reads `LOADING` until the ROM
has checked the image. -/
def pushWrite (be : BitVec 4) (s : State) : State :=
  if be = 0#4 ∨ s.get F.bootStatusStage ≠ 2 ∧ s.get F.bootStatusStage ≠ 5 then s
  else { setStage 1 s with rst := { s.rst with romTry := 3 } }

/-- `BOOT_PUSH` (R90). -/
def execBootPush (d : Drawer) (_v : Word) (be : BitVec 4) (s : State) : Ans :=
  .next (filtered s d.val R.bootPush (pushWrite be))

/-- Step 9's limit tables (R230): the bands that the effective region lock serves take limits that the spec
does not restate, free here; the other band stays at 0. -/
def loadLimits (s : State) : State :=
  let lock := regionLock s
  let load (b : Nat) (s : State) : State :=
    foldUpto 32 (fun w s => s.drew.wr (R.lphyLimit b w) (BitVec.ofNat 32 s.free)) s
  let s := if lock = 2 then s else load 0 s
  if lock = 1 then s else load 1 s

/-- `FIRMWARE_BRINGUP` (R72 step 9): `READY`. -/
def execFirmwareBringup (s : State) : Ans :=
  if s.get F.bootStatusStage ≠ 3 then .next s
  else
    let s := loadLimits (setStage 4 s)
    .next { s with rst := { s.rst with seq := 9 } }

/-- `LINK_DOWN_BOOT` (R463): 50 ms after the release the link has not trained; the logic die goes on under the
failsafe image. -/
def execLinkDownBoot (s : State) : Ans :=
  if s.rst.seq ≠ 4 ∨ s.get F.tnlStatusState ≠ 0 then .next s
  else
    let saved := some (activeWords s, s.get F.optStatusDegraded + 2 * s.get F.optStatusFailsafe)
    let s := setActive (failsafeImage s.opt.floor) (s.put F.optStatusFailsafe 1)
    let s := setAbsent 1 (s.put F.bootStatusLinkDown 1)
    .next { s with rst := { s.rst with seq := 7, saved := saved } }

/-! ### Attestation (R94 to R96) -/

/-- An attestation request refused, with its reason (R94). -/
def attRefuse (d reason : Nat) (s : State) : State :=
  (s.put (fldOf d F.attStatusState) 3).put (fldOf d F.attStatusReason) reason

/-- A write of `ATT_CMD.REQUEST` (R91, R94). -/
def attWrite (d : Nat) (v : Word) (be : BitVec 4) (s : State) : State :=
  let dest := 64 * s.get (fldOf d F.attDestOffset)
  if ¬ (be.getLsbD 0 && v.getLsbD 0) then s
  else if s.att.queue.any fun r => r.drawer == d then attRefuse d 1 s
  else if 2 ^ 26 < dest + 592 then attRefuse d 2 s
  else if bootCount s.opt = 2 ^ 48 - 1 then attRefuse d 3 s
  else
    let nonce := (List.range 8).map fun n => s.rd (selfKey d (R.attNonce n))
    let s := (s.put (fldOf d F.attStatusState) 1).put (fldOf d F.attStatusReason) 0
    { s with att := { s.att with queue := s.att.queue ++ [⟨d, nonce, dest⟩] } }

/-- `ATT_REQUEST` (R94). -/
def execAttRequest (d : Drawer) (v : Word) (s : State) : Ans :=
  .next (filtered s d.val R.attCmd (attWrite d.val v 15#4))

/-- Bits of the report's security state (R95). -/
def securityState (s : State) : Nat :=
  regionLock s + 4 * s.get F.optActive0SecureBoot + 8 * s.get F.optActive0DebugLock + 32 * s.get F.optStatusFailsafe +
    64 * s.get F.bootStatusVerified

/-- Report bytes 0 to 495 for a request (R95); the timebase field holds the logic die's copy (assumption 129). -/
def reportBytes (s : State) (r : AttReq) : List Byte :=
  leBytes 4 0x5441584F ++ leBytes 2 1 ++ leBytes 2 592 ++ leBytes 1 r.drawer ++
    leBytes 1 (s.get F.optActive0AttKeySel) ++ leBytes 2 0 ++ leBytes 4 (s.rd R.devId).toNat ++
    leBytes 4 (s.rd R.devStep).toNat ++ leBytes 4 (s.rd R.resetCause).toNat ++ leBytes 8 (bootCount s.opt) ++
    leBytes 8 s.tbCopy.toNat ++ (r.nonce.flatMap fun w => leBytes 4 w.toNat) ++
    ((List.range 8).flatMap fun n => measBytes s n) ++
    ((List.range 8).flatMap fun n => leBytes 4 (s.rd (R.measCnt n)).toNat) ++ leBytes 4 (securityState s) ++
    leBytes 4 s.rst.svn

/-- `ATT_SERVICE_START` (R94, R95): the oldest request is served, in `WAIT_PUSH`, `FAILED` and after `READY`. -/
def execAttServiceStart (s : State) : Ans :=
  match s.att.queue with
  | [] => .next s
  | r :: _ =>
    let st := s.get F.bootStatusStage
    if s.att.report.isSome ∨ (st ≠ 2 ∧ st ≠ 4 ∧ st ≠ 5) then .next s
    else .next { s with att := { s.att with report := some (reportBytes s r) } }

/-- The signed report is written and the request is done, or a mismatch of the two cores refuses it (R96). -/
def attEnd (match2 : Bool) (r : AttReq) (bytes : List Byte) (s : State) : State :=
  let s := { s with att := ⟨s.att.queue.drop 1, none⟩ }
  if ¬ match2 then attRefuse r.drawer 4 s
  else
    let sig := signDigest 48 (innerKey s (s.get F.optActive0AttKeySel)) (curveHash 48 bytes)
    let s := wrBulkL s r.drawer r.dest (bytes ++ sig)
    occur (s.put (fldOf r.drawer F.attStatusState) 2) (280 + r.drawer)

/-- `ATT_DONE` (R96). -/
def execAttDone (match2 : Bool) (s : State) : Ans :=
  match s.att.queue, s.att.report with
  | r :: _, some bytes => .next (attEnd match2 r bytes s)
  | _, _ => .next s

end Sys2Proof.Machine
end

