-- ==== Sys2Proof/Machine/Access.lean ====
section
/-!
DEFINITION. Host writes to registers and apertures (R7 to R9, R101 to R103, R489, R490, R493), and the QSPI target
ports (R98 to R100).
-/

namespace Sys2Proof.Machine

/-! ### Writes that the filter has taken, block by block -/

/-- The plain write of a register by its fields' access types (R9); the line die's are lost with the link (R468). -/
def plainWrite (d off : Nat) (v : Word) (be : BitVec 4) (s : State) : State :=
  let w (s : State) : State := s.wrTyped (viewKey d off) v be
  if lineDieReg off then lineDieWrite w s else w s

/-- `DEV`, `RST` and `ATT`. -/
def writeDev (d off : Nat) (v : Word) (be : BitVec 4) (s : State) : State :=
  if ownReg off then ownWrite off v be s
  else if off = R.rstCmd then rstCmdWrite d v be s
  else if off = R.bootPush then pushWrite be s
  else if R.optStage0 ≤ off ∧ off < R.optCmd then stageWrite ((off - R.optStage0) / 4) v be s
  else if off = R.optCmd then optCmdWrite v be s
  else if off = R.attCmd then attWrite d v be s
  else plainWrite d off v be s

/-- Pending bits that a drawer clears: its own sources' (R132). -/
def clearPend (d w : Nat) (v : Word) (be : BitVec 4) (s : State) : State :=
  s.wr (R.evtPend w) (s.rd (R.evtPend w) &&& ~~~(v &&& byteMask be &&& pendMask s d w))

/-- `EVT`, `QUE` and `JIG`. -/
def writeQue (d off : Nat) (v : Word) (be : BitVec 4) (s : State) : State :=
  if off < 0x22000 then
    let n := (off - 0x20000) / 16
    match off % 16 with
    | 0 => evtRouteWrite d n v be s
    | 8 => if ownReg off then ownWrite off v be s else s
    | _ => plainWrite d off v be s
  else if R.evtPend 0 ≤ off ∧ off ≤ R.evtPend 8 then clearPend d ((off - R.evtPend 0) / 4) v be s
  else if 0x30000 ≤ off ∧ off < 0x40000 then
    let n := (off - 0x30000) / 32
    match off % 32 with
    | 0 => queueCfgWrite n v be s
    | 4 => if queueOn s n then s else plainWrite d off v be s
    | _ => plainWrite d off v be s
  else if off = R.jigLoadCmd then jigLoadWrite d v be s
  else if 0x41000 ≤ off ∧ off < 0x41800 ∧ off % 64 = 0 then jtCtlWrite ((off - 0x41000) / 64) v be s
  else plainWrite d off v be s

/-- A write of `LPHY_TXCFG_t`: during an emission it waits for the next frame (R230). -/
def txcfgWrite (t : Nat) (v : Word) (be : BitVec 4) (s : State) : State :=
  match findRow (R.lphyTxcfg t) with
  | none => s
  | some (r, _, _) =>
    if s.on (F.lphyTxstatBusy t) then
      let old := ((xmit s t).cfg).getD (s.rd (R.lphyTxcfg t))
      setXmit t { xmit s t with cfg := some (writeMerge r old v be) } s
    else s.wrMerge r (R.lphyTxcfg t) v be

/-- A write of `LMAC_SFCFG`: the superframe ends with `ENABLE` (R275). -/
def sfcfgWrite (v : Word) (be : BitVec 4) (s : State) : State :=
  let s := s.wrTyped R.lmacSfcfg v be
  if s.on F.lmacSfcfgEnable then s
  else { s with line := { s.line with sf := { s.line.sf with running := false, from' := none } } }

/-- A write of `LMAC_ROUTE_CFG`: the period of the route engine counts from its enabling (R300). -/
def routeCfgWrite (v : Word) (be : BitVec 4) (s : State) : State :=
  let was := s.on F.lmacRouteCfgEnable
  let s := s.wrTyped R.lmacRouteCfg v be
  if was ∨ ¬ s.on F.lmacRouteCfgEnable then s else { s with line := { s.line with routeAt := s.tb } }

/-- The valid context whose short address is `sh`, found by its other index entry. -/
def shortHolder (s : State) (sh : Nat) : Option Nat :=
  (findFirst (fun (e : IdxEnt) => (match e.key with
    | .eui _ => true
    | .short _ => false) && ctxShort s e.ctx == sh) s.ncp.idx).map IdxEnt.ctx

/-- A write of `LMAC_OWN`: the own short address leaves the index, and the one it was before enters it where a context
has it (R377, assumption 132). -/
def ownAddrWrite (v : Word) (be : BitVec 4) (s : State) : State :=
  let old := s.get F.lmacOwnShort
  let s := s.wrTyped R.lmacOwn v be
  let new := s.get F.lmacOwnShort
  if new = old then s
  else
    let s := setIdx s (s.ncp.idx.filter fun e => e.key != .short new)
    match shortHolder s old with
    | none => s
    | some c =>
      if shortExcluded s old then s
      else match idxAdd (idxGen s) s.ncp.idx (.short old) c with
        | some l => autoRebuild (setIdx s l)
        | none => occur s 238

/-- `LPHY`, `SWP`, `LMAC`. -/
def writeLine (d off : Nat) (v : Word) (be : BitVec 4) (s : State) : State :=
  if off = R.lphyApply then
    let w := v &&& byteMask be
    let s := if w.getLsbD 0 then applyBand 0 s else s
    if w.getLsbD 1 then applyBand 1 s else s
  else if 0x80100 ≤ off ∧ off < 0x80160 ∧ off % 16 = 0 then rxcfgWrite ((off - 0x80100) / 16) v be s
  else if 0x80200 ≤ off ∧ off < 0x80230 ∧ off % 16 = 0 then txcfgWrite ((off - 0x80200) / 16) v be s
  else if off = R.lphyCompatCfg then compatWrite v be s
  else if off = R.swpCfg then judgeSweep 1 (judgeSweep 0 (s.wrTyped R.swpCfg v be))
  else if off = R.lmacSfcfg then sfcfgWrite v be s
  else if off = R.lmacRouteCfg then routeCfgWrite v be s
  else if off = R.lmacOwn then ownAddrWrite v be s
  else if R.lmacNmapStat 0 ≤ off ∧ off ≤ R.lmacNmapStat 5 then
    if (v &&& byteMask be).getLsbD 2 then clearNmap ((off - R.lmacNmapStat 0) / 4) s else s
  else if off = R.dlvRingCfg then ringCfgWrite d v be s
  else plainWrite d off v be s

/-- Registers that take writes only while the radio is disabled (R336). -/
def radioLocked (off : Nat) : Bool :=
  off == R.radioSfcfg || off == R.radioAnchorS || (decide (0xE0100 ≤ off) && decide (off < 0xE0200)) ||
    (decide (0xE0400 ≤ off) && decide (off < 0xE0500) && decide (off % 32 < 16))

/-- `RADIO` and its duty-cycle registers. -/
def writeRadio (d off : Nat) (v : Word) (be : BitVec 4) (s : State) : State :=
  if off = R.radioCfg then radioCfgWrite v be s
  else if radioLocked off ∧ s.on F.radioCfgEnable then s
  else if 0xE0400 ≤ off ∧ off < 0xE0500 then
    syncDuty (coldLayout ((off - 0xE0400) / 32) (plainWrite d off v be s))
  else plainWrite d off v be s

/-- `CIPH`, `NCP` and `STOR`: `SCA_DISABLED` follows `SCA_OFF` under the lock `OPEN` (R360). -/
def writeCiph (d off : Nat) (v : Word) (be : BitVec 4) (s : State) : State :=
  if off = R.ciphCfg then
    let s := s.wrTyped R.ciphCfg v be
    s.put F.ciphStatusScaDisabled (b2n (s.on F.ciphCfgScaOff && s.get F.optActive0DebugLock == 0))
  else if 0x101000 ≤ off ∧ off < 0x102000 ∧ off % 16 = 8 then keyLimitWrite ((off - 0x101000) / 16) v be s
  else if off = R.ncpCfg then
    let s := s.wrTyped R.ncpCfg v be
    if be.getLsbD 1 ∧ v.getLsbD 8 then startRebuild s else s
  else plainWrite d off v be s

/-- `PLMB`: all of it on the line die. -/
def writePlmb (d off : Nat) (v : Word) (be : BitVec 4) (s : State) : State :=
  if off = R.plmbCfg then lineDieWrite (plmbCfgWrite v be) s
  else if off = R.plmbSwitch then lineDieWrite (plmbSwitchWrite v be) s
  else if off = R.plmbSteer then lineDieWrite (steerRegWrite v be) s
  else if off = R.plmbTodSet then lineDieWrite (todWrite v be) s
  else if off = R.plmbHostSample then
    lineDieWrite (hostWrite (beMerge 0#32 v be).toInt ((s.free % 2 ^ 32 : Nat) - (2 ^ 31 : Int))) s.drew
  else if off = R.plmbAlign then lineDieWrite (alignWrite v be) s
  else if R.plmbOutCfg 0 ≤ off ∧ off < 0x1600C0 ∧ off % 16 = 0 then
    lineDieWrite (outCfgWrite ((off - R.plmbOutCfg 0) / 16) v be) s
  else plainWrite d off v be s

/-- One UART's registers. -/
def writeUart (d off n : Nat) (v : Word) (be : BitVec 4) (s : State) : State :=
  match off % 256 with
  | 0x00 => uartCfgWrite n v be s
  | 0x04 => uartBaudWrite n v be s
  | 0x1C => txdataWrite n v be s
  | _ => plainWrite d off v be s

/-- One check unit's registers. -/
def writeChk (d off k : Nat) (v : Word) (be : BitVec 4) (s : State) : State :=
  match off % 64 with
  | 0x00 => chkCfgRegWrite k v be s
  | 0x0C => feedWrite k 1 v be s.tbCopy s
  | 0x10 => feedWrite k 2 v be s.tbCopy s
  | 0x14 => feedWrite k 4 v be s.tbCopy s
  | 0x1C => expectedWrite k v be s
  | 0x20 => chkCtlWrite k v be s
  | 0x24 => chkAliveWrite k v be s
  | _ => plainWrite d off v be s

/-- `SER`. -/
def writeSer (d off : Nat) (v : Word) (be : BitVec 4) (s : State) : State :=
  if off < 0x170400 then writeUart d off ((off - 0x170000) / 256) v be s
  else if off < 0x171000 then uartRespWrite ((off - 0x170400) / 256) ((off - 0x170400) % 256 / 4) v be s
  else if off = R.ringCfg then lineDieWrite (ringWrite v be) s
  else if 0x172000 ≤ off then writeChk d off ((off - 0x172000) / 64) v be s
  else plainWrite d off v be s

/-- `PWR`, `TNL` and `DBG`. -/
def writePwr (d off : Nat) (v : Word) (be : BitVec 4) (s : State) : State :=
  if off = R.pwrShare then shareWrite v be s
  else if off = R.pwrCmd then (if be.getLsbD 0 then pwrCmd (bitsOf v.toNat 3 0) s else s)
  else if off = R.pwrLgCfg then judgeLg (plainWrite d off v be s)
  else if off = R.tnlCmd then (if be.getLsbD 0 ∧ v.getLsbD 0 then resumeLink s else s)
  else if off = R.dbgTraceCfg then traceCfgWrite v be s
  else if off = R.dbgReq then dbgReqWrite v be s
  else plainWrite d off v be s

/-- A write that the filter has taken. -/
def writeTaken (d off : Nat) (v : Word) (be : BitVec 4) (s : State) : State :=
  if off < 0x20000 then writeDev d off v be s
  else if off < 0x80000 then writeQue d off v be s
  else if off < 0xE0000 then writeLine d off v be s
  else if off < 0x100000 then writeRadio d off v be s
  else if off < 0x160000 then writeCiph d off v be s
  else if off < 0x170000 then writePlmb d off v be s
  else if off < 0x180000 then writeSer d off v be s
  else writePwr d off v be s

/-! ### The other apertures (R101, R102, R114, R132) -/

/-- A word of a queue slot written by the queue's owner (R114). -/
def writeSlot (n o : Nat) (v : Word) (be : BitVec 4) (s : State) : State :=
  if o = 0x20 then ring n s
  else if 0x40 ≤ o ∧ o < 0x80 ∧ o % 4 = 0 then
    let q := s.queue n
    let i := (o - 0x40) / 4
    s.setQueue n { q with stage := tabSet (fun _ => 0#32) q.stage i (beMerge (tabGet (fun _ => 0#32) q.stage i) v be) }
  else s

/-- A word of the MSI-X table of a PCIe drawer (R97, R101, R132). -/
def writeMsix (d vec j : Nat) (v : Word) (be : BitVec 4) (s : State) : State :=
  let m := msixOf s d vec
  match j with
  | 0 => setMsix s d vec { m with addrLo := beMerge m.addrLo v be }
  | 1 => setMsix s d vec { m with addrHi := beMerge m.addrHi v be }
  | 2 => setMsix s d vec { m with data := beMerge m.data v be }
  | _ =>
    if ¬ be.getLsbD 0 then s
    else if v.getLsbD 0 then setMsix s d vec { m with masked := true }
    else unmaskVector d vec s

/-- A register stands at this offset of a queue slot (R114); the gaps read zero and are no violation (R489). -/
def slotReg (o : Nat) : Bool :=
  decide (o < 0x1C) || (decide (0x20 ≤ o) && decide (o < 0x24)) || (decide (0x40 ≤ o) && decide (o < 0x80))

/-- A write to `QWIN` (R101, R103, R489). -/
def writeQwin (d off : Nat) (v : Word) (be : BitVec 4) (s : State) : State :=
  if off < 0x4000 ∧ ¬ slotReg (off % 256) then s
  else if off < 0x4000 then filteredSlot s d (off / 256) (off % 256) true (writeSlot (off / 256) (off % 256) v be)
  else if 0x8000 ≤ off ∧ off < 0x8400 ∧ isPcie s d ∧ reachesAll s d then
    writeMsix d ((off - 0x8000) / 16) (off % 16 / 4) v be s
  else s

/-- The drawer reaches its staging memory: from step 7 of the release, outside a reset (R90, R94, R111). -/
def reachesBulk (s : State) (d : Nat) : Bool := reaches s d && decide (7 ≤ s.rst.seq) && !drawerInReset s d

/-- A word written to staging memory under byte enables; a word narrower than 128 bits keeps its uncorrectable
mark (R7, R102, R471). -/
def writeBulk (d off : Nat) (v : Word) (be : BitVec 4) (s : State) : State :=
  if ¬ reachesBulk s d then s
  else foldUpto 4 (fun i s => if be.getLsbD i then wrBulk s d (off + i) (v.extractLsb' (8 * i) 8) else s) s

/-- A write of MSI-X Message Control, in the upper half of its capability's first word: bit 31 enables, bit 30 masks
the function; unmasked vectors that are pending are sent (R132). -/
def writeMsgCtl (d : Nat) (v : Word) (s : State) : State :=
  let s := setMsixCtl s d (b2n (v.getLsbD 30) + 2 * b2n (v.getLsbD 31))
  foldUpto 64 (fun vec s =>
    if (msixOf s d vec).pba ∧ ¬ (msixOf s d vec).masked ∧ msixCtl s d = 2 then unmaskVector d vec s else s) s

/-- Places of the PCI Express and the MSI-X capability in configuration space, which no rule gives (assumption 109). -/
def pcieCap : Nat := 0x40
def msixCap : Nat := 0x80

/-- Address bits of base address register `n` that a write sets, and its fixed low bits: 8 MiB, 64 KiB, and 64 MiB
prefetchable of 64 bits (R97). -/
def barMask (n : Nat) : Word :=
  match n with
  | 0 => 0xFF800000#32
  | 1 => 0xFFFF0000#32
  | 2 => 0xFC000000#32
  | _ => 0xFFFFFFFF#32

def barLow (n : Nat) : Word := if n = 2 then 0xC#32 else 0#32

def barOf (s : State) (d n : Nat) : Word := tabGet (fun _ => 0#32) s.fab.bars (8 * d + n)

def setBar (d n : Nat) (v : Word) (s : State) : State :=
  { s with fab := { s.fab with bars := tabSet (fun _ => 0#32) s.fab.bars (8 * d + n) v } }

/-- A word of a function's configuration space (R52, R97): identity, class, multi-function, base addresses, no
interrupt pin, and the capabilities that R97 and R52 name; other words read zero. -/
def cfgWord (s : State) (d off : Nat) : Word :=
  if ¬ isPcie s d ∨ ¬ reaches s d then 0#32
  else
    match off / 4 with
    | 0 => BitVec.ofNat 32 (0x9640 * 2 ^ 16 + Config.pcieVendor.toNat)
    | 1 => 0x00100000#32
    | 2 => 0x118000B1#32
    | 3 => if d = 0 then 0x00800000#32 else 0#32
    | 4 => barOf s d 0 ||| barLow 0
    | 5 => barOf s d 1 ||| barLow 1
    | 6 => barOf s d 2 ||| barLow 2
    | 7 => barOf s d 3 ||| barLow 3
    | 13 => BitVec.ofNat 32 pcieCap
    | 16 => BitVec.ofNat 32 (0x00020010 + msixCap * 2 ^ 8)
    | 17 => 0x10000001#32
    | 32 => BitVec.ofNat 32 (0x003F0011 + msixCtl s d * 2 ^ 30)
    | 33 => 0x00008001#32
    | 34 => 0x00009001#32
    | _ => 0#32

/-- A write to configuration space (R97): a base address register, or Message Control. -/
def writeCfg (d off : Nat) (v : Word) (be : BitVec 4) (s : State) : State :=
  if ¬ isPcie s d ∨ ¬ reaches s d then s
  else if 0x10 ≤ off ∧ off < 0x20 then
    let n := (off - 0x10) / 4
    setBar d n (beMerge (barOf s d n) v be &&& barMask n) s
  else if off / 4 = msixCap / 4 ∧ be.getLsbD 3 then writeMsgCtl d v s
  else s

/-- A 32-bit write of drawer `d` to an aperture: filtered, and taken by the register's own rule (R103, R489,
R493). -/
def applyWrite (d : Nat) (ap : Aperture) (off : Nat) (v : Word) (be : BitVec 4) (s : State) : State :=
  match ap with
  | .ctl => filtered s d off (writeTaken d off v be)
  | .qwin => writeQwin d off v be s
  | .bulk => writeBulk d off v be s
  | .cfg => writeCfg d off v be s

/-- `REGISTER_WRITE` (R9). -/
def execRegisterWrite (d : Drawer) (ap : Aperture) (off : Nat) (v : Word) (be : BitVec 4) (s : State) : Ans :=
  .next (applyWrite d.val ap off v be s)

/-! ### The QSPI target ports (R98 to R100) -/

/-- Drawer of a port. -/
def portDrawer (p : Nat) : Nat := 2 + p

/-- The port serves its drawer (R53, R74). -/
def portLive (s : State) (p : Nat) : Bool := !isPcie s (portDrawer p) && reaches s (portDrawer p)

def qport (s : State) (p : Nat) : QspiPort := tabGet (fun _ => (⟨[], false⟩ : QspiPort)) s.fab.ports p

def setQport (p : Nat) (q : QspiPort) (s : State) : State :=
  { s with fab := { s.fab with ports := tabSet (fun _ => (⟨[], false⟩ : QspiPort)) s.fab.ports p q } }

/-- Aperture and offset of an address (R98); none for selection 3.  What lies past the aperture's end the spec does not
say: reads give zero there, and posted writes go on at its start (assumption 110). -/
def qspiTarget (sel addr : Nat) : Option (Aperture × Nat) :=
  match sel with
  | 0 => some (.ctl, addr % 2 ^ 23 / 4 * 4)
  | 1 => some (.qwin, addr % 2 ^ 16 / 4 * 4)
  | 2 => some (.bulk, addr % 2 ^ 26 / 4 * 4)
  | _ => none

/-- A 32-bit word of a queue slot as it stands (R114, R121). -/
def slotWord (s : State) (n o : Nat) : Word :=
  let q := s.queue n
  let h2d := s.on (F.queueCfgDir n)
  if o < 0x10 then (if h2d then 0#32 else q.last.word.extractLsb' (8 * o) 32)
  else if o = 0x10 then (if h2d then 0#32 else q.lastStatus)
  else if o = 0x14 then BitVec.ofNat 32 (queueLevel q)
  else if o = 0x18 then (if h2d then BitVec.ofNat 32 q.creditRet else 0#32)
  else if 0x40 ≤ o ∧ o < 0x80 then tabGet (fun _ => 0#32) q.stage ((o - 0x40) / 4)
  else 0#32

/-- A word of a slot read by its owner: byte 0 of `QR_ENTRY` pops.  A poisoned word reads as zero on a QSPI port
and is noted (R121, R472). -/
def readSlot (d n o : Nat) (s : State) : State × Word :=
  let s := if o = 0 ∧ ¬ s.on (F.queueCfgDir n) then popQueue n s else s
  if o < 0x10 ∧ ¬ s.on (F.queueCfgDir n) ∧ (s.queue n).last.poison then (poisonRead d 1 (256 * n + o) s, 0#32)
  else (s, slotWord s n o)

/-- A word of a PCIe drawer's MSI-X table or pending-bit array (R97, R101); a drawer entered through QSPI has none
(assumption 126). -/
def msixWord (s : State) (d off : Nat) : Word :=
  if ¬ isPcie s d then 0#32
  else if 0x8000 ≤ off ∧ off < 0x8400 then
    let m := msixOf s d ((off - 0x8000) / 16)
    match off % 16 / 4 with
    | 0 => m.addrLo
    | 1 => m.addrHi
    | 2 => m.data
    | _ => BitVec.ofNat 32 (b2n m.masked)
  else if 0x9000 ≤ off ∧ off < 0x9008 then
    BitVec.ofNat 32 (sumNat ((List.range 32).map fun i => b2n (msixOf s d (8 * (off - 0x9000) + i)).pba * 2 ^ i))
  else 0#32

/-- One 32-bit word that a drawer reads (R98, R103). -/
def readWord (d : Nat) (ap : Aperture) (off : Nat) (s : State) : State × Word :=
  match ap with
  | .ctl => ctlRead d off s
  | .qwin =>
    if 0x4000 ≤ off ∨ ¬ slotReg (off % 256) then (s, msixWord s d off)
    else
      match filterSlot s d (off / 256) with
      | .take => readSlot d (off / 256) (off % 256) s
      | .drop => (s, 0#32)
      | .refuse => (violation s d true off false, 0#32)
  | .bulk =>
    if ¬ reachesBulk s d then (s, 0#32)
    else if bulkPoisoned s d off 4 then (poisonRead d 2 off s, 0#32)
    else (s, BitVec.ofNat 32 (leNat (rdBulkN s d off 4)))
  | .cfg => (s, cfgWord s d off)

/-- A pop cut short: the words shown were the front's and the queue stays as it was, though a poisoned word has been
noted (R99, R472); `t` is the state with the pop made. -/
def unpopped (d off : Nat) (t s : State) : State :=
  if (t.queue (off / 256)).last.poison then poisonRead d 1 off s else s

/-- Bytes of words from an address on, `bytes` of them clocked out; a pop takes effect only when the sixteenth byte
of the read port has been (R98, R99).  Each refused word is a violation of its own (assumption 116). -/
def readBytes (d : Nat) (ap : Aperture) : Nat → Nat → Nat → State → State × List Byte
  | 0, _, _, s => (s, [])
  | k + 1, off, bytes, s =>
    let x := readWord d ap off s
    let cut := ap == .qwin && off < 0x4000 && off % 256 == 0 && decide (bytes < 16)
    let y := readBytes d ap k (off + 4) (bytes - 4) x.1
    (if cut ∧ filterSlot s d (off / 256) = .take then unpopped d off x.1 s else y.1,
      (leBytes 4 x.2.toNat).take bytes ++ y.2)

/-- The effect of a `READ` of which `bytes` bytes are clocked out (R98, R99). -/
def qspiGet (p : Nat) (addr : Word) (bytes : Nat) (s : State) : State :=
  match qspiTarget (addr.toNat / 2 ^ 30) addr.toNat with
  | none => s.emit (.qspi p (List.replicate bytes 0#8))
  | some (ap, off) =>
    let y := readBytes (portDrawer p) ap (ceilDiv bytes 4) off bytes s
    y.1.emit (.qspi p y.2)

/-- `QSPI_READ_TIMEOUT` (R99): the read has no effect. -/
def execQspiReadTimeout (port' : Fin 2) (_addr : Word) (s : State) : Ans :=
  if ¬ portLive s port'.val then .next s else .next (s.emit (.qspiTimeout port'.val))

/-- Words of a `WRITE`, a trailing part of one dropped, from an address on (R98, R100). -/
def postedWords (sel : Nat) : Nat → Nat → List Byte → List Posted
  | 0, _, _ => []
  | k + 1, off, l => ⟨sel, off, BitVec.ofNat 32 (leNat (l.take 4))⟩ :: postedWords sel k (off + 4) (l.drop 4)

/-- The effect of a `WRITE` (R98, R100). -/
def qspiPut (p : Nat) (addr : Word) (data : List Byte) (s : State) : State :=
  let q := qport s p
  if 192 < 4 * q.buf.length then setQport p { q with dropped := true } s
  else
    let l := postedWords (addr.toNat / 2 ^ 30) (data.length / 4) (addr.toNat % 2 ^ 30) data
    setQport p { q with buf := q.buf ++ l } s

/-- The effect of a `STATUS` (R98). -/
def qspiStat (p : Nat) (s : State) : State :=
  let q := qport s p
  let b := b2n (!q.buf.isEmpty) + 2 * b2n q.dropped + 4 * b2n (stageReady s)
  (setQport p { q with dropped := false } s).emit (.qspi p [BitVec.ofNat 8 b])

/-- A transaction, by its command byte (R98). -/
def qspiDo (p : Nat) (head : QspiHead) (data : List Byte) (bytes : Nat) (s : State) : State :=
  if ¬ portLive s p then s
  else if head.cmd = 0x61#8 then qspiGet p head.addr bytes s
  else if head.cmd = 0x62#8 then qspiPut p head.addr data s
  else if head.cmd = 0x65#8 then qspiStat p s
  else s.emit (.qspiHiZ p)

/-- `QSPI_READ` (R98, R99): a transaction of which `bytes` bytes are clocked out after the address. -/
def execQspiRead (port' : Fin 2) (head : QspiHead) (bytes : Nat) (s : State) : Ans :=
  .next (qspiDo port'.val head [] bytes s)

/-- `QSPI_WRITE` (R98, R100): a transaction with bytes from the host after the address. -/
def execQspiWrite (port' : Fin 2) (head : QspiHead) (data : List Byte) (s : State) : Ans :=
  .next (qspiDo port'.val head data 0 s)

/-- `QSPI_POSTED_WRITE_APPLY` (R100): the oldest posted word takes effect. -/
def execQspiPostedWriteApply (port' : Fin 2) (s : State) : Ans :=
  match (qport s port'.val).buf with
  | [] => .next s
  | w :: rest =>
    let s := setQport port'.val { qport s port'.val with buf := rest } s
    match qspiTarget w.sel w.off with
    | some (ap, off) => .next (applyWrite (portDrawer port'.val) ap off w.word 15#4 s)
    | none => .next s

/-- `QSPI_STATUS` (R98): a transaction of the command 0x65 alone. -/
def execQspiStatus (port' : Fin 2) (s : State) : Ans := .next (qspiDo port'.val ⟨0x65#8, 0#32⟩ [] 0 s)

end Sys2Proof.Machine
end

