-- ==== Sys2Proof/Machine/GreuneAlu.lean ====
section
/-!
DEFINITION. The ALU instructions, `MOVI` and `PFX` (R166 to R168).  Each command names the thread
that issues the instruction; the word comes from instruction memory.
-/

namespace Sys2Proof.Machine

/-- Register form of operation `o` on thread `n`. -/
def aluRegIssue (o : AluOp) (n : Nat) (s : State) : State :=
  issue s n fun i _ s =>
    match i with
    | .alu op rd ra rb =>
      if op = o then some (aluApply o n rd (gReg (s.thr n) ra) (gReg (s.thr n) rb) s) else none
    | _ => none

/-- Immediate form of operation `o` on thread `n`. -/
def aluImmIssue (o : AluOp) (n : Nat) (s : State) : State :=
  issue s n fun i p s =>
    match i with
    | .alui op rd ra imm =>
      if op = o then some (aluApply o n rd (gReg (s.thr n) ra) (aluImm o p imm) s) else none
    | _ => none

/-- `ADD`: rd := ra + rb (R168). -/
def execAddR (th : Fin 32) (s : State) : Ans := .next (aluRegIssue .add th.val s)

/-- `SUB`: rd := ra − rb (R168). -/
def execSubR (th : Fin 32) (s : State) : Ans := .next (aluRegIssue .sub th.val s)

/-- `AND`: rd := ra AND rb (R168). -/
def execAndR (th : Fin 32) (s : State) : Ans := .next (aluRegIssue .and th.val s)

/-- `OR`: rd := ra OR rb (R168). -/
def execOrR (th : Fin 32) (s : State) : Ans := .next (aluRegIssue .or th.val s)

/-- `XOR`: rd := ra XOR rb (R168). -/
def execXorR (th : Fin 32) (s : State) : Ans := .next (aluRegIssue .xor th.val s)

/-- `SHL`: logical shift left (R168). -/
def execShlR (th : Fin 32) (s : State) : Ans := .next (aluRegIssue .shl th.val s)

/-- `SHR`: logical shift right (R168). -/
def execShrR (th : Fin 32) (s : State) : Ans := .next (aluRegIssue .shr th.val s)

/-- `SRA`: arithmetic shift right (R168). -/
def execSraR (th : Fin 32) (s : State) : Ans := .next (aluRegIssue .sra th.val s)

/-- `MUL`: low half of the unsigned product (R168). -/
def execMulR (th : Fin 32) (s : State) : Ans := .next (aluRegIssue .mul th.val s)

/-- `MULH`: high half of the unsigned product (R168). -/
def execMulhR (th : Fin 32) (s : State) : Ans := .next (aluRegIssue .mulh th.val s)

/-- `CMP`: flags of ra − rb (R168). -/
def execCmpR (th : Fin 32) (s : State) : Ans := .next (aluRegIssue .cmp th.val s)

/-- `ADDI`: the operation with the extended or prefixed immediate (R166, R168). -/
def execAddi (th : Fin 32) (s : State) : Ans := .next (aluImmIssue .add th.val s)

/-- `SUBI`: the operation with the extended or prefixed immediate (R166, R168). -/
def execSubi (th : Fin 32) (s : State) : Ans := .next (aluImmIssue .sub th.val s)

/-- `ANDI`: the operation with the extended or prefixed immediate (R166, R168). -/
def execAndi (th : Fin 32) (s : State) : Ans := .next (aluImmIssue .and th.val s)

/-- `ORI`: the operation with the extended or prefixed immediate (R166, R168). -/
def execOri (th : Fin 32) (s : State) : Ans := .next (aluImmIssue .or th.val s)

/-- `XORI`: the operation with the extended or prefixed immediate (R166, R168). -/
def execXori (th : Fin 32) (s : State) : Ans := .next (aluImmIssue .xor th.val s)

/-- `SHLI`: the operation with the extended or prefixed immediate (R166, R168). -/
def execShli (th : Fin 32) (s : State) : Ans := .next (aluImmIssue .shl th.val s)

/-- `SHRI`: the operation with the extended or prefixed immediate (R166, R168). -/
def execShri (th : Fin 32) (s : State) : Ans := .next (aluImmIssue .shr th.val s)

/-- `SRAI`: the operation with the extended or prefixed immediate (R166, R168). -/
def execSrai (th : Fin 32) (s : State) : Ans := .next (aluImmIssue .sra th.val s)

/-- `CMPI`: the operation with the extended or prefixed immediate (R166, R168). -/
def execCmpi (th : Fin 32) (s : State) : Ans := .next (aluImmIssue .cmp th.val s)

/-- `MOVI`: rd := imm; no flag written (R168). -/
def execMovi (th : Fin 32) (s : State) : Ans :=
  .next (issue s th.val fun i p s =>
    match i with
    | .movi rd imm => some (done th.val 1 (modThr s th.val fun t => setG t rd (immSigned p imm)))
    | _ => none)

/-- `PFX`: the prefix latch := imm, for the thread's next instruction (R167). -/
def execPfx (th : Fin 32) (s : State) : Ans :=
  .next (issue s th.val fun i _ s =>
    match i with
    | .pfx imm => some (done th.val 1 (modThr s th.val fun t => { t with pfx := some imm.toNat }))
    | _ => none)

end Sys2Proof.Machine
end

