-- ==== Sys2Proof/Machine/GreuneBranch.lean ====
section
/-!
DEFINITION. Branches, calls and returns (R171, R172).  A target outside the instruction window is met
by the next fetch, except a register target, which faults at once.
-/

namespace Sys2Proof.Machine

/-- The program counter set to a target. -/
def jump (n cost target : Nat) (s : State) : State := modThr s n fun t => { t with pc := target, cost := cost }

/-- A register target outside the instruction window faults with `FENCE` (R172). -/
def jumpReg (n cost target : Nat) (s : State) : State :=
  if inIwin (s.thr n) target then jump n cost target s else threadFault n causeFence target s

/-- Target index of a register: bits [12:0] (R171). -/
def regTarget (t : Thread) (ra : BitVec 4) : Nat := (gReg t ra).toNat % 8192

/-- The index of the following instruction pushed onto the return stack of 8 entries (R172). -/
def pushRet (n : Nat) (s : State) : State := modThr s n fun t => { t with stack := (t.pc + 1) :: t.stack }

/-- The return stack is full. -/
def stackFull (s : State) (n : Nat) : Bool := decide (8 ≤ (s.thr n).stack.length)

/-- `BR`: to target when the condition holds (R171). -/
def execBr (th : Fin 32) (s : State) : Ans :=
  .next (issue s th.val fun i _ s =>
    match i with
    | .br c tgt =>
      some (if condHolds c (s.thr th.val).flags then jump th.val 2 tgt.toNat s else done th.val 1 s)
    | _ => none)

/-- `CALL`: pushes the return index and branches (R172). -/
def execCall (th : Fin 32) (s : State) : Ans :=
  .next (issue s th.val fun i _ s =>
    match i with
    | .call tgt =>
      some (if stackFull s th.val then threadFaultFree th.val causeStack s
        else jump th.val 2 tgt.toNat (pushRet th.val s))
    | _ => none)

/-- `BRR`: to the index in ra when the condition holds (R171, R172). -/
def execBrr (th : Fin 32) (s : State) : Ans :=
  .next (issue s th.val fun i _ s =>
    match i with
    | .brr c ra =>
      some (if condHolds c (s.thr th.val).flags then jumpReg th.val 3 (regTarget (s.thr th.val) ra) s
        else done th.val 1 s)
    | _ => none)

/-- `CALLR`: pushes the return index and branches to the index in ra (R172). -/
def execCallr (th : Fin 32) (s : State) : Ans :=
  .next (issue s th.val fun i _ s =>
    match i with
    | .callr ra =>
      some (if stackFull s th.val then threadFaultFree th.val causeStack s
        else
          let tgt := regTarget (s.thr th.val) ra
          if inIwin (s.thr th.val) tgt then jump th.val 3 tgt (pushRet th.val s)
          else threadFault th.val causeFence tgt s)
    | _ => none)

/-- `RET`: pops the return stack and branches; an empty stack faults with `STACK` (R172). -/
def execRet (th : Fin 32) (s : State) : Ans :=
  .next (issue s th.val fun i _ s =>
    match i with
    | .ret =>
      some (match (s.thr th.val).stack with
        | [] => threadFaultFree th.val causeStack s
        | r :: rest => jump th.val 2 r (modThr s th.val fun t => { t with stack := rest }))
    | _ => none)

end Sys2Proof.Machine
end

