-- ==== Sys2Proof/Machine/GreuneMem.lean ====
section
/-!
DEFINITION. Loads and stores of data memory and of time registers (R137, R169, R170).
-/

namespace Sys2Proof.Machine

/-- A read of `k` bytes at `a` by thread `n`: the window is judged first, then alignment, then the
uncorrectable mark; then `f` takes the bytes (R169). -/
def loadThen (n a k cost : Nat) (f : List Byte → State → State) (s : State) : State :=
  if ¬ mayRead s n a k then threadFault n causeFence a s
  else if a % k ≠ 0 then threadFault n causeAlign a s
  else if ¬ inStat n a ∧ dmemBad s (coreOf n) a k then threadFaultFree n causePoison s
  else done n cost (f (ldBytes s n a k) s)

/-- A write of bytes at `a` by thread `n` (R169). -/
def storeAt (n a k cost : Nat) (bytes : List Byte) (s : State) : State :=
  if ¬ mayWrite s n a k then threadFault n causeFence a s
  else if a % k ≠ 0 then threadFault n causeAlign a s
  else done n cost (stBytes s (coreOf n) a bytes)

/-- A load of size code `sz` into a general register, zero-extended. -/
def loadIssue (sz : BitVec 2) (n : Nat) (s : State) : State :=
  issue s n fun i _ s =>
    match i with
    | .load z rd ra imm =>
      if z = sz then
        some (loadThen n (dataAddr (s.thr n) ra imm) (sizeOf' sz) 2
          (fun l s => modThr s n fun t => setG t rd (BitVec.ofNat 32 (leNat l))) s)
      else none
    | _ => none

/-- A store of size code `sz` of the low bytes of rd. -/
def storeIssue (sz : BitVec 2) (n : Nat) (s : State) : State :=
  issue s n fun i _ s =>
    match i with
    | .store z rd ra imm =>
      if z = sz then
        some (storeAt n (dataAddr (s.thr n) ra imm) (sizeOf' sz) 1
          (leBytes (sizeOf' sz) (gReg (s.thr n) rd).toNat) s)
      else none
    | _ => none

/-- `LD`: 4 bytes (R169). -/
def execLd (th : Fin 32) (s : State) : Ans := .next (loadIssue 2#2 th.val s)

/-- `LDH`: 2 bytes, zero-extended. -/
def execLdh (th : Fin 32) (s : State) : Ans := .next (loadIssue 1#2 th.val s)

/-- `LDB`: 1 byte, zero-extended. -/
def execLdb (th : Fin 32) (s : State) : Ans := .next (loadIssue 0#2 th.val s)

/-- `ST`: 4 bytes. -/
def execSt (th : Fin 32) (s : State) : Ans := .next (storeIssue 2#2 th.val s)

/-- `STH`: the low 2 bytes. -/
def execSth (th : Fin 32) (s : State) : Ans := .next (storeIssue 1#2 th.val s)

/-- `STB`: the low byte. -/
def execStb (th : Fin 32) (s : State) : Ans := .next (storeIssue 0#2 th.val s)

/-- `TLD`: 8 bytes into a time register. -/
def execTld (th : Fin 32) (s : State) : Ans :=
  .next (issue s th.val fun i _ s =>
    match i with
    | .tld tk ra imm =>
      some (loadThen th.val (dataAddr (s.thr th.val) ra imm) 8 2
        (fun l s => modThr s th.val fun t => setT t tk (BitVec.ofNat 64 (leNat l))) s)
    | _ => none)

/-- `TST`: a time register's 8 bytes. -/
def execTst (th : Fin 32) (s : State) : Ans :=
  .next (issue s th.val fun i _ s =>
    match i with
    | .tst tk ra imm =>
      some (storeAt th.val (dataAddr (s.thr th.val) ra imm) 8 1 (leBytes 8 (tReg (s.thr th.val) tk).toNat) s)
    | _ => none)

end Sys2Proof.Machine
end

