-- ==== Sys2Proof/Machine/GreuneTime.lean ====
section
/-!
DEFINITION. The time instructions other than `ZXW` (R143, R173, R174), and the end of a time wait
(R142).
-/

namespace Sys2Proof.Machine

/-- `AT`: waits until the timebase copy reaches tK (R143). -/
def execAtTime (th : Fin 32) (s : State) : Ans :=
  .next (issue s th.val fun i _ s =>
    match i with
    | .atTime tk => some (waitUntil th.val 2 (tReg (s.thr th.val) tk) s)
    | _ => none)

/-- `AFTER`: waits gA µs from issue (R143, R174). -/
def execAfter (th : Fin 32) (s : State) : Ans :=
  .next (issue s th.val fun i _ s =>
    match i with
    | .after ra => some (waitUntil th.val 2 (after s.tbCopy (usSteps (gReg (s.thr th.val) ra).toNat)) s)
    | _ => none)

/-- `AFTERI`: waits imm µs from issue (R143, R166). -/
def execAfteri (th : Fin 32) (s : State) : Ans :=
  .next (issue s th.val fun i p s =>
    match i with
    | .afteri imm => some (waitUntil th.val 2 (after s.tbCopy (usSteps (immUnsigned p imm).toNat)) s)
    | _ => none)

/-- `TGET`: tK := timebase copy at issue (R173). -/
def execTget (th : Fin 32) (s : State) : Ans :=
  .next (issue s th.val fun i _ s =>
    match i with
    | .tget tk => some (done th.val 1 (modThr s th.val fun t => setT t tk s.tbCopy))
    | _ => none)

/-- `TADD`: tK := tA + gB in a unit, saturating; `C` (R174). -/
def execTadd (th : Fin 32) (s : State) : Ans :=
  .next (issue s th.val fun i _ s =>
    match i with
    | .tadd tk ta rb u =>
      let r := taddResult (tReg (s.thr th.val) ta) (gReg (s.thr th.val) rb) u
      some (done th.val 2 (modThr s th.val fun t =>
        { setT t tk r.1 with flags := { t.flags with c := r.2 } }))
    | _ => none)

/-- `TSUB`: gD := (tA − tB) in a unit, saturating; `Z`, `N`, `C` (R174). -/
def execTsub (th : Fin 32) (s : State) : Ans :=
  .next (issue s th.val fun i _ s =>
    match i with
    | .tsub rd ta tb u =>
      let r := tsubResult (tReg (s.thr th.val) ta) (tReg (s.thr th.val) tb) u
      some (done th.val 2 (modThr s th.val fun t => { setG t rd r.1 with flags := withZNC t.flags r.1 r.2 }))
    | _ => none)

/-- `TPACK`: tK := gH × 2^32 + gL (R173). -/
def execTpack (th : Fin 32) (s : State) : Ans :=
  .next (issue s th.val fun i _ s =>
    match i with
    | .tpack tk rh rl =>
      some (done th.val 1 (modThr s th.val fun t => setT t tk (gReg t rh ++ gReg t rl)))
    | _ => none)

/-- `TPART`: gD := the seconds or the fraction word of tA (R173). -/
def execTpart (th : Fin 32) (s : State) : Ans :=
  .next (issue s th.val fun i _ s =>
    match i with
    | .tpart rd ta hi =>
      some (done th.val 1 (modThr s th.val fun t =>
        setG t rd (if hi then (tReg t ta).extractLsb' 32 32 else (tReg t ta).extractLsb' 0 32)))
    | _ => none)

/-- `TIME_WAIT_END`: the timebase copy reaches a `WAIT_TIME` target (R142). -/
def execTimeWaitEnd (th : Fin 32) (s : State) : Ans :=
  match (if coreNaps s (coreOf th.val) then TState.idle else (s.thr th.val).state), (s.thr th.val).wait with
  | .waitTime, .time target | .waitTime, .zx _ _ _ _ target => .next (exitWait th.val (s.passTo target))
  | _, _ => .next s

end Sys2Proof.Machine
end

