-- ==== Sys2Proof/Machine/Route.lean ====
section
/-!
DEFINITION. The route engine (R299, R300).
-/

namespace Sys2Proof.Machine

/-! ### What the engine reads of a node -/

/-- Contexts of nodes: those with an EUI-64 in the index. -/
def nodeList (s : State) : List Nat :=
  s.ncp.idx.filterMap fun e => match e.key with
    | .eui _ => some e.ctx
    | .short _ => none

/-- Outcomes recorded of a link, its mean SNR in half dB and its success in per cent (R368). -/
def linkCount (s : State) (c l : Nat) : Nat := ctxBits s c (160 + 4 * l) 31 16
def linkSnr (s : State) (c l : Nat) : Int := (BitVec.ofNat 8 (ctxBits s c (160 + 4 * l) 7 0)).toInt
def linkSuccess (s : State) (c l : Nat) : Nat :=
  let n := min 32 (linkCount s c l)
  100 * ((List.range n).filter fun i => (ctxWord s c (161 + 4 * l)).getLsbD i).length / max 1 n

/-- The node has metrics: an outcome on some phase and band. -/
def hasMetrics (s : State) (c : Nat) : Bool := (List.range 6).any fun l => 0 < linkCount s c l

/-- `MIN_MARGIN` in dB, `MIN_SUCCESS` in per cent, `MAX_HOPS` within its limits. -/
def minMargin (s : State) : Nat := s.get F.lmacRouteCfgMinMargin
def minSuccess (s : State) : Nat := s.get F.lmacRouteCfgMinSuccess
def maxHops (s : State) : Nat := min 6 (max 1 (s.get F.lmacRouteCfgMaxHops))

/-- A direct link meets `MIN_SUCCESS`, its SNR `MIN_MARGIN` above the requirement of rung 7. -/
def directOk (s : State) (c : Nat) : Bool :=
  (List.range 6).any fun l => decide (0 < linkCount s c l) && decide (minSuccess s ≤ linkSuccess s c l) &&
    decide (rungSnr 7 + 2 * (minMargin s : Int) ≤ linkSnr s c l)

/-- Present parent of a node; 0xFFFF the block itself. -/
def parentOf (s : State) (c : Nat) : Nat := ctxBits s c 8 31 16

/-- Nodes whose present parent has a short address. -/
def children (s : State) (short : Nat) : Nat := ((nodeList s).filter fun c => parentOf s c == short).length

/-- What a reporter said of a node in its latest verified `STATUS`: margin in dB and success. -/
def reported (s : State) (m short : Nat) : Option (Int × Nat) :=
  (findFirst (fun w => w.toNat % 65536 == short)
    ((List.range (ctxBits s m 184 3 0)).map fun i => ctxWord s m (186 + i))).map fun w =>
      ((w.extractLsb' 16 8).toInt, bitsOf w.toNat 31 24)

/-- Margin at which context `m` may be the node's parent; none when it may not. -/
def parentMargin (s : State) (c m : Nat) : Option Int :=
  if m = c ∨ ctxBits s m 9 4 4 ≠ 1 ∨ maxHops s ≤ routeHops s m + 1 ∨
      s.get F.lmacRouteCfgMaxChildren ≤ children s (ctxShort s m) then none
  else
    match reported s m (ctxShort s c) with
    | some (g, ok) => if (minMargin s : Int) ≤ g ∧ minSuccess s ≤ ok then some g else none
    | none => none

/-- Eligible parents with their hops and margins. -/
def parents (s : State) (c : Nat) : List (Nat × Nat × Int) :=
  (nodeList s).filterMap fun m => (parentMargin s c m).map fun g => (m, routeHops s m, g)

/-- The preferred one: fewest hops, then the highest margin. -/
def bestParent (l : List (Nat × Nat × Int)) : Option (Nat × Nat × Int) :=
  findFirst (fun x => l.all fun y => decide (x.2.1 < y.2.1) || (x.2.1 == y.2.1 && decide (y.2.2 ≤ x.2.2))) l

/-- The node keeps its present route: its parent still qualifies, it is not suspect, and no candidate offers
3 dB more at no more hops. -/
def keepsRoute (s : State) (c : Nat) (l : List (Nat × Nat × Int)) : Bool :=
  match findFirst (fun x => ctxShort s x.1 == parentOf s c) l with
  | none => false
  | some p =>
    ctxBits s c 9 3 3 == 0 && l.all fun x => decide (p.2.1 < x.2.1) || decide (x.2.2 < p.2.2 + 3)

/-- Route word and hops through a parent. -/
def routeVia (s : State) (m : Nat) : Word × Nat :=
  let first := if 0 < routeHops s m then ctxBits s m 8 15 0 else ctxShort s m
  (BitVec.ofNat 32 (first + ctxShort s m * 65536), routeHops s m + 1)

/-- What the engine proposes for a node. -/
def proposal (s : State) (c : Nat) : Option (Word × Nat) :=
  if ¬ hasMetrics s c then none
  else if directOk s c then some (0xFFFFFFFF#32, 0)
  else
    let l := parents s c
    if 0 < routeHops s c ∧ keepsRoute s c l then none else (bestParent l).map fun x => routeVia s x.1

/-- The proposals of a pass that differ from the present routes. -/
def proposals (s : State) : List (Nat × Word × Nat) :=
  (nodeList s).filterMap fun c =>
    match proposal s c with
    | some p => if p = (ctxWord s c 8, routeHops s c) then none else some (c, p)
    | none => none

/-- Instant of the next pass: `PERIOD` minutes after the latest one, or after the engine was enabled; 0 acts as 1. -/
def nextPass (s : State) : Time :=
  after s.line.routeAt (msSteps (60000 * max 1 (s.get F.lmacRouteCfgPeriod)))

/-- `ROUTE_PASS` (R300): a pass of the engine, when its period has elapsed. -/
def execRoutePass (s : State) : Ans :=
  if ¬ s.on F.lmacRouteCfgEnable then .next s
  else
    let s := s.passTo (nextPass s)
    let s := { s with line := { s.line with routeAt := s.tb } }
    let l := proposals s
    if l.isEmpty then .next s
    else .next (occur (l.foldl (fun s p => update p.1 (.propose p.2.1 p.2.2) s) s) 61)

end Sys2Proof.Machine
end

