-- ==== Sys2Proof/Machine/Dispatch.lean ====
section
/-!
DEFINITION. What each command does: one arm for each constructor of `Instr`, each a direct call of
that command's meaning.
-/

namespace Sys2Proof.Machine

def exec (i : Instr) (s : State) : Host.Outcome State Fault Refusal :=
  match i with
  | .brownOut rail => Sys2Proof.Machine.execBrownOut rail s
  | .islandClockFailure island => Sys2Proof.Machine.execIslandClockFailure island s
  | .functionLevelReset fn => Sys2Proof.Machine.execFunctionLevelReset fn s
  | .swDeviceReset d v => Sys2Proof.Machine.execSwDeviceReset d v s
  | .swDrawerReset d v => Sys2Proof.Machine.execSwDrawerReset d v s
  | .dbgReqGo src v => Sys2Proof.Machine.execDbgReqGo src v s
  | .resetRelease ends sel => Sys2Proof.Machine.execResetRelease ends sel s
  | .keeperRomBoot flash mismatch => Sys2Proof.Machine.execKeeperRomBoot flash mismatch s
  | .flashTimeout sec => Sys2Proof.Machine.execFlashTimeout sec s
  | .levelDRelease island => Sys2Proof.Machine.execLevelDRelease island s
  | .optStageWrite d n v be => Sys2Proof.Machine.execOptStageWrite d n v be s
  | .prepare d v => Sys2Proof.Machine.execPrepare d v s
  | .commit d v => Sys2Proof.Machine.execCommit d v s
  | .commitWriteDone firstOk secondOk => Sys2Proof.Machine.execCommitWriteDone firstOk secondOk s
  | .discard d v => Sys2Proof.Machine.execDiscard d v s
  | .bootPush d v be => Sys2Proof.Machine.execBootPush d v be s
  | .attRequest d v => Sys2Proof.Machine.execAttRequest d v s
  | .attDone match2 => Sys2Proof.Machine.execAttDone match2 s
  | .qspiRead port head bytes => Sys2Proof.Machine.execQspiRead port head bytes s
  | .qspiReadTimeout port addr => Sys2Proof.Machine.execQspiReadTimeout port addr s
  | .qspiWrite port head data => Sys2Proof.Machine.execQspiWrite port head data s
  | .qspiPostedWriteApply port => Sys2Proof.Machine.execQspiPostedWriteApply port s
  | .qspiStatus port => Sys2Proof.Machine.execQspiStatus port s
  | .registerWrite d ap off v be => Sys2Proof.Machine.execRegisterWrite d ap off v be s
  | .ownershipWrite d off v be => Sys2Proof.Machine.execOwnershipWrite d off v be s
  | .drawerResetRelease e => Sys2Proof.Machine.execDrawerResetRelease e s
  | .queueEnable d n v be => Sys2Proof.Machine.execQueueEnable d n v be s
  | .queueDisable d n v be => Sys2Proof.Machine.execQueueDisable d n v be s
  | .doorbell d n v => Sys2Proof.Machine.execDoorbell d n v s
  | .queuePop d n first last => Sys2Proof.Machine.execQueuePop d n first last s
  | .unitTake u => Sys2Proof.Machine.execUnitTake u s
  | .eventTimerExpire src => Sys2Proof.Machine.execEventTimerExpire src s
  | .evtRouteWrite d src v be => Sys2Proof.Machine.execEvtRouteWrite d src v be s
  | .evtPendClear d w v be => Sys2Proof.Machine.execEvtPendClear d w v be s
  | .msixUnmask d vec => Sys2Proof.Machine.execMsixUnmask d vec s
  | .jigLoad d v => Sys2Proof.Machine.execJigLoad d v s
  | .jigLoadComplete d => Sys2Proof.Machine.execJigLoadComplete d s
  | .start d th v => Sys2Proof.Machine.execStart d th v s
  | .stop d th v => Sys2Proof.Machine.execStop d th v s
  | .resume d th v => Sys2Proof.Machine.execResume d th v s
  | .addR th => Sys2Proof.Machine.execAddR th s
  | .subR th => Sys2Proof.Machine.execSubR th s
  | .andR th => Sys2Proof.Machine.execAndR th s
  | .orR th => Sys2Proof.Machine.execOrR th s
  | .xorR th => Sys2Proof.Machine.execXorR th s
  | .shlR th => Sys2Proof.Machine.execShlR th s
  | .shrR th => Sys2Proof.Machine.execShrR th s
  | .sraR th => Sys2Proof.Machine.execSraR th s
  | .mulR th => Sys2Proof.Machine.execMulR th s
  | .mulhR th => Sys2Proof.Machine.execMulhR th s
  | .cmpR th => Sys2Proof.Machine.execCmpR th s
  | .addi th => Sys2Proof.Machine.execAddi th s
  | .subi th => Sys2Proof.Machine.execSubi th s
  | .andi th => Sys2Proof.Machine.execAndi th s
  | .ori th => Sys2Proof.Machine.execOri th s
  | .xori th => Sys2Proof.Machine.execXori th s
  | .shli th => Sys2Proof.Machine.execShli th s
  | .shri th => Sys2Proof.Machine.execShri th s
  | .srai th => Sys2Proof.Machine.execSrai th s
  | .cmpi th => Sys2Proof.Machine.execCmpi th s
  | .movi th => Sys2Proof.Machine.execMovi th s
  | .pfx th => Sys2Proof.Machine.execPfx th s
  | .ld th => Sys2Proof.Machine.execLd th s
  | .ldh th => Sys2Proof.Machine.execLdh th s
  | .ldb th => Sys2Proof.Machine.execLdb th s
  | .st th => Sys2Proof.Machine.execSt th s
  | .sth th => Sys2Proof.Machine.execSth th s
  | .stb th => Sys2Proof.Machine.execStb th s
  | .tld th => Sys2Proof.Machine.execTld th s
  | .tst th => Sys2Proof.Machine.execTst th s
  | .br th => Sys2Proof.Machine.execBr th s
  | .call th => Sys2Proof.Machine.execCall th s
  | .brr th => Sys2Proof.Machine.execBrr th s
  | .callr th => Sys2Proof.Machine.execCallr th s
  | .ret th => Sys2Proof.Machine.execRet th s
  | .atTime th => Sys2Proof.Machine.execAtTime th s
  | .after th => Sys2Proof.Machine.execAfter th s
  | .afteri th => Sys2Proof.Machine.execAfteri th s
  | .zxw th => Sys2Proof.Machine.execZxw th s
  | .tget th => Sys2Proof.Machine.execTget th s
  | .tadd th => Sys2Proof.Machine.execTadd th s
  | .tsub th => Sys2Proof.Machine.execTsub th s
  | .tpack th => Sys2Proof.Machine.execTpack th s
  | .tpart th => Sys2Proof.Machine.execTpart th s
  | .timeWaitEnd th => Sys2Proof.Machine.execTimeWaitEnd th s
  | .txf th => Sys2Proof.Machine.execTxf th s
  | .rxw th => Sys2Proof.Machine.execRxw th s
  | .cancel th => Sys2Proof.Machine.execCancel th s
  | .rtx th => Sys2Proof.Machine.execRtx th s
  | .rrx th => Sys2Proof.Machine.execRrx th s
  | .ldn th => Sys2Proof.Machine.execLdn th s
  | .stn th => Sys2Proof.Machine.execStn th s
  | .pref th => Sys2Proof.Machine.execPref th s
  | .pin th => Sys2Proof.Machine.execPin th s
  | .unpin th => Sys2Proof.Machine.execUnpin th s
  | .cyp th => Sys2Proof.Machine.execCyp th s
  | .cypJobEnd th slot mismatch => Sys2Proof.Machine.execCypJobEnd th slot mismatch s
  | .enq th => Sys2Proof.Machine.execEnq th s
  | .deq th => Sys2Proof.Machine.execDeq th s
  | .evt th => Sys2Proof.Machine.execEvt th s
  | .sig th => Sys2Proof.Machine.execSig th s
  | .wsig th => Sys2Proof.Machine.execWsig th s
  | .wakeEvent th => Sys2Proof.Machine.execWakeEvent th s
  | .wsigDeadline th => Sys2Proof.Machine.execWsigDeadline th s
  | .halt th => Sys2Proof.Machine.execHalt th s
  | .trap th => Sys2Proof.Machine.execTrap th s
  | .yield th => Sys2Proof.Machine.execYield th s
  | .pageTimeout th => Sys2Proof.Machine.execPageTimeout th s
  | .jigLockup c => Sys2Proof.Machine.execJigLockup c s
  | .jigWatchdog th => Sys2Proof.Machine.execJigWatchdog th s
  | .actionStart th slot ready => Sys2Proof.Machine.execActionStart th slot ready s
  | .emissionEnd e clips fault => Sys2Proof.Machine.execEmissionEnd e clips fault s
  | .rxWindowClose th slot begun => Sys2Proof.Machine.execRxWindowClose th slot begun s
  | .agcIntervalEnd c now samples => Sys2Proof.Machine.execAgcIntervalEnd c now samples s
  | .agcAutoWrite d c v be => Sys2Proof.Machine.execAgcAutoWrite d c v be s
  | .lphyApply d v be => Sys2Proof.Machine.execLphyApply d v be s
  | .bandApplied b => Sys2Proof.Machine.execBandApplied b s
  | .firSwap d t v be => Sys2Proof.Machine.execFirSwap d t v be s
  | .compatEnable d v be => Sys2Proof.Machine.execCompatEnable d v be s
  | .sweepEnable d v be => Sys2Proof.Machine.execSweepEnable d v be s
  | .preambleDetection c d => Sys2Proof.Machine.execPreambleDetection c d s
  | .headerCheck c dec now combined each addr => Sys2Proof.Machine.execHeaderCheck c dec now combined each addr s
  | .channelStep m => Sys2Proof.Machine.execChannelStep m s
  | .frameEnd c dec rx => Sys2Proof.Machine.execFrameEnd c dec rx s
  | .compatFrameRx c rx => Sys2Proof.Machine.execCompatFrameRx c rx s
  | .compatCsmaAccess th slot granted now => Sys2Proof.Machine.execCompatCsmaAccess th slot granted now s
  | .ackDeadline d => Sys2Proof.Machine.execAckDeadline d s
  | .ackRx th slot r advice start ref now => Sys2Proof.Machine.execAckRx th slot r advice start ref now s
  | .ackWaitEnd th slot => Sys2Proof.Machine.execAckWaitEnd th slot s
  | .retxPlace th slot => Sys2Proof.Machine.execRetxPlace th slot s
  | .ldFaultAssert t now => Sys2Proof.Machine.execLdFaultAssert t now s
  | .txAbort t => Sys2Proof.Machine.execTxAbort t s
  | .holdOffEnd t => Sys2Proof.Machine.execHoldOffEnd t s
  | .mainsCrossing p raw est per meas => Sys2Proof.Machine.execMainsCrossing p raw est per meas s
  | .mainsCrossingMissed p meas => Sys2Proof.Machine.execMainsCrossingMissed p meas s
  | .zxEdgeRejected p raw => Sys2Proof.Machine.execZxEdgeRejected p raw s
  | .mainsHoldTimeout p => Sys2Proof.Machine.execMainsHoldTimeout p s
  | .nmapRestart d c v be => Sys2Proof.Machine.execNmapRestart d c v be s
  | .dlvRingEnable d v be => Sys2Proof.Machine.execDlvRingEnable d v be s
  | .radioEnable d v be => Sys2Proof.Machine.execRadioEnable d v be s
  | .rfFrameRx r => Sys2Proof.Machine.execRfFrameRx r s
  | .connEventAdvance c => Sys2Proof.Machine.execConnEventAdvance c s
  | .supervisionExpire c => Sys2Proof.Machine.execSupervisionExpire c s
  | .rfRetxPlace th slot => Sys2Proof.Machine.execRfRetxPlace th slot s
  | .dcCheckpoint ok => Sys2Proof.Machine.execDcCheckpoint ok s
  | .aes id mismatch => Sys2Proof.Machine.execAes id mismatch s
  | .hash id mismatch => Sys2Proof.Machine.execHash id mismatch s
  | .sign id mismatch => Sys2Proof.Machine.execSign id mismatch s
  | .verify id mismatch => Sys2Proof.Machine.execVerify id mismatch s
  | .ecdh id mismatch => Sys2Proof.Machine.execEcdh id mismatch s
  | .random id mismatch => Sys2Proof.Machine.execRandom id mismatch s
  | .keyImport id mismatch => Sys2Proof.Machine.execKeyImport id mismatch s
  | .keyErase id mismatch => Sys2Proof.Machine.execKeyErase id mismatch s
  | .keyPromote id mismatch => Sys2Proof.Machine.execKeyPromote id mismatch s
  | .cipherJobComplete id => Sys2Proof.Machine.execCipherJobComplete id s
  | .keyLimitWrite d n v be => Sys2Proof.Machine.execKeyLimitWrite d n v be s
  | .contextFillDone c ok r => Sys2Proof.Machine.execContextFillDone c ok r s
  | .contextWriteback c => Sys2Proof.Machine.execContextWriteback c s
  | .rebuild d v be => Sys2Proof.Machine.execRebuild d v be s
  | .ctxRead id => Sys2Proof.Machine.execCtxRead id s
  | .ctxWrite id => Sys2Proof.Machine.execCtxWrite id s
  | .ctxInit id => Sys2Proof.Machine.execCtxInit id s
  | .ctxFree id => Sys2Proof.Machine.execCtxFree id s
  | .ctxShort id => Sys2Proof.Machine.execCtxShort id s
  | .pagerJobComplete id => Sys2Proof.Machine.execPagerJobComplete id s
  | .read id r => Sys2Proof.Machine.execRead id r s
  | .write id r progs => Sys2Proof.Machine.execWrite id r progs s
  | .trim id => Sys2Proof.Machine.execTrim id s
  | .flush id => Sys2Proof.Machine.execFlush id s
  | .nsCreate run => Sys2Proof.Machine.execNsCreate run s
  | .nsDelete id => Sys2Proof.Machine.execNsDelete id s
  | .storageJobComplete id => Sys2Proof.Machine.execStorageJobComplete id s
  | .nandOpComplete ch target ok maxPe avgPe => Sys2Proof.Machine.execNandOpComplete ch target ok maxPe avgPe s
  | .nsErased n => Sys2Proof.Machine.execNsErased n s
  | .storageMount p => Sys2Proof.Machine.execStorageMount p s
  | .todSet d v be => Sys2Proof.Machine.execTodSet d v be s
  | .ppsPulse t freq => Sys2Proof.Machine.execPpsPulse t freq s
  | .tenEdgeLost silent => Sys2Proof.Machine.execTenEdgeLost silent s
  | .tenQualify freq => Sys2Proof.Machine.execTenQualify freq s
  | .hostSample d v be freq => Sys2Proof.Machine.execHostSample d v be freq s
  | .wtrExpire r => Sys2Proof.Machine.execWtrExpire r s
  | .slewDone t => Sys2Proof.Machine.execSlewDone t s
  | .steerWrite d v be => Sys2Proof.Machine.execSteerWrite d v be s
  | .plmbAlign d o v be => Sys2Proof.Machine.execPlmbAlign d o v be s
  | .timeMessage master copy => Sys2Proof.Machine.execTimeMessage master copy s
  | .uartEnable d n v be => Sys2Proof.Machine.execUartEnable d n v be s
  | .uartDisable d n v be => Sys2Proof.Machine.execUartDisable d n v be s
  | .uartCharRx n data tag start fin => Sys2Proof.Machine.execUartCharRx n data tag start fin s
  | .uartBreakRx n len fin => Sys2Proof.Machine.execUartBreakRx n len fin s
  | .uartLineStuck n => Sys2Proof.Machine.execUartLineStuck n s
  | .uartRxIdle n => Sys2Proof.Machine.execUartRxIdle n s
  | .uartRxdataPop d n => Sys2Proof.Machine.execUartRxdataPop d n s
  | .uartTxdata d n v be => Sys2Proof.Machine.execUartTxdata d n v be s
  | .uartCharTxEnd n back => Sys2Proof.Machine.execUartCharTxEnd n back s
  | .uartDeTailEnd n => Sys2Proof.Machine.execUartDeTailEnd n s
  | .uartStartEdgeWake n t => Sys2Proof.Machine.execUartStartEdgeWake n t s
  | .txChars id => Sys2Proof.Machine.execTxChars id s
  | .txBreak id => Sys2Proof.Machine.execTxBreak id s
  | .txFrame id => Sys2Proof.Machine.execTxFrame id s
  | .setResponse id => Sys2Proof.Machine.execSetResponse id s
  | .serialJobComplete id => Sys2Proof.Machine.execSerialJobComplete id s
  | .frameTimeLimit n => Sys2Proof.Machine.execFrameTimeLimit n s
  | .linHeaderRx n pid ok t => Sys2Proof.Machine.execLinHeaderRx n pid ok t s
  | .ringEnable d v be => Sys2Proof.Machine.execRingEnable d v be s
  | .ringDisable d v be => Sys2Proof.Machine.execRingDisable d v be s
  | .ringFrameRx f t => Sys2Proof.Machine.execRingFrameRx f t s
  | .chkFeed8 d k v be t => Sys2Proof.Machine.execChkFeed8 d k v be t s
  | .chkFeed16 d k v be t => Sys2Proof.Machine.execChkFeed16 d k v be t s
  | .chkFeed32 d k v be t => Sys2Proof.Machine.execChkFeed32 d k v be t s
  | .chkResult d k => Sys2Proof.Machine.execChkResult d k s
  | .chkExpected d k v be => Sys2Proof.Machine.execChkExpected d k v be s
  | .restart d k v be => Sys2Proof.Machine.execRestart d k v be s
  | .chkCfgWrite d k v be => Sys2Proof.Machine.execChkCfgWrite d k v be s
  | .lastGasp d => Sys2Proof.Machine.execLastGasp d s
  | .exit d => Sys2Proof.Machine.execExit d s
  | .standby d => Sys2Proof.Machine.execStandby d s
  | .wake d => Sys2Proof.Machine.execWake d s
  | .pwrShareWrite d v be => Sys2Proof.Machine.execPwrShareWrite d v be s
  | .pwrLtrWrite d b v be => Sys2Proof.Machine.execPwrLtrWrite d b v be s
  | .islandWake k => Sys2Proof.Machine.execIslandWake k s
  | .flitRx r f t => Sys2Proof.Machine.execFlitRx r f t s
  | .nakRx r seq t => Sys2Proof.Machine.execNakRx r seq t s
  | .txStreamUnderrun t => Sys2Proof.Machine.execTxStreamUnderrun t s
  | .linkSilence die wr => Sys2Proof.Machine.execLinkSilence die wr s
  | .trainingAttempt ok => Sys2Proof.Machine.execTrainingAttempt ok s
  | .tnlResume d v be => Sys2Proof.Machine.execTnlResume d v be s
  | .eccScrubPass l => Sys2Proof.Machine.execEccScrubPass l s
  | .dbgTraceCfgWrite d v be => Sys2Proof.Machine.execDbgTraceCfgWrite d v be s
  | .ldFltDeassert t => Sys2Proof.Machine.execLdFltDeassert t s
  | .sfdDetected r => Sys2Proof.Machine.execSfdDetected r s
  | .pulseOutputEdge o => Sys2Proof.Machine.execPulseOutputEdge o s
  | .pcieLinkChange st => Sys2Proof.Machine.execPcieLinkChange st s
  | .readRetryExit t => Sys2Proof.Machine.execReadRetryExit t s
  | .capturingRead d r => Sys2Proof.Machine.execCapturingRead d r s
  | .powerOn => Sys2Proof.Machine.execPowerOn s
  | .resetNTaken => Sys2Proof.Machine.execResetNTaken s
  | .tcxoLost => Sys2Proof.Machine.execTcxoLost s
  | .pllLostLock => Sys2Proof.Machine.execPllLostLock s
  | .keeperWatchdog => Sys2Proof.Machine.execKeeperWatchdog s
  | .keeperLockup => Sys2Proof.Machine.execKeeperLockup s
  | .firmwareBringup => Sys2Proof.Machine.execFirmwareBringup s
  | .linkDownBoot => Sys2Proof.Machine.execLinkDownBoot s
  | .attServiceStart => Sys2Proof.Machine.execAttServiceStart s
  | .scrubDone => Sys2Proof.Machine.execScrubDone s
  | .grantGiven => Sys2Proof.Machine.execGrantGiven s
  | .routePass => Sys2Proof.Machine.execRoutePass s
  | .rfSfStart => Sys2Proof.Machine.execRfSfStart s
  | .dcSecondTick => Sys2Proof.Machine.execDcSecondTick s
  | .rngFail => Sys2Proof.Machine.execRngFail s
  | .journalCommit => Sys2Proof.Machine.execJournalCommit s
  | .idxRebuilt => Sys2Proof.Machine.execIdxRebuilt s
  | .journalFlushed => Sys2Proof.Machine.execJournalFlushed s
  | .todApply => Sys2Proof.Machine.execTodApply s
  | .ppsMiss => Sys2Proof.Machine.execPpsMiss s
  | .hostSampleTimeout => Sys2Proof.Machine.execHostSampleTimeout s
  | .holdoverReady => Sys2Proof.Machine.execHoldoverReady s
  | .outputAlign => Sys2Proof.Machine.execOutputAlign s
  | .ringBypassOpen => Sys2Proof.Machine.execRingBypassOpen s
  | .ringInsert => Sys2Proof.Machine.execRingInsert s
  | .ringReturnTimeout => Sys2Proof.Machine.execRingReturnTimeout s
  | .ringStuck => Sys2Proof.Machine.execRingStuck s
  | .ringSilent => Sys2Proof.Machine.execRingSilent s
  | .vinMonFall => Sys2Proof.Machine.execVinMonFall s
  | .vinMonRise => Sys2Proof.Machine.execVinMonRise s
  | .linkLossLastGasp => Sys2Proof.Machine.execLinkLossLastGasp s
  | .ref10mEdgeReturn => Sys2Proof.Machine.execRef10mEdgeReturn s

end Sys2Proof.Machine
end

