-- ==== Sys2Proof/Safety.lean ====
section
/-!
DEFINITION. The terms in which claims about the block are stated: what it is for a command to
complete, which parts of the state a command leaves alone, and the invariant of threads.
-/

namespace Sys2Proof.Machine

/-- A command completes: it answers a next state, of which `P` holds. -/
def Completes (c : Instr) (s : State) (P : State → Prop) : Prop := ∃ t, exec c s = .next t ∧ P t

/-! ### Parts of the state, and which of them differ -/

/-- The parts in which frames are stated. -/
inductive Part where
  /-- commands waiting -/
  | pending
  /-- the model's counter of free values -/
  | free
  /-- the register file -/
  | regs
  /-- the timebase, and its copy on the logic die -/
  | time | copy
  | opt | rst | att
  /-- shelf queues; jobs that units have taken; coalescing and MSI-X; QSPI buffers and PCIe base addresses; staging
  memory; what is driven outward -/
  | queues | jobs | events | ports | bulk | out
  /-- Jig threads; the cores' memories and loads -/
  | threads | mem
  | pwr | ciph | ncp | nand | stor | line | radio | plmb | ser
  /-- occurrences that the line die holds; the rest of the link -/
  | held | tnl
  | caps
deriving DecidableEq, Repr

/-- Two states have the same value of a part. -/
def samePart : Part → State → State → Prop
  | .pending, s, t => t.pending = s.pending
  | .free, s, t => t.freeIdx = s.freeIdx
  | .regs, s, t => t.regs = s.regs
  | .time, s, t => t.tb = s.tb
  | .copy, s, t => t.tbCopy = s.tbCopy
  | .opt, s, t => t.opt = s.opt
  | .rst, s, t => t.rst = s.rst
  | .att, s, t => t.att = s.att
  | .queues, s, t => t.fab.queues = s.fab.queues
  | .jobs, s, t => t.fab.jobs = s.fab.jobs ∧ t.fab.nextJob = s.fab.nextJob ∧ t.fab.turn = s.fab.turn
  | .events, s, t => t.fab.evts = s.fab.evts ∧ t.fab.msix = s.fab.msix ∧ t.fab.msixCtl = s.fab.msixCtl
  | .ports, s, t => t.fab.ports = s.fab.ports ∧ t.fab.bars = s.fab.bars
  | .bulk, s, t => t.fab.bulk = s.fab.bulk ∧ t.fab.bulkPoison = s.fab.bulkPoison
  | .out, s, t => t.fab.out = s.fab.out
  | .threads, s, t => t.jig.threads = s.jig.threads
  | .mem, s, t => t.jig = { s.jig with threads := t.jig.threads }
  | .pwr, s, t => t.pwr = s.pwr
  | .ciph, s, t => t.ciph = s.ciph
  | .ncp, s, t => t.ncp = s.ncp
  | .nand, s, t => t.nand = s.nand
  | .stor, s, t => t.stor = s.stor
  | .line, s, t => t.line = s.line
  | .radio, s, t => t.radio = s.radio
  | .plmb, s, t => t.plmb = s.plmb
  | .ser, s, t => t.ser = s.ser
  | .held, s, t => t.tnl.events = s.tnl.events ∧ t.tnl.overflow = s.tnl.overflow
  | .tnl, s, t => t.tnl = { s.tnl with events := t.tnl.events, overflow := t.tnl.overflow }
  | .caps, s, t => t.caps = s.caps

/-- Every part outside the list has the same value in both states. -/
structure Agree (l : List Part) (s t : State) : Prop where
  part : ∀ p, p ∉ l → samePart p s t

/-- Only the register file differs. -/
def OnlyRegs (s t : State) : Prop := t = { s with regs := t.regs }

/-- Only the register file and what the counting of occurrences writes differ: the accumulators and
timers of sources, the MSI-X pending bits, the messages driven outward, and the occurrences that the
line die holds while no flit flows (R131, R132, R466). -/
def OnlyRegsAndEvents (s t : State) : Prop :=
  t = { s with
    regs := t.regs
    fab := { s.fab with evts := t.fab.evts, msix := t.fab.msix, out := t.fab.out }
    tnl := { s.tnl with events := t.tnl.events, overflow := t.tnl.overflow } }

/-- The registers that the counting of an occurrence may write: pending bits (R131), the trace and
its status (R497). -/
def eventKey (k : Nat) : Bool :=
  (decide (R.evtPend 0 ≤ k) && decide (k ≤ R.evtPend 8)) ||
    (decide (R.dbgTrace 0 ≤ k) && decide (k ≤ R.dbgTrace 63)) || k == R.dbgStatus

/-- Every register keeps its value, but those listed and those of `eventKey`. -/
def KeepsRegs (s t : State) (l : List Nat) : Prop :=
  ∀ k, k ∉ l → eventKey k = false → t.rd k = s.rd k

/-- Every register but those listed keeps its value. -/
def KeepsAllRegs (s t : State) (l : List Nat) : Prop := ∀ k, k ∉ l → t.rd k = s.rd k

/-- What a level A reset leaves (R61, R64): every register but the one that shows the reset at its reset value, the
timebase at zero, nothing else kept but the manufacturing row, the NAND and the commands waiting. -/
def Blanked (s t : State) : Prop :=
  (∀ k, k ≠ R.rstStatus → t.rd k = regDefault k) ∧ t.tb = 0#64 ∧ t.tbCopy = 0#64 ∧
  t.opt.mfgRow = s.opt.mfgRow ∧ t.nand = s.nand ∧ t.jig = State.reset.jig ∧ t.fab.queues = [] ∧ t.fab.bulk = [] ∧
  t.caps = [] ∧ t.rst.level = .a ∧ t.rst.seq = 0 ∧ t.pending = s.pending

/-! ### Accesses -/

/-- The filter of R493 takes a write of drawer `d` at a `CTL` offset. -/
def takesWrite (s : State) (d off : Nat) : Bool :=
  match findRow off with
  | some (r, i, _) => filterWrite s d r i off == .take
  | none => false

/-- The filter of R493 takes a read of drawer `d` at a `CTL` offset. -/
def takesRead (s : State) (d off : Nat) : Bool :=
  match findRow off with
  | some (r, i, _) => filterRead s d r i off == .take
  | none => false

/-- The filter of R103 takes an access of drawer `d` to queue slot `n` of `QWIN`. -/
def takesSlot (s : State) (d n : Nat) : Bool := filterSlot s d n == .take

/-- Bit `i` of the register at `k`, as a field. -/
def bitFld (k i : Nat) : Fld := ⟨k, i, i⟩

/-- A statistics counter of R13 has gone up by one, or stands at its limit. -/
def Bumped (k : Nat) (s t : State) : Prop := (t.rd k).toNat = min ((s.rd k).toNat + 1) (2 ^ 32 - 1)

/-- Every shelf queue but `n` is unchanged. -/
def OtherQueues (n : Nat) (s t : State) : Prop := ∀ m, m ≠ n → t.queue m = s.queue m

/-! ### Threads -/

/-- Thread `n` is `x` now, every other thread is unchanged, and nothing else has changed but the parts listed. -/
def ThreadWith (l : List Part) (n : Nat) (x : Thread) (s t : State) : Prop :=
  t.thr n = x ∧ (∀ m, m ≠ n → t.thr m = s.thr m) ∧ Agree (.threads :: l) s t

/-- Thread `n` is `x` now, and nothing else has changed. -/
def ThreadNow (n : Nat) (x : Thread) (s t : State) : Prop := ThreadWith [] n x s t

/-- A thread after an instruction that moves on by one: the program counter, the prefix latch, which any issue
clears, and the cost (R165, R167). -/
def Thread.moved (x : Thread) (cost : Nat) : Thread := { x with pc := x.pc + 1, pfx := none, cost := cost }

/-- The flags that an ALU result leaves: `Z` and `N` of the result, `C` as given, the rest unchanged (R168). -/
def Flags.after (f : Flags) (r : Word) (c : Bool) : Flags := { f with z := decide (r.toNat = 0), n := decide (r.toInt < 0), c := c }

/-- A thread after an ALU instruction with destination `rd`, result `r` and carry `c`. -/
def Thread.computed (x : Thread) (rd : BitVec 4) (r : Word) (c : Bool) (cost : Nat) : Thread :=
  { (setG x rd r).moved cost with flags := x.flags.after r c }

/-- What holds just before the occurrence on source `src` is counted, which ends the command (R131). -/
def Counted (src : Nat) (P : State → Prop) (t : State) : Prop := ∃ u, P u ∧ t = occur u src

/-- Thread `n`, which was `y`, faults with a cause; `JT_FAULT_INFO` records the program counter and the detail, where
the spec states one; the fault is counted on its core's source (R142, R156). -/
def FaultedFrom (y : Thread) (n cause : Nat) (detail : Option Nat) (s : State) : State → Prop :=
  Counted (115 + 5 * (n / 4)) fun u =>
    ThreadWith [.free, .regs] n { y with state := .fault, faultCause := cause, wait := .none } s u ∧
    (∃ d, (∀ e, detail = some e → d = e) ∧
      (u.rd (R.jtFaultInfo n)).toNat = y.pc % 2 ^ 13 + d % 2 ^ 16 * 2 ^ 16) ∧
    KeepsAllRegs s u [R.jtFaultInfo n]

/-- The same at an issue, which clears the prefix latch (R167). -/
def Faulted (n cause : Nat) (detail : Option Nat) (s : State) : State → Prop :=
  FaultedFrom { s.thr n with pfx := none } n cause detail s

/-- The thread that a command issues an instruction of. -/
def issuer : Instr → Option (Fin 32)
  | .addR th | .subR th | .andR th | .orR th | .xorR th | .shlR th | .shrR th | .sraR th | .mulR th | .mulhR th
  | .cmpR th | .addi th | .subi th | .andi th | .ori th | .xori th | .shli th | .shri th | .srai th | .cmpi th
  | .movi th | .pfx th | .ld th | .ldh th | .ldb th | .st th | .sth th | .stb th | .tld th | .tst th | .br th
  | .call th | .brr th | .callr th | .ret th | .atTime th | .after th | .afteri th | .zxw th | .tget th | .tadd th
  | .tsub th | .tpack th | .tpart th | .txf th | .rxw th | .cancel th | .rtx th | .rrx th | .ldn th | .stn th
  | .pref th | .pin th | .unpin th | .cyp th | .enq th | .deq th | .evt th | .sig th | .wsig th | .halt th
  | .trap th | .yield th => some th
  | _ => none

/-! ### What each command may change -/

/-- What the counting of occurrences changes (R131, R132, R466). -/
def counting : List Part := [.events, .out, .held]

/-- Every part but those listed. -/
def allBut (l : List Part) : List Part :=
  [.pending, .free, .regs, .time, .copy, .opt, .rst, .att, .queues, .jobs, .events, .ports, .bulk, .out, .threads, .mem,
    .pwr, .ciph, .ncp, .nand, .stor, .line, .radio, .plmb, .ser, .held, .tnl, .caps].filter fun p => !l.contains p

/-- The parts of the state that a command may change. -/
def mayChange : Instr → List Part
  | .brownOut .. | .islandClockFailure .. | .swDeviceReset .. | .swDrawerReset .. | .dbgReqGo .. | .jigLockup ..
  | .jigWatchdog .. | .tenEdgeLost .. | .eccScrubPass .. | .powerOn | .resetNTaken | .tcxoLost | .pllLostLock
  | .keeperWatchdog | .keeperLockup =>
    allBut [.pending, .nand]
  | .functionLevelReset .. =>
    counting ++ [.free, .regs, .rst, .att, .queues, .jobs, .ports, .threads, .mem, .pwr, .ciph, .ncp, .stor, .radio, .ser]
  | .resetRelease .. =>
    counting ++ [.regs, .time, .copy, .rst, .line, .radio, .plmb]
  | .keeperRomBoot .. =>
    counting ++ [.regs, .opt, .rst]
  | .flashTimeout .. | .levelDRelease .. | .bootPush .. =>
    counting ++ [.regs, .rst]
  | .optStageWrite .. | .evtRouteWrite .. | .firSwap .. | .dlvRingEnable .. | .nsErased .. | .steerWrite ..
  | .chkResult .. | .chkExpected .. | .pwrShareWrite .. | .pwrLtrWrite .. | .dbgTraceCfgWrite .. | .rngFail
  | .ringStuck =>
    counting ++ [.regs]
  | .prepare .. | .commit .. | .discard .. =>
    counting ++ [.free, .regs, .rst]
  | .commitWriteDone .. =>
    [.regs, .opt, .rst]
  | .attRequest .. =>
    counting ++ [.regs, .att]
  | .attDone .. =>
    counting ++ [.regs, .att, .bulk]
  | .qspiRead .. | .qspiWrite .. | .qspiStatus .. =>
    counting ++ [.regs, .queues, .ports, .ser, .caps]
  | .qspiReadTimeout .. =>
    [.out]
  | .qspiPostedWriteApply .. | .registerWrite .. =>
    allBut [.pending]
  | .ownershipWrite .. =>
    counting ++ [.free, .regs, .queues, .jobs, .bulk, .threads, .pwr, .ciph, .ncp, .nand, .stor, .radio, .ser]
  | .drawerResetRelease .. =>
    [.regs, .rst, .pwr, .stor]
  | .queueEnable .. | .queueDisable .. =>
    counting ++ [.regs, .queues, .jobs, .threads]
  | .doorbell .. | .queuePop .. =>
    counting ++ [.regs, .queues]
  | .unitTake .. | .cipherJobComplete .. | .pagerJobComplete .. | .storageJobComplete .. | .serialJobComplete .. =>
    counting ++ [.regs, .queues, .jobs]
  | .eventTimerExpire .. =>
    [.regs, .time, .copy, .events, .out]
  | .evtPendClear .. | .scrubDone =>
    [.regs]
  | .msixUnmask .. =>
    [.events, .out]
  | .jigLoad .. =>
    counting ++ [.regs, .mem]
  | .jigLoadComplete .. =>
    counting ++ [.free, .regs, .threads, .mem, .pwr, .ncp, .radio]
  | .start .. | .stop .. | .resume .. | .rxw .. | .rrx .. =>
    counting ++ [.free, .regs, .threads, .pwr, .ncp, .radio]
  | .addR .. | .subR .. | .andR .. | .orR .. | .xorR .. | .shlR .. | .shrR .. | .sraR .. | .mulR .. | .mulhR ..
  | .cmpR .. | .addi .. | .subi .. | .andi .. | .ori .. | .xori .. | .shli .. | .shri .. | .srai .. | .cmpi ..
  | .movi .. | .pfx .. | .ld .. | .ldh .. | .ldb .. | .tld .. | .br .. | .call .. | .brr .. | .callr .. | .ret ..
  | .atTime .. | .after .. | .afteri .. | .zxw .. | .tget .. | .tadd .. | .tsub .. | .tpack .. | .tpart ..
  | .evt .. | .sig .. | .wsig .. | .halt .. | .trap .. | .yield .. =>
    counting ++ [.free, .regs, .threads]
  | .st .. | .sth .. | .stb .. | .tst .. =>
    counting ++ [.free, .regs, .threads, .mem]
  | .timeWaitEnd .. | .wsigDeadline .. | .pageTimeout .. =>
    [.time, .copy, .threads]
  | .txf .. | .rtx .. =>
    counting ++ [.free, .regs, .threads, .pwr, .ncp, .line, .radio]
  | .cancel .. =>
    counting ++ [.free, .regs, .threads, .pwr, .radio]
  | .ldn .. | .stn .. | .pref .. | .pin .. | .unpin .. =>
    counting ++ [.free, .regs, .threads, .ncp]
  | .cyp .. =>
    counting ++ [.free, .regs, .threads, .pwr]
  | .cypJobEnd .. =>
    counting ++ [.regs, .threads, .mem, .pwr]
  | .enq .. =>
    counting ++ [.free, .regs, .queues, .threads]
  | .deq .. =>
    counting ++ [.free, .regs, .queues, .threads, .mem]
  | .wakeEvent .. =>
    counting ++ [.regs, .queues, .threads, .mem]
  | .actionStart .. | .compatCsmaAccess .. | .ackDeadline .. | .retxPlace .. =>
    counting ++ [.free, .regs, .time, .copy, .threads, .pwr, .ncp, .line, .radio]
  | .emissionEnd .. | .rxWindowClose .. | .preambleDetection .. | .headerCheck .. | .ackRx .. | .ackWaitEnd ..
  | .txAbort .. =>
    counting ++ [.regs, .time, .copy, .threads, .pwr, .ncp, .line, .radio]
  | .agcIntervalEnd .. | .ldFaultAssert .. | .zxEdgeRejected .. | .mainsHoldTimeout .. =>
    counting ++ [.regs, .time, .copy, .line]
  | .agcAutoWrite .. | .compatEnable .. | .sweepEnable .. | .txStreamUnderrun .. =>
    counting ++ [.regs, .threads, .pwr, .ncp, .line, .radio]
  | .lphyApply .. | .bandApplied .. | .channelStep .. | .nmapRestart .. =>
    counting ++ [.regs, .line]
  | .frameEnd .. | .compatFrameRx .. | .rfFrameRx .. =>
    counting ++ [.free, .regs, .time, .copy, .queues, .bulk, .threads, .pwr, .ncp, .line, .radio]
  | .holdOffEnd .. =>
    [.regs, .time, .copy, .line]
  | .mainsCrossing .. | .mainsCrossingMissed .. =>
    counting ++ [.free, .regs, .time, .copy, .jobs, .threads, .pwr, .ncp, .nand, .stor, .line, .radio, .plmb]
  | .radioEnable .. =>
    counting ++ [.regs, .radio]
  | .connEventAdvance .. | .supervisionExpire .. | .routePass =>
    counting ++ [.regs, .time, .copy, .ncp, .line, .radio]
  | .rfRetxPlace .. =>
    counting ++ [.regs, .time, .copy, .threads, .pwr, .radio]
  | .dcCheckpoint .. =>
    counting ++ [.regs, .nand]
  | .aes .. | .hash .. | .sign .. | .verify .. | .ecdh .. | .random .. | .keyImport .. | .keyErase ..
  | .keyPromote .. =>
    counting ++ [.free, .regs, .jobs, .bulk, .pwr, .ciph, .ncp]
  | .keyLimitWrite .. =>
    counting ++ [.regs, .ciph]
  | .contextFillDone .. =>
    counting ++ [.free, .regs, .queues, .bulk, .threads, .pwr, .ncp, .nand, .stor, .line, .radio]
  | .contextWriteback .. =>
    [.ncp, .nand]
  | .rebuild .. | .idxRebuilt =>
    counting ++ [.regs, .ncp]
  | .ctxRead .. | .ctxWrite .. | .ctxInit .. | .ctxFree .. | .ctxShort .. =>
    counting ++ [.free, .regs, .jobs, .bulk, .pwr, .ncp]
  | .read .. | .write .. | .trim .. | .flush .. | .nsCreate .. | .nsDelete .. =>
    counting ++ [.free, .regs, .jobs, .bulk, .pwr, .ncp, .nand, .stor]
  | .nandOpComplete .. =>
    counting ++ [.regs, .pwr, .nand, .stor]
  | .storageMount .. =>
    counting ++ [.regs, .rst, .ncp, .nand, .stor]
  | .todSet .. | .plmbAlign .. =>
    counting ++ [.regs, .plmb]
  | .ppsPulse .. | .tenQualify .. | .hostSample .. | .wtrExpire .. | .todApply | .ppsMiss | .hostSampleTimeout =>
    counting ++ [.regs, .time, .copy, .queues, .threads, .pwr, .ncp, .line, .radio, .plmb, .ser, .tnl]
  | .slewDone .. | .rfSfStart =>
    counting ++ [.regs, .time, .copy, .plmb]
  | .timeMessage .. =>
    counting ++ [.regs, .time, .copy, .threads, .pwr, .radio, .plmb]
  | .uartEnable .. | .uartDisable .. | .uartLineStuck .. =>
    counting ++ [.free, .regs, .queues, .jobs, .pwr, .ser]
  | .uartCharRx .. | .ringFrameRx .. =>
    counting ++ [.free, .regs, .time, .copy, .queues, .jobs, .bulk, .pwr, .ser]
  | .uartBreakRx .. | .uartRxIdle .. =>
    counting ++ [.regs, .time, .copy, .queues, .ser]
  | .uartRxdataPop .. =>
    counting ++ [.regs, .queues, .ser]
  | .uartTxdata .. | .ringEnable .. | .ringDisable .. | .restart .. | .chkCfgWrite .. =>
    counting ++ [.regs, .ser]
  | .uartCharTxEnd .. | .frameTimeLimit .. =>
    counting ++ [.free, .regs, .time, .copy, .jobs, .pwr, .ser]
  | .uartDeTailEnd .. =>
    [.regs, .time, .copy, .ser]
  | .uartStartEdgeWake .. =>
    counting ++ [.regs, .time, .copy, .queues, .pwr, .ser]
  | .txChars .. | .txBreak .. | .txFrame .. | .setResponse .. =>
    counting ++ [.free, .regs, .jobs, .pwr, .ser]
  | .linHeaderRx .. | .chkFeed8 .. | .chkFeed16 .. | .chkFeed32 .. | .ringBypassOpen =>
    counting ++ [.regs, .time, .copy, .ser]
  | .lastGasp .. | .exit .. | .standby .. | .wake .. =>
    counting ++ [.free, .regs, .time, .copy, .queues, .jobs, .threads, .pwr, .ncp, .nand, .stor, .line, .radio, .plmb, .ser, .tnl]
  | .islandWake .. =>
    [.time, .copy]
  | .flitRx .. | .linkSilence .. =>
    counting ++ [.free, .regs, .time, .copy, .jobs, .threads, .pwr, .ncp, .line, .radio, .plmb, .ser, .tnl]
  | .nakRx .. =>
    counting ++ [.regs, .time, .copy, .tnl]
  | .trainingAttempt .. =>
    counting ++ [.free, .regs, .time, .copy, .rst, .jobs, .threads, .pwr, .ncp, .nand, .stor, .line, .radio, .ser, .tnl]
  | .tnlResume .. =>
    counting ++ [.regs, .radio, .ser]
  | .ldFltDeassert .. =>
    [.regs, .line]
  | .sfdDetected .. =>
    [.time, .copy, .threads, .radio]
  | .pulseOutputEdge .. =>
    [.time, .copy, .plmb]
  | .pcieLinkChange .. =>
    [.pwr]
  | .readRetryExit .. =>
    [.regs, .stor]
  | .capturingRead .. =>
    counting ++ [.regs, .queues, .ser, .caps]
  | .firmwareBringup =>
    [.free, .regs, .rst]
  | .linkDownBoot =>
    [.regs, .rst]
  | .attServiceStart =>
    [.att]
  | .grantGiven =>
    counting ++ [.free, .regs, .jobs, .threads, .pwr, .ncp, .radio]
  | .dcSecondTick =>
    counting ++ [.regs, .time, .copy, .radio]
  | .journalCommit =>
    counting ++ [.regs, .threads, .pwr, .ncp, .nand, .stor, .radio]
  | .journalFlushed =>
    counting ++ [.regs, .ncp, .nand, .stor]
  | .holdoverReady | .ringSilent =>
    counting ++ [.regs, .time, .copy]
  | .outputAlign =>
    [.regs, .time, .copy, .plmb]
  | .ringInsert =>
    [.time, .copy, .out, .ser]
  | .ringReturnTimeout =>
    [.free, .time, .copy, .jobs, .pwr, .ser]
  | .vinMonFall | .vinMonRise =>
    counting ++ [.free, .regs, .jobs, .threads, .pwr, .ncp, .nand, .stor, .line, .radio]
  | .linkLossLastGasp =>
    counting ++ [.free, .regs, .time, .copy, .jobs, .threads, .pwr, .ncp, .nand, .stor, .line, .radio]
  | .ref10mEdgeReturn =>
    [.regs, .plmb]

/-! ### An invariant of what is trusted -/

/-- No drawer has two attestation requests waiting, each was admitted under R94, a report is being made only for a
request that waits, and the boot count of the MRAM is within its 48 bits (R91). -/
def TrustInv (s : State) : Prop :=
  (s.att.queue.map AttReq.drawer).Nodup ∧
  (∀ r ∈ s.att.queue, r.drawer < 4 ∧ r.dest % 64 = 0 ∧ r.dest + 592 ≤ 2 ^ 26 ∧ r.nonce.length = 8) ∧
  (s.att.report.isSome = true → s.att.queue ≠ []) ∧ bootCount s.opt < 2 ^ 48

end Sys2Proof.Machine
end

