-- ==== Sys2Proof/Certificates/Slice0/Obligations.lean ====
section
/-!
DEFINITION. The statements about the block, in the order of the specification's files. Each says in its docstring which
numbered rules it is drawn from; `Completes c s P` says that command `c` answers a next state, and that it meets `P`.
-/

open Sys2Proof Sys2Proof.Machine

/-! ### The whole block -/

/-- A step runs the command at the front of the queue, on the state with the queue's rest. -/
def Obligations.StepRunsFrontCommand : Prop :=
  ∀ (s : State) (c : Instr) (rest : List Instr),
    step { s with pending := c :: rest } = exec c { s with pending := rest }

/-- Every command completes in every state: none faults and none is refused. What it changes lies in the parts that
`mayChange` lists for it; the commands that wait are among no command's parts. -/
def Obligations.EveryCommandStaysWithinItsParts : Prop :=
  ∀ (c : Instr) (s : State), Completes c s (Agree (mayChange c) s) ∧ .pending ∉ mayChange c

/-- The invariant `TrustInv` is kept by every step, whatever command runs: no drawer has two attestation requests
pending, each pending request has its destination inside the drawer's window, a report is in the making only
while its request is pending, and the boot count stays within 48 bits. -/
def Obligations.EveryStepKeepsTrustInv : Prop :=
  ∀ s t : State, TrustInv s → step s = .next t → TrustInv t

/-- `TrustInv` holds right after reset. -/
def Obligations.ResetMeetsTrustInv : Prop := TrustInv State.reset

/-- R78, R91: whatever command runs, the manufacturing row keeps its value (it is written once at manufacture) and
the boot count does not fall; it rises only by `KEEPER_ROM_BOOT`, and then by at most one. -/
def Obligations.ManufacturingRowConstantAndBootCountRises : Prop :=
  ∀ s t : State, TrustInv s → step s = .next t →
    t.opt.mfgRow = s.opt.mfgRow ∧ t.opt.floor = s.opt.floor ∧ t.opt.variant = s.opt.variant ∧
    t.opt.idKeys = s.opt.idKeys ∧ t.opt.eui = s.opt.eui ∧
    bootCount s.opt ≤ bootCount t.opt ∧ bootCount t.opt ≤ bootCount s.opt + 1 ∧
    (bootCount t.opt ≠ bootCount s.opt → ∃ f m, s.pending.head? = some (.keeperRomBoot f m))

/-! ### Resets (R61 to R71, R75, R77, R157, R158, R497, R498) -/

/-- R61, R64: a level B source on a device that is not in a level A or B reset sets its bit of `RESET_CAUSE`;
every register outside reset domain A takes its reset value, but for three that show the reset and the option
store; every register of domain A but `RESET_CAUSE` and `PLMB_STATUS` keeps its value; the timebase, the mains
trackers and the stored data of the NAND keep theirs; the release has yet to bring the line die up. -/
def Obligations.LevelBSourceResetsAllButDomainA : Prop :=
  ∀ (s : State) (c : Instr) (b : Nat),
    (c = .resetNTaken ∧ b = 6 ∨
      c = .tcxoLost ∧ b = 7 ∧ s.on F.plmbStatusTcxoFallback = false ∧
        ¬ (s.get F.plmbStatusState = 2 ∧ selected s = some 1) ∨
      c = .pllLostLock ∧ b = 8 ∨ c = .keeperWatchdog ∧ b = 9 ∨ c = .keeperLockup ∧ b = 10 ∨
      (∃ v : Word, c = .swDeviceReset 0 v ∧ b = 11 ∧ takesWrite s 0 R.rstCmd = true ∧
        v.toNat / 2 ^ 16 = 0xC1A7 ∧ v.toNat / 16 % 16 = 1) ∨
      ∃ v : Word, c = .dbgReqGo (.tap .debug) v ∧ b = 12 ∧ v.getLsbD 4 = true ∧ s.get F.optActive0DebugLock = 0 ∧
        s.get F.optActive0DbgReach = 2) →
    unreleased s = false →
    Completes c s fun t =>
      t.get (bitFld R.resetCause b) = 1 ∧
      (∀ k, domainA k = false → k ∉ [R.rstStatus, R.optStatus, R.plmbStatus] → t.rd k = regDefault k) ∧
      (s.rst.saved = none → ∀ k, domainA k = true → k ∉ [R.resetCause, R.plmbStatus] → t.rd k = s.rd k) ∧
      t.tb = s.tb ∧ t.tbCopy = s.tbCopy ∧ t.line.trk = s.line.trk ∧ t.nand = s.nand ∧
      t.jig = State.reset.jig ∧ t.fab.queues = [] ∧ t.fab.jobs = [] ∧ t.fab.bulk = [] ∧ t.ncp = State.reset.ncp ∧
      t.ciph = State.reset.ciph ∧ t.rst.level = .b ∧ t.rst.seq = 3 ∧ t.pending = s.pending

/-- R61: a brown-out, or a power cycle of a running device, asserts level A: every register but those that show the
reset takes its reset value, the timebase starts again from zero, nothing but the MRAM's manufacturing row, the
NAND and what the board drives survives; the power-on source of `POWER_ON` has ended with it. -/
def Obligations.LevelASourceResetsEverything : Prop :=
  (∀ (s : State) (rail : Fin 5), inLevelA s = false → Completes (.brownOut rail) s fun t =>
    (.bor rail.val) ∈ t.rst.asserted ∧ Blanked s t) ∧
  (∀ s : State, inLevelA s = false → s.rst.asserted.contains .por = false → Completes .powerOn s fun t =>
    .por ∉ t.rst.asserted ∧ Blanked s t) ∧
  ∀ s : State, s.rst.asserted.contains .por = true → Completes .powerOn s fun t =>
    t = { s with rst := { s.rst with asserted := s.rst.asserted.filter fun x => x != .por } }

/-- R61, R63, R71: a clock failure records bit 16 of `RESET_CAUSE`; an island that takes a level D reset is then held,
and under a level B reset not yet released nothing else changes; for an island that takes none the device is reset at
level B. R157 to R159: a lock-up (every loaded thread in `FAULT`, or one in `RUN` too long), an expired watchdog or a
clock failure resets its core alone: the cause is recorded, the core is held, its threads end not loaded and its
memories read zero, and no other thread, no line state and no queue changes. R70, R75: the release sets the island's
bit of `RST_ISLAND` and lets the island go; under a level B reset it only lets it go. -/
def Obligations.LevelDSourceHoldsItsIsland : Prop :=
  let lost (s : State) (n b : Nat) (t : State) : Prop :=
    t.get (bitFld R.resetCause b) = 1 ∧ (∃ x, (8 + n, x) ∈ t.rst.dHeld) ∧
    (∀ m, coreOf m = n → (t.thr m).state = .idle ∧ (t.thr m).ilen = 0 ∧ (t.thr m).dlen = 0) ∧
    (∀ i, i < 8192 → imemWord t n i = 0#32) ∧ (∀ a, a < 16384 → dmemByte t n a = 0#8) ∧
    (∀ m, coreOf m ≠ n → t.thr m = s.thr m) ∧ t.line = s.line ∧ t.fab.queues = s.fab.queues
  let alive (s : State) (n : Nat) : Prop :=
    unreleased s = false ∧ coreHeld s n = false ∧ coreNaps s n = false ∧ ∀ h ∈ s.rst.dHeld, h.1 ≠ 8 + n
  (∀ (s : State) (i : Fin 16), eligibleD i.val = true → inLevelA s = false →
    Completes (.islandClockFailure i) s fun t =>
      t.get (bitFld R.resetCause 16) = 1 ∧ (i.val, .islandClk) ∈ t.rst.dHeld ∧
      Agree [.free, .regs, .rst, .jobs, .events, .out, .threads, .mem, .pwr, .ncp, .stor, .line, .radio, .ser, .held] s t ∧
      (unreleased s = true → KeepsAllRegs s t [R.resetCause, R.rstStatus] ∧ Agree [.regs, .rst] s t)) ∧
  (∀ (s : State) (i : Fin 16), eligibleD i.val = false → unreleased s = false →
    Completes (.islandClockFailure i) s fun t =>
      t.get (bitFld R.resetCause 16) = 1 ∧ t.rst.level = .b ∧ t.rst.seq = 3 ∧ t.jig = State.reset.jig) ∧
  (∀ (s : State) (n : Fin 8) (i : Fin 16), i.val = 8 + n.val → alive s n.val →
    Completes (.islandClockFailure i) s (lost s n.val 16)) ∧
  (∀ (s : State) (n : Fin 8), alive s n.val → loadedOn s n.val ≠ [] →
    ((∀ m ∈ loadedOn s n.val, (s.thr m).state = .fault) ∨ ∃ m ∈ loadedOn s n.val, (s.thr m).state = .run) →
    Completes (.jigLockup n) s (lost s n.val 14)) ∧
  (∀ (s : State) (th : Fin 32), alive s (coreOf th.val) → s.get (F.jtWdogWdogMs th.val) ≠ 0 →
    (s.thr th.val).state ≠ .idle → (s.thr th.val).state ≠ .halt → (s.thr th.val).state ≠ .fault →
    Completes (.jigWatchdog th) s (lost s (coreOf th.val) 15)) ∧
  ∀ (s : State) (i : Fin 16), (s.rst.dHeld.any fun h => h.1 == i.val) = true →
    Completes (.levelDRelease i) s fun t =>
      (∀ h ∈ t.rst.dHeld, h.1 ≠ i.val) ∧ KeepsRegs s t [R.rstIsland, R.rstStatus] ∧
      Agree [.regs, .rst, .events, .out, .held] s t ∧
      (unreleased s = false → t.get (bitFld R.rstIsland i.val) = 1) ∧
      (unreleased s = true → KeepsAllRegs s t [R.rstStatus] ∧ Agree [.regs, .rst] s t)

/-! ### Level C, boot, option store, attestation (R52, R77, R79 to R96, R109, R110, R463) -/

/-- R52, R77, R109: a function-level reset of a presented PCIe drawer, or a `RST_CMD` with the key and `OP` 2 from
drawer 0 or the drawer itself, discards the drawer's attestation requests, loads and waiting grants and leaves its own
domain C registers at their reset values and no MSI-X bit pending; R52: `PERST_N` low resets the link and every
presented drawer; a `RST_CMD` with a wrong key or `OP` is refused; R61, R110: the drawer is released once its units have
reached their boundaries, no scrub runs and `PERST_N` is not low; before that its bit stays. -/
def Obligations.LevelCResetClearsTheDrawer : Prop :=
  (∀ (s : State) (c : Instr) (d : Drawer), unreleased s = false →
    (c = .functionLevelReset (some d) ∧ isPcie s d.val = true ∧ drawerEnabled s d.val = true ∨
      ∃ (e : Drawer) (v : Word), c = .swDrawerReset e v ∧ takesWrite s e.val R.rstCmd = true ∧
        v.toNat / 2 ^ 16 = 0xC1A7 ∧ v.toNat / 16 % 16 = 2 ∧ v.toNat % 16 = d.val ∧ (e = 0 ∨ e = d)) →
    Completes c s fun t =>
      t.att.queue = s.att.queue.filter (fun r => r.drawer != d.val) ∧
      (∀ l ∈ t.jig.loads, l.drawer ≠ d.val) ∧ (∀ g ∈ t.pwr.waiting, g.drawer ≠ d.val) ∧
      (∀ k, selfDomainC d.val k = true → t.rd k = regDefault k) ∧
      (∀ v, v < 64 → (msixOf t d.val v).pba = false) ∧
      Agree [.free, .regs, .rst, .att, .ports, .queues, .jobs, .events, .out, .threads, .mem, .pwr, .ciph, .ncp, .stor, .radio,
        .ser, .held] s t) ∧
  (∀ s : State, unreleased s = false → Completes (.functionLevelReset none) s fun t =>
    t.pwr.pcie = 0 ∧ t.pwr.perstLow = true ∧
    ∀ d : Drawer, isPcie s d.val = true → drawerEnabled s d.val = true → ∀ r ∈ t.att.queue, r.drawer ≠ d.val) ∧
  (∀ (s : State) (x : DrawerEnd),
    let d := x.drawer
    let high := x.perstHigh
    drawerInReset s d.val = true →
    let out (t : State) : Prop := t.pwr = { s.pwr with perstLow := s.pwr.perstLow && !high } ∧
      KeepsAllRegs s t [R.rstStatus] ∧ Agree [.regs, .rst, .pwr, .stor] s t
    (unitBusyFor s d.val = false → s.on F.ownStatusBusy = false → perstHolds s d.val high = false →
      Completes (.drawerResetRelease x) s fun t => out t ∧ drawerInReset t d.val = false ∧
        ∀ e : Drawer, e ≠ d → drawerInReset t e.val = drawerInReset s e.val) ∧
    (unitBusyFor s d.val = true ∨ s.on F.ownStatusBusy = true ∨ perstHolds s d.val high = true →
      Completes (.drawerResetRelease x) s fun t => out t ∧ drawerInReset t d.val = true)) ∧
  ∀ (s : State) (e : Drawer) (v : Word), takesWrite s e.val R.rstCmd = true →
    (v.toNat / 2 ^ 16 ≠ 0xC1A7 ∨ v.toNat / 16 % 16 = 0 ∨ 2 < v.toNat / 16 % 16 ∨
      (v.toNat / 16 % 16 = 1 ∧ e ≠ 0) ∨ (v.toNat / 16 % 16 = 2 ∧ e ≠ 0 ∧ v.toNat % 16 ≠ e.val)) →
    Completes (.swDrawerReset e v) s fun t =>
      t.get F.rstStatusCmdRefused = 1 ∧ KeepsAllRegs s t [R.rstStatus] ∧ OnlyRegs s t

/-- R66, R70, R72: the release runs once every source of level A or B has ended and the sample clock is good, and waits
otherwise; R91: the boot count rises by one, and sticks at its 48 bits; R89: the primary image runs if it passes every
check, else the secondary, else `FAILED` with the first check that failed; R87: a silent flash counts as a failure; R90:
a push is taken in `WAIT_PUSH` and `FAILED`, `STAGE` reads `LOADING` until the ROM has checked the image, which then
runs or leaves `WAIT_PUSH` with the check that failed; R72: the firmware makes `READY`; R463: a link that has not
trained boots under the failsafe image. -/
def Obligations.BootTakesTheFirstImageThatPasses : Prop :=
  ∀ s : State,
    let stage (t : State) (n k e : Nat) : Prop :=
      t.get F.bootStatusStage = n ∧ (n = 3 → t.get F.bootStatusImage = k) ∧ (n ≠ 3 → t.get F.bootStatusError = e)
    let lasts (l : List Src) : List Src := s.rst.asserted.filter fun x => x == .por || !l.contains x
    (∀ l a, unreleased s = true → lasts l = [] → (s.rst.dHeld.any fun h => h.1 == 3) = false →
      Completes (.resetRelease l a) s fun t =>
        t.rst = { s.rst with asserted := [], latched := [], seq := 4, sel2 := a.sel2, sel3 := a.sel3, extest := false } ∧
        (s.rst.level = .b → (∀ n, n < 26 → t.rd (R.optStage0 + 4 * n) = s.rd (R.optActive0 + 4 * n)) ∧
          Agree [.regs, .rst] s t)) ∧
    (∀ l a, unreleased s = true → (lasts l ≠ [] ∨ (s.rst.dHeld.any fun h => h.1 == 3) = true) →
      Completes (.resetRelease l a) s fun t => unreleased t = true ∧ t.rst.asserted = lasts l) ∧
    (s.rst.seq = 7 → s.rst.romTry = 0 → bootCount s.opt < 2 ^ 48 → ∀ f m, Completes (.keeperRomBoot f m) s fun t =>
      bootCount t.opt = min (bootCount s.opt + 1) (2 ^ 48 - 1) ∧ Agree [.regs, .opt, .rst, .events, .out, .held] s t ∧
      (s.on F.optActive0BootSrc = true → t.get F.bootStatusStage = 2) ∧
      (s.on F.optActive0BootSrc = false →
        (f.prim = none → t.rst = { s.rst with romTry := 1 }) ∧
        (∀ i, f.prim = some i → imageError s i = 0 → stage t 3 1 0 ∧ t.rst.svn = imgFwSvn i) ∧
        (∀ i, f.prim = some i → imageError s i ≠ 0 → f.sec = none → t.rst = { s.rst with romTry := 2 }) ∧
        (∀ i j, f.prim = some i → f.sec = some j → imageError s i ≠ 0 →
          (imageError s j = 0 → stage t 3 2 0 ∧ t.rst.svn = imgFwSvn j) ∧
          (imageError s j ≠ 0 → stage t 5 0 (imageError s j))))) ∧
    (∀ q, s.rst.romTry = 2 → Completes (.flashTimeout q) s fun t => stage t 5 0 6 ∧ KeepsAllRegs s t [R.bootStatus]) ∧
    (s.rst.romTry = 1 → Completes (.flashTimeout none) s fun t =>
      t.get F.bootStatusError = 6 ∧ t.rst = { s.rst with romTry := 2 } ∧ KeepsAllRegs s t [R.bootStatus]) ∧
    (s.get F.bootStatusStage = 3 → Completes .firmwareBringup s fun t =>
      t.get F.bootStatusStage = 4 ∧ t.rst = { s.rst with seq := 9 } ∧ Agree [.free, .regs, .rst] s t) ∧
    (s.rst.seq = 4 → s.get F.tnlStatusState = 0 → Completes .linkDownBoot s fun t =>
      t.get F.bootStatusLinkDown = 1 ∧ t.rst.seq = 7 ∧ t.get F.radioStatusAbsent = 1 ∧
      activeWords t = failsafeImage s.opt.floor ∧ Agree [.regs, .rst] s t) ∧
    (∀ d v be, takesWrite s d.val R.bootPush = true →
      (be = 0#4 → Completes (.bootPush d v be) s fun t => t = s) ∧
      (be ≠ 0#4 → s.get F.bootStatusStage = 2 ∨ s.get F.bootStatusStage = 5 → Completes (.bootPush d v be) s fun t =>
        t.get F.bootStatusStage = 1 ∧ t.rst = { s.rst with romTry := 3 } ∧ KeepsAllRegs s t [R.bootStatus] ∧
        Agree [.regs, .rst] s t) ∧
      (s.get F.bootStatusStage ≠ 2 → s.get F.bootStatusStage ≠ 5 → Completes (.bootPush d v be) s fun t => t = s)) ∧
    (s.rst.romTry = 3 → ∀ f m, Completes (.keeperRomBoot f m) s fun t =>
      let i := pushedImage s m
      (imageError s i = 0 → stage t 3 3 0 ∧ t.rst.svn = imgFwSvn i) ∧
      (imageError s i ≠ 0 → stage t 2 0 (imageError s i) ∧ t.rst = { s.rst with romTry := 0 }) ∧
      Agree [.regs, .rst, .events, .out, .held] s t)

/-- R83: a staging write returns the commit to `IDLE`, unless a copy is being written, and `DISCARD` takes the active
image back; R84: `PREPARE` gives `READY`, the image prepared and its CRC, or the lowest reason that holds; R85: `COMMIT`
needs `READY` and the staged CRC, writes the copy chosen first, then the other, and ends `DONE` with the staging words
locked, or `WRITE_FAIL` with the bad copy invalid and the copy not reached as it was; R86: after `DONE` staging writes,
`PREPARE` and `DISCARD` do nothing, and while a copy is being written `PREPARE`, `COMMIT` and `DISCARD` do nothing. -/
def Obligations.OptionStoreCommitsCopyByCopy : Prop :=
  ∀ (s : State) (d : Drawer) (v : Word) (be : BitVec 4) (n : Fin 26),
    let st (t : State) : Nat := t.get F.optStatusState
    let key := R.optStage0 + 4 * n.val
    let c := s.rst.prepared
    let a := s.rst.commitFirst
    let writesCmd (op : Nat) : Prop := takesWrite s d.val R.optCmd = true ∧ v.toNat % 16 = op
    let l := stagedWords s
    (takesWrite s d.val key = true →
      (s.rst.stageLocked = false → Completes (.optStageWrite d n v be) s fun t =>
        t.rd key = beMerge (s.rd key) v be ∧ st t = (if st s = 2 then 2 else 0) ∧
        KeepsAllRegs s t [key, R.optStatus] ∧ OnlyRegs s t) ∧
      (s.rst.stageLocked = true → Completes (.optStageWrite d n v be) s fun t => t = s)) ∧
    (writesCmd 1 → optOpen s = true →
      (prepareReason s l = 0 → Completes (.prepare d v) s fun t =>
        st t = 1 ∧ t.get F.optStatusStageCrc = (Config.optCrc32 l (commitGen s)).toNat % 2 ^ 16 ∧
        t.rst = { s.rst with prepared := ⟨true, commitGen s, l⟩ } ∧ KeepsAllRegs s t [R.optStatus] ∧
        Agree [.free, .regs, .rst] s t) ∧
      (prepareReason s l ≠ 0 → Completes (.prepare d v) s fun t =>
        st t = 4 ∧ t.get F.optStatusReason = prepareReason s l ∧ KeepsAllRegs s t [R.optStatus] ∧ OnlyRegs s t)) ∧
    (writesCmd 1 → optOpen s = false → Completes (.prepare d v) s fun t => t = s) ∧
    (writesCmd 2 → st s = 2 → Completes (.commit d v) s fun t => t = s) ∧
    (writesCmd 2 → st s ≠ 2 →
      (st s = 1 → v.toNat / 2 ^ 16 = s.get F.optStatusStageCrc → Completes (.commit d v) s fun t =>
        st t = 2 ∧ t.rst.commitFirst = firstCopy s.opt ∧ KeepsAllRegs s t [R.optStatus] ∧ t.opt = s.opt) ∧
      (st s ≠ 1 ∨ v.toNat / 2 ^ 16 ≠ s.get F.optStatusStageCrc → Completes (.commit d v) s fun t =>
        st t = 4 ∧ t.get F.optStatusReason = 10 ∧ KeepsAllRegs s t [R.optStatus] ∧ OnlyRegs s t)) ∧
    (st s = 2 → a < 2 →
      Completes (.commitWriteDone true true) s (fun t => st t = 3 ∧ t.rst.stageLocked = true ∧
        optCopy t.opt 0 = c ∧ optCopy t.opt 1 = c ∧ KeepsAllRegs s t [R.optStatus] ∧ t.opt.mfgRow = s.opt.mfgRow) ∧
      (∀ b, Completes (.commitWriteDone false b) s fun t => st t = 5 ∧ (optCopy t.opt a).valid = false ∧
        optCopy t.opt (1 - a) = optCopy s.opt (1 - a) ∧ KeepsAllRegs s t [R.optStatus]) ∧
      Completes (.commitWriteDone true false) s fun t => st t = 5 ∧ optCopy t.opt a = c ∧
        (optCopy t.opt (1 - a)).valid = false ∧ KeepsAllRegs s t [R.optStatus]) ∧
    (writesCmd 3 → optOpen s = true → Completes (.discard d v) s fun t =>
      st t = 0 ∧ (∀ i, i < 26 → t.rd (R.optStage0 + 4 * i) = s.rd (R.optActive0 + 4 * i)) ∧ OnlyRegs s t) ∧
    (writesCmd 3 → optOpen s = false → Completes (.discard d v) s fun t => t = s)

/-- R94: a `REQUEST` latches nonce and destination behind the earlier ones and shows `PENDING`, or is refused with
`BUSY`, `DEST` or the reason of a boot count at its limit; R95: the oldest is served in the stages that admit it, with
the values of that moment; R96: the report and its signature, by the identity key the option store selects, are written
to the drawer's `BULK` and `ATT_DONE` is counted, or a mismatch of the cores refuses it and writes nothing. -/
def Obligations.AttestationServesRequestsInOrder : Prop :=
  (∀ (s : State) (d : Drawer) (v : Word), takesWrite s d.val R.attCmd = true → v.getLsbD 0 = true →
    let dest := 64 * s.get (fldOf d.val F.attDestOffset)
    let held := s.att.queue.any fun r => r.drawer == d.val
    let shows (t : State) (st rs : Nat) : Prop := t.get (fldOf d.val F.attStatusState) = st ∧
      t.get (fldOf d.val F.attStatusReason) = rs ∧ KeepsAllRegs s t [selfKey d.val R.attStatus]
    (held = true → Completes (.attRequest d v) s fun t => shows t 3 1 ∧ OnlyRegs s t) ∧
    (held = false → 2 ^ 26 < dest + 592 → Completes (.attRequest d v) s fun t => shows t 3 2 ∧ OnlyRegs s t) ∧
    (held = false → dest + 592 ≤ 2 ^ 26 → bootCount s.opt = 2 ^ 48 - 1 →
      Completes (.attRequest d v) s fun t => shows t 3 3 ∧ OnlyRegs s t) ∧
    (held = false → dest + 592 ≤ 2 ^ 26 → bootCount s.opt ≠ 2 ^ 48 - 1 → Completes (.attRequest d v) s fun t =>
      shows t 1 0 ∧ Agree [.regs, .att] s t ∧ t.att.report = s.att.report ∧
      t.att.queue = s.att.queue ++ [⟨d.val, (List.range 8).map fun n => s.rd (selfKey d.val (R.attNonce n)), dest⟩])) ∧
  (∀ (s : State) (r : AttReq) (l : List AttReq), s.att.queue = r :: l → s.att.report = none →
    s.get F.bootStatusStage ∈ [2, 4, 5] → Completes .attServiceStart s fun t =>
      t = { s with att := { s.att with report := some (reportBytes s r) } }) ∧
  ∀ (s : State) (r : AttReq) (l : List AttReq) (b : List Byte), s.att.queue = r :: l → s.att.report = some b →
    r.drawer < 4 →
    let sig := signDigest 48 (innerKey s (s.get F.optActive0AttKeySel)) (curveHash 48 b)
    Completes (.attDone true) s (Counted (280 + r.drawer) fun u =>
      u.att = ⟨l, none⟩ ∧ u.get (fldOf r.drawer F.attStatusState) = 2 ∧
      u.fab.bulk = (wrBulkL s r.drawer r.dest (b ++ sig)).fab.bulk ∧
      KeepsAllRegs s u [selfKey r.drawer R.attStatus] ∧ Agree [.regs, .att, .bulk] s u) ∧
    Completes (.attDone false) s fun t =>
      t.att = ⟨l, none⟩ ∧ t.get (fldOf r.drawer F.attStatusState) = 3 ∧
      t.get (fldOf r.drawer F.attStatusReason) = 4 ∧ KeepsAllRegs s t [selfKey r.drawer R.attStatus] ∧
      Agree [.regs, .att] s t

/-! ### Greune: the ALU (R135, R138, R166, R167, R168) -/

/-- R135: a write of a general register reads back and leaves the others alone; `g0` reads zero and a write to it
is ignored; a time register reads what was written to it. -/
def Obligations.RegisterZeroIgnoresWrites : Prop :=
  ∀ (x : Thread) (v : Word) (u : Time),
    (∀ q, gReg (setG x 0#4 v) q = gReg x q) ∧ gReg x 0#4 = 0#32 ∧
    (∀ r q, r ≠ 0#4 → gReg (setG x r v) q = if q = r then v else gReg x q) ∧
    ∀ k j, tReg (setT x k u) j = if j = k then u else tReg x j

/-- R168: the eleven register forms. Each writes its result to rd, but `CMP`, and the flags `Z`, `N` and `C`; the
program counter moves on, the prefix latch is empty and nothing else of the block changes. -/
def Obligations.AluRegisterFormsWriteResultAndFlags : Prop :=
  ∀ (s : State) (th : Fin 32) (rd ra rb : BitVec 4),
    let n := th.val
    let x := s.thr n
    let a := gReg x ra
    let b := gReg x rb
    let k := b.toNat % 32
    let w (op : AluOp) : Prop := fetch s n = .word (.alu op rd ra rb)
    (w .add → Completes (.addR th) s
      (ThreadNow n (x.computed rd (BitVec.ofNat 32 (a.toNat + b.toNat)) (decide (2 ^ 32 ≤ a.toNat + b.toNat)) 1) s)) ∧
    (w .sub → Completes (.subR th) s
      (ThreadNow n (x.computed rd (BitVec.ofInt 32 (a.toNat - b.toNat)) (decide (a.toNat < b.toNat)) 1) s)) ∧
    (w .and → Completes (.andR th) s (ThreadNow n (x.computed rd (a &&& b) false 1) s)) ∧
    (w .or → Completes (.orR th) s (ThreadNow n (x.computed rd (a ||| b) false 1) s)) ∧
    (w .xor → Completes (.xorR th) s (ThreadNow n (x.computed rd (a ^^^ b) false 1) s)) ∧
    (w .shl → Completes (.shlR th) s
      (ThreadNow n (x.computed rd (BitVec.ofNat 32 (a.toNat * 2 ^ k)) (decide (a.toNat * 2 ^ k / 2 ^ 32 % 2 = 1)) 1) s)) ∧
    (w .shr → Completes (.shrR th) s
      (ThreadNow n (x.computed rd (BitVec.ofNat 32 (a.toNat / 2 ^ k)) (decide (2 * a.toNat / 2 ^ k % 2 = 1 ∧ 0 < k)) 1) s)) ∧
    (w .sra → Completes (.sraR th) s
      (ThreadNow n (x.computed rd (BitVec.ofInt 32 (a.toInt / 2 ^ k)) (decide (2 * a.toNat / 2 ^ k % 2 = 1 ∧ 0 < k)) 1) s)) ∧
    (w .mul → Completes (.mulR th) s
      (ThreadNow n (x.computed rd (BitVec.ofNat 32 (a.toNat * b.toNat)) (decide (2 ^ 32 ≤ a.toNat * b.toNat)) 2) s)) ∧
    (w .mulh → Completes (.mulhR th) s
      (ThreadNow n (x.computed rd (BitVec.ofNat 32 (a.toNat * b.toNat / 2 ^ 32)) false 2) s)) ∧
    (w .cmp → Completes (.cmpR th) s
      (ThreadNow n { x.moved 1 with
        flags := x.flags.after (BitVec.ofInt 32 (a.toNat - b.toNat)) (decide (a.toNat < b.toNat)) } s))

/-- R166 to R168: the immediate forms take imm16 extended by its sign (`ADDI`, `SUBI`, `MOVI`) or by zeros, or after
a `PFX` the latch × 65,536 + imm16; shifts take bits [4:0]; `MOVI` writes no flag; `PFX` sets the latch. -/
def Obligations.AluImmediateFormsExtendOrTakePrefix : Prop :=
  ∀ (s : State) (th : Fin 32) (rd ra : BitVec 4) (imm : BitVec 16),
    let n := th.val
    let x := s.thr n
    let a := gReg x ra
    let prefixed (v : Word) : Word := (x.pfx.map fun h => BitVec.ofNat 32 (h * 65536 + imm.toNat)).getD v
    let b := prefixed (BitVec.ofNat 32 imm.toNat)
    let bs := prefixed (BitVec.ofInt 32 imm.toInt)
    let k := imm.toNat % 32
    let w (op : AluOp) : Prop := fetch s n = .word (.alui op rd ra imm)
    (w .add → Completes (.addi th) s
      (ThreadNow n (x.computed rd (BitVec.ofNat 32 (a.toNat + bs.toNat)) (decide (2 ^ 32 ≤ a.toNat + bs.toNat)) 1) s)) ∧
    (w .sub → Completes (.subi th) s
      (ThreadNow n (x.computed rd (BitVec.ofInt 32 (a.toNat - bs.toNat)) (decide (a.toNat < bs.toNat)) 1) s)) ∧
    (w .and → Completes (.andi th) s (ThreadNow n (x.computed rd (a &&& b) false 1) s)) ∧
    (w .or → Completes (.ori th) s (ThreadNow n (x.computed rd (a ||| b) false 1) s)) ∧
    (w .xor → Completes (.xori th) s (ThreadNow n (x.computed rd (a ^^^ b) false 1) s)) ∧
    (w .shl → Completes (.shli th) s
      (ThreadNow n (x.computed rd (BitVec.ofNat 32 (a.toNat * 2 ^ k)) (decide (a.toNat * 2 ^ k / 2 ^ 32 % 2 = 1)) 1) s)) ∧
    (w .shr → Completes (.shri th) s
      (ThreadNow n (x.computed rd (BitVec.ofNat 32 (a.toNat / 2 ^ k)) (decide (2 * a.toNat / 2 ^ k % 2 = 1 ∧ 0 < k)) 1) s)) ∧
    (w .sra → Completes (.srai th) s
      (ThreadNow n (x.computed rd (BitVec.ofInt 32 (a.toInt / 2 ^ k)) (decide (2 * a.toNat / 2 ^ k % 2 = 1 ∧ 0 < k)) 1) s)) ∧
    (w .cmp → Completes (.cmpi th) s
      (ThreadNow n { x.moved 1 with
        flags := x.flags.after (BitVec.ofInt 32 (a.toNat - b.toNat)) (decide (a.toNat < b.toNat)) } s)) ∧
    (fetch s n = .word (.movi rd imm) → Completes (.movi th) s (ThreadNow n ((setG x rd bs).moved 1) s)) ∧
    (fetch s n = .word (.pfx imm) → Completes (.pfx th) s
      (ThreadNow n { x.moved 1 with pfx := some imm.toNat } s))

/-! ### Greune: data memory, branches, time (R137, R139, R142, R143, R169 to R174) -/

/-- R169: `LD`, `LDH`, `LDB` and `TLD` read 4, 2, 1 and 8 bytes, least significant first; outside the windows they
fault with `FENCE`, before alignment is judged; misaligned with `ALIGN`; on an uncorrectable word with `POISON`. -/
def Obligations.LoadsReadBytesOrFault : Prop :=
  ∀ (s : State) (th : Fin 32) (rd ra : BitVec 4) (tk : BitVec 2) (imm : BitVec 16),
    let n := th.val
    let x := s.thr n
    let a := ((gReg x ra).toNat + imm.toNat) % 2 ^ 32
    let b (i : Nat) := ldByte s n (a + i)
    let reads (k : Nat) : Prop := ∀ i, i < k → inDwin x (a + i) = true ∨ inStat n (a + i) = true
    let clean (k : Nat) : Prop := inStat n a = false → dmemBad s (n / 4) a k = false
    let ok (k : Nat) : Prop := reads k ∧ a % k = 0 ∧ clean k
    (fetch s n = .word (.load 2#2 rd ra imm) → ok 4 →
      Completes (.ld th) s (ThreadNow n ((setG x rd (b 3 ++ b 2 ++ b 1 ++ b 0)).moved 2) s)) ∧
    (fetch s n = .word (.load 1#2 rd ra imm) → ok 2 →
      Completes (.ldh th) s (ThreadNow n ((setG x rd ((b 1 ++ b 0).setWidth 32)).moved 2) s)) ∧
    (fetch s n = .word (.load 0#2 rd ra imm) → ok 1 →
      Completes (.ldb th) s (ThreadNow n ((setG x rd ((b 0).setWidth 32)).moved 2) s)) ∧
    (fetch s n = .word (.tld tk ra imm) → ok 8 →
      Completes (.tld th) s
        (ThreadNow n ((setT x tk (b 7 ++ b 6 ++ b 5 ++ b 4 ++ b 3 ++ b 2 ++ b 1 ++ b 0)).moved 2) s)) ∧
    ∀ (c : Instr) (i : GInstr) (k : Nat),
      (c = .ld th ∧ i = .load 2#2 rd ra imm ∧ k = 4 ∨ c = .ldh th ∧ i = .load 1#2 rd ra imm ∧ k = 2 ∨
        c = .ldb th ∧ i = .load 0#2 rd ra imm ∧ k = 1 ∨ c = .tld th ∧ i = .tld tk ra imm ∧ k = 8) →
      fetch s n = .word i →
      (¬ reads k → Completes c s (Faulted n 2 (some a) s)) ∧
      (reads k → a % k ≠ 0 → Completes c s (Faulted n 7 (some a) s)) ∧
      (reads k → a % k = 0 → ¬ clean k → Completes c s (Faulted n 4 none s))

/-- R169: `ST`, `STH`, `STB` and `TST` write the low 4, 2 or 1 bytes of rd, or the 8 of a time register, and no
other byte; a store that is not all inside the data window faults with `FENCE` (one to a status area too, R137), a
misaligned one with `ALIGN`. -/
def Obligations.StoresWriteTheirBytesOrFault : Prop :=
  ∀ (s : State) (th : Fin 32) (c : Instr) (i : GInstr) (ra : BitVec 4) (imm : BitVec 16) (v k : Nat),
    let n := th.val
    let x := s.thr n
    let a := ((gReg x ra).toNat + imm.toNat) % 2 ^ 32
    let place (core a : Nat) : Nat := 16384 * core + a
    ((∃ rd, c = .st th ∧ i = .store 2#2 rd ra imm ∧ v = (gReg x rd).toNat ∧ k = 4) ∨
      (∃ rd, c = .sth th ∧ i = .store 1#2 rd ra imm ∧ v = (gReg x rd).toNat ∧ k = 2) ∨
      (∃ rd, c = .stb th ∧ i = .store 0#2 rd ra imm ∧ v = (gReg x rd).toNat ∧ k = 1) ∨
      ∃ tk, c = .tst th ∧ i = .tst tk ra imm ∧ v = (tReg x tk).toNat ∧ k = 8) →
    fetch s n = .word i →
    ((∀ j, j < k → inDwin x (a + j) = true) → a % k = 0 → Completes c s fun t =>
      ThreadWith [.mem] n (x.moved 1) s t ∧
      (∀ core a', place (n / 4) a ≤ place core a' → place core a' < place (n / 4) a + k →
        dmemByte t core a' = BitVec.ofNat 8 (v / 256 ^ (place core a' - place (n / 4) a))) ∧
      (∀ core a', ¬ (place (n / 4) a ≤ place core a' ∧ place core a' < place (n / 4) a + k) →
        dmemByte t core a' = dmemByte s core a') ∧
      t.jig = { s.jig with threads := t.jig.threads, dmem := t.jig.dmem }) ∧
    (¬ (∀ j, j < k → inDwin x (a + j) = true) → Completes c s (Faulted n 2 (some a) s)) ∧
    ((∀ j, j < k → inDwin x (a + j) = true) → a % k ≠ 0 → Completes c s (Faulted n 7 (some a) s))

/-- R171, R172: `BR` and `BRR` go to their target when the condition holds, else move on; `CALL` and `CALLR` push
the index of the following instruction, `RET` pops it; a full or empty stack faults with `STACK`, a register target
outside the instruction window with `FENCE`; no branch writes a flag. -/
def Obligations.BranchesFollowConditionsAndStack : Prop :=
  ∀ (s : State) (th : Fin 32) (cond ra : BitVec 4) (tgt : BitVec 13),
    let n := th.val
    let x := s.thr n
    let f := x.flags
    let holds : Prop := [true, f.z, !f.z, f.n, !f.n, f.c, !f.c, f.late, f.fail, f.miss, f.deny, !f.late, !f.fail,
      !f.miss, !f.deny].getD cond.toNat false = true
    let r := (gReg x ra).toNat % 8192
    let inside : Prop := x.ibase ≤ r ∧ r < x.ibase + x.ilen
    let jumpTo (y : Thread) (p cost : Nat) : Thread := { y with pc := p, pfx := none, cost := cost }
    let pushed : Thread := { x with stack := (x.pc + 1) :: x.stack }
    (fetch s n = .word (.br cond tgt) →
      (holds → Completes (.br th) s (ThreadNow n (jumpTo x tgt.toNat 2) s)) ∧
      (¬ holds → Completes (.br th) s (ThreadNow n (x.moved 1) s))) ∧
    (fetch s n = .word (.brr cond ra) →
      (holds → inside → Completes (.brr th) s (ThreadNow n (jumpTo x r 3) s)) ∧
      (holds → ¬ inside → Completes (.brr th) s (Faulted n 2 (some r) s)) ∧
      (¬ holds → Completes (.brr th) s (ThreadNow n (x.moved 1) s))) ∧
    (fetch s n = .word (.call tgt) →
      (x.stack.length < 8 → Completes (.call th) s (ThreadNow n (jumpTo pushed tgt.toNat 2) s)) ∧
      (8 ≤ x.stack.length → Completes (.call th) s (Faulted n 5 none s))) ∧
    (fetch s n = .word (.callr ra) →
      (x.stack.length < 8 → inside → Completes (.callr th) s (ThreadNow n (jumpTo pushed r 3) s)) ∧
      (x.stack.length < 8 → ¬ inside → Completes (.callr th) s (Faulted n 2 (some r) s)) ∧
      (8 ≤ x.stack.length → Completes (.callr th) s (Faulted n 5 none s))) ∧
    (fetch s n = .word .ret →
      (∀ p rest, x.stack = p :: rest → Completes (.ret th) s (ThreadNow n { jumpTo x p 2 with stack := rest } s)) ∧
      (x.stack = [] → Completes (.ret th) s (Faulted n 5 none s)))

/-- R143: `AT`, `AFTER` and `AFTERI` wait for a target later than the timebase copy; for one that has come they
continue at once with `LATE` set, how late recorded and counted. R142: the wait ends at its target, in `RUN`, with
`WAKE_TIME` written; time passes to it. -/
def Obligations.TimeWaitsEndAtTheirTarget : Prop :=
  ∀ (s : State) (th : Fin 32),
    let n := th.val
    let x := s.thr n
    let now := s.tbCopy.toNat
    (∀ (c : Instr) (i : GInstr) (target : Time),
      ((∃ tk, c = .atTime th ∧ i = .atTime tk ∧ target = tReg x tk) ∨
        (∃ ra, c = .after th ∧ i = .after ra ∧ target = BitVec.ofNat 64 (now + usSteps (gReg x ra).toNat)) ∨
        ∃ imm : BitVec 16, c = .afteri th ∧ i = .afteri imm ∧
          target = BitVec.ofNat 64 (now + usSteps
            ((x.pfx.map fun h => (h * 65536 + imm.toNat) % 2 ^ 32).getD imm.toNat))) →
      fetch s n = .word i →
      (now < target.toNat → Completes c s (ThreadNow n
        { x with state := .waitTime, wait := .time target, cost := 2, pfx := none, flags := { x.flags with late := false } } s)) ∧
      (target.toNat ≤ now → Completes c s fun t =>
        ThreadWith [.regs] n { x.moved 2 with
          flags := { x.flags with late := true },
          lateNs := min (2 ^ 32 - 1) ((now - target.toNat) * 10 ^ 9 / 2 ^ 32) } s t ∧
        (t.rd (R.jtLateCnt n)).toNat = min (2 ^ 32 - 1) ((s.rd (R.jtLateCnt n)).toNat + 1) ∧
        KeepsAllRegs s t [R.jtLateCnt n])) ∧
    ∀ target, x.state = .waitTime → x.wait = .time target → coreNaps s (n / 4) = false →
      Completes (.timeWaitEnd th) s fun t =>
        ThreadWith [.time, .copy] n
          { x with state := .run, wait := .none, pc := x.pc + 1, wakeTime := t.tbCopy, runAt := t.tbCopy } s t ∧
        t.tbCopy.toNat = max s.tbCopy.toNat target.toNat ∧ t.tb.toNat = max s.tb.toNat target.toNat

/-- R173, R174: `TGET` reads the timebase copy; `TADD` adds a signed interval rounded to the nearest step, ties away
from zero, and saturates at both ends of the 64 bits, which is its `C`; `TPACK` and `TPART` join and split the
seconds and the fraction; `TSUB` writes a difference in whole units, at most half a unit from the exact one, or
saturates with `C` at the ends of 32 signed bits. -/
def Obligations.TimeArithmeticRoundsAndSaturates : Prop :=
  ∀ (s : State) (th : Fin 32) (tk ta u : BitVec 2) (r1 r2 : BitVec 4),
    let n := th.val
    let x := s.thr n
    let per : Nat := [10 ^ 9, 10 ^ 6, 10 ^ 3, 1].getD u.toNat 1
    (fetch s n = .word (.tget tk) → Completes (.tget th) s (ThreadNow n ((setT x tk s.tbCopy).moved 1) s)) ∧
    (fetch s n = .word (.tpack tk r1 r2) → Completes (.tpack th) s
      (ThreadNow n ((setT x tk (BitVec.ofNat 64 ((gReg x r1).toNat * 2 ^ 32 + (gReg x r2).toNat))).moved 1) s)) ∧
    (∀ hi, fetch s n = .word (.tpart r1 ta hi) → Completes (.tpart th) s (ThreadNow n ((setG x r1
      (BitVec.ofNat 32 (if hi = true then (tReg x ta).toNat / 2 ^ 32 else (tReg x ta).toNat % 2 ^ 32))).moved 1) s)) ∧
    (fetch s n = .word (.tadd tk ta r1 u) →
      let g := (gReg x r1).toInt
      let mag : Nat := (g.natAbs * 2 ^ 32 * 2 + per) / (2 * per)
      let sum : Int := (tReg x ta).toNat + (if g < 0 then -(mag : Int) else mag)
      Completes (.tadd th) s (ThreadNow n { (setT x tk
        (if sum < 0 then 0#64 else if 2 ^ 64 ≤ sum then BitVec.allOnes 64 else BitVec.ofInt 64 sum)).moved 2 with
        flags := { x.flags with c := decide (sum < 0 ∨ 2 ^ 64 ≤ sum) } } s)) ∧
    (fetch s n = .word (.tsub r1 ta tk u) →
      ∃ (v : Int) (d : Word) (c : Bool),
        (2 * (v * 2 ^ 32 - ((tReg x ta).toNat - (tReg x tk).toNat) * per)).natAbs ≤ 2 ^ 32 ∧
        d.toInt = max (-2 ^ 31) (min (2 ^ 31 - 1) v) ∧ c = decide (v < -2 ^ 31 ∨ 2 ^ 31 - 1 < v) ∧
        Completes (.tsub th) s (ThreadNow n (x.computed r1 d c 2) s))

/-! ### Greune words and the fetch (R137, R155, R156, R163, R164) -/

/-- Decoding the word of any well-formed Greune instruction gives that instruction, with every operand at every
value that the encoding admits. -/
def Obligations.GreuneWordsDecodeToTheirInstruction : Prop :=
  ∀ i : GInstr, gWf i = true → gDecode (gEncode i) = some i

/-- Whatever word decodes gives a well-formed instruction, so the field rules of chapter 6 hold of everything a
thread runs; and that instruction's own word decodes to it again, so no two instructions share a word. -/
def Obligations.DecodedWordsAreWellFormed : Prop :=
  (∀ (w : BitVec 32) (i : GInstr), gDecode w = some i → gWf i = true) ∧
  ∀ i j : GInstr, gWf i = true → gWf j = true → gEncode i = gEncode j → i = j

/-- Words written out from the formats of R163 and the opcodes of R164, one or more of each format. -/
def Obligations.SampleWordsDecode : Prop :=
  -- FR: opcode 0x00, rd 1, ra 2, rb 3, fn 0 and fn 10
  gDecode 0b000000_0001_0010_0011_0000000000_0000#32 = some (.alu .add 1#4 2#4 3#4) ∧
  gDecode 0b000000_0000_0010_0011_0000000000_1010#32 = some (.alu .cmp 0#4 2#4 3#4) ∧
  -- fn 11 is unassigned; a reserved bit set
  gDecode 0b000000_0001_0010_0011_0000000000_1011#32 = none ∧
  gDecode 0b000000_0001_0010_0011_0000000001_0000#32 = none ∧
  -- FI: ADDI 0x01, LD 0x10
  gDecode 0b000001_0101_0110_00_1111111111111110#32 = some (.alui .add 5#4 6#4 0xFFFE#16) ∧
  gDecode 0b010000_0101_0110_00_0000000000001000#32 = some (.load 2#2 5#4 6#4 8#16) ∧
  -- FB: BR 0x18 with cond 1; cond 15 is unassigned
  gDecode 0b011000_0001_0000_00000_0000000010000#32 = some (.br 1#4 16#13) ∧
  gDecode 0b011000_1111_0000_00000_0000000010000#32 = none ∧
  -- FT: TGET 0x24 into t2
  gDecode 0b100100_10_00_0000_0000_00_0_00000000000#32 = some (.tget 2#2)

/-! ### Greune: fetch, thread commands, signals (R137, R142, R148, R156, R158, R162, R193 to R196) -/

/-- R137, R142, R156: for every command that issues an instruction, a thread that is not in `RUN`, or whose core is
held in reset or rests, issues nothing; a program counter outside the instruction window faults the thread with
`FENCE`, an uncorrectable instruction word with `POISON`, and a word that does not decode with `ILLEGAL`. -/
def Obligations.FetchOutsideWindowOrUndecodableFaults : Prop :=
  ∀ (s : State) (c : Instr) (th : Fin 32), issuer c = some th →
    let n := th.val
    let x := s.thr n
    let free : Prop := x.state = .run ∧ coreHeld s (n / 4) = false ∧ coreNaps s (n / 4) = false
    let inside : Prop := x.ibase ≤ x.pc ∧ x.pc < x.ibase + x.ilen
    (¬ free → Completes c s fun t => t = s) ∧
    (free → ¬ inside → Completes c s (FaultedFrom x n 2 (some x.pc) s)) ∧
    (free → inside → imemBad s (n / 4) x.pc = true → Completes c s (FaultedFrom x n 4 none s)) ∧
    (free → inside → imemBad s (n / 4) x.pc = false → gDecode (imemWord s (n / 4) x.pc) = none →
      Completes c s (FaultedFrom x n 3 none s))

/-- R142: `START` of a loaded `IDLE` thread, or of one in `HALT` or `FAULT`, runs it from its entry with general and
time registers, flags and wake bits zero and the watchdog restarted; `STOP` ends any state but `IDLE` in `IDLE`,
cancels frames and windows that wait for their instant, leaves those begun, releases the thread's pins and keeps the
program; `RESUME` of a `HALT` goes on after it; otherwise `CMD_REFUSED` is set and nothing else changes. -/
def Obligations.ThreadCommandsFollowTheirTable : Prop :=
  ∀ (s : State) (d : Drawer) (th : Fin 32) (v : Word), takesWrite s d.val (R.jtCtl th.val) = true →
    let n := th.val
    let x := s.thr n
    let kept (y : Thread) : Prop :=
      y.ibase = x.ibase ∧ y.ilen = x.ilen ∧ y.dbase = x.dbase ∧ y.dlen = x.dlen
    let refused (c : Instr) : Prop := Completes c s fun t =>
      t.get (F.jtStatCmdRefused n) = 1 ∧ OnlyRegs s t ∧ KeepsAllRegs s t [R.jtStat n]
    (v.toNat % 4 = 1 → (x.state = .idle ∧ 0 < x.ilen ∨ x.state = .halt ∨ x.state = .fault) →
      Completes (.start d th v) s fun t => ∃ y, ThreadWith [.regs, .ncp] n y s t ∧
        y.state = .run ∧ y.pc = s.get (F.jtEntryEntry n) ∧ (∀ r, gReg y r = 0#32) ∧ (∀ k, tReg y k = 0#64) ∧
        y.flags = Flags.zero ∧ y.wakeBits = 0 ∧ y.wait = .none ∧ y.wdogAt = s.tbCopy ∧ y.acts = x.acts ∧ kept y ∧
        (x.state ≠ .fault → Agree [.threads] s t)) ∧
    (v.toNat % 4 = 1 → ¬ (x.state = .idle ∧ 0 < x.ilen ∨ x.state = .halt ∨ x.state = .fault) →
      refused (.start d th v)) ∧
    (v.toNat % 4 = 2 → x.state ≠ .idle →
      Completes (.stop d th v) s fun t =>
        (t.thr n).state = .idle ∧ (t.thr n).wait = .none ∧ kept (t.thr n) ∧ (∀ m, m ≠ n → t.thr m = s.thr m) ∧
        (∀ k, k < 4 → let a := s.act n k
          (isPending a = true → a.stage = .waiting → a.body ≠ .none → (∀ c, a.body ≠ .cyp c) →
            t.act n k = { a with status := 5, cause := 0, info := infoOf a, stage := .none }) ∧
          (isPending a = false ∨ (a.stage ≠ .waiting ∧ a.stage ≠ .queued) → t.act n k = a)) ∧
        t.ncp.pins = s.ncp.pins.filter (fun p => p.2 != n) ∧
        Agree [.free, .regs, .events, .out, .threads, .pwr, .ncp, .radio, .held] s t) ∧
    (v.toNat % 4 = 2 → x.state = .idle → refused (.stop d th v)) ∧
    (v.toNat % 4 = 3 → x.state = .halt →
      Completes (.resume d th v) s (ThreadNow n { x with state := .run, pc := x.pc + 1, runAt := s.tbCopy } s)) ∧
    (v.toNat % 4 = 3 → x.state ≠ .halt → refused (.resume d th v))

/-- R193 to R196: `HALT` enters `HALT` at its own index; `TRAP` faults with its immediate; `YIELD` restarts the
watchdog count; `EVT` counts an occurrence on a program source of its core; `SIG` sets a wake bit of a thread of
the same drawer, and none of one in `IDLE`; a resource of another drawer faults with `OWNERSHIP`. -/
def Obligations.SystemInstructionsDoAsListed : Prop :=
  ∀ (s : State) (th : Fin 32),
    let n := th.val
    let x := s.thr n
    (fetch s n = .word .halt → Completes (.halt th) s
      (ThreadNow n { x with state := .halt, cost := 1, pfx := none } s)) ∧
    (∀ imm, fetch s n = .word (.trap imm) → Completes (.trap th) s (Faulted n 6 (some imm.toNat) s)) ∧
    (fetch s n = .word .yield → Completes (.yield th) s
      (ThreadNow n { x.moved 1 with wdogAt := s.tbCopy } s)) ∧
    (∀ i : BitVec 2, fetch s n = .word (.evt i) →
      (ownsEvt s n i.toNat = true → Completes (.evt th) s fun t =>
        ∃ u, t = done n 1 (occur u (112 + 5 * (n / 4) + i.toNat)) ∧ ThreadNow n { x with pfx := none } s u) ∧
      (ownsEvt s n i.toNat = false → Completes (.evt th) s (Faulted n 1 (some (112 + 5 * (n / 4) + i.toNat)) s))) ∧
    ∀ (rt : BitVec 4) (b : BitVec 3), fetch s n = .word (.sig rt b) →
      let m := (gReg x rt).toNat % 32
      (ownsThread s n m = true → m ≠ n → Completes (.sig th) s fun t =>
        t.thr n = x.moved 2 ∧ Agree [.threads] s t ∧
        t.thr m = (if (s.thr m).state = .idle then s.thr m
          else { s.thr m with wakeBits := (s.thr m).wakeBits ||| 2 ^ b.toNat }) ∧
        ∀ k, k ≠ n → k ≠ m → t.thr k = s.thr k) ∧
      (ownsThread s n m = true → m = n → Completes (.sig th) s
        (ThreadNow n { x.moved 2 with wakeBits := x.wakeBits ||| 2 ^ b.toNat } s)) ∧
      (ownsThread s n m = false → Completes (.sig th) s (Faulted n 1 (some m) s))

/-- R195, R148: `WSIG` with a masked wake bit set, or a deadline that has come (bit 12), goes on at once, records the
bits in `WAKE_BITS` and clears the masked ones, so that a bit 12 that is not masked stays set; otherwise it waits; a
wait ends by a masked bit, or at its deadline, to which time passes. -/
def Obligations.WaitForSignalEndsByBitOrDeadline : Prop :=
  ∀ (s : State) (th : Fin 32) (rm : BitVec 4) (dl : Bool) (tk : BitVec 2),
    let n := th.val
    let x := s.thr n
    let mask := (gReg x rm).toNat % 65536
    let limit : Option Time := if dl = true then some (tReg x tk) else none
    let came : Prop := dl = true ∧ (tReg x tk).toNat ≤ s.tbCopy.toNat
    let taken (m got bits : Nat) : Thread :=
      { x with endBits := got, wakeBits := bits &&& (65535 ^^^ (m &&& 65535)) }
    (fetch s n = .word (.wsig rm dl tk) →
      (came → Completes (.wsig th) s
        (ThreadNow n ((taken mask ((x.wakeBits &&& mask) ||| 2 ^ 12) (x.wakeBits ||| 2 ^ 12)).moved 1) s)) ∧
      (¬ came → x.wakeBits &&& mask ≠ 0 → Completes (.wsig th) s
        (ThreadNow n ((taken mask (x.wakeBits &&& mask) x.wakeBits).moved 1) s)) ∧
      (¬ came → x.wakeBits &&& mask = 0 → Completes (.wsig th) s
        (ThreadNow n { x with state := .waitEvent, wait := .sig mask limit, cost := 1, pfx := none } s))) ∧
    ∀ (m : Nat) (until? : Option Time), coreNaps s (n / 4) = false → x.wait = .sig m until? →
      (x.wakeBits &&& m ≠ 0 → Completes (.wakeEvent th) s (ThreadNow n { taken m (x.wakeBits &&& m) x.wakeBits with
        state := .run, wait := .none, pc := x.pc + 1, wakeTime := s.tbCopy, runAt := s.tbCopy } s)) ∧
      (x.wakeBits &&& m = 0 → Completes (.wakeEvent th) s fun t => t = s) ∧
      ∀ u, until? = some u → Completes (.wsigDeadline th) s fun t =>
        ThreadWith [.time, .copy] n { taken m ((x.wakeBits &&& m) ||| 2 ^ 12) (x.wakeBits ||| 2 ^ 12) with
          state := .run, wait := .none, pc := x.pc + 1, wakeTime := t.tbCopy, runAt := t.tbCopy } s t ∧
        t.tbCopy.toNat = max s.tbCopy.toNat u.toNat

/-! ### Entrances: register accesses and the QSPI ports (R7 to R9, R98 to R103, R489 to R491) -/

/-- R489: at a `CTL` or `QWIN` offset that no register occupies (in a queue slot those that R114 lists, in `QWIN` the
MSI-X structures) every drawer reads zero and nothing changes, a write changes nothing, and so neither is a violation;
this holds from 0x1B_0000 on and in the reserved ranges of `QWIN`, and a read on a QSPI port shows the zeros. -/
def Obligations.UnoccupiedOffsetsReadZero : Prop :=
  (∀ off, 0x1B0000 ≤ off → off < 0x800000 → findRow off = none) ∧
  ∀ (s : State) (d : Drawer) (ap : Aperture) (off : Nat), off % 4 = 0 →
    (ap = .ctl ∧ off < 2 ^ 23 ∧ findRow off = none ∨
      ap = .qwin ∧ off < 2 ^ 16 ∧
        (off < 0x4000 →
          0x1C ≤ off % 256 ∧ off % 256 < 0x20 ∨ 0x24 ≤ off % 256 ∧ off % 256 < 0x40 ∨ 0x80 ≤ off % 256) ∧
        ¬ (0x8000 ≤ off ∧ off < 0x8400) ∧ ¬ (0x9000 ≤ off ∧ off < 0x9008)) →
    (∀ v be, Completes (.registerWrite d ap off v be) s fun t => t = s) ∧
    readWord d.val ap off s = (s, 0#32) ∧
    ∀ (p : Fin 2) (a : Word), d.val = 2 + p.val → portLive s p.val = true →
      a.toNat = off + (if ap = .ctl then 0 else 2 ^ 30) →
      Completes (.qspiRead p ⟨0x61#8, a⟩ 4) s fun t => t = s.emit (.qspi p.val [0#8, 0#8, 0#8, 0#8])

/-- R7 to R9, R493: a write that the filter takes gives a register of the list, bit by bit, the written value where
the bit is RW and its byte enabled, zero where it is W1C and written one, and leaves the other bits and all else
unchanged; R102: a write to staging memory stores its enabled bytes and changes no other byte. -/
def Obligations.RegisterWritesFollowAccessTypes : Prop :=
  (∀ (s : State) (d : Drawer) (off : Nat) (rw w1c v : Word) (be : BitVec 4),
    ((∃ n : Fin 64, off = R.queueWm n.val ∧ rw = 0x9FFF1FFF#32 ∧ w1c = 0#32) ∨
      (∃ n : Fin 64, off = R.queueStat n.val ∧ rw = 0#32 ∧ w1c = 0x1C#32) ∨
      (∃ n : Fin 32, off = R.jtWdog n.val ∧ rw = 0xFFFFFFFF#32 ∧ w1c = 0#32) ∨
      (∃ n : Fin 8, off = R.attNonce n.val ∧ rw = 0xFFFFFFFF#32 ∧ w1c = 0#32) ∨
      (∃ n : Fin 4, off = R.uartCause n.val ∧ rw = 0xFF0000#32 ∧ w1c = 0xFF#32) ∨
      (∃ n : Fin 4, off = R.chkInit n.val ∧ rw = 0xFFFFFFFF#32 ∧ w1c = 0#32) ∨
      (off = R.resetCause ∧ rw = 0#32 ∧ w1c = 0xFF1FFFF#32) ∨
      (off = R.fabricCause ∧ rw = 0#32 ∧ w1c = 7#32) ∨
      (off = R.storCfg ∧ rw = 0x7FFFFF#32 ∧ w1c = 0#32)) →
    takesWrite s d.val off = true →
    let k := if ∃ n : Fin 8, off = R.attNonce n.val then selfKey d.val off else off
    Completes (.registerWrite d .ctl off v be) s fun t =>
      (∀ b, b < 32 → (t.rd k).getLsbD b =
        if be.getLsbD (b / 8) = false then (s.rd k).getLsbD b
        else if rw.getLsbD b = true then v.getLsbD b
        else (s.rd k).getLsbD b && !(w1c.getLsbD b && v.getLsbD b)) ∧
      KeepsAllRegs s t [k] ∧ OnlyRegs s t) ∧
  ∀ (s : State) (d : Drawer) (off : Nat) (v : Word) (be : BitVec 4), reachesBulk s d.val = true →
    Completes (.registerWrite d .bulk off v be) s fun t =>
      (∀ i : Fin 4, rdBulk t d.val (off + i.val) =
        if be.getLsbD i.val = true then v.extractLsb' (8 * i.val) 8 else rdBulk s d.val (off + i.val)) ∧
      (∀ (e : Drawer) (a : Nat),
        (∀ i : Fin 4, be.getLsbD i.val = true → bulkKey s e.val a ≠ bulkKey s d.val (off + i.val)) →
        rdBulk t e.val a = rdBulk s e.val a) ∧
      Agree [.bulk] s t

/-- R98 to R100, of a port that serves its drawer: a `WRITE` posts its whole words in order, or is dropped whole when
more than 192 bytes are held; a posted word acts as a write of the drawer, in order; `STATUS` returns the three bits
and clears `WRITE_DROPPED`; a read of staging memory drives its bytes; a read of a queue's read port takes its pop
only with the sixteenth byte; a read that timed out has no effect; a command that
is none of the three leaves the lines undriven and changes nothing. -/
def Obligations.QspiPortsPostAndRead : Prop :=
  ∀ (s : State) (p : Fin 2), portLive s p.val = true →
    let q := qport s p.val
    let others (t : State) : Prop := (∀ r : Fin 2, r ≠ p → qport t r.val = qport s r.val) ∧ t.fab.queues = s.fab.queues
    (∀ a l, 192 < 4 * q.buf.length → Completes (.qspiWrite p ⟨0x62#8, a⟩ l) s fun t =>
      qport t p.val = { q with dropped := true } ∧ others t ∧ Agree [.ports] s t) ∧
    (∀ a l, 4 * q.buf.length ≤ 192 → Completes (.qspiWrite p ⟨0x62#8, a⟩ l) s fun t =>
      qport t p.val = { q with buf := q.buf ++ (List.range (l.length / 4)).map fun i =>
        ⟨a.toNat / 2 ^ 30, a.toNat % 2 ^ 30 + 4 * i, BitVec.ofNat 32 (leNat ((l.drop (4 * i)).take 4))⟩ } ∧
      others t ∧ Agree [.ports] s t) ∧
    (∀ w rest ap off, q.buf = w :: rest → qspiTarget w.sel w.off = some (ap, off) →
      ∃ u, qport u p.val = { q with buf := rest } ∧ Agree [.ports] s u ∧
        Completes (.qspiPostedWriteApply p) s fun t =>
          exec (.registerWrite ⟨2 + p.val, by omega⟩ ap off w.word 15#4) u = .next t) ∧
    (q.buf = [] → Completes (.qspiPostedWriteApply p) s fun t => t = s) ∧
    (∀ w rest, q.buf = w :: rest → qspiTarget w.sel w.off = none → Completes (.qspiPostedWriteApply p) s fun t =>
      qport t p.val = { q with buf := rest } ∧ Agree [.ports] s t) ∧
    (Completes (.qspiStatus p) s fun t =>
      qport t p.val = { q with dropped := false } ∧ others t ∧ Agree [.ports, .out] s t ∧
      t.fab.out = .qspi p.val [BitVec.ofNat 8 (b2n (!q.buf.isEmpty) + 2 * b2n q.dropped + 4 * b2n (stageReady s))] ::
        s.fab.out) ∧
    (∀ (a : Word) (n : Nat), a.toNat / 2 ^ 30 = 2 → a.toNat % 4 = 0 → reachesBulk s (2 + p.val) = true →
      bulkPoisoned s (2 + p.val) (a.toNat % 2 ^ 26) (4 * ceilDiv n 4) = false →
      Completes (.qspiRead p ⟨0x61#8, a⟩ n) s fun t => t = s.emit (.qspi p.val (rdBulkN s (2 + p.val) (a.toNat % 2 ^ 26) n))) ∧
    (∀ (a : Word) (n : Fin 64) (bytes : Nat), a.toNat = 2 ^ 30 + 256 * n.val → takesSlot s (2 + p.val) n.val = true →
      s.on (F.queueCfgDir n.val) = false → ((popQueue n.val s).queue n.val).last.poison = false →
      let shown := leBytes 16 ((popQueue n.val s).queue n.val).last.word.toNat
      (1 ≤ bytes → bytes < 16 → Completes (.qspiRead p ⟨0x61#8, a⟩ bytes) s fun t =>
        t = s.emit (.qspi p.val (shown.take bytes))) ∧
      Completes (.qspiRead p ⟨0x61#8, a⟩ 16) s fun t => t = (popQueue n.val s).emit (.qspi p.val shown)) ∧
    (∀ a, Completes (.qspiReadTimeout p a) s fun t => t = s.emit (.qspiTimeout p.val)) ∧
    ∀ (cmd : Byte) (a : Word) (l : List Byte) (n : Nat), cmd ≠ 0x61#8 → cmd ≠ 0x62#8 → cmd ≠ 0x65#8 →
      ∀ c : Instr, c = .qspiRead p ⟨cmd, a⟩ n ∨ c = .qspiWrite p ⟨cmd, a⟩ l →
        Completes c s fun t => t = s.emit (.qspiHiZ p.val)

/-! ### Shelf queues (R112 to R128) -/

/-- R113: an enable is refused with the lowest reason of its check, or puts the queue in service in a new epoch with
its credit sequence at zero; R126: a disable discards a host-to-device queue's descriptors, whose words return as
credit, and every entry of a device-to-host one, whose jobs complete nowhere; R191: threads that wait in `DEQ` on it
go on; a completion queue that an enabled queue names as its pair is not disabled. -/
def Obligations.QueuesEnterAndLeaveService : Prop :=
  ∀ (s : State) (d : Drawer) (m : Fin 64) (v : Word) (be : BitVec 4), takesWrite s d.val (R.queueCfg m.val) = true →
    be.getLsbD 0 = true →
    let n := m.val
    let q := s.queue n
    let u := s.wr (R.queueCfg n) ((beMerge (s.rd (R.queueCfg n)) v be &&& 0xFFFE#32) ||| (s.rd (R.queueCfg n) &&& 1#32))
    let paired : Prop := s.get (F.queueCfgEndpoint n) = 6 ∧ ∃ k, k < 64 ∧ queueOn s k = true ∧
      s.on (F.queueCfgDir k) = true ∧ 1 ≤ s.get (F.queueCfgEndpoint k) ∧ s.get (F.queueCfgEndpoint k) ≤ 4 ∧
      s.get (F.queueCfgPair k) = n
    let refused (r : Nat) (t : State) : Prop := queueOn t n = queueOn s n ∧ t.get (F.queueStatEnableRefused n) = 1 ∧
      t.get (F.queueStatRefuseReason n) = r ∧ OnlyRegs s t ∧ KeepsAllRegs u t [R.queueStat n]
    (v.getLsbD 0 = true → queueOn s n = false →
      (enableReason u n ≠ 0 → Completes (.queueEnable d m v be) s (refused (enableReason u n))) ∧
      (enableReason u n = 0 → Completes (.queueEnable d m v be) s fun t =>
        queueOn t n = true ∧ t.get (F.queueStatActive n) = 1 ∧
        t.get (F.queueEpochEpoch n) = (s.get (F.queueEpochEpoch n) + 1) % 16 ∧
        t.queue n = { q with creditRet := 0, last := ⟨0#128, false⟩, lastStatus := 0#32 } ∧ OtherQueues n s t ∧
        Agree [.regs, .queues] s t ∧ KeepsAllRegs u t [R.queueCfg n, R.queueStat n, R.queueEpoch n])) ∧
    (v.getLsbD 0 = true → queueOn s n = true → Completes (.queueEnable d m v be) s fun t => t = s) ∧
    (v.getLsbD 0 = false → queueOn s n = true →
      (paired → Completes (.queueDisable d m v be) s fun t => t.get (F.queueStatEnableRefused n) = 1 ∧
        t.get (F.queueStatRefuseReason n) = 6 ∧ OnlyRegs s t ∧ KeepsAllRegs s t [R.queueStat n]) ∧
      (¬ paired → Completes (.queueDisable d m v be) s fun t =>
        let w := sumNat (q.sub.map fun h => h.words.length)
        queueOn t n = false ∧ t.get (F.queueStatActive n) = 0 ∧ OtherQueues n s t ∧
        (s.on (F.queueCfgDir n) = true → t.fab.jobs = s.fab.jobs ∧
          t.queue n = { q with sub := [], creditRet := if w = 0 then q.creditRet else (q.creditRet + w) % 65536 } ∧
          (t.rd (R.queueDropCnt n)).toNat = min ((s.rd (R.queueDropCnt n)).toNat + q.sub.length) (2 ^ 32 - 1)) ∧
        (s.on (F.queueCfgDir n) = false → t.queue n = { q with chain := [], ring := [], reserved := 0 } ∧
          t.fab.jobs = s.fab.jobs.map fun j => if j.pair = n then { j with pair := 64 } else j) ∧
        (∀ k, k < 32 → (∃ g x y, (s.thr k).wait = .deq n g x y) →
          (t.thr k).state = .run ∧ (t.thr k).wait = .none ∧ (t.thr k).pc = (s.thr k).pc + 1 ∧
          (t.thr k).flags.fail = true ∧ (t.thr k).cause = 0x21) ∧
        (∀ k, (∀ g x y, (s.thr k).wait ≠ .deq n g x y) → t.thr k = s.thr k) ∧
        KeepsRegs s t [R.queueCfg n, R.queueStat n, R.queueCred n, R.queueDropCnt n, R.fabricCause]))

/-- R122: a read of the whole read port of an empty device-to-host queue pops nothing, drives the word last popped with
`VALID` 0, `UNDERRUN` 1 and that word's `POISON`, and increments `QUEUE_UNDER_CNT_n`; an enable that is taken leaves a
zero word to return. -/
def Obligations.EmptyQueueReadUnderruns : Prop :=
  ∀ (s : State) (d : Drawer) (m : Fin 64),
    let n := m.val
    let q := s.queue n
    (takesSlot s d.val n = true → s.on (F.queueCfgDir n) = false → q.chain = [] → q.ring = [] →
      Completes (.queuePop d m 0 19) s fun t => ∃ st : Word,
        (∃ rest, t.fab.out = .pop d.val n q.last.word st :: rest) ∧ st.getLsbD 0 = false ∧ st.getLsbD 1 = true ∧
        st.getLsbD 2 = q.last.poison ∧ t.queue n = { q with lastStatus := st } ∧ OtherQueues n s t ∧
        Bumped (R.queueUnderCnt n) s t ∧
        Agree [.regs, .queues, .events, .out, .held] s t) ∧
    ∀ v be, takesWrite s d.val (R.queueCfg n) = true → queueOn s n = false →
      Completes (.queueEnable d m v be) s fun t => queueOn t n = true → (t.queue n).last = ⟨0#128, false⟩

/-- R116: a doorbell submits the staged words when the credit allows, else drops them with `CREDIT_VIOL` and counts;
on a queue out of service it counts a drop; R121: a pop gives the front descriptor's next word and its status; R119,
R123: a unit takes the front descriptor of the next queue it serves, reserving one completion entry. -/
def Obligations.DoorbellsPopsAndTakes : Prop :=
  ∀ (s : State) (d : Drawer) (m : Fin 64) (v : Word),
    let n := m.val
    let q := s.queue n
    let w := (tabGet (fun _ => 0#32) q.stage 0).toNat % 4 + 1
    let used := s.get (F.queueCredOutstanding n)
    (takesSlot s d.val n = true →
      (s.on (F.queueCfgDir n) = false → Completes (.doorbell d m v) s fun t => t = s) ∧
      (s.on (F.queueCfgDir n) = true → queueOn s n = false → Completes (.doorbell d m v) s fun t =>
        Bumped (R.queueDropCnt n) s t ∧ OnlyRegsAndEvents s t ∧ KeepsRegs s t [R.queueDropCnt n, R.fabricCause]) ∧
      (s.on (F.queueCfgDir n) = true → queueOn s n = true → used + w ≤ s.get (F.queueCredCreditInit n) →
        Completes (.doorbell d m v) s fun t =>
          t.queue n = { q with sub := q.sub ++ [⟨(List.range w).map fun i => ⟨stageWord q i, false⟩,
            s.get (F.queueEpochEpoch n)⟩] } ∧
          t.get (F.queueCredOutstanding n) = (used + w) % 2 ^ 13 ∧
          t.get (F.queueStatLevel n) = queueLevel (t.queue n) % 2 ^ 13 ∧ OtherQueues n s t ∧
          Agree [.regs, .queues] s t ∧ KeepsAllRegs s t [R.queueCred n, R.queueStat n]) ∧
      (s.on (F.queueCfgDir n) = true → queueOn s n = true → s.get (F.queueCredCreditInit n) < used + w →
        Completes (.doorbell d m v) s (Counted (152 + n) fun u =>
          u.get (F.queueStatCreditViol n) = 1 ∧ Bumped (R.queueDropCnt n) s u ∧ OnlyRegsAndEvents s u ∧
          KeepsRegs s u [R.queueStat n, R.queueDropCnt n, R.fabricCause])) ∧
      (∀ (x : QDesc) (rest : List QDesc) (y : QWordP) (ys : List QWordP), s.on (F.queueCfgDir n) = false →
        q.chain = x :: rest → q.ring = [] → x.words = y :: ys → x.ready.toNat ≤ s.tbCopy.toNat → y.poison = false →
        Completes (.queuePop d m 0 19) s fun t => ∃ st : Word,
          t.queue n = { q with
            chain := if ys = [] then rest else { x with words := ys, popped := x.popped + 1 } :: rest
            last := y, lastStatus := st } ∧
          t.fab.out = .pop d.val n y.word st :: s.fab.out ∧ OtherQueues n s t ∧
          bitsOf st.toNat 2 0 = 1 ∧ bitsOf st.toNat 4 3 = x.prio % 4 ∧ bitsOf st.toNat 6 5 = x.popped % 4 ∧
          (st.getLsbD 7 = true ↔ ys = []) ∧ bitsOf st.toNat 11 8 = x.epoch % 16 ∧
          bitsOf st.toNat 28 16 = queueLevel (t.queue n) % 2 ^ 13 ∧
          Agree [.regs, .queues, .out] s t ∧ KeepsAllRegs s t [R.queueStat n])) ∧
    ∀ (un : QUnit) (h : HDesc) (rest : List HDesc), unitServes s un = true → servesNext s un = some n →
      q.sub = h :: rest → s.get (F.queueCfgPair n) ≠ n → (h.words.any fun y => y.poison) = false →
      Completes (.unitTake un) s fun t =>
        t.queue n = { q with sub := rest } ∧
        t.queue (s.get (F.queueCfgPair n)) = { s.queue (s.get (F.queueCfgPair n)) with
          reserved := (s.queue (s.get (F.queueCfgPair n))).reserved + 1 } ∧
        (∀ k, k ≠ n → k ≠ s.get (F.queueCfgPair n) → t.queue k = s.queue k) ∧
        (∃ j : Job, t.fab.jobs = s.fab.jobs ++ [j] ∧ j.id = s.fab.nextJob ∧ j.unit = un ∧ j.queue = n ∧
          j.pair = s.get (F.queueCfgPair n) ∧ j.words = h.words ∧ j.epoch = h.epoch ∧ j.phase = 0) ∧
        t.fab.nextJob = s.fab.nextJob + 1 ∧ Agree [.regs, .queues, .jobs] s t ∧ KeepsAllRegs s t [R.queueStat n]

/-! ### Ownership, events, errors found in memories, captures (R104 to R108, R129 to R134, R471 to R473, R491, R497) -/

/-- R106: a write that breaks a check leaves its register as it was and shows the lowest reason; R107: otherwise the
register takes the value; queues and threads whose effective owner changes are left empty and `IDLE`, an event source
without its pending bit and routing, and `BUSY` shows it until the scrub has ended; where no effective owner changes
nothing else does; R102: staging memory whose size changes reads zero, that of the other drawers is kept. -/
def Obligations.OwnershipWritesAreCheckedThenScrub : Prop :=
  (∀ (s : State) (off : Nat) (v : Word) (be : BitVec 4), takesWrite s 0 off = true → ownReg off = true →
    let old := s.rd off
    let merged := beMerge old v be
    let new := if off = R.ownNs1 then merged &&& 0x0FFFFFFF#32 else merged
    let r := ownReason s off old new
    let moved (k : Nat) : Prop := k < 8 ∧ entryOwner s old k ≠ entryOwner s new k
    (r ≠ 0 → Completes (.ownershipWrite 0 off v be) s (Counted 287 fun u =>
      u.rd off = old ∧ u.get F.ownStatusRefused = 1 ∧ u.get F.ownStatusReason = r ∧
      u.get F.fabricCauseOwnRefused = 1 ∧ KeepsAllRegs s u [R.ownStatus, R.fabricCause] ∧ OnlyRegs s u)) ∧
    (r = 0 → entryWord off = true → (∀ k, ¬ moved k) → Completes (.ownershipWrite 0 off v be) s fun t =>
      t = s.wr off new) ∧
    (r = 0 → (∃ n k, n < 8 ∧ off = R.ownQue n ∧ moved k) → Completes (.ownershipWrite 0 off v be) s fun t =>
      t.rd off = new ∧ t.on F.ownStatusBusy = true ∧
      ∀ n k, off = R.ownQue n → moved k → t.queue (8 * n + k) = Queue.empty ∧ queueOn t (8 * n + k) = false ∧
        t.rd (R.queueEpoch (8 * n + k)) = s.rd (R.queueEpoch (8 * n + k))) ∧
    (r = 0 → (∃ n k, n < 4 ∧ off = R.ownJig n ∧ moved k) → Completes (.ownershipWrite 0 off v be) s fun t =>
      t.rd off = new ∧ t.on F.ownStatusBusy = true ∧
      (∀ n k, off = R.ownJig n → moved k → (t.thr (8 * n + k)).state = .idle ∧ (t.thr (8 * n + k)).ilen = 0) ∧
      ∀ m, (∀ n k, off = R.ownJig n → moved k → m ≠ 8 * n + k) → t.thr m = s.thr m) ∧
    (r = 0 → off = R.ownBulk → Completes (.ownershipWrite 0 off v be) s fun t => t.rd off = new ∧
      (∀ d a, d < 4 → old.toNat / 256 ^ d % 8 ≠ new.toNat / 256 ^ d % 8 → rdBulk t d a = 0#8) ∧
      (∀ d a, d < 4 → old.toNat / 256 ^ d % 8 = new.toNat / 256 ^ d % 8 → rdBulk t d a = rdBulk s d a) ∧
      Agree [.regs, .bulk] s t ∧ KeepsAllRegs s t [off]) ∧
    ∀ n, n < 288 → r = 0 → off = 0x20008 + 16 * n → evtOwnerOf s old ≠ evtOwnerOf s new →
      Completes (.ownershipWrite 0 off v be) s fun t => t.rd off = new ∧ t.on F.ownStatusBusy = true ∧
        evtPending t n = false ∧ t.evt n = evtZero ∧ t.rd (R.evtRoute n) = regDefault (R.evtRoute n) ∧
        t.rd (R.evtTime n) = regDefault (R.evtTime n) ∧
        KeepsAllRegs s t [off, R.ownStatus, R.evtPend (n / 32), R.evtRoute n, R.evtTime n] ∧
        Agree [.regs, .events] s t) ∧
  ∀ s : State, Completes .scrubDone s fun t =>
    t.on F.ownStatusBusy = false ∧ KeepsAllRegs s t [R.ownStatus] ∧ OnlyRegs s t

/-- R130: a routing write takes its fields, and with `ENABLE` 0 clears the accumulator and timer; one that names a pin
the drawer does not own is discarded as a violation; R131, R132: at the end of its timer a source fires, with its
message or pending bit of the vector; a drawer clears pending bits of its own sources alone; unmasking sends what is
pending; R497: a write of the trace's configuration clears its records. -/
def Obligations.EventSourcesRouteAndFire : Prop :=
  ∀ (s : State) (d : Drawer) (v : Word) (be : BitVec 4),
    (∀ x : Fin 288, takesWrite s d.val (R.evtRoute x.val) = true →
      let k := R.evtRoute x.val
      let new := beMerge (s.rd k) v be
      let pinBad : Prop := new.getLsbD 9 = true ∧ ownerPin s (bitsOf new.toNat 8 6) ≠ some d.val
      (¬ pinBad → Completes (.evtRouteWrite d x v be) s fun t =>
        (∀ b, b < 32 → (t.rd k).getLsbD b =
          if (0xFF07FF#32).getLsbD b = true then new.getLsbD b else (s.rd k).getLsbD b) ∧
        KeepsAllRegs s t [k] ∧ Agree [.regs, .events] s t ∧ (∀ y, y ≠ x.val → t.evt y = s.evt y) ∧
        t.evt x.val = if new.getLsbD 10 = true then s.evt x.val else evtZero) ∧
      (pinBad → Completes (.evtRouteWrite d x v be) s (Counted 287 fun u =>
        u.rd k = s.rd k ∧ u.get (fldOf d.val F.drwSelfViol) = 1 ∧ Bumped (selfKey d.val R.violCnt) s u ∧
        u.get F.fabricCauseViolation = 1 ∧
        KeepsRegs s u [selfKey d.val R.drwSelf, selfKey d.val R.violCnt, R.violLog, R.fabricCause]))) ∧
    (∀ (x : Fin 288) (u : Time), (s.evt x.val).timer = some u → Completes (.eventTimerExpire x) s fun t =>
      evtPending t x.val = true ∧ t.evt x.val = evtZero ∧ (∀ y, y ≠ x.val → t.evt y = s.evt y) ∧
      t.tbCopy.toNat = max s.tbCopy.toNat u.toNat ∧ KeepsAllRegs s t [R.evtPend (x.val / 32)] ∧
      (ownerSource s x.val = none → t.fab.out = s.fab.out) ∧
      ∀ e, ownerSource s x.val = some e →
        let m := msixOf s e (s.get (F.evtRouteVector x.val))
        let live : Prop := isPcie s e = true ∧ bitAt (msixCtl s e) 1 = true
        (¬ live → t.fab.out = s.fab.out) ∧
        (live → m.masked = false → bitAt (msixCtl s e) 0 = false →
          t.fab.out = .msix e (s.get (F.evtRouteVector x.val)) (m.addrHi ++ m.addrLo) m.data :: s.fab.out) ∧
        (live → m.masked = true ∨ bitAt (msixCtl s e) 0 = true →
          t.fab.out = s.fab.out ∧ msixOf t e (s.get (F.evtRouteVector x.val)) = { m with pba := true })) ∧
    (∀ w : Fin 9, reachesAll s d.val = true → Completes (.evtPendClear d w v be) s fun t =>
      (∀ b, b < 32 → (t.rd (R.evtPend w.val)).getLsbD b =
        ((s.rd (R.evtPend w.val)).getLsbD b &&
          !(v.getLsbD b && be.getLsbD (b / 8) && decide (ownerSource s (32 * w.val + b) = some d.val)))) ∧
      KeepsAllRegs s t [R.evtPend w.val] ∧ OnlyRegs s t) ∧
    (∀ vec : Fin 64, isPcie s d.val = true → reachesAll s d.val = true →
      let m := msixOf s d.val vec.val
      Completes (.msixUnmask d vec) s fun t =>
        (m.pba = true ∧ bitAt (msixCtl s d.val) 1 = true ∧ bitAt (msixCtl s d.val) 0 = false →
          t.fab.out = .msix d.val vec.val (m.addrHi ++ m.addrLo) m.data :: s.fab.out ∧
          msixOf t d.val vec.val = { m with masked := false, pba := false }) ∧
        (¬ (m.pba = true ∧ bitAt (msixCtl s d.val) 1 = true ∧ bitAt (msixCtl s d.val) 0 = false) →
          t.fab.out = s.fab.out ∧ msixOf t d.val vec.val = { m with masked := false }) ∧
        (∀ e w, e < 4 → w < 64 → 64 * e + w ≠ 64 * d.val + vec.val → msixOf t e w = msixOf s e w) ∧
        Agree [.events, .out] s t) ∧
    (takesWrite s d.val R.dbgTraceCfg = true → Completes (.dbgTraceCfgWrite d v be) s fun t =>
      t.rd R.dbgTraceCfg = (s.rd R.dbgTraceCfg &&& 0xFFF00000#32) ||| (beMerge (s.rd R.dbgTraceCfg) v be &&& 0xFFFFF#32) ∧
      t.get F.dbgStatusNext = 0 ∧ t.on F.dbgStatusWrapped = false ∧ t.on F.dbgStatusStopped = false ∧
      (∀ r, r < 32 → (t.rd (R.dbgTrace (2 * r))).getLsbD 9 = false) ∧
      KeepsRegs s t [R.dbgTraceCfg] ∧ OnlyRegs s t)

/-- R471 to R473: a corrected word counts alone; an uncorrectable one counts, is logged and is marked where it lies, or
stops what the configuration it broke served; the errors of a pass are taken one by one.  R491: a capturing read gives
the value and latches its companion words for the reading drawer, and no other drawer's. -/
def Obligations.ErrorsAreMarkedAndReadsCapture : Prop :=
  (∀ s : State, Completes (.eccScrubPass []) s fun t => t = s) ∧
  (∀ (s : State) (h : EccHit) (l : List EccHit), l ≠ [] →
    ∃ t, exec (.eccScrubPass [h]) s = .next t ∧ exec (.eccScrubPass (h :: l)) s = exec (.eccScrubPass l) t) ∧
  (∀ (s : State) (h : EccHit), (s.rd (R.eccCorrCnt h.str.val)).toNat + 1 < 2 ^ 32 - 1 → h.uncorr = false →
    Completes (.eccScrubPass [h]) s fun t =>
      Bumped (R.eccCorrCnt h.str.val) s t ∧ KeepsAllRegs s t [R.eccCorrCnt h.str.val] ∧ OnlyRegs s t) ∧
  (∀ (s : State) (h : EccHit), (s.rd (R.eccUncorrCnt h.str.val)).toNat + 1 < 2 ^ 32 - 1 → h.uncorr = true →
    Completes (.eccScrubPass [h]) s fun t =>
      (∀ d off, h.loc = .bulk d off → tabGet (fun _ => false) t.fab.bulkPoison (bulkKey s d.val off / 16) = true ∧
        Bumped (R.eccUncorrCnt h.str.val) s t ∧ t.get F.eccLogStruct = h.str.val ∧
        t.get F.eccLogWord = h.word % 2 ^ 24 ∧ KeepsAllRegs s t [R.eccUncorrCnt h.str.val, R.eccLog] ∧
        t.fab.bulk = s.fab.bulk ∧ Agree [.regs, .bulk] s t) ∧
      (∀ c i, h.loc = .imem c i → imemBad t c.val i = true ∧ Agree [.regs, .mem] s t) ∧
      (∀ c a, h.loc = .dmem c a → dmemBad t c.val a 1 = true ∧ Agree [.regs, .mem] s t) ∧
      (∀ c w, h.loc = .ctx c w → (resident s c = true → ctxBad t c w = true) ∧ Agree [.regs, .ncp] s t) ∧
      (∀ n, h.loc = .queueCfg n → queueOn t n.val = false) ∧
      (∀ n, h.loc = .evtRoute n → t.on (F.evtRouteEnable n.val) = false) ∧
      (h.loc = .other → Agree [.regs] s t)) ∧
  ∀ (s : State) (d : Drawer) (r : CapReg), takesRead s d.val (capOff r) = true →
    Completes (.capturingRead d r) s fun t =>
      t.fab.out = .read d.val (capOff r) (found s d.val (capOff r)) :: s.fab.out ∧
      (∀ o ∈ companions (capOff r), capture t d.val o = found s d.val o) ∧
      (∀ e o, (e ≠ d.val ∨ o ∉ companions (capOff r)) → e < 4 → o < drawerStride → capture t e o = capture s e o) ∧
      Agree [.out, .caps] s t ∧
      (r = .tbSec → regsCut s = false →
        found s d.val (capOff r) = s.tb.extractLsb' 32 32 ∧ capture t d.val R.plmbTbFrac = s.tb.extractLsb' 0 32) ∧
      ∀ x : Fin 3, r = .zxTHi x → regsCut s = false →
        found s d.val (capOff r) = (trk s x.val).stamp.extractLsb' 32 32 ∧
        capture t d.val (R.zxTLo x.val) = (trk s x.val).stamp.extractLsb' 0 32 ∧
        capture t d.val (R.zxNum x.val) = BitVec.ofNat 32 (trk s x.val).num

/-! ### Greune: loading, contexts, queues (R92, R142, R146, R148, R153 to R155, R184, R185, R189 to R192) -/

/-- R154, R155: `LOAD` refuses a second load, a full measurement count, a bad header and a record outside the staging
memory; any other record is measured in the drawer's `MEAS` and refused with its first failed check, or is loading;
at its end the memories hold it, the threads it names are `IDLE` with its windows, and the status is `DONE`. -/
def Obligations.LoadRecordsAreCheckedMeasuredAndLoaded : Prop :=
  (∀ (s : State) (d : Drawer) (v : Word), takesWrite s d.val R.jigLoadCmd = true → v.getLsbD 0 = true →
    let off := 64 * s.get (fldOf d.val F.jigLoadSrcOffset)
    let h := rdBulkN s d.val off 64
    let shows (t : State) (st r : Nat) : Prop := t.get (fldOf d.val F.jigLoadStatusState) = st ∧
      t.get (fldOf d.val F.jigLoadStatusReason) = r
    let refused (r : Nat) : Prop := Completes (.jigLoad d v) s fun t =>
      shows t 3 r ∧ OnlyRegs s t ∧ KeepsAllRegs s t [selfKey d.val R.jigLoadStatus]
    let full : Prop := s.rd (R.measCnt (4 + d.val)) = 0xFFFFFFFF#32
    (loading s d.val = true → refused 11) ∧
    (loading s d.val = false → full → refused 10) ∧
    (loading s d.val = false → ¬ full → loadHdrOk h = false → refused 1) ∧
    (loading s d.val = false → ¬ full → loadHdrOk h = true → bulkSize s d.val < off + loadLen h → refused 12) ∧
    (loading s d.val = false → ¬ full → loadHdrOk h = true → off + loadLen h ≤ bulkSize s d.val →
      let l := loadRecord s d.val off h
      let m := digestBytes (Config.sha384 (measBytes s (4 + d.val) ++
        digestBytes (Config.sha384 (rdBulkN s d.val off (loadLen h)))))
      Completes (.jigLoad d v) s fun t =>
        measBytes t (4 + d.val) = m ∧
        (t.rd (R.measCnt (4 + d.val))).toNat = (s.rd (R.measCnt (4 + d.val))).toNat + 1 ∧
        (∀ r, loadRefusal s l = some r → shows t 3 (r.reason % 16) ∧ OnlyRegs s t) ∧
        (loadRefusal s l = none → shows t 1 0 ∧ Agree [.regs, .mem] s t ∧
          t.jig = { s.jig with loads := s.jig.loads ++ [l] }))) ∧
  ∀ (s : State) (d : Drawer) (l : Load), findFirst (fun x => x.drawer == d.val) s.jig.loads = some l →
    coreHeld s l.core = false → Completes (.jigLoadComplete d) s fun t =>
      (∀ i, i < l.imem.length → imemWord t l.core (l.imemBase + i) = l.imem.getD i 0#32) ∧
      (∀ i, i < l.dmem.length → dmemByte t l.core (l.dmemBase + i) = l.dmem.getD i 0#8) ∧
      (∀ n ∈ loadThreads l, (t.thr n).state = .idle ∧ (t.thr n).ibase = l.imemBase ∧
        (t.thr n).ilen = l.imem.length ∧ (t.thr n).dbase = l.dmemBase ∧ (t.thr n).dlen = l.dmem.length ∧
        t.get (F.jtEntryEntry n) = (l.imemBase + l.entry.getD (n % 4) 0) % 2 ^ 13 ∧
        t.rd (R.jtProg n 0) = l.prog0 ∧ t.rd (R.jtProg n 1) = l.prog1) ∧
      (∀ n, n ∉ loadThreads l → t.thr n = s.thr n) ∧
      t.get (fldOf d.val F.jigLoadStatusState) = 2 ∧ t.get (fldOf d.val F.jigLoadStatusReason) = 0 ∧
      t.jig.loads = dropFirst (fun x => x.drawer == d.val) s.jig.loads ∧
      Agree [.free, .regs, .events, .out, .threads, .mem, .pwr, .ncp, .radio, .held] s t

/-- R153, R184: a context of another drawer faults with `OWNERSHIP`; a hidden or unwritable word fails with its cause;
a resident record is read, written or pinned at once; R146: an absent one starts its fetch, and the no-wait form goes
on with `MISS`, the other waits; `PREF` never waits; `UNPIN` drops the pin; R142: the bound of a page wait fails it. -/
def Obligations.ContextInstructionsActOnRecords : Prop :=
  ∀ (s : State) (th : Fin 32) (rd rc : BitVec 4) (nw : Bool) (k : BitVec 9),
    let n := th.val
    let x := s.thr n
    let c := (gReg x rc).toNat % 16384
    let passed (y : Thread) : Thread := { y with flags := { y.flags with fail := false } }
    let failed (cause : Nat) (y : Thread) : Thread :=
      { y with flags := { y.flags with fail := true }, cause := cause, causeSlot := 0 }
    let missed (b : Bool) (y : Thread) : Thread := { y with flags := { y.flags with miss := b } }
    let noted (y : Thread) : Thread := if nw = true then missed false y else y
    let fetching (t : State) : Prop :=
      resident t c = true ∨ ctxDead t c = true ∨ ∃ m ∈ t.ncp.misses, m.ctx = c
    (∀ (a : Instr) (i : GInstr), ownsCtx s n c = false →
      (a = .ldn th ∧ i = .ldn rd rc false nw k ∨ a = .stn th ∧ i = .stn rd rc false k ∨ a = .pref th ∧ i = .pref rc ∨
        a = .pin th ∧ i = .pin rc nw ∨ a = .unpin th ∧ i = .unpin rc) → fetch s n = .word i →
      Completes a s (Faulted n 1 (some c) s)) ∧
    (ownsCtx s n c = true →
      (fetch s n = .word (.ldn rd rc false nw k) →
        (wordClass k.toNat = .h → Completes (.ldn th) s (ThreadNow n (noted ((failed 0x24 x).moved 4)) s)) ∧
        (wordClass k.toNat ≠ .h → resident s c = false → ctxDead s c = true → Completes (.ldn th) s
          (ThreadNow n (if nw = true then missed true ((failed 0x27 x).moved 4) else (failed 0x27 x).moved 4) s)) ∧
        (wordClass k.toNat ≠ .h → resident s c = true → ctxBad s c k.toNat = false → Completes (.ldn th) s fun t =>
          ThreadWith [.ncp] n (noted (passed ((setG x rd (ctxWord s c k.toNat)).moved 4))) s t ∧
          t.ncp.words = s.ncp.words) ∧
        (wordClass k.toNat ≠ .h → resident s c = true → ctxBad s c k.toNat = true → Completes (.ldn th) s
          (ThreadWith [.ncp] n (noted ((failed 0x26 x).moved 4)) s)) ∧
        (wordClass k.toNat ≠ .h → resident s c = false → ctxDead s c = false → Completes (.ldn th) s fun t =>
          fetching t ∧ (∀ m, m ≠ n → t.thr m = s.thr m) ∧
          (nw = true → t.thr n = missed true (passed (x.moved 4))) ∧
          (nw = false → (t.thr n).state = .waitPage ∧ (t.thr n).pc = x.pc ∧
            ∃ w u, (t.thr n).wait = .page c w u ∧ (s.get (F.jtWdogPageToUs n) = 0 ↔ u = none)))) ∧
      (fetch s n = .word (.stn rd rc false k) →
        (wordClass k.toNat ≠ .w → Completes (.stn th) s (ThreadNow n ((failed 0x25 x).moved 4) s)) ∧
        (resident s c = true → (64 ≤ k.toNat ∧ k.toNat < 160 ∨ 320 ≤ k.toNat ∨ 288 ≤ k.toNat ∧ k.toNat < 304) →
          Completes (.stn th) s fun t => ThreadWith [.ncp] n (passed (x.moved 4)) s t ∧
            ctxWord t c k.toNat = (if 288 ≤ k.toNat ∧ k.toNat < 304 then 0#32 else gReg x rd) ∧
            ∀ d j, d < 16384 → j < 512 → (d ≠ c ∨ j ≠ k.toNat) → ctxWord t d j = ctxWord s d j)) ∧
      (fetch s n = .word (.ldn rd rc true nw k) → wordClass k.toNat ≠ .h → wordClass (k.toNat + 1) ≠ .h →
        resident s c = true → ctxBad s c k.toNat = false → ctxBad s c (k.toNat + 1) = false →
        Completes (.ldn th) s (ThreadWith [.ncp] n (noted (passed
          ((setT x (rd.setWidth 2) (ctxWord s c (k.toNat + 1) ++ ctxWord s c k.toNat)).moved 4))) s)) ∧
      (fetch s n = .word (.stn rd rc true k) → resident s c = true → 320 ≤ k.toNat → k.toNat < 511 →
        Completes (.stn th) s fun t => ThreadWith [.ncp] n (passed (x.moved 4)) s t ∧
          ctxWord t c k.toNat = (tReg x (rd.setWidth 2)).extractLsb' 0 32 ∧
          ctxWord t c (k.toNat + 1) = (tReg x (rd.setWidth 2)).extractLsb' 32 32 ∧
          ∀ d j, d < 16384 → j < 512 → (d ≠ c ∨ j ≠ k.toNat ∧ j ≠ k.toNat + 1) → ctxWord t d j = ctxWord s d j) ∧
      (fetch s n = .word (.pref rc) →
        (resident s c = true → Completes (.pref th) s (ThreadWith [.ncp] n (missed false (x.moved 2)) s)) ∧
        (resident s c = false → Completes (.pref th) s fun t => fetching t ∧ t.thr n = missed true (x.moved 2) ∧
          ∀ m, m ≠ n → t.thr m = s.thr m)) ∧
      (fetch s n = .word (.pin rc nw) → resident s c = true →
        (((c, n) ∈ s.ncp.pins ∨ s.ncp.pins.length < 512) → Completes (.pin th) s fun t =>
          ThreadWith [.ncp, .regs] n (noted (passed (x.moved 4))) s t ∧ (c, n) ∈ t.ncp.pins ∧
          (∀ p ∈ s.ncp.pins, p ∈ t.ncp.pins) ∧ KeepsAllRegs s t [R.ncpStatus]) ∧
        ((c, n) ∉ s.ncp.pins → 512 ≤ s.ncp.pins.length → Completes (.pin th) s fun t =>
          ThreadWith [.ncp] n (noted ((failed 0x0B x).moved 4)) s t ∧ t.ncp.pins = s.ncp.pins)) ∧
      (fetch s n = .word (.unpin rc) → Completes (.unpin th) s fun t =>
        ThreadWith [.ncp, .regs] n (x.moved 2) s t ∧ t.ncp.pins = s.ncp.pins.filter (fun p => p != (c, n)) ∧
        KeepsAllRegs s t [R.ncpStatus])) ∧
    ∀ e w (u : Time), x.wait = .page e w (some u) → Completes (.pageTimeout th) s fun t =>
      ThreadWith [.time, .copy] n { failed 0x04 x with
        state := .run, wait := .none, pc := x.pc + 1, wakeTime := t.tbCopy, runAt := t.tbCopy } s t ∧
      t.tbCopy.toNat = max s.tbCopy.toNat u.toNat

/-- R190: `ENQ` writes the descriptor at its address to a device-to-host queue in service with room, else fails with
its cause; R191: `DEQ` takes the front descriptor, returns its credits and gives word 0's bits [63:32], with a copy in
memory on request; on an empty queue it sets `MISS` or waits until `WAKE_EVENT` finds a descriptor; R192: a poisoned
one fails with `ENTRY_POISON`; R175: a queue of another drawer faults with `OWNERSHIP`. -/
def Obligations.QueueInstructionsMoveDescriptors : Prop :=
  ∀ (s : State) (th : Fin 32) (k6 : BitVec 6) (qr : Bool) (ra rq rd : BitVec 4) (doff : BitVec 11) (nw mem : Bool),
    let n := th.val
    let x := s.thr n
    let q := if qr = true then (gReg x rq).toNat % 64 else k6.toNat
    let a := ((gReg x ra).toNat + 16 * doff.toNat) % 2 ^ 32
    let w := (ldByte s n a).toNat % 4 + 1
    let here : Prop := (∀ i, i < 16 * w → inDwin x (a + i) = true) ∧ a % 16 = 0 ∧ dmemBad s (n / 4) a (16 * w) = false ∧
      dmemBad s (n / 4) a 16 = false
    let passed (y : Thread) : Thread := { y with flags := { y.flags with fail := false } }
    let failed (cause : Nat) (y : Thread) : Thread :=
      { y with flags := { y.flags with fail := true }, cause := cause, causeSlot := 0 }
    let missed (b : Bool) (y : Thread) : Thread := { y with flags := { y.flags with miss := b } }
    let noted (y : Thread) : Thread := if nw = true then missed false y else y
    let only (t : State) (y : Thread) : Prop := t.thr n = y ∧ ∀ m, m ≠ n → t.thr m = s.thr m
    let b := (gReg x ra).toNat
    let took (h : HDesc) (rest : List HDesc) (t : State) : Prop :=
      t.queue q = { s.queue q with sub := rest, creditRet := ((s.queue q).creditRet + h.words.length) % 65536 } ∧
      t.get (F.queueCredOutstanding q) = (s.get (F.queueCredOutstanding q) - h.words.length) % 2 ^ 13 ∧
      OtherQueues q s t ∧
      (mem = false → t.jig = { s.jig with threads := t.jig.threads }) ∧
      (mem = true → ∀ i j, i < h.words.length → j < 16 → dmemByte t (n / 4) (b + (16 * i + j)) =
        BitVec.ofNat 8 (((h.words.map QWordP.word).getD i 0#128).toNat / 256 ^ j))
    (fetch s n = .word (.enq k6 qr ra rq doff) →
      (ownsQueue s n q = false → Completes (.enq th) s (Faulted n 1 (some q) s)) ∧
      (ownsQueue s n q = true → here →
        (s.on (F.queueCfgDir q) = true → Completes (.enq th) s
          (ThreadNow n ((failed 0x22 x).moved (2 + w)) s)) ∧
        (s.on (F.queueCfgDir q) = false → queueOn s q = false → Completes (.enq th) s fun t =>
          only t ((failed 0x21 x).moved (2 + w)) ∧ Bumped (R.queueDropCnt q) s t ∧ t.fab.queues = s.fab.queues) ∧
        (s.on (F.queueCfgDir q) = false → queueOn s q = true → queueRoom s q < w → Completes (.enq th) s fun t =>
          only t ((failed 0x20 x).moved (2 + w)) ∧ Bumped (R.queueDropCnt q) s t ∧ t.fab.queues = s.fab.queues) ∧
        (s.on (F.queueCfgDir q) = false → queueOn s q = true → w ≤ queueRoom s q → Completes (.enq th) s fun t =>
          only t (passed (x.moved (2 + w))) ∧ queueLevel (t.queue q) = queueLevel (s.queue q) + w ∧
          OtherQueues q s t ∧ KeepsRegs s t [R.queueStat q] ∧
          (queueLevel (s.queue q) = 0 → (s.queue q).chain = [] → (s.queue q).ring = [] →
            ∃ y : QDesc, (t.queue q).chain = [y] ∧ y.words.length = w ∧
              ∀ i j, i < w → j < 16 → BitVec.ofNat 8 (((y.words.map QWordP.word).getD i 0#128).toNat / 256 ^ j) =
                ldByte s n (a + (16 * i + j)))))) ∧
    (fetch s n = .word (.deq k6 qr ra rq nw mem rd) →
      (ownsQueue s n q = false → Completes (.deq th) s (Faulted n 1 (some q) s)) ∧
      (ownsQueue s n q = true →
        (s.on (F.queueCfgDir q) = false → Completes (.deq th) s (ThreadNow n (noted ((failed 0x22 x).moved 2)) s)) ∧
        (s.on (F.queueCfgDir q) = true → queueOn s q = false → Completes (.deq th) s
          (ThreadNow n (noted ((failed 0x21 x).moved 2)) s)) ∧
        (s.on (F.queueCfgDir q) = true → queueOn s q = true →
          ((s.queue q).sub = [] → nw = true → Completes (.deq th) s
            (ThreadNow n (passed (missed true (x.moved 2))) s)) ∧
          ((s.queue q).sub = [] → nw = false → Completes (.deq th) s
            (ThreadNow n { x with state := .waitEvent, wait := .deq q rd.toNat mem b, cost := 2, pfx := none } s)) ∧
          ∀ h rest, (s.queue q).sub = h :: rest →
            (mem = true → (∀ i, i < 16 * h.words.length → inDwin x (b + i) = true) ∧ b % 16 = 0) →
            let y := (setG x rd ((word0 h.words).extractLsb' 32 32)).moved (2 + h.words.length)
            let z := noted y
            ((h.words.any fun p => p.poison) = false → Completes (.deq th) s fun t =>
              only t (passed z) ∧ took h rest t ∧ KeepsRegs s t [R.queueStat q, R.queueCred q]) ∧
            ((h.words.any fun p => p.poison) = true → Completes (.deq th) s fun t =>
              only t (failed 0x23 z) ∧ took h rest t)))) ∧
    ∀ r, coreNaps s (n / 4) = false → x.wait = .deq q r mem b →
      ((s.queue q).sub = [] → Completes (.wakeEvent th) s fun t => t = s) ∧
      ∀ h rest, (s.queue q).sub = h :: rest → (h.words.any fun p => p.poison) = false →
        (mem = true → (∀ i, i < 16 * h.words.length → inDwin x (b + i) = true) ∧ b % 16 = 0) →
        Completes (.wakeEvent th) s fun t => took h rest t ∧
          only t { passed (setG x (BitVec.ofNat 4 r) ((word0 h.words).extractLsb' 32 32)) with
            cost := 2 + h.words.length, state := .run, wait := .none, pc := x.pc + 1, wakeTime := s.tbCopy,
            runAt := s.tbCopy }

/-! ### Greune: actions, their ends, grants, mains waits (R144, R147 to R153, R175 to R182, R186 to R188, R448, R450) -/

/-- R149: an action without a context and with an instant is checked in order; the first failed check clears `LATE` and
`DENY` and fails with its cause, leaving the slot as it was; an instant too near fails `LATE`; an action that passes
every check with its grant given at once fills its slot, `PENDING` and prepared, clears its wake bit and holds the
grant; R153: without the right the thread faults with `OWNERSHIP`; R187: a `CYP` writes `FAIL` and `DENY` alone, is
refused in the same way, and otherwise charges its key. -/
def Obligations.ActionsPassTheirChecksAndWait : Prop :=
  ∀ (s : State) (th : Fin 32) (f : FA), f.ctx = false → f.asap = false →
    let n := th.val
    let x := s.thr n
    let k := f.slot.toNat
    let a := ((gReg x f.ra).toNat + 16 * f.doff.toNat) % 2 ^ 32
    let here (j : Nat) : Prop := (∀ i, i < j → inDwin x (a + i) = true) ∧ a % 16 = 0 ∧ dmemBad s (n / 4) a j = false
    let l (j : Nat) := ldBytes s n a j
    let at' := tReg x f.tk
    let soon : Prop := at'.toNat < s.tbCopy.toNat + usSteps 2
    let d0 := txfOf (l 32) none
    let r0 := rtxOf (l 32) none
    let len := fieldAt (l 32) 4 2
    let pay := fieldAt (l 32) 8 2
    let copied : Prop := (∀ i, i < len → inDwin x (pay + i) = true) ∧ dmemBad s (n / 4) pay len = false
    let d := { d0 with payload := ldBytes s n pay len }
    let r := { r0 with payload := ldBytes s n pay len }
    let w := rxwOf (l 16) ((gReg x f.rc).toNat % 4)
    let v := rrxOf (l 16) none
    let cost := 4 + ceilDiv len 16
    let flags (late fail : Bool) : Flags := { x.flags with late := late, fail := fail, deny := false }
    let failed (cause c : Nat) : State → Prop := ThreadNow n { x.moved c with
      flags := flags false true, cause := cause, causeSlot := k } s
    let waits (y : Act) (g : Grant) (c : Nat) (t : State) : Prop :=
      t.act n k = { y with
        status := 1, cause := 0, info := infoOf y, stage := .waiting, prep := true, made := s.tbCopy } ∧
      (t.thr n).pc = x.pc + 1 ∧ (t.thr n).flags = flags false false ∧ (t.thr n).cost = c ∧
      (t.thr n).wakeBits = x.wakeBits &&& (65535 ^^^ 2 ^ (8 + k)) ∧ (t.thr n).g = x.g ∧ (t.thr n).t = x.t ∧
      (∀ j, j ≠ k → t.act n j = s.act n j) ∧ (∀ m, m ≠ n → t.thr m = s.thr m) ∧ t.pwr.held = s.pwr.held ++ [g]
    let who : Holder := .act n k
    let link : Prop := isPending (s.act n k) = false ∧ linkLost s = false
    let units := txfUnits s d
    let dur := nsSteps (txfNs s d (txfPrep s d d.mode))
    let rdur := nsSteps (rfNs s (psduLength r.secLevel len) r.fec r.opmode)
    let acc := accountsOf s r.channel r.opmode
    let ms := rfMs s (psduLength r.secLevel len) r.fec r.opmode
    (fetch s n = .word (.txf f) → mayLine s n = true → here 32 →
      (txfOk (l 32) d0 = false → Completes (.txf th) s (failed 0x28 cost)) ∧
      (txfOk (l 32) d0 = true → txfTooLong d0 len = true → Completes (.txf th) s (failed 0x29 cost)) ∧
      (txfOk (l 32) d0 = true → txfTooLong d0 len = false → copied →
        (isPending (s.act n k) = true → Completes (.txf th) s (failed 0x02 cost)) ∧
        (isPending (s.act n k) = false → linkLost s = true → Completes (.txf th) s (failed 0x03 cost)) ∧
        (link → silenced s = false → planAllowed s d.band 1 = true → bandServes s d.family d.band = true → soon →
          Completes (.txf th) s fun t => (t.thr n).flags = flags true true ∧ (t.thr n).cause = 0x01 ∧
            (t.thr n).pc = x.pc + 1 ∧ (t.thr n).acts = x.acts) ∧
        (link → silenced s = false → planAllowed s d.band 1 = true → bandServes s d.family d.band = true → ¬ soon →
          txfCheck6 s units at'.toNat dur n k (d.family != 2) = 0 → lastGasp s = false →
          givenNow s (txfGrantOf s n k units d.atten) = true → Completes (.txf th) s fun t =>
            waits { Act.empty with body := .txf d, instant := at', units := units, mode := d.mode
                                   endAt := BitVec.ofNat 64 (at'.toNat + dur), seq := txfSeq s d }
              (txfGrantOf s n k units d.atten) cost t ∧
            seqOf t d.band = if d.family = 2 then seqOf s d.band else (seqOf s d.band + 1) % 256))) ∧
    (fetch s n = .word (.rxw f) → mayLine s n = true → here 16 →
      (rxwOk (l 16) w = false → Completes (.rxw th) s (failed 0x28 4)) ∧
      (rxwOk (l 16) w = true → link → (rxwBands w).all (fun b => planAllowed s b 1) = true → rxwServed s w = true →
        ¬ soon → lastGasp s = false → givenNow s (rxwGrantOf s n k (rxwUnits w)) = true → Completes (.rxw th) s
          (waits { Act.empty with body := .rxw w, instant := at', units := rxwUnits w
                                  endAt := after at' (usSteps w.durUs), openAt := at' }
            (rxwGrantOf s n k (rxwUnits w)) 4))) ∧
    (fetch s n = .word (.rtx f) → mayRadio s n = true → here 32 →
      (rtxOk s (l 32) r0 at'.toNat = false → Completes (.rtx th) s (failed 0x28 cost)) ∧
      (rtxOk s (l 32) r0 at'.toNat = true → (r0.frameType = 0 → 8 ≤ len) → copied → link → silenced s = false →
        rtxInRegion s r r.channel = true → ¬ soon → rfFree s at'.toNat (at'.toNat + rdur) n k = true →
        lastGasp s = false → dutyUncovered s acc = false → dutyRefuses s acc ms true = [] →
        givenNow s ⟨who, grantDrawer s n, rtxMw r.level, 0, false⟩ = true → Completes (.rtx th) s
          (waits { Act.empty with body := .rtx r, instant := at', endAt := BitVec.ofNat 64 (at'.toNat + rdur)
                                  seq := seqOf s 2, chan := r.channel, charge := if acc.isEmpty then 0 else ms
                                  bucket := s.radio.sec }
            ⟨who, grantDrawer s n, rtxMw r.level, 0, false⟩ cost))) ∧
    (fetch s n = .word (.rrx f) → mayRadio s n = true → here 16 →
      (rrxOk s (l 16) v = false → Completes (.rrx th) s (failed 0x28 4)) ∧
      (rrxOk s (l 16) v = true → link → ¬ soon →
        rxConflict s v.channel v at'.toNat (after at' (usSteps v.durUs)).toNat = false → lastGasp s = false →
        givenNow s ⟨who, grantDrawer s n, 40, 0, false⟩ = true → Completes (.rrx th) s
          (waits { Act.empty with body := .rrx v, instant := at', endAt := after at' (usSteps v.durUs)
                                  chan := v.channel, openAt := at' }
            ⟨who, grantDrawer s n, 40, 0, false⟩ 4))) ∧
    (∀ c i, (c = .txf th ∧ i = .txf f ∨ c = .rxw th ∧ i = .rxw f) ∧ mayLine s n = false ∨
        (c = .rtx th ∧ i = .rtx f ∨ c = .rrx th ∧ i = .rrx f) ∧ mayRadio s n = false →
      fetch s n = .word i → Completes c s (Faulted n 1 none s)) ∧
    (fetch s n = .word (.cyp f) → here 32 →
      let key := (gReg x f.rc).toNat % 256
      let y := cypFields (l 32)
      let c := 4 + ceilDiv (y.len + y.aadLen) 16
      let refused (cause : Nat) : State → Prop := ThreadNow n { x.moved c with
        flags := { x.flags with fail := true, deny := false }, cause := cause, causeSlot := k } s
      (ownsKey s n key = false → Completes (.cyp th) s (Faulted n 1 (some key) s)) ∧
      (ownsKey s n key = true → isPending (s.act n k) = true → Completes (.cyp th) s (refused 0x02)) ∧
      (ownsKey s n key = true → isPending (s.act n k) = false →
        (cypOk s n (l 32) = false → Completes (.cyp th) s (refused 0x28)) ∧
        (cypOk s n (l 32) = true → s.get (F.keyInfoType key) = 0 → Completes (.cyp th) s (refused 0x2B)) ∧
        (cypOk s n (l 32) = true → s.get (F.keyInfoType key) ≠ 0 →
          ¬ (typeSuits s key y.mode = true ∧ modesAllow s key y.mode = true) →
          Completes (.cyp th) s (refused 0x37)) ∧
        (cypOk s n (l 32) = true → s.get (F.keyInfoType key) ≠ 0 → typeSuits s key y.mode = true →
          modesAllow s key y.mode = true → keyUse s key + aesCharge y ≤ keyLimit s key → cypBad s n (l 32) = false →
          islandHeld s 1 = false →
          keyUse s key + aesCharge y < 2 ^ 48 → givenNow s ⟨who, grantDrawer s n, 250, 0, false⟩ = true →
          Completes (.cyp th) s fun t => keyUse t key = keyUse s key + aesCharge y ∧
            (t.act n k).status = 1 ∧ (t.act n k).stage = .queued ∧
            (∃ b : CypD, (t.act n k).body = .cyp b ∧ b.mode = y.mode ∧ b.decrypt = y.dec ∧ b.key = key ∧
              b.keyMat = keyOf s key ∧ b.input = ldBytes s n (fieldAt (l 32) 4 2) y.len ∧
              b.dst = fieldAt (l 32) 6 2) ∧
            (t.thr n).pc = x.pc + 1 ∧ (t.thr n).flags = { x.flags with fail := false, deny := false } ∧ (∀ m, m ≠ n → t.thr m = s.thr m) ∧
            t.pwr.held = s.pwr.held ++ [⟨who, grantDrawer s n, 250, 0, false⟩] ∧
            KeepsAllRegs s t [R.keyUseLo key, R.keyHi key])))

/-- R182, R152: `CANCEL` of a slot that is not pending fails with `NOT_PENDING`, one without the right faults; a window
or frame that waits is `CANCELLED`, and so is a frame between emissions and an open window that no frame lies in; an
open window with a frame in it closes; a frame on the air and a `CYP` job that runs fail with `STARTED`, and a queued
job does one or the other.  R188, R364: a `CYP` job's end writes its whole output and its tag, zeros where the tag or
the padding failed, nothing on a mismatch of the cores; R18: nothing ends while the cipher is in reset.  R450, R151,
R187: the request that stands first gets its grant: a job goes on, an action of a waiting thread without a context
fills its slot or fails on a transmitter taken meanwhile, a `CYP` is accepted or refused for its key.  R144: `ZXW`
writes the instant of its crossing, the latest one's being its stamp and the fraction of the present period; it goes on
at once when that has come (`LATE`) or in the no-wait form, and waits otherwise. -/
def Obligations.CancelsJobEndsGrantsAndCrossings : Prop :=
  ∀ (s : State) (th : Fin 32) (k : Fin 4),
    let n := th.val
    let x := s.thr n
    let a := s.act n k.val
    let others (t : State) : Prop := ∀ m, m ≠ n → t.thr m = s.thr m
    let failed (cause : Nat) (y : Thread) : Thread :=
      { y with flags := { y.flags with fail := true }, cause := cause, causeSlot := k.val }
    let ended (status cause info : Nat) (t : State) : Prop :=
      t.act n k.val = { a with status := status, cause := cause, info := info, stage := .none } ∧
      (t.thr n).wakeBits = x.wakeBits ||| 2 ^ (8 + k.val) ∧ (∀ j, j ≠ k.val → t.act n j = s.act n j) ∧
      t.pwr.held = s.pwr.held.filter (fun g => g.who != .act n k.val) ∧ others t
    let went (t : State) : Prop := (t.thr n).pc = x.pc + 1 ∧ (t.thr n).flags = { x.flags with fail := false }
    let cancelled (info : Nat) (l : List Part) (t : State) : Prop := ended 5 0 info t ∧ went t ∧ Agree l s t
    let frame (len : Nat) : Prop :=
      (∃ d, a.body = .txf d ∧ d.payload.length = len) ∨ (∃ d, a.body = .rtx d ∧ d.payload.length = len)
    let window : Prop := (∃ d, a.body = .rxw d) ∨ ∃ d, a.body = .rrx d
    (∀ sl : BitVec 2, sl.toNat = k.val → fetch s n = .word (.cancel sl) →
      (isPending a = false → Completes (.cancel th) s (ThreadNow n ((failed 0x2A x).moved 2) s)) ∧
      (isPending a = true → mayCancel s n a = false →
        (∀ d, a.body = .cyp d → Completes (.cancel th) s (Faulted n 1 (some d.key) s)) ∧
        ((∀ d, a.body ≠ .cyp d) → Completes (.cancel th) s (Faulted n 1 none s))) ∧
      (isPending a = true → mayCancel s n a = true →
        (window → (a.stage = .waiting ∨ frameInWindow s a = false) →
          Completes (.cancel th) s (cancelled 0 [.threads, .pwr])) ∧
        (window → a.stage ≠ .waiting → frameInWindow s a = true → Completes (.cancel th) s fun t =>
          t.act n k.val =
            { a with stage := .closing, endAt := if a.stage = .closing then a.endAt else s.tb } ∧
          went t ∧ (∀ j, j ≠ k.val → t.act n j = s.act n j) ∧ others t ∧ Agree [.threads] s t) ∧
        (∀ len, frame len →
          ((a.stage = .waiting ∨ a.stage = .place) →
            Completes (.cancel th) s (cancelled len [.threads, .pwr, .radio, .regs])) ∧
          (a.stage ≠ .waiting → a.stage ≠ .place →
            Completes (.cancel th) s (ThreadNow n ((failed 0x08 x).moved 2) s))) ∧
        (∀ d, a.body = .cyp d →
          (a.stage ≠ .queued → Completes (.cancel th) s (ThreadNow n ((failed 0x08 x).moved 2) s)) ∧
          (a.stage = .queued → Completes (.cancel th) s fun t =>
            cancelled 0 [.free, .threads, .pwr] t ∨ ThreadWith [.free] n ((failed 0x08 x).moved 2) s t)))) ∧
    (∀ d : CypD, a.body = .cyp d →
      let y : AesFields := ⟨d.mode, d.decrypt, d.pad, d.tagLen, d.input.length, d.aad.length, d.iv.length⟩
      let ran := aesRun y d.keyMat d.iv d.aad d.input d.tag
      let core : List Part := [.threads, .mem, .pwr]
      let inside (b len e : Nat) : Prop := b ≤ e ∧ e < b + len
      let zeroed (t : State) : Prop := ∀ e, dmemByte t (n / 4) e =
        if d.dst ≤ e ∧ e < d.dst + aesOutLen y then 0#8 else dmemByte s (n / 4) e
      (∀ m, (isPending a = false ∨ islandHeld s 1 = true) → Completes (.cypJobEnd th k m) s fun t => t = s) ∧
      (isPending a = true → islandHeld s 1 = false →
        Completes (.cypJobEnd th k true) s (fun t =>
          ended 4 0x2D 0 t ∧ Bumped R.ciphFaultCnt s t ∧ t.jig.dmem = s.jig.dmem) ∧
        (∀ out tag, ran = .ok out tag → Completes (.cypJobEnd th k false) s fun t =>
          let tagged : Prop := hasTag d.mode = true ∧ d.decrypt = false
          ended 2 0 out.length t ∧ Agree core s t ∧
          (tagged → ∀ i, i < tag.length → dmemByte t (n / 4) (d.tagAddr + i) = tag.getD i 0#8) ∧
          (∀ i, i < out.length → ¬ (tagged ∧ inside d.tagAddr tag.length (d.dst + i)) →
            dmemByte t (n / 4) (d.dst + i) = out.getD i 0#8) ∧
          ∀ e, ¬ inside d.dst out.length e → ¬ (tagged ∧ inside d.tagAddr tag.length e) →
            dmemByte t (n / 4) e = dmemByte s (n / 4) e) ∧
        (ran = .auth → Completes (.cypJobEnd th k false) s fun t =>
          ended 4 0x2C 0 t ∧ zeroed t ∧ Bumped R.ciphAuthFailCnt s t) ∧
        (ran = .pad → Completes (.cypJobEnd th k false) s fun t =>
          ended 4 0x36 0 t ∧ zeroed t ∧ Agree core s t))) ∧
    ((∀ g, nextGrant s = some g →
        let gone (t : State) : Prop := (∀ h ∈ t.pwr.held, h.who ≠ g.who) ∧ Agree [.pwr] s t
        Completes .grantGiven s (fun t => ∀ h ∈ t.pwr.waiting, h.who ≠ g.who) ∧
        (∀ id, g.who = .job id → (∀ j, jobOf s id = some j → Completes .grantGiven s fun t => g ∈ t.pwr.held ∧
            t.fab.jobs = mapFirst (fun y => y.id == j.id) (fun _ => { j with phase := 3 }) s.fab.jobs ∧
            Agree [.jobs, .pwr] s t) ∧
          (jobOf s id = none → Completes .grantGiven s gone)) ∧
        (∀ ch, g.who = .nand ch → Completes .grantGiven s fun t => g ∈ t.pwr.held ∧ Agree [.pwr] s t) ∧
        (g.who = .act n k.val →
          ((∀ j b, x.wait ≠ .grant j b) → Completes .grantGiven s gone) ∧
          ∀ j b, x.wait = .grant j b →
            let resumed (f : Flags) (t : State) : Prop := (t.thr n).state = .run ∧ (t.thr n).wait = .none ∧
              (t.thr n).pc = x.pc + 1 ∧ (t.thr n).flags = f ∧ others t
            let fl (fail : Bool) : Flags := { x.flags with late := false, fail := fail, deny := false }
            ((∀ d, b.body ≠ .cyp d) → actCtx b = none →
              let b' := grantAct n k.val b (giveGrant g s)
              (grantClash (giveGrant g s) n k.val b = true → Completes .grantGiven s fun t =>
                resumed (fl true) t ∧ (t.thr n).cause = 0x0C ∧ (t.thr n).acts = x.acts ∧
                ∀ h ∈ t.pwr.held, h.who ≠ g.who) ∧
              (grantClash (giveGrant g s) n k.val b = false →
                (b'.asap = true ∨ s.tbCopy.toNat < b'.instant.toNat) → Completes .grantGiven s fun t =>
                  resumed (fl false) t ∧ g ∈ t.pwr.held ∧ t.act n k.val = { b' with
                    status := 1, cause := 0, info := infoOf b', stage := .waiting, prep := true, made := s.tbCopy })) ∧
            ∀ d, b.body = .cyp d →
              let cause := if islandHeld s 1 = true then 0x30 else cypKeyCause s d.key (cypFields d.desc)
              let cf (fail : Bool) : Flags := { x.flags with fail := fail, deny := false }
              (cause ≠ 0 → Completes .grantGiven s fun t => resumed (cf true) t ∧ (t.thr n).cause = cause ∧
                (t.thr n).acts = x.acts ∧ ∀ h ∈ t.pwr.held, h.who ≠ g.who) ∧
              (cause = 0 → cypBad s n d.desc = false → Completes .grantGiven s fun t =>
                resumed (cf false) t ∧ g ∈ t.pwr.held ∧ (t.act n k.val).status = 1 ∧
                (t.act n k.val).stage = .queued ∧ (t.act n k.val).body = .cyp (cypCopy s n d.key d.desc)))) ∧
      (nextGrant s = none → Completes .grantGiven s fun t => t = s)) ∧
    ∀ (tk : BitVec 2) (rn rm : BitVec 4) (p : BitVec 2) (nw : Bool), fetch s n = .word (.zxw tk rn rm p nw) →
      let num := zxNumber (gReg x rn) (gReg x rm)
      let frac := (gReg x rm).toNat % 65536
      let u := zxInstant s p.toNat num frac
      let y := setT x tk u
      (num = (trk s p.toNat).num % 2 ^ 32 → u.toNat =
        ((trk s p.toNat).stamp.toNat + (2 * frac * zxPeriod s p.toNat + 65536) / 131072) % 2 ^ 64) ∧
      (s.tbCopy.toNat < u.toNat → nw = true → Completes (.zxw th) s
        (ThreadNow n { y.moved 3 with flags := { x.flags with late := false } } s)) ∧
      (s.tbCopy.toNat < u.toNat → nw = false → Completes (.zxw th) s
        (ThreadNow n { y with
          state := .waitTime, wait := .zx tk p.toNat num frac u, cost := 3, pfx := none,
          flags := { x.flags with late := false } } s)) ∧
      (u.toNat ≤ s.tbCopy.toNat → Completes (.zxw th) s fun t =>
        t.thr n = { y.moved 3 with
          flags := { x.flags with late := true }
          lateNs := min 0xFFFFFFFF (stepsNs (s.tbCopy.toNat - u.toNat)) } ∧
        others t ∧ Bumped (R.jtLateCnt n) s t)

/-! ### The line's control, receive chains and ends of actions (R22, R150, R151, R179, R201, R205, R228 to R236, R255 to R257, R265, R279, R290, R294 to R298, R327, R328) -/

/-- R201: an interval's peak moves the gain at its boundary, or a write of `LPHY_RXCFG` sets it; R205: an apply is
refused with the first check that fails, or latched until the band is quiet; R234, R265: an enable outside the region
lock or the plan is refused, and a decoder that is switched off listens; R279: a restart clears one chain's map;
R290: a ring past `BULK_SIZE` stays off; R300: a pass of the route engine comes `PERIOD` minutes after the
latest one, writes the proposals that differ from the present routes, never a route, and raises `ROUTE_PROPOSAL`. -/
def Obligations.LineControlFollowsItsRegisters : Prop :=
  (∀ (s : State) (c : Fin 6) (now : Time) (samples : List (BitVec 16)), deaf s c.val = false →
    let x := chain s c.val
    let g := x.gain.getD (s.get (F.lphyRxstatPgaNow c.val))
    let peak := peakOf samples
    let loud : Prop := 32768 ^ 20 ≤ peak ^ 20 * 10 ^ 3
    let faint : Prop := peak ^ 20 * 10 ^ 21 < 32768 ^ 20
    let quiet := if ¬ (loud ∧ 0 < g) ∧ faint then if x.quiet + 1 < 4 then x.quiet + 1 else 0 else 0
    let gain := if loud ∧ 0 < g then g - 1
      else if faint ∧ 4 ≤ x.quiet + 1 ∧ g < s.get (F.lphyRxcfgPgaMax c.val) then g + 1 else g
    let tracks : Prop := s.on (F.lphyRxcfgAgcAuto c.val) = true ∧ s.on (F.lphyRxstatFrozen c.val) = false
    Completes (.agcIntervalEnd c now samples) s fun t =>
      (tracks → (chain t c.val).quiet = quiet ∧ t.get (F.lphyRxstatPgaNow c.val) = gain % 8) ∧
      (¬ tracks → (chain t c.val).quiet = x.quiet ∧ t.get (F.lphyRxstatPgaNow c.val) = g % 8) ∧
      (chain t c.val).gain = none ∧ (chain t c.val).nat = x.nat ∧ (chain t c.val).swp = x.swp ∧
      (chain t c.val).swp2 = x.swp2 ∧ (chain t c.val).cmp = x.cmp ∧
      (samples.any fullScale = true → t.get (F.lphyRxstatClip c.val) = 1 ∧ Bumped (R.lphyClipCnt c.val) s t) ∧
      (samples.any fullScale = false → t.get (F.lphyRxstatClip c.val) = s.get (F.lphyRxstatClip c.val) ∧
        t.rd (R.lphyClipCnt c.val) = s.rd (R.lphyClipCnt c.val)) ∧
      (∀ e : Fin 6, e ≠ c → chain t e.val = chain s e.val) ∧
      KeepsRegs s t [R.lphyRxstat c.val, R.lphyClipCnt c.val, R.lphyBlankCnt c.val] ∧
      Agree [.regs, .time, .copy, .line, .events, .out, .held] s t) ∧
  (∀ (s : State) (d : Drawer) (c : Fin 6) (v : Word) (be : BitVec 4), takesWrite s d.val (R.lphyRxcfg c.val) = true →
    let u := s.wrTyped (R.lphyRxcfg c.val) v be
    let auto := u.on (F.lphyRxcfgAgcAuto c.val)
    let was := s.on (F.lphyRxcfgAgcAuto c.val)
    let x := chain s c.val
    (chainRuns u c.val = true → Completes (.agcAutoWrite d c v be) s fun t =>
      (be.getLsbD 0 = false ∨ (auto = true ∧ was = true) → t = u) ∧
      (be.getLsbD 0 = true → auto = true → was = false →
        chain t c.val = { x with quiet := 0, owe := false } ∧ t.regs = u.regs ∧ Agree [.regs, .line] s t) ∧
      (be.getLsbD 0 = true → auto = false → s.on (F.lphyRxstatFrozen c.val) = true →
        (chain t c.val).owe = true ∧ (chain t c.val).gain = x.gain ∧ t.on (F.lphyRxstatFrozen c.val) = false ∧
        KeepsAllRegs u t [R.lphyRxstat c.val] ∧ Agree [.regs, .line] s t) ∧
      (be.getLsbD 0 = true → auto = false → s.on (F.lphyRxstatFrozen c.val) = false →
        chain t c.val = { x with gain := some (u.get (F.lphyRxcfgPgaSet c.val)), owe := false } ∧ t.regs = u.regs ∧
        Agree [.regs, .line] s t)) ∧
    (chainRuns u c.val = false → Completes (.agcAutoWrite d c v be) s fun t =>
      (chain t c.val).nat = .listen ∧ (chain t c.val).swp = .listen ∧ (chain t c.val).swp2 = .listen ∧
      (chain t c.val).cmp = .listen)) ∧
  (∀ (s : State) (d : Drawer) (v : Word) (be : BitVec 4) (b : Fin 2), takesWrite s d.val R.lphyApply = true →
    (v &&& byteMask be).getLsbD b.val = true → (v &&& byteMask be).getLsbD (1 - b.val) = false →
    let plan := stagedPlan s b.val
    let mask := stagedMask s b.val
    let few : Prop := plan ≠ 0 ∧ (unmasked b.val plan mask).length < 8
    let swept : Prop := sweepOn s b.val = true ∧
      (plan ≠ planOf s b.val ∨ (chirpCarriers b.val).any (bitAt mask) = true)
    let refused (f : Fld) : Prop := Completes (.lphyApply d v be) s (Counted 13 fun u =>
      u.get f = 1 ∧ KeepsAllRegs s u [f.off] ∧ OnlyRegs s u)
    (plan = 3 → refused F.lphyStatusPlanInvalid) ∧
    (plan ≠ 3 → planAllowed s b.val plan = false → refused F.lphyStatusRegionRefused) ∧
    (plan ≠ 3 → planAllowed s b.val plan = true → few → refused F.lphyStatusMaskRefused) ∧
    (plan ≠ 3 → planAllowed s b.val plan = true → ¬ few → swept → refused F.swpStatusApplyBlocked) ∧
    (plan ≠ 3 → planAllowed s b.val plan = true → ¬ few → ¬ swept → Completes (.lphyApply d v be) s fun t =>
      t.on (pendingFld b.val) = true ∧ tabGet (fun _ => ⟨0, 0⟩) t.line.latched b.val = ⟨plan, mask⟩ ∧
      planOf t b.val = planOf s b.val ∧ maskOf t b.val = maskOf s b.val ∧
      KeepsAllRegs s t [R.lphyStatus, R.lphyApply] ∧ Agree [.regs, .line] s t)) ∧
  (∀ (s : State) (b : Fin 2),
    let l := tabGet (fun _ => ⟨0, 0⟩) s.line.latched b.val
    let changed : Prop := l.plan ≠ planOf s b.val ∨
      unmasked b.val l.plan l.mask ≠ unmasked b.val (planOf s b.val) (maskOf s b.val)
    let applies : Prop := s.on (pendingFld b.val) = true ∧ bandQuiet s b.val = true
    (applies → l.plan < 4 → Completes (.bandApplied b) s (Counted 12 fun u =>
      planOf u b.val = l.plan ∧ maskOf u b.val = l.mask ∧ u.on (pendingFld b.val) = false ∧
      (changed → maskGen u b.val = (maskGen s b.val + 1) % 65536 ∧
        ∀ p : Fin 3, u.on (F.lmacNmapStatUnlearned (2 * p.val + b.val)) = true) ∧
      (¬ changed → KeepsAllRegs s u [R.lphyStatus, R.lphyApply]) ∧
      planOf u (1 - b.val) = planOf s (1 - b.val) ∧ maskOf u (1 - b.val) = maskOf s (1 - b.val) ∧
      Agree [.regs, .line] s u)) ∧
    (¬ applies → Completes (.bandApplied b) s fun t => t = s)) ∧
  (∀ (s : State) (d : Drawer) (t : Fin 3) (v : Word) (be : BitVec 4), takesWrite s d.val (R.lphyFirCtl t.val) = true →
    (v &&& byteMask be).getLsbD 0 = true → Completes (.firSwap d t v be) s fun u =>
      u.on (F.lphyFirCtlSwap t.val) = true ∧ KeepsAllRegs s u [R.lphyFirCtl t.val] ∧ OnlyRegs s u) ∧
  (∀ (s : State) (d : Drawer) (v : Word) (be : BitVec 4), takesWrite s d.val R.lphyCompatCfg = true →
    let u := s.wrTyped R.lphyCompatCfg v be
    let ok := planAllowed u (u.get F.lphyCompatCfgPlan) 1
    (s.on F.lphyCompatCfgEnable = false → (u.on F.lphyCompatCfgEnable = true → ok = true) →
      Completes (.compatEnable d v be) s fun t => t = u) ∧
    (s.on F.lphyCompatCfgEnable = false → u.on F.lphyCompatCfgEnable = true → ok = false →
      Completes (.compatEnable d v be) s (Counted 13 fun y => y.on F.lphyCompatCfgEnable = false ∧
        y.on F.lphyStatusRegionRefused = true ∧ KeepsAllRegs s y [R.lphyCompatCfg, R.lphyStatus] ∧ OnlyRegs s y)) ∧
    (s.on F.lphyCompatCfgEnable = true → u.on F.lphyCompatCfgEnable = false → Completes (.compatEnable d v be) s fun t =>
      t.on F.lphyCompatCfgEnable = false ∧
      ∀ c : Fin 6, chainBand c.val = s.get F.lphyCompatCfgPlan → (chain t c.val).cmp = .listen)) ∧
  (∀ (s : State) (d : Drawer) (v : Word) (be : BitVec 4) (b : Fin 2), takesWrite s d.val R.swpCfg = true →
    let u := s.wrTyped R.swpCfg v be
    let other := 1 - b.val
    let misfit : Prop := planOf s b.val ≠ b.val + 1 ∨ (chirpCarriers b.val).any (bitAt (maskOf s b.val)) = true
    let refused (f : Fld) : Prop := Completes (.sweepEnable d v be) s (Counted 13 fun y =>
      y.on (swpEn b.val) = false ∧ y.on (swpOnFld b.val) = false ∧ y.on f = true ∧
      KeepsAllRegs s y [R.swpCfg, R.swpStatus] ∧ OnlyRegs s y)
    u.on (swpEn other) = false → s.on (swpOnFld other) = false →
      (u.on (swpEn b.val) = true → planAllowed s b.val 1 = false → refused F.swpStatusRegionRefused) ∧
      (u.on (swpEn b.val) = true → planAllowed s b.val 1 = true → misfit → refused F.swpStatusPlanRefused) ∧
      (u.on (swpEn b.val) = true → planAllowed s b.val 1 = true → ¬ misfit → Completes (.sweepEnable d v be) s fun t =>
        t.on (swpEn b.val) = true ∧ t.on (swpOnFld b.val) = true ∧ KeepsAllRegs s t [R.swpCfg, R.swpStatus] ∧
        OnlyRegs s t) ∧
      (u.on (swpEn b.val) = false → s.on (swpOnFld b.val) = false → Completes (.sweepEnable d v be) s fun t => t = u) ∧
      (u.on (swpEn b.val) = false → s.on (swpOnFld b.val) = true → Completes (.sweepEnable d v be) s fun t =>
        t.on (swpOnFld b.val) = false ∧ ∀ c : Fin 6, chainBand c.val = b.val →
          (chain t c.val).swp = .listen ∧ (chain t c.val).swp2 = .listen)) ∧
  (∀ (s : State) (d : Drawer) (c : Fin 6) (v : Word) (be : BitVec 4), takesWrite s d.val (R.lmacNmapStat c.val) = true →
    ((v &&& byteMask be).getLsbD 2 = true → Completes (.nmapRestart d c v be) s fun t =>
      t.on (F.lmacNmapStatUnlearned c.val) = true ∧ t.on (F.lmacNmapStatRestart c.val) = false ∧
      (∀ b, b < 32 → nbin t c.val b = nbinZero ∧ t.rd (R.lmacNmap c.val b) = 0#32) ∧
      (∀ (e : Fin 6) b, e ≠ c → b < 32 → nbin t e.val b = nbin s e.val b) ∧
      KeepsAllRegs s t (R.lmacNmapStat c.val :: (List.range 32).map (R.lmacNmap c.val)) ∧ Agree [.regs, .line] s t) ∧
    ((v &&& byteMask be).getLsbD 2 = false → Completes (.nmapRestart d c v be) s fun t => t = s)) ∧
  (∀ s : State,
    let at' := s.passTo (nextPass s)
    let u := { at' with line := { at'.line with routeAt := at'.tb } }
    (s.on F.lmacRouteCfgEnable = false → Completes .routePass s fun t => t = s) ∧
    (s.on F.lmacRouteCfgEnable = true → proposals u = [] → Completes .routePass s fun t => t = u) ∧
    (s.on F.lmacRouteCfgEnable = true → proposals u ≠ [] → Completes .routePass s (Counted 61 fun y =>
      ∀ c r h, (c, r, h) ∈ proposals u →
        (resident s c = true → ctxWord y c 10 = r ∧ ctxWord y c 11 = BitVec.ofNat 32 (h % 8 + 8) ∧
          ctxWord y c 8 = ctxWord s c 8) ∧
        (resident s c = false → ctxDead s c = false → (c, CtxUpd.propose r h) ∈ y.line.upds)))) ∧
  ∀ (s : State) (d : Drawer) (v : Word) (be : BitVec 4), takesWrite s d.val R.dlvRingCfg = true →
    let u := s.wrTyped (selfKey d.val R.dlvRingCfg) v be
    let past : Prop := bulkSize s d.val < 64 * u.get (fldOf d.val F.dlvRingCfgBase) + ringSize u d.val
    (past → Completes (.dlvRingEnable d v be) s fun t => t.on (fldOf d.val F.dlvRingCfgEnable) = false ∧
      t.get (fldOf d.val F.dlvRingCfgBase) = u.get (fldOf d.val F.dlvRingCfgBase) ∧
      KeepsAllRegs s t [selfKey d.val R.dlvRingCfg] ∧ OnlyRegs s t) ∧
    (¬ past → Completes (.dlvRingEnable d v be) s fun t => t = u)

/-- R149, R150: at its instant an action that is not prepared ends late, and an `ASAP` one is placed anew; R18, R151,
R257, R308: a held island, a hold-off or a conflict with an emission, an acknowledgement or a reception fails it; else a
frame is emitted and its transmitters are busy, or a window opens; R295: at an emission's end the wait for the
acknowledgement begins, or the slot is `DONE`; R179: a window that closes with no frame begun records `NO_FRAME`. -/
def Obligations.ActionsStartEmitAndEnd : Prop :=
  ∀ (s : State) (th : Fin 32) (slot : Fin 4),
    let n := th.val
    let k := slot.val
    let a := s.act n k
    let waits : Prop := isPending a = true ∧ a.stage = .waiting
    let b := asapAgain n k a s.tb.toNat s
    let now := (s.setAct n k b).passTo (startAt b)
    let inLead : Prop := a.made.toNat + leadSteps a ≤ (startAt a).toNat
    let ended (c : Act) (status cause : Nat) (t : State) : Prop :=
      t.act n k = { c with status := status, cause := cause, info := infoOf c, stage := .none } ∧
      (t.thr n).wakeBits = (s.thr n).wakeBits ||| 2 ^ (8 + k) ∧
      (∀ g ∈ t.pwr.held, g.who ≠ .act n k) ∧ ∀ m, m ≠ n → t.thr m = s.thr m
    let closed (status : Nat) (t : State) : Prop :=
      t.act n k = { a with status := status, cause := 0, info := infoOf a, stage := .none } ∧
      bitAt (t.thr n).wakeBits (8 + k) = true ∧ ∀ g ∈ t.pwr.held, g.who ≠ .act n k
    let awaits (ns : Nat) (t : State) : Prop :=
      t.act n k = { a with stage := .ackWait, endAt := after a.endAt (nsSteps ns) }
    (¬ waits → ∀ r, Completes (.actionStart th slot r) s fun t => t = s) ∧
    (waits → a.prep = false → a.asap = true → ∀ r, Completes (.actionStart th slot r) s fun t => t = s) ∧
    (waits → a.asap = false → a.prep = false → ∀ r, Completes (.actionStart th slot r) s (ended a 4 1)) ∧
    (waits → a.asap = false → a.prep = true → ¬ inLead → Completes (.actionStart th slot false) s (ended a 4 1)) ∧
    (∀ r, waits → a.prep = true → inLead ∨ r = true ∨ a.asap = true →
      (airHeld s = true ∨ (actSecure a = true ∧ islandHeld s 1 = true) →
        Completes (.actionStart th slot r) s (ended b 4 0x30)) ∧
      (airHeld s = false → (actSecure a = true → islandHeld s 1 = false) →
        (∀ d, a.body = .txf d → heldOff now b.units b.instant.toNat = true →
          Completes (.actionStart th slot r) s (ended b 4 0x33)) ∧
        (∀ d, a.body = .txf d → heldOff now b.units b.instant.toNat = false →
          ackClashes now b.units b.instant.toNat b.endAt.toNat ≠ [] →
          Completes (.actionStart th slot r) s (ended b 4 0x0C)) ∧
        (∀ d, a.body = .txf d → heldOff now b.units b.instant.toNat = false →
          ackClashes now b.units b.instant.toNat b.endAt.toNat = [] →
          (d.family = 2 → Completes (.actionStart th slot r) s fun t => t = now.setAct n k { b with stage := .place }) ∧
          (d.family ≠ 2 → (unitList b.units).any (txBusy now) = true →
            Completes (.actionStart th slot r) s (ended b 4 0x0C)) ∧
          (d.family ≠ 2 → (unitList b.units).any (txBusy now) = false → Completes (.actionStart th slot r) s fun t =>
            (t.act n k).stage = .emitting ∧ (t.act n k).emissions = b.emissions + 1 ∧ (t.act n k).instant = b.instant ∧
            (t.act n k).status = 1 ∧
            (∀ x : Fin 3, bitAt b.units x.val = true → t.on (F.lphyTxstatBusy x.val) = true ∧
              (xmit t x.val).starts.head? = some (b.instant, d.band) ∧
              ∃ f, Out.lineTx x.val f ∈ t.fab.out ∧ f.fam = d.family ∧ f.seq = b.seq ∧ f.ftype = d.frameType ∧
                f.dest = lineDest s d) ∧
            (∀ x : Fin 3, bitAt b.units x.val = false →
              t.get (F.lphyTxstatBusy x.val) = s.get (F.lphyTxstatBusy x.val)))) ∧
        (∀ d, a.body = .rtx d →
          let bars := s.radio.rx.isSome = true ∨ s.on F.radioStatusTxBusy = true ∨
            rfAckMeets now b.instant.toNat b.endAt.toNat = true
          (bars → Completes (.actionStart th slot r) s (ended b 4 0x0C)) ∧
          (¬ bars → Completes (.actionStart th slot r) s fun t =>
            (t.act n k).stage = .emitting ∧ (t.act n k).emissions = b.emissions + 1 ∧ (t.act n k).instant = b.instant ∧
            t.on F.radioStatusTxBusy = true ∧ KeepsAllRegs s t [R.radioStatus] ∧
            (∃ f, Out.radioTx f ∈ t.fab.out ∧ f.chan = b.chan ∧ f.opmode = d.opmode ∧ f.fec = d.fec ∧
              f.dest = rfDest s d ∧ f.seq = b.seq ∧ (d.frameType ≠ 0 → d.secLevel = 0 → f.payload = d.payload)) ∧
            Agree [.regs, .time, .copy, .threads, .radio, .out] s t)) ∧
        (∀ w, a.body = .rxw w → Completes (.actionStart th slot r) s fun t =>
          t = now.setAct n k { b with stage := .rxOpen }) ∧
        (∀ v, a.body = .rrx v → s.on F.radioStatusTxBusy = false → Completes (.actionStart th slot r) s fun t =>
          t.act n k = { b with stage := .rxOpen } ∧ t.on F.radioStatusRxOpen = true ∧
          KeepsAllRegs s t [R.radioStatus] ∧ Agree [.regs, .time, .copy, .threads] s t) ∧
        (∀ v, a.body = .rrx v → s.on F.radioStatusTxBusy = true → Completes (.actionStart th slot r) s fun t =>
          let shift := s.radio.txEnd - 1 + usSteps 200 - b.openAt.toNat
          t = now.setAct n k { b with openAt := after b.openAt shift, endAt := after b.endAt shift }))) ∧
    (∀ clips, isPending a = true → a.stage = .emitting →
      (∀ d, a.body = .txf d → Completes (.emissionEnd (.act th slot) clips none) s fun t =>
        (∀ x : Fin 3, bitAt a.units x.val = true → t.on (F.lphyTxstatBusy x.val) = false) ∧
        (d.family ≠ 2 → d.ackReq = true → awaits (1050000 + ackNs s d.family d.sf d.band) t) ∧
        (d.family ≠ 2 → d.ackReq = false → closed 2 t) ∧
        (d.family = 2 → compatAckReq d = true → awaits Config.compatAckNs t) ∧
        (d.family = 2 → compatAckReq d = false → closed 2 t)) ∧
      (∀ d, a.body = .rtx d → Completes (.emissionEnd (.act th slot) clips none) s fun t =>
        t.on F.radioStatusTxBusy = false ∧ KeepsAllRegs s t [R.radioStatus] ∧
        (d.ackReq = true → awaits (1050000 + rfNs s 13 d.fec d.opmode) t) ∧ (d.ackReq = false → ended a 2 0 t))) ∧
    (isPending a = true → a.stage = .rxOpen →
      (∀ q, frameInWindow s a = true ∨ q = true → Completes (.rxWindowClose th slot q) s fun t =>
        t.act n k = { a with stage := .closing, awaits := q } ∧ Agree [.regs, .time, .copy, .threads] s t) ∧
      ((∃ w, a.body = .rxw w) ∨ (∃ v, a.body = .rrx v) → frameInWindow s a = false →
        Completes (.rxWindowClose th slot false) s (closed 3)))

/-! ### Acknowledgements, retransmissions, line-driver faults, mains trackers (R23, R255 to R257, R273, R292 to R298, R327, R328, R411 to R413) -/

/-- R23, R292: an acknowledgement that falls due goes out on the transmitter chosen, or is dropped and counted; R294,
R327: one received in time, with the slot's `SEQ`, on the band or the channel of its frame makes the slot `DONE`;
R295, R328: a wait that ends without one leaves the slot to be placed again, or fails it with `NO_ACK` after its
retries; R298: at each boundary the retry is emitted, or passed over with its obstacle until 64 have passed. -/
def Obligations.AcknowledgementsAndRetries : Prop :=
  (∀ (s : State) (i : Nat) (a : AckDue), s.line.acks[i]? = some a →
    let now := s.passTo a.due
    let dropped (t : State) : Prop := t.line.acks = s.line.acks.eraseIdx i
    (a.sent.isSome = true → Completes (.ackDeadline (.ack i)) s fun t => t = s) ∧
    (a.sent = none → linkLost s = true ∨ silenced s = true ∨ airHeld s = true →
      Completes (.ackDeadline (.ack i)) s dropped) ∧
    (a.sent = none → linkLost s = false → silenced s = false → airHeld s = false →
      let lineCase (fam m p ns : Nat) (isFrame : LineFrame → Prop) : Prop :=
        (lastGasp s = true ∨ ackUnit now m p = none → Completes (.ackDeadline (.ack i)) s fun t =>
          dropped t ∧ Bumped R.lmacAckBlockedCnt s t) ∧
        (∀ u : Fin 3, lastGasp s = false → ackUnit now m p = some u.val → heldOff now (2 ^ u.val) a.due.toNat = true →
          Completes (.ackDeadline (.ack i)) s fun t => dropped t ∧ Bumped (R.lphyAckHeldCnt u.val) s t) ∧
        (∀ u : Fin 3, lastGasp s = false → ackUnit now m p = some u.val → heldOff now (2 ^ u.val) a.due.toNat = false →
          Completes (.ackDeadline (.ack i)) s fun t =>
            t.line.acks[i]? = some { a with sent := some u.val, endAt := after a.due (nsSteps ns) } ∧
            t.on (F.lphyTxstatBusy u.val) = true ∧
            ∃ f, Out.lineTx u.val f ∈ t.fab.out ∧ f.fam = fam ∧ isFrame f)
      (∀ fam sf b m p adv pend, a.body = .line fam sf b m p adv pend →
        lineCase fam m p (lineAckNs s fam sf b) fun f => f.ftype = 2 ∧ f.seq = a.seq ∧ f.hops = adv) ∧
      (∀ b m p mode l, a.body = .tmr b m p mode l →
        lineCase 2 m p (compatNs s mode l.length) fun f => f.mode = mode ∧ f.payload = l) ∧
      (∀ ch op fec wh poll evt pend, a.body = .radio ch op fec wh poll evt pend →
        let bad := dutyRefuses s (accountsOf s ch op) (rfMs s 13 fec op) false
        let bars : Prop := s.on F.radioStatusTxBusy = true ∨ chanInRegion s ch op = false
        (bars → Completes (.ackDeadline (.ack i)) s dropped) ∧
        (¬ bars → dutyUncovered s (accountsOf s ch op) = true ∨ bad ≠ [] →
          Completes (.ackDeadline (.ack i)) s fun t => dropped t ∧ Bumped R.rfAckDeniedCnt s t) ∧
        (¬ bars → dutyUncovered s (accountsOf s ch op) = false → bad = [] →
          Completes (.ackDeadline (.ack i)) s fun t =>
            t.line.acks[i]? = some { a with sent := some 3, endAt := radioAckEnd s a fec op } ∧
            t.on F.radioStatusTxBusy = true ∧ t.radio.rx = none ∧
            ∃ f, Out.radioTx f ∈ t.fab.out ∧ f.chan = ch ∧ f.opmode = op ∧ f.ftype = 2 ∧ f.seq = a.seq)))) ∧
  (∀ (s : State) (i : Nat) (h : Held), s.line.held[i]? = some h → Completes (.ackDeadline (.held i)) s fun t =>
    t.line.held = s.line.held.eraseIdx i ∧ Bumped R.ncpCtxLateCnt s t) ∧
  ∀ (s : State) (th : Fin 32) (slot : Fin 4),
    let n := th.val
    let k := slot.val
    let a := s.act n k
    let closed (status cause : Nat) (t : State) : Prop :=
      t.act n k = { a with status := status, cause := cause, info := infoOf a, stage := .none } ∧
      bitAt (t.thr n).wakeBits (8 + k) = true ∧ ∀ g ∈ t.pwr.held, g.who ≠ .act n k
    let awaits : Prop := isPending a = true ∧ a.stage = .ackWait
    let held : Prop := airHeld s = true ∨ (actSecure a = true ∧ islandHeld s 1 = true)
    let emits (at' : Time) (t : State) : Prop :=
      (t.act n k).stage = .emitting ∧ (t.act n k).emissions = a.emissions + 1 ∧ (t.act n k).instant = at' ∧
      (t.act n k).status = 1
    let fits (r : AckSeen) (start ref : Time) : Prop := r.seq = a.seq ∧
      ((∃ d c fam, a.body = .txf d ∧ r.line = some (c, fam) ∧ hears s c.val = true ∧ chainBand c.val = d.band ∧
          (d.family = 2 → fam.val = 2) ∧
          (d.family ≠ 2 → fam.val ≠ 2 ∧ r.ftype = 2 ∧ ackInTime s a start.toNat = true)) ∨
        ∃ d, a.body = .rtx d ∧ r.line = none ∧ r.ftype = 2 ∧ r.chan = a.chan ∧ r.opmode = d.opmode ∧ r.fec = d.fec ∧
          r.whiten = d.whiten ∧ ackInTime s a (radioStart s d.opmode ref) = true)
    (∀ r advice start ref now, awaits → fits r start ref →
      Completes (.ackRx th slot r advice start ref now) s (closed 2 0)) ∧
    (∀ r advice start ref now, ¬ (awaits ∧ fits r start ref) →
      Completes (.ackRx th slot r advice start ref now) s fun t => t = s) ∧
    (¬ awaits → Completes (.ackWaitEnd th slot) s fun t => t = s) ∧
    (awaits → ∀ d, a.body = .txf d →
      let mode := match d.ctx with
        | some c => if d.family = 0 then nextMode s c a.mode else a.mode
        | none => a.mode
      (a.emissions < d.retry + 1 → outage s n = false → Completes (.ackWaitEnd th slot) s fun t =>
        t.act n k = { a with stage := .place, tries := 0, mode := mode, obstacle := 0x0C } ∧ (∀ g ∈ t.pwr.held, g.who ≠ .act n k) ∧
        (d.family ≠ 2 → Bumped R.lmacRetxCnt s t)) ∧
      (¬ (a.emissions < d.retry + 1 ∧ outage s n = false) → Completes (.ackWaitEnd th slot) s fun t =>
        closed 4 0x2E t ∧ (d.family ≠ 2 → Bumped R.lmacNoAckCnt s t))) ∧
    (awaits → ∀ d, a.body = .rtx d →
      (a.emissions < d.retry + 1 → Completes (.ackWaitEnd th slot) s fun t =>
        t.act n k = { a with
          stage := .place, endAt := after a.endAt (msSteps (retxDelay s d)) } ∧
        ∀ g ∈ t.pwr.held, g.who ≠ .act n k) ∧
      (d.retry + 1 ≤ a.emissions → Completes (.ackWaitEnd th slot) s fun t => closed 4 0x2E t ∧ Bumped R.rfNoAckCnt s t)) ∧
    (∀ d, a.body = .txf d → isPending a = true → a.stage = .place → d.family ≠ 2 →
      let p := placePhase s a
      let x := placeSlot s a
      let b := (slotStart s p x.1 x.2).toNat
      let now := s.passTo (BitVec.ofNat 64 b)
      let dur := nsSteps (txfNs now d (txfPrep now d a.mode))
      let quiet : Prop := slotKind now p x.1 x.2 = 2 ∨ (quietHit now a.units b dur).isSome = true
      let taken : Prop := heldOff now a.units b = true ∨ txFree now a.units b (b + dur) n k = false
      let given := grantNow now n (txfGrantOf now n k a.units d.atten)
      let passed (o : Nat) (t : State) : Prop :=
        (a.tries < 63 → t.act n k = { a with tries := a.tries + 1, obstacle := o }) ∧
        (63 ≤ a.tries → closed 4 o t)
      (held → Completes (.retxPlace th slot) s (closed 4 0x30)) ∧
      (¬ held → quiet → Completes (.retxPlace th slot) s (passed a.obstacle)) ∧
      (¬ held → ¬ quiet → taken → Completes (.retxPlace th slot) s (passed 0x0C)) ∧
      (¬ held → ¬ quiet → ¬ taken → given = false → Completes (.retxPlace th slot) s (passed 0x09)) ∧
      (¬ held → ¬ quiet → ¬ taken → given = true → Completes (.retxPlace th slot) s fun t =>
        emits (BitVec.ofNat 64 b) t ∧ ∀ y : Fin 3, bitAt a.units y.val = true → t.on (F.lphyTxstatBusy y.val) = true)) ∧
    ∀ d, a.body = .rtx d → isPending a = true → a.stage = .place →
      let now := s.passTo a.endAt
      let psdu := psduLength d.secLevel d.payload.length
      let dur := nsSteps (rfNs now psdu d.fec d.opmode)
      let l := accountsOf now a.chan d.opmode
      let free : Prop := now.radio.rx = none ∧ rfFree now now.tb.toNat (now.tb.toNat + dur) n k = true
      let duty : Prop := dutyUncovered now l = false ∧ dutyRefuses now l (rfMs now psdu d.fec d.opmode) true = []
      let given := grantNow now n ⟨.act n k, grantDrawer now n, rtxMw (rtxLevel now d), 0, false⟩
      (held → Completes (.rfRetxPlace th slot) s (closed 4 0x30)) ∧
      (¬ held → ¬ free → Completes (.rfRetxPlace th slot) s (closed 4 0x0C)) ∧
      (¬ held → free → ¬ duty → Completes (.rfRetxPlace th slot) s (closed 4 0x0A)) ∧
      (¬ held → free → duty → given = false → Completes (.rfRetxPlace th slot) s (closed 4 0x09)) ∧
      (¬ held → free → duty → given = true → Completes (.rfRetxPlace th slot) s fun t =>
        emits now.tb t ∧ t.on F.radioStatusTxBusy = true)

/-- R255 to R257: a fault lowers the output of an emission, an abort fails what is emitted and holds the transmitter off
until its end; R411: an edge near the prediction of a locked tracker numbers the next crossing at the loop's estimate,
a missing one at the prediction, and one outside the window is rejected and counted; R412: the third miss goes to
`MAINS_HOLD`, its third edge relocks, 10 s lose the lock, and three edges in a row relock a lost tracker. -/
def Obligations.DriverFaultsAndMainsTrackers : Prop :=
  (∀ (s : State) (x : Fin 3) (now : Time),
    let aborts : Prop := (xmit s x.val).flt.isSome = true ∧ s.on (F.lphyTxstatBusy x.val) = true ∧
      s.on (F.lphyLdfltFltNow x.val) = true
    (s.on (F.lphyTxstatBusy x.val) = false → Completes (.ldFaultAssert x now) s fun t =>
      t.on (F.lphyLdfltFltNow x.val) = true ∧ t.on (F.lphyLdfltFltSeen x.val) = true ∧
      KeepsAllRegs s t [R.lphyLdflt x.val] ∧ Agree [.regs, .time, .copy] s t) ∧
    (s.on (F.lphyTxstatBusy x.val) = true → Completes (.ldFaultAssert x now) s (Counted (40 + x.val) fun u =>
      u.on (F.lphyLdfltFltNow x.val) = true ∧ u.on (F.lphyLdfltFltSeen x.val) = true ∧
      u.on (F.lphyLdfltReduced x.val) = true ∧ xmit u x.val = { xmit s x.val with flt := some now } ∧
      KeepsAllRegs s u [R.lphyLdflt x.val] ∧ Agree [.regs, .time, .copy, .line] s u)) ∧
    (Completes (.ldFltDeassert x) s fun t => t.on (F.lphyLdfltFltNow x.val) = false ∧
      xmit t x.val = { xmit s x.val with flt := none } ∧ (∀ y : Fin 3, y ≠ x → xmit t y.val = xmit s y.val) ∧
      KeepsAllRegs s t [R.lphyLdflt x.val] ∧ Agree [.regs, .line] s t) ∧
    ((¬ aborts → Completes (.txAbort x) s fun t => t = s) ∧
      (aborts → Completes (.txAbort x) s fun t => Bumped (R.lphyAbortCnt x.val) s t ∧
        t.on (F.lphyTxstatHoldOff x.val) = true ∧ (xmit t x.val).holdOff = some (after t.tb (msSteps 20)) ∧
        t.on (F.lphyTxstatBusy x.val) = false ∧
        ∀ p ∈ emittingOn s x.val, (s.act p.1 p.2).units ≠ 7 →
          (t.act p.1 p.2).status = 4 ∧ (t.act p.1 p.2).cause = 0x30)) ∧
    ((xmit s x.val).holdOff = none → Completes (.holdOffEnd x) s fun t => t = s) ∧
    (∀ e, (xmit s x.val).holdOff = some e → Completes (.holdOffEnd x) s fun t =>
      t.on (F.lphyTxstatHoldOff x.val) = false ∧ xmit t x.val = { xmit s x.val with holdOff := none } ∧
      KeepsAllRegs s t [R.lphyTxstat x.val] ∧ Agree [.regs, .time, .copy, .line] s t)) ∧
  ∀ (s : State) (p : Fin 3) (raw est : Time) (per : Nat) (meas : List BinMeas),
    let x := trk s p.val
    let near := nearPrediction s p.val raw
    let others (t : State) : Prop := ∀ q : Fin 3, q ≠ p → trk t q.val = trk s q.val
    let numbered (at' : Time) (period : Nat) : Trk :=
      { x with
        run := true, num := nextNum s p.val, stamp := at', period := period, perAt := period
        past := if x.run = true then (x.stamp, x.perAt) :: x.past else [], late := none }
    (s.plmb.started = false → Completes (.mainsCrossing p raw est per meas) s (fun t => t = s) ∧
      Completes (.mainsCrossingMissed p meas) s fun t => t = s) ∧
    (s.plmb.started = true → zxState s p.val = 0 →
      (near = true → Completes (.mainsCrossing p raw est per meas) s fun t => others t ∧
        trk t p.val = { numbered est (trackPeriod per) with missed := 0, edges := [] } ∧ zxState t p.val = 0) ∧
      (Completes (.mainsCrossingMissed p meas) s fun t => others t ∧
        (x.missed + 1 < 3 → zxState t p.val = 0 ∧
          trk t p.val = { numbered (BitVec.ofNat 64 (predicted s p.val)) (zxPeriod s p.val) with missed := x.missed + 1 }) ∧
        (3 ≤ x.missed + 1 → zxState t p.val = 1 ∧
          trk t p.val = { numbered (BitVec.ofNat 64 (predicted s p.val)) (zxPeriod s p.val) with
            missed := 0, edges := [], holdAt := t.tb }))) ∧
    (s.plmb.started = true → zxState s p.val = 1 → near = true → Completes (.mainsCrossing p raw est per meas) s fun t =>
      others t ∧
      (x.edges.length < 2 → zxState t p.val = 1 ∧
        trk t p.val = { numbered (BitVec.ofNat 64 (predicted s p.val)) x.period with edges := raw :: x.edges }) ∧
      (2 ≤ x.edges.length → zxState t p.val = 0 ∧
        trk t p.val = { numbered est (trackPeriod per) with missed := 0, edges := [] })) ∧
    (s.plmb.started = true → zxState s p.val = 1 → Completes (.mainsCrossingMissed p meas) s fun t => others t ∧
      zxState t p.val = 1 ∧
      trk t p.val = { numbered (BitVec.ofNat 64 (predicted s p.val)) (zxPeriod s p.val) with edges := [] }) ∧
    (s.plmb.started = true → zxState s p.val = 2 → Completes (.mainsCrossingMissed p meas) s fun t => others t ∧
      zxState t p.val = 2 ∧ trk t p.val = numbered (BitVec.ofNat 64 (predicted s p.val)) (zxPeriod s p.val)) ∧
    (s.plmb.started = true → zxState s p.val ≠ 2 → near = false →
      (Completes (.mainsCrossing p raw est per meas) s fun t => others t ∧ trk t p.val = x) ∧
      Completes (.zxEdgeRejected p raw) s fun t => Bumped (R.zxRejectCnt p.val) s t ∧ others t ∧
        trk t p.val = { x with edges := [] } ∧ KeepsRegs s t [R.zxRejectCnt p.val] ∧
        Agree [.regs, .time, .copy, .line, .events, .out, .held] s t) ∧
    (s.plmb.started = false ∨ zxState s p.val = 2 ∨ near = true → Completes (.zxEdgeRejected p raw) s fun t => t = s) ∧
    (s.plmb.started = true → zxState s p.val = 2 →
      (x.edges.length < 2 → Completes (.mainsCrossing p raw est per meas) s fun t => others t ∧
        trk t p.val = { x with edges := raw :: x.edges } ∧ zxState t p.val = 2) ∧
      ∀ e1 e2 l, x.edges = e1 :: e2 :: l →
        (relocks (raw.toNat - e1.toNat) (e1.toNat - e2.toNat) = false →
          Completes (.mainsCrossing p raw est per meas) s fun t => others t ∧
            trk t p.val = { x with edges := [raw, e1] } ∧ zxState t p.val = 2) ∧
        (relocks (raw.toNat - e1.toNat) (e1.toNat - e2.toNat) = true →
          x.run = false ∨ x.period ≤ 2 * (raw.toNat - x.stamp.toNat) →
          Completes (.mainsCrossing p raw est per meas) s fun t => others t ∧ zxState t p.val = 0 ∧
            trk t p.val = { numbered raw (raw.toNat - e1.toNat) with missed := 0, edges := [] }) ∧
        (relocks (raw.toNat - e1.toNat) (e1.toNat - e2.toNat) = true → x.run = true →
          2 * (raw.toNat - x.stamp.toNat) < x.period →
          Completes (.mainsCrossing p raw est per meas) s fun t => others t ∧ zxState t p.val = 0 ∧
            trk t p.val = { x with
              edges := [], missed := 0, period := raw.toNat - e1.toNat
              late := some (after raw (raw.toNat - e1.toNat)) })) ∧
    (zxState s p.val ≠ 1 → Completes (.mainsHoldTimeout p) s fun t => t = s) ∧
    (zxState s p.val = 1 → Completes (.mainsHoldTimeout p) s fun t => others t ∧ zxState t p.val = 2 ∧
      trk t p.val = { x with period := nominalPeriod s p.val, edges := [] })

/-! ### Reception on the line and the radio (R22, R23, R201, R235 to R248, R253, R277 to R289, R297, R302 to R334, R357, R477) -/

/-- While every chain is enabled. R238, R240, R245: a detection that meets its threshold is shown, taken up by a free
decoder, displaces a weaker one as its margins say, or is kept as a candidate, a Sweep one in the second context;
R240, R248: a header is taken by every member of its set, or counted as dropped, as a false synchronization or as a
split; R253, R254: the first channel step of a frame counts, and its set knows of it; a frame's end frees its
decoders, and the frame is judged (R289); R124, R233, R235, R236: compatibility frames are filtered, acknowledged and
answered, and sent by channel access. -/
def Obligations.LineReceptionFollowsItsTables : Prop :=
  ∀ (s : State) (c : Fin 6), (∀ e : Fin 6, chainEnabled s e.val = true) →
    let freed (t : State) (m : Nat × Nat) : Prop :=
      (m.2 = 1 → current t m.1 1 = current s m.1 3) ∧ (m.2 = 3 → current t m.1 3 = none) ∧
      (m.2 = 0 ∨ m.2 = 2 → (decOf (chain s m.1) m.2).cands = [] → current t m.1 m.2 = none)
    (∀ d : Det,
      let now := s.passTo d.seen
      let taken : Prop := deaf now c.val = false ∧ correlates now c.val d = true ∧ meetsThr now c.val d = true ∧
        ownEcho now c.val d = false
      let x := decOf (chain s c.val) d.fam
      let seen (t : State) : Prop := t.get (F.lphyDetstatMetric c.val) = min d.metric 1023 ∧
        t.get (F.lphyDetstatFamily c.val) = d.fam ∧ t.get (F.lphyDetstatPower c.val) = min d.power 255
      let begins (k : Nat) (t : State) : Prop :=
        ∃ id first st, current t c.val k = some ⟨d, id, first, false, LineHdr.none, false, st, false, none⟩
      let takes (t : State) : Prop := seen t ∧ begins d.fam t ∧
        (s.on (F.lphyRxcfgAgcAuto c.val) = true → t.on (F.lphyRxstatFrozen c.val) = true)
      let keeps (t : State) : Prop := seen t ∧ current t c.val d.fam = x.current ∧
        (d.fam ≠ 1 → (decOf (chain t c.val) d.fam).cands = x.cands ++ [d]) ∧
        (d.fam = 1 → suspended s c.val = false →
          (current s c.val 3 = none → begins 3 t) ∧
          ∀ q, current s c.val 3 = some q →
            (q.det.power < d.power → begins 3 t) ∧ (d.power ≤ q.det.power → current t c.val 3 = some q))
      let does (P : State → Prop) : Prop := Completes (.preambleDetection c d) s P
      (¬ taken → does fun t => t = now) ∧
      (taken → suspended s c.val = true → does keeps) ∧
      (taken → suspended s c.val = false → x.current = none → does takes) ∧
      (∀ r, taken → suspended s c.val = false → x.current = some r → r.valid = false →
        (r.det.metric + 4 * s.get F.lphyDetcfgResyncMargin ≤ d.metric → does fun t =>
          takes t ∧ Bumped (R.lphyResyncCnt c.val) s t) ∧
        (d.metric < r.det.metric + 4 * s.get F.lphyDetcfgResyncMargin → does keeps)) ∧
      (∀ r, taken → suspended s c.val = false → x.current = some r → r.valid = true →
        let captures : Prop := s.get F.lphyDetcfgCaptureMargin < 15 ∧
          r.det.power + s.get F.lphyDetcfgCaptureMargin ≤ d.power
        (captures → does fun t => takes t ∧ Bumped (R.lphyCapturedCnt c.val) s t) ∧ (¬ captures → does keeps))) ∧
    (∀ (dec : Fin 4) (r : Recv) (now : Time) (each : List (Option LineHdr)), current s c.val dec.val = some r →
      r.valid = false →
      let fam := decFam dec.val
      let l := setMembers s fam r.set
      (∀ h, headerOk fam h = true → (fam ≠ 2 → h.fc.toNat % 16 ≤ 8) →
        Completes (.headerCheck c dec now (some h) each []) s fun t =>
          ∀ m ∈ l, ∀ q, current s m.1 m.2 = some q →
            current t m.1 m.2 = some { q with set := r.set, valid := true, hdr := h, cut := q.cut || islandHeld s 1 }) ∧
      (∀ h, headerOk fam h = false → (l.map Prod.fst).Nodup →
        Completes (.headerCheck c dec now (some h) each []) s fun t =>
          ∀ m ∈ l, Bumped (R.lphyHdrDropCnt m.1) s t ∧ freed t m) ∧
      (l = [(c.val, dec.val)] → Completes (.headerCheck c dec now none each []) s fun t =>
        Bumped (R.lphyFalseSyncCnt c.val) s t ∧ freed t (c.val, dec.val)) ∧
      (2 ≤ l.length → Completes (.headerCheck c dec now none each []) s (Bumped R.lphySplitCnt s))) ∧
    (∀ sym carriers,
      (current s c.val 0 = none → Completes (.channelStep ⟨c, sym, carriers⟩) s fun t => t = s) ∧
      ∀ r, current s c.val 0 = some r →
        (r.step = true ∨ stepDeclared s sym carriers = false →
          Completes (.channelStep ⟨c, sym, carriers⟩) s fun t => t = s) ∧
        (r.step = false → stepDeclared s sym carriers = true → Completes (.channelStep ⟨c, sym, carriers⟩) s fun t =>
          let l := setMembers s 0 r.set
          current t c.val 0 = some { r with step := true, setStep := true } ∧
          (∀ m ∈ l, m.1 ≠ c.val → ∀ q, current s m.1 m.2 = some q →
            current t m.1 m.2 = some { q with setStep := true }) ∧
          Bumped (R.lphyStepCnt c.val) s t ∧
          (∀ e : Fin 6, (∀ m ∈ l, m.1 ≠ e.val) → chain t e.val = chain s e.val) ∧
          KeepsRegs s t (R.lphyStepCnt c.val :: (List.range 6).map R.lphyDetstat) ∧
          Agree [.regs, .line, .events, .out, .held] s t)) ∧
    (∀ (dec : Fin 4) (rx : LineRx), dec.val = 2 ∨ (∀ r, current s c.val dec.val = some r → r.valid = false) →
      Completes (.frameEnd c dec rx) s fun t => t = s) ∧
    (∀ (dec : Fin 4) (rx : LineRx) (r : Recv), dec.val ≠ 2 → current s c.val dec.val = some r → r.valid = true →
      let l := setMembers s (decFam dec.val) r.set
      let g := setGot s (decFam dec.val) l r rx
      let f := mframe (.line g)
      let who := match r.res with
        | some x => some x.1
        | none => if f.ftype = 3 then idxFind s (.eui (payloadEui f)) else idxFind s (.short f.far)
      let judged : Prop := g.hdr.length ≠ 0 ∧ f.ftype ≠ 2 ∧ f.level ≠ 4 ∧ r.res.map Prod.snd ≠ some true ∧
        (f.dest = s.get F.lmacOwnShort ∨ f.dest = 0xFFFF)
      let does (P : State → Prop) : Prop := Completes (.frameEnd c dec rx) s fun t =>
        (∀ m ∈ l, freed t m) ∧ (2 ≤ l.length → Bumped R.lphyCombCnt s t) ∧ P t
      (l.map Prod.fst).Nodup →
      (judged → who = none → f.ftype ≠ 3 ∨ s.on F.lmacAssocCfgUnknownEn = false → does (Bumped R.lmacUnknownCnt s)) ∧
      (judged → who = none → f.ftype = 3 → s.on F.lmacAssocCfgUnknownEn = true → f.crcOk = true → f.level = 0 →
        does (Bumped R.lmacSecLowCnt s)) ∧
      (∀ k, judged → who = some k → resident s k = true → f.crcOk = true → g.step = false →
        (∀ w ∈ judgeWords f, ctxBad s k w = false) →
        let required := ctxBits s k 4 2 0
        let passes : Prop := required ≤ f.level ∧ levelAllowed true f.ftype f.level = true ∧ f.level ≠ 0 ∧
          f.cut = false ∧ islandHeld s 1 = false ∧ f.mismatch = false
        (f.level < required → does (Bumped R.lmacSecLowCnt s)) ∧
        (passes → verifyPos s k f = none → does (Bumped R.lmacMicFailCnt s)) ∧
        (∀ p, passes → verifyPos s k f = some p → fcValid s f.counter = true →
          let f' := mframe (opened (plainOf s k p f) (.line g))
          (∀ w ∈ phaseWords f', ctxBad s k w = false) →
          (isDup s k f (some p) = true → does (Bumped R.lmacDupRx s)) ∧
          (∀ o, isDup s k f (some p) = false → keptBack f' = false → keyRole s k p = roleCurrent →
            ownerCtx s k = some o → fits s o (ctxBits s k 3 5 0) f'.payload.length = .ok → does fun t =>
              rxFc t k p = f.counter ∧ rxSeen t k p = true ∧
              (f.ackReq = true → ∃ a ∈ t.line.acks, a.due = after f.endAt (msSteps 1) ∧ a.seq = f.seq ∧
                a.ctx = some k ∧ a.sent = none))))) ∧
    (∀ rx : CompatRx, (∀ r, current s c.val 2 = some r → r.valid = false) →
      Completes (.compatFrameRx c rx) s fun t => t = s) ∧
    (∀ (rx : CompatRx) (r : Recv), current s c.val 2 = some r → r.valid = true →
      let l := setMembers s 2 r.set
      let g := compatGot s l r rx
      let does (P : State → Prop) : Prop := Completes (.compatFrameRx c rx) s fun t => (∀ m ∈ l, freed t m) ∧ P t
      let ours : Prop := rx.fcsOk = true ∧ compatOurs s rx = true
      (rx.fcsOk = false → does fun t => t.line.acks = s.line.acks ∧ t.fab.queues = s.fab.queues) ∧
      (ours → fullFit (compatFit s rx) = true → does fun t => Bumped R.delivFullCnt s t ∧
        t.line.acks = s.line.acks ∧ t.fab.queues = s.fab.queues) ∧
      (ours → compatFit s rx = .refused → does (Bumped R.lphyCompatDropCnt s)) ∧
      (ours → fullFit (compatFit s rx) = false → rx.ackReq = true → does fun t =>
        ∃ a ∈ t.line.acks, a.seq = rx.seq ∧ a.sent = none ∧ a.ctx = none ∧
          a.body = .line 2 0 g.band g.chains g.primary 0 0) ∧
      (ours → fullFit (compatFit s rx) = false → rx.tmReq = true → s.on F.lphyCompatCfgTmrAuto = true → does fun t =>
        let tm := Config.compatTmr (s.get F.lphyCompatCfgPlan) rx.src rx.snr
        ∃ a ∈ t.line.acks, a.sent = none ∧ a.body = .tmr g.band g.chains g.primary tm.1 tm.2)) ∧
    ∀ (th : Fin 32) (slot : Fin 4) (ok : Bool) (now : Time) (d : TxfD),
      let a := s.act th.val slot.val
      let at' := s.passTo now
      let dur := nsSteps (txfNs at' d (a.mode, 7))
      let access : Prop := isPending a = true ∧ a.stage = .place ∧ d.family = 2
      let granted : Prop := ok = true ∧ (unitList a.units).any (txBusy at') = false
      let failed (cause : Nat) (t : State) : Prop := t.act th.val slot.val =
        { a with status := 4, cause := cause, info := d.payload.length, stage := .none }
      a.body = .txf d →
      (¬ access → Completes (.compatCsmaAccess th slot ok now) s fun t => t = s) ∧
      (access → airHeld s = true → Completes (.compatCsmaAccess th slot ok now) s (failed 0x30)) ∧
      (access → airHeld s = false → ¬ granted → Completes (.compatCsmaAccess th slot ok now) s (failed 0x32)) ∧
      (access → airHeld s = false → granted → heldOff at' a.units at'.tb.toNat = true →
        Completes (.compatCsmaAccess th slot ok now) s (failed 0x33)) ∧
      (access → airHeld s = false → granted → heldOff at' a.units at'.tb.toNat = false →
        ackClashes at' a.units at'.tb.toNat (at'.tb.toNat + dur) ≠ [] →
        Completes (.compatCsmaAccess th slot ok now) s (failed 0x0C)) ∧
      (access → airHeld s = false → granted → heldOff at' a.units at'.tb.toNat = false →
        ackClashes at' a.units at'.tb.toNat (at'.tb.toNat + dur) = [] →
        Completes (.compatCsmaAccess th slot ok now) s fun t =>
          (t.act th.val slot.val).stage = .emitting ∧ (t.act th.val slot.val).instant = at'.tb ∧
          ∀ x : Fin 3, bitAt a.units x.val = true → t.on (F.lphyTxstatBusy x.val) = true)

/-- R336: an enable outside the region lock is refused; R308: an SFD found while a fitting window is open begins a
reception; R310, R312, R325: its end is dropped with a bad header, counted with a bad `FCS`, and else judged; R316:
the next superframe begins; R319, R322: a connection's next event, and its end when its supervision expires; R330,
R334: a second prunes the airtime rings, and a checkpoint is written or fails. -/
def Obligations.RadioControlAndReception : Prop :=
  (∀ (s : State) (d : Drawer) (v : Word) (be : BitVec 4), takesWrite s d.val R.radioCfg = true →
    let u := s.wrTyped R.radioCfg v be
    let on := u.on F.radioCfgEnable
    let bad : Prop := on = true ∧ (bandAllowed u = false ∨ channelOutside u = true)
    (bad → Completes (.radioEnable d v be) s (Counted 98 fun y => y.on F.radioCfgEnable = false ∧
      y.on F.radioStatusRegionRefused = true ∧ KeepsAllRegs s y [R.radioCfg, R.radioStatus] ∧ OnlyRegs s y)) ∧
    (¬ bad → s.on F.radioCfgEnable = on → Completes (.radioEnable d v be) s fun t => t = u) ∧
    (¬ bad → s.on F.radioCfgEnable ≠ on → Completes (.radioEnable d v be) s fun t => t.on F.radioCfgEnable = on ∧
      t.on F.radioSfStatRunning = false ∧ t.radio = { s.radio with rx := none } ∧
      KeepsAllRegs s t [R.radioCfg, R.radioSfStat] ∧ Agree [.regs, .radio] s t)) ∧
  (∀ (s : State) (r : RfRecv),
    let open' : Prop := ∃ (th : Fin 32) (slot : Fin 4) (v : RrxD), isPending (s.act th.val slot.val) = true ∧
      ((s.act th.val slot.val).stage = .rxOpen ∨ (s.act th.val slot.val).awaits = true) ∧
      (s.act th.val slot.val).body = .rrx v ∧
      rrxHits (s.act th.val slot.val) v r.chan r.opmode r.fec r.whiten r.start = true
    let ready : Prop := s.on F.radioCfgEnable = true ∧ linkLost s = false ∧ airHeld s = false ∧
      s.on F.radioStatusTxBusy = false ∧ s.radio.rx = none
    (ready → open' → Completes (.sfdDetected r) s fun t =>
      t.radio = { s.radio with rx := some r, rxCut := islandHeld s 1 } ∧
      t.tb = (s.passTo r.refAt).tb ∧ Agree [.time, .copy, .threads, .radio] s t) ∧
    (¬ (ready ∧ open') → Completes (.sfdDetected r) s fun t => t = s)) ∧
  (∀ (s : State) (r : RfRx),
    ((∀ x, s.radio.rx = some x → x.chan ≠ r.chan ∨ x.opmode ≠ r.opmode) →
      Completes (.rfFrameRx r) s fun t => t = s) ∧
    (∀ x, s.radio.rx = some x → x.chan = r.chan → x.opmode = r.opmode →
      let f := mframe (.radio { r with start := x.start, refAt := x.refAt, fec := x.fec, whiten := x.whiten } s.radio.rxCut)
      let header : Prop := r.phrOk = true ∧ r.length ≤ 2047
      let fit : Prop := header ∧ r.fcsOk = true ∧ r.ftype ≠ 2 ∧ rfTypeOk r.ftype = true ∧ r.secLevel ≠ 4
      let mine : Prop := r.dest = s.get F.lmacOwnShort ∨ r.dest = 0xFFFF
      let who := if r.ftype = 3 then idxFind s (.eui (payloadEui f)) else idxFind s (.short r.src)
      let does (P : State → Prop) : Prop := Completes (.rfFrameRx r) s fun t => t.radio.rx = none ∧ P t
      let nothing (t : State) : Prop := t.fab.queues = s.fab.queues ∧ t.line.acks = s.line.acks
      (¬ header → does nothing) ∧
      (header → r.fcsOk = false → does fun t => Bumped R.rfFcsFailCnt s t ∧ nothing t) ∧
      (header → r.fcsOk = true → ¬ fit → does nothing) ∧
      (fit → ¬ mine → does nothing) ∧
      (fit → mine → who = none → r.ftype ≠ 3 ∨ s.on F.lmacAssocCfgUnknownEn = false →
        does (Bumped R.lmacUnknownCnt s)) ∧
      (fit → mine → who = none → r.ftype = 3 → s.on F.lmacAssocCfgUnknownEn = true → r.secLevel = 0 →
        does (Bumped R.lmacSecLowCnt s)) ∧
      (∀ k, fit → mine → who = some k → resident s k = true → (∀ w ∈ judgeWords f, ctxBad s k w = false) →
        let required := ctxBits s k 4 2 0
        let passes : Prop := required ≤ r.secLevel ∧ levelAllowed false r.ftype r.secLevel = true ∧ r.secLevel ≠ 0 ∧
          s.radio.rxCut = false ∧ islandHeld s 1 = false ∧ r.mismatch = false
        (r.secLevel < required → does (Bumped R.lmacSecLowCnt s)) ∧
        (passes → verifyPos s k f = none → does (Bumped R.rfMicFailCnt s)) ∧
        (∀ p, passes → verifyPos s k f = some p → fcValid s f.counter = true → isDup s k f (some p) = true →
          does (Bumped R.rfDupRx s))))) ∧
  (∀ s : State, (s.on F.radioCfgEnable = false → Completes .rfSfStart s fun t => t = s) ∧
    (s.on F.radioCfgEnable = true → Completes .rfSfStart s fun t =>
      t.get F.radioSfNumSfNum = nextRfSf s % 2 ^ 32 ∧ t.on F.radioSfStatRunning = true ∧
      t.tb = (s.passTo (BitVec.ofNat 64 (rfSfStart s (nextRfSf s)))).tb ∧
      (s.on (F.plmbOutCfgEnable 1) = true → s.get (F.plmbOutCfgSfsSrc 1) = 1 →
        (outGen t 1).due = some (after t.tb (usSteps 1))) ∧
      KeepsRegs s t [R.radioSfNum, R.radioSfStat] ∧ Agree [.regs, .time, .copy, .plmb, .events, .out, .held] s t)) ∧
  (∀ (s : State) (c : Fin 16384),
    let n := c.val
    let now := s.passTo (BitVec.ofNat 64 (wakeNext s n))
    let due : Prop := connState s n = 1 ∧ wakeNext s n ≠ 0 ∧ (n, CtxUpd.evtNext) ∉ s.line.upds
    let expires (at' : Nat) : Prop := tabGet (fun _ => 0) s.radio.sup n = at' + 1 ∧ s.radio.frozen = none ∧
      connState s n ≠ 0
    (¬ due → Completes (.connEventAdvance n) s fun t => t = s) ∧
    (due → resident s n = true → Completes (.connEventAdvance n) s fun t =>
      evtNext t n = (evtNext s n + 1) % 65536 ∧
      wakeNext t n = eventInstant now n (nearestEvent now n (wakeNext s n) + 1) % 2 ^ 64 ∧ connState t n = 1 ∧
      Agree [.time, .copy, .ncp, .regs] s t) ∧
    ((∀ at', ¬ expires at') → Completes (.supervisionExpire n) s fun t => t = s) ∧
    (∀ at', expires at' → resident s n = true → Completes (.supervisionExpire n) s fun t =>
      connState t n = 0 ∧ wakeNext t n = 0 ∧ (∀ i, i < 6 → ctxWord t n (270 + i) = 0#32) ∧
      tabGet (fun _ => 0) t.radio.sup n = 0 ∧ Bumped R.rfConnLostCnt s t)) ∧
  ∀ s : State,
    (Completes .dcSecondTick s fun t => t.radio.sec = s.radio.sec + 1 ∧
      t.radio.actual = pruneRing (s.radio.sec + 1) s.radio.actual ∧
      t.radio.prior = pruneRing (s.radio.sec + 1) s.radio.prior ∧
      (∀ a, a < 8 → t.get (F.dcUsedUsedMs a) = dcUsed t a % 2 ^ 22) ∧
      KeepsRegs s t ((List.range 8).map R.dcUsed) ∧
      Agree [.regs, .time, .copy, .radio, .events, .out, .held] s t) ∧
    (s.on F.storStatusMounted = true → islandHeld s 2 = false → Completes (.dcCheckpoint true) s (Counted 95 fun u =>
      u.nand = { s.nand with ckpt := ⟨true, s.tb.toNat / 2 ^ 32, false, ringsByAge s⟩ } ∧
      u.get F.dcCkptSStampS = s.tb.toNat / 2 ^ 32 ∧ u.on F.dcStatusCkptValid = true ∧
      KeepsAllRegs s u [R.dcCkptS, R.dcStatus] ∧ Agree [.regs, .nand] s u)) ∧
    (∀ ok, ok = false ∨ s.on F.storStatusMounted = false ∨ islandHeld s 2 = true → Completes (.dcCheckpoint ok) s (Counted 96 fun u =>
      u.on F.dcStatusCkptFail = true ∧ KeepsAllRegs s u [R.dcStatus] ∧ OnlyRegs s u))

/-! ### Cipher jobs, key slots, contexts and their index (R339 to R382) -/

/-- R345: a fresh job ends with its first failed check, or its key is charged and it runs, once its burst is given;
R341, R342, R344, R346: each operation's output and result; R359: a mismatch ends a job with nothing written; R350,
R353, R357: an import fills a slot or a key position, an erase empties it, a promotion makes `NEXT` current; R348: a
limit may not rise on a loaded slot; R361: a failed health test is latched and counted. -/
def Obligations.CipherJobsAndKeys : Prop :=
  (∀ (s : State) (id : Nat) (j : Job) (c : Bool → Instr) (op : Nat), jobOf s id = some j →
    (c = Instr.aes id ∧ op = 0x010 ∨ c = Instr.hash id ∧ op = 0x020 ∨ c = Instr.sign id ∧ op = 0x021 ∨
      c = Instr.verify id ∧ op = 0x022 ∨ c = Instr.ecdh id ∧ op = 0x023 ∨ c = Instr.random id ∧ op = 0x024 ∨
      c = Instr.keyImport id ∧ op = 0x030 ∨ c = Instr.keyErase id ∧ op = 0x031 ∨
      c = Instr.keyPromote id ∧ op = 0x032) →
    let mine : Prop := j.unit = .cipher ∧ jOp j = op
    let n := jTarget j
    let ends (st res : Nat) (t : State) : Prop := ∃ y, jobOf t id = some y ∧ y.status = st ∧
      y.result = BitVec.ofNat 64 res ∧ y.phase = 4 ∧ y.words = j.words
    (¬ mine → ∀ m, Completes (c m) s fun t => t = s) ∧
    (mine → j.phase = 0 → ciphRefusal s j ≠ 0 → ∀ m, Completes (c m) s fun t => ends (ciphRefusal s j) 0 t ∧
      t.fab.bulk = s.fab.bulk ∧ t.ciph = s.ciph ∧ (ciphRefusal s j ≠ 0x13 → Agree [.jobs, .pwr] s t) ∧
      (ciphRefusal s j = 0x13 → t.on (F.keyInfoExhausted n) = true)) ∧
    (mine → j.phase = 0 → ciphRefusal s j = 0 → jobCharge j ≠ 0 → jNode j = false →
      keyUse s n + jobCharge j < 2 ^ 48 → ∀ m, Completes (c m) s fun t =>
        keyUse t n = keyUse s n + jobCharge j ∧
        (needsBurst j = false ∨ givenNow s (burstOf j) = true → ∃ y, jobOf t id = some y ∧ y.phase = 4) ∧
        (needsBurst j = true → givenNow s (burstOf j) = false →
          (∃ y, jobOf t id = some y ∧ y.phase = 1 ∧ y.key = keyOf s n) ∧ burstOf j ∈ t.pwr.waiting)) ∧
    (mine → j.phase = 3 → jNode j = true → resident s n = false → ctxDead s n = false → ∀ m,
      Completes (c m) s fun t => t = s) ∧
    (mine → j.phase = 3 → jNode j = false → Completes (c true) s fun t => ends 0x11 0 t ∧
      Bumped R.ciphFaultCnt s t ∧ t.fab.bulk = s.fab.bulk)) ∧
  (∀ (s : State) (id : Nat) (j : Job), jobOf s id = some j → j.unit = .cipher → j.phase = 3 → jNode j = false →
    let d := j.drawer
    let n := jTarget j
    let ends (st res : Nat) (t : State) : Prop := ∃ y, jobOf t id = some y ∧ y.status = st ∧
      y.result = BitVec.ofNat 64 res ∧ y.phase = 4
    let writes (l : List Byte) (t : State) : Prop := t.fab.bulk = (wrBulkL s d (jDst j) l).fab.bulk ∧
      Agree [.jobs, .bulk, .pwr] s t
    let f := jAes j
    let b := j.key.length
    let poisoned := bulkPoisoned s d (jSrc j) f.len || bulkPoisoned s d (bitsOf (jw j 1) 95 64) f.aadLen
    let run := aesRun f j.key (rdBulkN s d (bitsOf (jw j 1) 127 96) f.ivLen)
      (rdBulkN s d (bitsOf (jw j 1) 95 64) f.aadLen) (rdBulkN s d (jSrc j) f.len)
      (rdBulkN s d (bitsOf (jw j 2) 31 0) f.tagLen)
    let zeros := List.replicate (aesOutLen f) 0#8
    (jOp j = 0x010 → poisoned = true → Completes (.aes id false) s fun t => ends 1 0 t ∧ Agree [.jobs, .pwr] s t) ∧
    (jOp j = 0x010 → poisoned = false →
      (∀ out tag, run = .ok out tag → hasTag f.mode = false → Completes (.aes id false) s fun t =>
        ends 0 out.length t ∧ writes out t) ∧
      (run = .auth → Completes (.aes id false) s fun t => ends 0x10 (aesOutLen f) t ∧
        t.fab.bulk = (wrBulkL s d (jDst j) zeros).fab.bulk ∧ Bumped R.ciphAuthFailCnt s t) ∧
      (run = .pad → Completes (.aes id false) s fun t => ends 0x15 (aesOutLen f) t ∧ writes zeros t)) ∧
    (jOp j = 0x020 →
      let m := rdBulkN s d (jSrc j) (bitsOf (jw j 1) 22 0)
      let out := curveHash (if bitAt (jw j 0) 60 = true then 48 else 32) m
      Completes (.hash id false) s fun t => ends 0 out.length t ∧ writes out t) ∧
    (jOp j = 0x021 → Completes (.sign id false) s fun t => ends 0 (2 * b) t ∧
      writes (signDigest b j.key (rdBulkN s d (jSrc j) b)) t) ∧
    (jOp j = 0x022 →
      let k := curveBytes (jCurve j == 1)
      let ok := Config.ecVerify (jCurve j) (rdBulkN s d (bitsOf (jw j 1) 95 64) (2 * k))
        (rdBulkN s d (bitsOf (jw j 2) 63 32) k) (rdBulkN s d (bitsOf (jw j 1) 127 96) (2 * k))
      Completes (.verify id false) s fun t => ends 0 (if ok = true then 2 ^ 32 else 0) t ∧ Agree [.jobs, .pwr] s t) ∧
    (jOp j = 0x023 → ∀ z, Config.ecdh b j.key (rdBulkN s d (bitsOf (jw j 1) 95 64) (2 * b)) = some z →
      Completes (.ecdh id false) s fun t => ends 0 b t ∧ writes (fit b z) t) ∧
    (jOp j = 0x024 →
      (s.on F.ciphStatusRngFail = true → Completes (.random id false) s fun t => ends 0x19 0 t ∧
        Agree [.jobs, .pwr] s t) ∧
      (s.on F.ciphStatusRngFail = false → Completes (.random id false) s fun t =>
        ends 0 (bitsOf (jw j 1) 22 0) t ∧ ∃ l : List Byte, l.length = bitsOf (jw j 1) 22 0 ∧
          t.fab.bulk = (wrBulkL s d (jDst j) l).fab.bulk ∧ Agree [.free, .jobs, .bulk, .pwr] s t)) ∧
    (jOp j = 0x030 → n < 256 →
      let head := rdBulkN s d (jSrc j) 128
      let part (o k : Nat) : Nat := leNat ((head.drop o).take k)
      let typ := part 6 1
      let bad : Prop := part 0 4 ≠ 0x4B57584F ∨ part 4 2 ≠ 1 ∨ part 7 1 ≠ 0 ∨ part 20 12 ≠ 0 ∨ typ = 0 ∨ 8 < typ
      let given := importedKey s head (rdBulkN s d (jSrc j + 128) (8 + keyBytes typ))
      let refused (st : Nat) : Prop := Completes (.keyImport id false) s fun t => ends st 0 t ∧
        Bumped R.ciphImportFailCnt s t ∧ t.ciph = s.ciph ∧ KeepsRegs s t [R.ciphImportFailCnt]
      (bad → refused 0x17) ∧
      (¬ bad → (typ = 5 ∨ typ = 6) → refused 0x18) ∧
      (¬ bad → ¬ (typ = 5 ∨ typ = 6) → given = none → refused 0x17) ∧
      (∀ key, ¬ bad → ¬ (typ = 5 ∨ typ = 6) → given = some key → key.length = keyBytes typ →
        (part 16 4 ≤ (s.rd (R.keyGen n)).toNat → refused 0x1A) ∧
        ((s.rd (R.keyGen n)).toNat < part 16 4 → Completes (.keyImport id false) s fun t => ends 0 0 t ∧
          keyOf t n = key ∧ t.get (F.keyInfoType n) = typ ∧ t.get (F.keyInfoModes n) = part 8 2 % 2048 ∧
          keyLimit t n = part 10 6 ∧ keyUse t n = 0 ∧ t.rd (R.keyGen n) = BitVec.ofNat 32 (part 16 4) ∧
          (∀ m, m ≠ n → keyOf t m = keyOf s m) ∧
          KeepsAllRegs s t [R.keyInfo n, R.keyLimitLo n, R.keyUseLo n, R.keyHi n, R.keyGen n]))) ∧
    (jOp j = 0x031 → n < 256 →
      (s.get (F.keyInfoType n) = 0 → Completes (.keyErase id false) s fun t => ends 0x12 0 t ∧
        Agree [.jobs, .pwr] s t) ∧
      (s.get (F.keyInfoType n) ≠ 0 → Completes (.keyErase id false) s fun t => ends 0 0 t ∧ keyOf t n = [] ∧
        t.rd (R.keyInfo n) = 0#32 ∧ keyLimit t n = 2 ^ 48 - 1 ∧ keyUse t n = 0 ∧
        (∀ m, m ≠ n → keyOf t m = keyOf s m) ∧
        KeepsAllRegs s t [R.keyInfo n, R.keyLimitLo n, R.keyUseLo n, R.keyHi n]))) ∧
  (∀ (s : State) (id : Nat) (j : Job), jobOf s id = some j → j.unit = .cipher → j.phase = 3 → jNode j = true →
    let n := jTarget j
    let ends (st : Nat) (t : State) : Prop := ∃ y, jobOf t id = some y ∧ y.status = st ∧ y.phase = 4
    resident s n = true →
      (jOp j = 0x031 → ∀ q, keyPosOf s n roleCurrent = some q → keyRole s n (1 - q) ≠ 0 →
        Completes (.keyErase id false) s fun t => ends 0 t ∧ keyRole t n (1 - q) = 0 ∧ keyRole t n q = roleCurrent) ∧
      (jOp j = 0x032 → keyPosOf s n roleNext = none → Completes (.keyPromote id false) s fun t => ends 0x12 t ∧
        Agree [.jobs, .pwr] s t) ∧
      (jOp j = 0x032 → ∀ p, keyPosOf s n roleNext = some p → Completes (.keyPromote id false) s fun t => ends 0 t ∧
        keyRole t n p = roleCurrent ∧ (keyRole s n (1 - p) = roleCurrent → keyRole t n (1 - p) = roleRetired))) ∧
  (∀ (s : State) (d : Drawer) (n : Fin 256) (v : Word) (be : BitVec 4), takesWrite s d.val (R.keyLimitLo n.val) = true →
    let new := (beMerge (s.rd (R.keyLimitLo n.val)) v be).toNat + s.get (F.keyHiLimitHi n.val) * 2 ^ 32
    let rises : Prop := s.get (F.keyInfoType n.val) ≠ 0 ∧ keyLimit s n.val < new
    (rises → Completes (.keyLimitWrite d n v be) s fun t => t = s) ∧
    (¬ rises → Completes (.keyLimitWrite d n v be) s fun t => keyLimit t n.val = new ∧
      KeepsAllRegs s t [R.keyLimitLo n.val, R.keyHi n.val] ∧ keyUse t n.val = keyUse s n.val ∧
      Agree [.regs, .ciph] s t)) ∧
  ∀ s : State, Completes .rngFail s (Counted 223 fun u => u.on F.ciphStatusRngFail = true ∧
    KeepsAllRegs s u [R.ciphStatus] ∧ OnlyRegs s u)

/-- R379: a fresh context job is refused without ownership or with bad fields, or waits for its record; `CTX_READ`
gives hidden words as zero, `CTX_WRITE` writes words of class `W` or none; R380, R382: `CTX_INIT` and `CTX_FREE` zero
the record but for `KEY_GEN`; R371, R372: a miss whose read may end now ends with the record resident, or
unreadable; R375: a write-back makes it durable; R378: a rebuild ends with the next generation,
and a further one begins where a trigger came meanwhile or still stands. -/
def Obligations.ContextJobsAndIndex : Prop :=
  (∀ (s : State) (id : Nat) (j : Job) (c : Instr) (op : Nat), jobOf s id = some j →
    (c = .ctxRead id ∧ op = 0x010 ∨ c = .ctxWrite id ∧ op = 0x011 ∨ c = .ctxInit id ∧ op = 0x012 ∨
      c = .ctxFree id ∧ op = 0x013 ∨ c = .ctxShort id ∧ op = 0x014) →
    let mine : Prop := j.unit = .pager ∧ jOp j = op
    let n := jTarget j
    let owned : Prop := ownerCtx s n = some j.drawer
    let ends (st : Nat) (t : State) : Prop := ∃ y, jobOf t id = some y ∧ y.status = st ∧ y.phase = 4
    let goes : Prop := j.phase = 3 ∨ j.phase = 0 ∧ owned ∧ pagerFieldsOk j = true
    (¬ mine → Completes c s fun t => t = s) ∧
    (mine → j.phase = 0 → ¬ owned → Completes c s fun t => ends 3 t ∧ Agree [.free, .jobs, .pwr] s t) ∧
    (mine → j.phase = 0 → owned → pagerFieldsOk j = false → Completes c s fun t => ends 0x16 t ∧
      Agree [.free, .jobs, .pwr] s t) ∧
    (mine → goes → resident s n = false → ctxDead s n = true → Completes c s fun t => ends 0x15 t ∧
      Agree [.free, .jobs, .pwr] s t) ∧
    (mine → j.phase = 0 → owned → pagerFieldsOk j = true → resident s n = false → ctxDead s n = false →
      Completes c s fun t => (∃ y, jobOf t id = some y ∧ y.phase = 3) ∧ (∃ m ∈ t.ncp.misses, m.ctx = n) ∧
        Agree [.jobs, .ncp, .regs, .events, .out, .held] s t) ∧
    (mine → goes → resident s n = true →
      let idxOnly (t : State) : Prop := t.ncp.idx = s.ncp.idx.filter (fun e => e.ctx != n)
      let sh := jShort j
      let eui := leNat (rdBulkN s j.drawer (hdrTag (word0 j.words) * 16) 8).reverse
      let taken : Prop := (idxFind s (.eui eui)).isSome = true ∨ (idxFind s (.short sh)).isSome = true
      (op = 0x010 → Completes c s fun t => ends (if ((List.range 512).any fun k => ctxBad s n k) = true then 1 else 0) t ∧
        t.fab.bulk = (wrBulkL s j.drawer (jSrc j) ((List.range 512).flatMap fun k =>
          leBytes 4 (if wordClass k = .h ∨ ctxBad s n k = true then 0 else (ctxWord s n k).toNat))).fab.bulk ∧
        t.ncp.words = s.ncp.words) ∧
      (op = 0x011 → jFirst j ≤ jLast j →
        ((∃ k, jFirst j ≤ k ∧ k ≤ jLast j ∧ wordClass k ≠ .w) → Completes c s fun t => ends 0x10 t ∧
          t.ncp = s.ncp) ∧
        ((∀ k, jFirst j ≤ k → k ≤ jLast j → wordClass k = .w) →
          bulkPoisoned s j.drawer (jSrc j) (4 * (jLast j + 1 - jFirst j)) = true → Completes c s fun t =>
            ends 1 t ∧ t.ncp = s.ncp) ∧
        ((∀ k, jFirst j ≤ k → k ≤ jLast j → wordClass k = .w) → 320 ≤ jFirst j →
          bulkPoisoned s j.drawer (jSrc j) (4 * (jLast j + 1 - jFirst j)) = false → Completes c s fun t => ends 0 t ∧
            (∀ k, jFirst j ≤ k → k ≤ jLast j → ctxWord t n k =
              BitVec.ofNat 32 (leNat (rdBulkN s j.drawer (jSrc j + 4 * (k - jFirst j)) 4))) ∧
            ∀ d k, d < 16384 → k < 512 → (d ≠ n ∨ k < jFirst j ∨ jLast j < k) → ctxWord t d k = ctxWord s d k)) ∧
      (op = 0x012 →
        (ctxValid s n = true → Completes c s fun t => ends 0x11 t ∧ t.ncp = s.ncp) ∧
        (ctxValid s n = false → bulkPoisoned s j.drawer (hdrTag (word0 j.words) * 16) 8 = false →
          (taken → Completes c s fun t => ends 0x12 t ∧ t.ncp = s.ncp) ∧
          (¬ taken → shortExcluded s sh = true → Completes c s fun t => ends 0x16 t ∧ t.ncp = s.ncp) ∧
          (∀ l m, ¬ taken → shortExcluded s sh = false → idxAdd (idxGen s) s.ncp.idx (.eui eui) n = some l →
            idxAdd (idxGen s) l (.short sh) n = some m → Completes c s fun t => ends 0 t ∧ t.ncp.idx = m ∧
              ctxValid t n = true ∧ ctxEui t n = eui ∧ ctxShort t n = sh ∧ ctxWord t n 18 = ctxWord s n 18 ∧
              ctxWord t n 8 = 0xFFFFFFFF#32 ∧
              ∀ k, 6 ≤ k → k < 512 → k ≠ 8 → k ≠ 18 → ctxWord t n k = 0#32))) ∧
      (op = 0x013 →
        (ctxValid s n = false → Completes c s fun t => ends 0x14 t ∧ t.ncp = s.ncp) ∧
        (ctxValid s n = true → isHeld s n = true → Completes c s fun t => idxOnly t ∧
          (∃ y, jobOf t id = some y ∧ y.phase = 3) ∧ t.ncp.words = s.ncp.words) ∧
        (ctxValid s n = true → isHeld s n = false → Completes c s fun t => ends 0 t ∧ idxOnly t ∧
          (∀ p ∈ t.ncp.pins, p.1 ≠ n) ∧ ctxWord t n 18 = ctxWord s n 18 ∧
          ∀ k, k < 512 → k ≠ 18 → ctxWord t n k = 0#32)) ∧
      (op = 0x014 →
        (ctxValid s n = false → Completes c s fun t => ends 0x14 t ∧ t.ncp = s.ncp) ∧
        (ctxValid s n = true → sh = ctxShort s n → Completes c s fun t => ends 0 t ∧ t.ncp.idx = s.ncp.idx ∧
          t.ncp.words = s.ncp.words) ∧
        (ctxValid s n = true → sh ≠ ctxShort s n → shortExcluded s sh = true → Completes c s fun t =>
          ends 0x16 t ∧ t.ncp = s.ncp) ∧
        (ctxValid s n = true → sh ≠ ctxShort s n → shortExcluded s sh = false →
          ((idxFind s (.short sh)).isSome = true → Completes c s fun t => ends 0x12 t ∧ t.ncp = s.ncp) ∧
          (∀ l, idxFind s (.short sh) = none →
            idxAdd (idxGen s) (s.ncp.idx.filter fun e => e.key != .short (ctxShort s n)) (.short sh) n = some l →
            Completes c s fun t => ends 0 t ∧ t.ncp.idx = l ∧ ctxShort t n = sh ∧
              ∀ k, k < 512 → k ≠ 2 → ctxWord t n k = ctxWord s n k))))) ∧
  (∀ (s : State) (c : Nat) (ok : Bool) (r : NandRead),
    let failed : Prop := Completes (.contextFillDone c ok r) s fun t => ctxDead t c = true ∧
      (∀ m ∈ t.ncp.misses, m.ctx ≠ c) ∧ Bumped R.ncpPageErrCnt s t
    ((∀ m ∈ s.ncp.misses, m.ctx ≠ c) ∨ islandHeld s 2 = true → Completes (.contextFillDone c ok r) s fun t => t = s) ∧
    ∀ m, findFirst (fun x => x.ctx == c) s.ncp.misses = some m → islandHeld s 2 = false →
      let reads : Prop := s.on F.storStatusMounted = true ∧ mayFill s m = true
      (s.on F.storStatusUnsupported = true → failed) ∧
      (s.on F.storStatusUnsupported = false → ¬ reads → Completes (.contextFillDone c ok r) s fun t => t = s) ∧
      (s.on F.storStatusUnsupported = false → reads → ok = true → Completes (.contextFillDone c ok r) s fun t =>
        resident t c = true ∧ ∀ x ∈ t.ncp.misses, x.ctx ≠ c) ∧
      (s.on F.storStatusUnsupported = false → reads → ok = false → failed)) ∧
  (∀ (s : State) (c : Fin 16384),
    let dirty : Prop := (∃ e ∈ s.ncp.slots, e.ctx = c.val ∧ e.dirty = true) ∧ islandHeld s 2 = false
    (¬ dirty → Completes (.contextWriteback c.val) s fun t => t = s) ∧
    (dirty → Completes (.contextWriteback c.val) s fun t =>
      (∀ k, k < 512 → tabGet zeroWord t.nand.ctx (512 * c.val + k) = ctxWord s c.val k) ∧
      (∀ d k, d < 16384 → k < 512 → ctxWord t d k = ctxWord s d k) ∧
      (findFirst (fun e => e.ctx == c.val) t.ncp.slots).map Slot.dirty = some false ∧
      Agree [.ncp, .nand] s t)) ∧
  (∀ (s : State) (d : Drawer) (v : Word) (be : BitVec 4), takesWrite s d.val R.ncpCfg = true →
    let asks : Prop := be.getLsbD 1 = true ∧ v.getLsbD 8 = true
    (¬ asks → Completes (.rebuild d v be) s fun t => t = s) ∧
    (asks → s.on F.ncpStatusRebuilding = false → Completes (.rebuild d v be) s fun t =>
      t.on F.ncpStatusRebuilding = true ∧ t.ncp = { s.ncp with changes := 0 } ∧
      KeepsAllRegs s t [R.ncpCfg, R.ncpStatus] ∧ Agree [.regs, .ncp] s t) ∧
    (asks → s.on F.ncpStatusRebuilding = true → Completes (.rebuild d v be) s fun t =>
      t.ncp = { s.ncp with again := true } ∧ KeepsAllRegs s t [R.ncpCfg] ∧ Agree [.regs, .ncp] s t)) ∧
  ∀ s : State, (s.on F.ncpStatusRebuilding = false → Completes .idxRebuilt s fun t => t = s) ∧
    (s.on F.ncpStatusRebuilding = true → Completes .idxRebuilt s fun t =>
      let l := idxRehash ((idxGen s + 1) % 16) s.ncp.idx
      let due : Prop := 1024 < ovfCount l ∨ (s.ncp.again = false ∧ 4096 ≤ s.ncp.changes)
      idxGen t = (idxGen s + 1) % 16 ∧ t.ncp.idx = l ∧
      (t.on F.ncpStatusRebuilding = true ↔ s.ncp.again = true ∨ due) ∧
      (t.ncp.again = true ↔ s.ncp.again = true ∧ due) ∧ (s.ncp.again = false → t.on F.ncpCfgRebuild = false) ∧
      KeepsRegs s t [R.ncpStatus, R.ncpCfg, R.ncpIndexStat] ∧ Agree [.regs, .ncp, .events, .out, .held] s t)

/-! ### Attached storage, and completions of every unit (R107, R118, R126, R375, R376, R383 to R390, R448) -/

/-- R387: a storage job without ownership ends at once; R18, R518: one that needs a held cipher island is `ABORTED`,
and a held storage island runs none; R448: it waits for its burst; R387, R388: a missing namespace, read-only storage
and a granule past the end have their statuses, `READ` gives stored bytes or zeros, `WRITE` stores them, `TRIM`
unmaps, `FLUSH` commits; R386: `NS_CREATE` and `NS_DELETE`; R118, R126: an ended job's completion enters its pair
queue and its credits return, or it is discarded. -/
def Obligations.StorageJobsAndCompletions : Prop :=
  (∀ (s : State) (id : Nat) (j : Job) (r : NandRead) (progs : List (Fin 2 × Fin 4)) (mm : Bool) (c : Instr) (op : Nat),
    jobOf s id = some j →
    (c = .read id r ∧ op = 0x010 ∨ c = .write id r progs ∧ op = 0x011 ∨ c = .trim id ∧ op = 0x012 ∨
      c = .flush id ∧ op = 0x013 ∨ c = .nsCreate ⟨id, mm⟩ ∧ op = 0x020 ∨ c = .nsDelete id ∧ op = 0x021) →
    let mine : Prop := j.unit = .storage ∧ jOp j = op ∧ islandHeld s 2 = false
    let n := jNs j
    let g := jGran j
    let k := jCount j
    let size := (nsOf s n).size
    let made := (nsOf s n).made
    let d := j.drawer
    let at' (i : Nat) : Nat := jBulk j + 4096 * i
    let did (st : Nat) (m : Nat) (t : State) : Prop := ∃ y, jobOf t id = some y ∧ y.status = st ∧ y.phase = 4 ∧
      y.result.toNat % 2 ^ 32 = m
    let failed (st m bad : Nat) (t : State) : Prop := ∃ y, jobOf t id = some y ∧ y.status = st ∧ y.phase = 4 ∧
      y.result.toNat = m % 2 ^ 32 + bad % 2 ^ 32 * 2 ^ 32
    let goes : Prop := j.phase = 3 ∨ j.phase = 0 ∧ storOwned s j = true ∧ lastGasp s = false ∧
      givenNow s (burstOf j) = true
    let runs : Prop := goes ∧ (op ∈ [0x010, 0x011, 0x020] → islandHeld s 1 = false)
    (¬ mine → Completes c s fun t => t = s) ∧
    (mine → goes → op ∈ [0x010, 0x011, 0x020] → islandHeld s 1 = true → Completes c s fun t =>
      failed 2 0 g t ∧ Agree [.jobs, .pwr] s t) ∧
    (mine → j.phase = 0 → storOwned s j = false → Completes c s fun t => failed 3 0 0 t ∧ Agree [.jobs, .pwr] s t) ∧
    (mine → j.phase = 0 → storOwned s j = true → lastGasp s = true → Completes c s fun t =>
      failed 0x16 0 g t ∧ Agree [.jobs, .pwr] s t) ∧
    (mine → j.phase = 0 → storOwned s j = true → lastGasp s = false → givenNow s (burstOf j) = false →
      Completes c s fun t => (∃ y, jobOf t id = some y ∧ y.phase = 1) ∧ burstOf j ∈ t.pwr.waiting ∧
        Agree [.jobs, .pwr] s t) ∧
    (mine → runs → op ∈ [0x010, 0x011, 0x012] → made = false → Completes c s fun t =>
      failed 0x11 0 g t ∧ Agree [.jobs, .pwr] s t) ∧
    (mine → runs → op ∈ [0x011, 0x012] → made = true → s.on F.storStatusReadOnly = true → Completes c s fun t =>
      failed 0x14 0 g t ∧ Agree [.jobs, .pwr] s t) ∧
    (mine → runs → op = 0x010 → made = true →
      (size ≤ g → Completes c s (failed 0x10 0 g)) ∧
      (g < size → r.uncorr = some 0 → Completes c s fun t => failed 1 0 g t ∧ Bumped R.storUncorrCnt s t) ∧
      (g + k ≤ size → r.uncorr = none → r.fault = none → 4096 * k ≤ bulkSize s d →
        (∀ i, i < k → granMap s n (g + i) = 0 ∨ granMap s n (g + i) = (nsOf s n).key + 1) → Completes c s fun t =>
          did 0 k t ∧ (∀ i, i < k → rdBulkN t d (at' i) 4096 = (granBytes n (g + i) s).1) ∧
          t.stor.data = s.stor.data ∧ t.stor.mapped = s.stor.mapped)) ∧
    (mine → runs → op = 0x011 → made = true → s.on F.storStatusReadOnly = false →
      (size ≤ g → Completes c s (failed 0x10 0 g)) ∧
      (g < size → bulkPoisoned s d (at' 0) 4096 = true → Completes c s (failed 1 0 g)) ∧
      (g + k ≤ size → r.fault = none → (∀ i, i < k → bulkPoisoned s d (at' i) 4096 = false) → Completes c s fun t =>
        did 0 k t ∧ (∀ i, i < k → (granBytes n (g + i) t).1 = rdBulkN s d (at' i) 4096) ∧ t.fab.bulk = s.fab.bulk ∧
        (jFua j = true → t.nand.data = t.stor.data ∧ t.nand.mapped = t.stor.mapped))) ∧
    (mine → runs → op = 0x012 → made = true → s.on F.storStatusReadOnly = false →
      (size ≤ g → Completes c s (failed 0x10 0 g)) ∧
      (g + k ≤ size → Completes c s fun t => did 0 k t ∧ (∀ i, i < k → granMap t n (g + i) = 0) ∧
        ∀ m, m < g ∨ g + k ≤ m → granMap t n m = granMap s n m)) ∧
    (mine → runs → op = 0x013 → Completes c s fun t => did 0 0 t ∧ t.nand.ns = s.stor.ns ∧
      t.nand.data = s.stor.data ∧ t.nand.mapped = s.stor.mapped ∧ t.nand.isFinal = false ∧ t.ncp.journal = []) ∧
    (mine → runs → op = 0x020 → n < 15 →
      (s.on F.ciphStatusRngFail = true → Completes c s (failed 0x15 0 g)) ∧
      (s.on F.ciphStatusRngFail = false → made = false → freeGranules s < g → Completes c s (failed 0x12 0 g)) ∧
      (s.on F.ciphStatusRngFail = false → made = false → g ≤ freeGranules s → mm = true →
        Completes c s fun t => failed 0x13 0 g t ∧ Bumped R.ciphFaultCnt s t ∧ t.stor = s.stor) ∧
      (s.on F.ciphStatusRngFail = false → made = false → g ≤ freeGranules s → mm = false → Completes c s fun t =>
        did 0 g t ∧ nsOf t n = ⟨true, g, s.stor.nextKey⟩ ∧ t.on (F.storNsStatExists n) = true ∧
        t.rd (R.storNsSize n) = BitVec.ofNat 32 g ∧ ownerNs t n = none ∧ ∀ m, m ≠ n → nsOf t m = nsOf s m)) ∧
    (mine → runs → op = 0x021 → n < 15 →
      (made = false → Completes c s (failed 0x11 0 g)) ∧
      (made = true → Completes c s fun t => did 0 0 t ∧ nsOf t n = NsRec.none ∧
        (∀ m, m < 2 ^ 32 → granMap t n m = 0) ∧ t.on (F.storNsStatErasing n) = true ∧
        t.on (F.storNsStatExists n) = false ∧ ∀ m, m ≠ n → nsOf t m = nsOf s m))) ∧
  ∀ (s : State) (id : Nat) (u : QUnit) (c : Instr),
    (c = .cipherJobComplete id ∧ u = .cipher ∨ c = .pagerJobComplete id ∧ u = .pager ∨
      c = .storageJobComplete id ∧ u = .storage ∨ c = .serialJobComplete id ∧ u = .serial) →
    ((∀ j, jobOf s id = some j → j.unit ≠ u ∨ j.phase ≠ 4) → Completes c s fun t => t = s) ∧
    ∀ j, jobOf s id = some j → j.unit = u → j.phase = 4 →
      let p := j.pair
      let takes : Prop := p < 64 ∧ ownerQueue s p = some j.drawer ∧ queueOn s p = true ∧
        drawerInReset s j.drawer = false ∧ 0 < (s.queue p).reserved
      (¬ takes → Completes c s fun t => jobOf t id = none ∧ Agree [.jobs] s t) ∧
      (takes → p ≠ j.queue → Completes c s fun t => jobOf t id = none ∧
        (t.queue p).reserved = (s.queue p).reserved - 1 ∧ queueLevel (t.queue p) = queueLevel (s.queue p) + 1 ∧
        ((s.queue p).chain = [] → (s.queue p).ring = [] →
          ∃ y : QDesc, (t.queue p).chain = [y] ∧ y.words = [⟨completionWord j, false⟩]) ∧
        (t.queue j.queue).creditRet = ((s.queue j.queue).creditRet + j.words.length) % 65536 ∧
        (∀ m, m ≠ p → m ≠ j.queue → t.queue m = s.queue m) ∧
        Agree [.regs, .queues, .jobs, .events, .out, .held] s t)

/-- R385: an operation's end frees its target, shows the wear, and on a failure retires the block; R383: the last
target to leave read retry makes the storage healthy; R386: an erase ends; R375: a commit makes the namespace table,
the map and the data durable under the next number; R389: the flush commits with `FINAL`; R390: the mount takes them
up, read-only where no spare block is left, or notes an unsupported part. -/
def Obligations.StorageManagement : Prop :=
  (∀ (s : State) (ch : Fin 2) (x : Fin 4) (ok : Bool) (maxPe avgPe : BitVec 16),
    let p : NandOp → Bool := fun o => o.ch == ch.val && o.target == x.val && !o.susp
    let rest := dropFirst p s.stor.ops
    (s.stor.ops.any p = false → Completes (.nandOpComplete ch x ok maxPe avgPe) s fun t => t = s) ∧
    (s.stor.ops.any p = true → Completes (.nandOpComplete ch x ok maxPe avgPe) s fun t =>
      t.stor.ops = rest ∧ t.get F.storWearMaxPe = maxPe.toNat ∧ t.get F.storWearAvgPe = avgPe.toNat ∧
      t.nand.maxPe = maxPe.toNat ∧ t.nand.avgPe = avgPe.toNat ∧
      ((∀ o ∈ rest, o.ch = ch.val → o.erase = true) → ∀ g ∈ t.pwr.held, g.who ≠ .nand ch.val) ∧
      (ok = true → t.get F.storBadGrownBad = s.get F.storBadGrownBad ∧
        t.get F.storBadSpareLeft = s.get F.storBadSpareLeft ∧
        t.get F.storStatusReadOnly = s.get F.storStatusReadOnly) ∧
      (ok = false → t.get F.storBadGrownBad = min 0xFFFF (s.get F.storBadGrownBad + 1) ∧
        t.get F.storBadSpareLeft = s.get F.storBadSpareLeft - 1 ∧
        (s.get F.storBadSpareLeft ≤ 1 → t.on F.storStatusReadOnly = true)) ∧
      Agree [.regs, .pwr, .nand, .stor, .events, .out, .held] s t)) ∧
  (∀ (s : State) (x : Fin 8),
    let left := s.stor.retry - 2 ^ x.val
    (bitAt s.stor.retry x.val = false ∨ islandHeld s 2 = true → Completes (.readRetryExit x) s fun t => t = s) ∧
    (bitAt s.stor.retry x.val = true → islandHeld s 2 = false → Completes (.readRetryExit x) s fun t =>
      t.stor = { s.stor with retry := left } ∧
      (left = 0 → s.on F.storStatusMounted = true → t.on F.storStatusHealthy = true) ∧
      (left ≠ 0 ∨ s.on F.storStatusMounted = false → t.regs = s.regs) ∧
      KeepsAllRegs s t [R.storStatus] ∧ Agree [.regs, .stor] s t)) ∧
  (∀ (s : State) (n : Fin 15),
    (s.on (F.storNsStatErasing n.val) = false ∨ islandHeld s 2 = true → Completes (.nsErased n) s fun t => t = s) ∧
    (s.on (F.storNsStatErasing n.val) = true → islandHeld s 2 = false → Completes (.nsErased n) s (Counted 248 fun u =>
      u.on (F.storNsStatErasing n.val) = false ∧ KeepsAllRegs s u [R.storNsStat n.val] ∧ OnlyRegs s u))) ∧
  (∀ s : State,
    let idle : Prop := s.on F.storStatusMounted = false ∨ islandHeld s 2 = true ∨ s.stor.flushing = true ∨
      (lastGasp s = true ∧ s.ncp.journal = [])
    let durable (t : State) : Prop := t.nand.ns = s.stor.ns ∧ t.nand.data = s.stor.data ∧
      t.nand.mapped = s.stor.mapped ∧ t.nand.committed = true ∧ t.nand.seq = (s.nand.seq + 1) % 2 ^ 32 ∧
      t.rd R.storJournalSeq = BitVec.ofNat 32 ((s.nand.seq + 1) % 2 ^ 32)
    (idle → Completes .journalCommit s fun t => t = s) ∧
    (¬ idle → Completes .journalCommit s fun t => durable t ∧ t.nand.isFinal = false ∧ t.stor.owed = false ∧
      t.nand.ctx = s.ncp.journal.foldl (fun m e => tabSet zeroWord m e.1 e.2) s.nand.ctx) ∧
    (s.stor.flushing = false ∨ islandHeld s 2 = true → Completes .journalFlushed s fun t => t = s) ∧
    (s.stor.flushing = true → islandHeld s 2 = false → Completes .journalFlushed s (Counted 247 fun u => durable u ∧ u.nand.isFinal = true ∧
      u.stor = { s.stor with flushing := false } ∧ u.ncp.journal = [] ∧ u.on F.storStatusLastGaspFlushed = true ∧
      KeepsAllRegs s u [R.storJournalSeq, R.storStatus] ∧ Agree [.regs, .ncp, .nand, .stor] s u))) ∧
  ∀ (s : State) (p : NandPart),
    let waits : Prop := s.rst.seq ≠ 9 ∨ s.on F.storStatusUnsupported = true ∨
      bitAt (s.get F.rstStatusIslandHeld) 2 = true
    let unclean : Prop := s.nand.committed = true ∧ s.nand.isFinal = false
    (waits → Completes (.storageMount p) s fun t => t = s) ∧
    (¬ waits → partAdmitted p = false → Completes (.storageMount p) s fun t =>
      t.on F.storStatusUnsupported = true ∧ t.get F.storStatusCh0Targets = p.ch0.toNat ∧
      t.get F.storStatusCh1Targets = p.ch1.toNat ∧ KeepsAllRegs s t [R.storStatus] ∧ OnlyRegs s t) ∧
    (¬ waits → partAdmitted p = true → Completes (.storageMount p) s fun t =>
      t.rst = { s.rst with seq := 10, level := .none } ∧ t.on F.storStatusMounted = true ∧
      t.on F.storStatusHealthy = true ∧ t.on F.bootStatusMounted = true ∧
      (unclean → t.on F.storStatusUnclean = true ∧ t.nand = { s.nand with ctx := skipCounters s.nand.ctx }) ∧
      (¬ unclean → t.on F.storStatusUnclean = false ∧ t.nand = s.nand) ∧
      t.stor = { s.stor with
        ns := s.nand.ns, data := s.nand.data, mapped := s.nand.mapped, retry := 0, spare := p.spareBlocks } ∧
      (p.spareBlocks = 0 → t.on F.storStatusReadOnly = true) ∧
      t.rd R.storCap = BitVec.ofNat 32 (allocatable p.rawBytes) ∧
      t.ncp.idx = loadIndex s s.nand.idxGen t.nand.ctx ∧ t.get F.storStatusCh0Targets = p.ch0.toNat ∧
      Agree [.regs, .rst, .ncp, .nand, .stor, .events, .out, .held] s t)

/-! ### Plumb: references, states, the seconds count, outputs, the copy (R44, R392 to R410) -/

/-- R396: pulses, misses, the 10 MHz test and host samples are judged against their predictions; R398: four good
judgements qualify a reference, at once or after its wait to restore; R399: one that becomes eligible is selected when
it ranks before the selected one; R62: a loss of the 10 MHz input that clocks the device resets it; R400, R401: with
none left the unit goes to holdover, or runs free; R397: a late sample is counted. -/
def Obligations.ReferencesQualifyAndFail : Prop :=
  ∀ (s : State) (r : Fin 3),
    let x := refIn s r.val
    let w := min 3600 (s.get F.plmbSwitchWtrS)
    let restarted (now : Time) (tm : List Time) (es : List Int) (y : RefIn) : RefIn :=
      { y with good := 0, misses := 0, bad := 0, timer := none, times := tm, errs := es, seen := now }
    let wins : Prop := selected s = none ∨ ∃ q, selected s = some q ∧ ranksBefore s r.val q = true
    let nowEligible (t : State) : Prop := (wins → refState t r.val = 5) ∧ (¬ wins → refState t r.val = 4) ∧
      (refIn t r.val).once = true
    let qualifies (now : Time) (t : State) : Prop :=
      (x.once = true → w ≠ 0 → refState t r.val = 3 ∧ (refIn t r.val).timer = some (after now (w * 2 ^ 32))) ∧
      (x.once = false ∨ w = 0 → nowEligible t)
    (r = 0 → ∀ (p : Time) (freq : Int),
      let now := s.passTo p
      let does (P : State → Prop) : Prop := Completes (.ppsPulse p freq) s P
      let st := refState s 0
      (s.plmb.started = false ∨ st = 0 → does fun t => t = s) ∧
      (s.plmb.started = true → st = 1 → does fun t => refState t 0 = 2 ∧
        refIn t 0 = restarted now.tb [p] [] { x with freq := freq }) ∧
      (s.plmb.started = true → 2 ≤ st → x.times.length < 2 → does fun t => refState t 0 = st ∧
        refIn t 0 = { x with freq := freq, times := p :: x.times }) ∧
      (s.plmb.started = true → 2 ≤ st → ∀ a b l, x.times = a :: b :: l →
        let pred : Int := 2 * (a.toNat : Int) - b.toNat
        let off := apartInt p.toNat pred * 1000000000
        let good : Prop := off ≤ 100 * 2 ^ 32
        let out : Prop := 100 * 2 ^ 32 < off ∧ off ≤ 1000 * 2 ^ 32
        let passed : RefIn := { x with good := x.good + 1, misses := 0, bad := 0, times := [p, a], errs := [], freq := freq }
        (1000 * 2 ^ 32 < off → does fun t => refState t 0 = st ∧ refIn t 0 = { x with freq := freq }) ∧
        (good → st = 2 → x.good + 1 < 4 → does fun t => refState t 0 = 2 ∧ refIn t 0 = passed) ∧
        (good → st = 2 → 4 ≤ x.good + 1 → does (qualifies now.tb)) ∧
        (good → st = 3 ∨ st = 4 → does fun t => refState t 0 = st ∧ refIn t 0 = passed) ∧
        (good → st = 5 → does fun t => refState t 0 = 5 ∧ refIn t 0 = passed ∧
          t.rd R.plmbPhaseErr = BitVec.ofInt 32 (clamp31 (stepsToNs (pulseOfs p)))) ∧
        (out → st = 2 ∨ 4 ≤ x.bad + 1 → does fun t => refState t 0 = 2 ∧ Bumped R.plmbPpsOutlierCnt s t) ∧
        (out → st ≠ 2 → x.bad + 1 < 4 → does fun t => refState t 0 = st ∧ Bumped R.plmbPpsOutlierCnt s t ∧
          refIn t 0 = { x with freq := freq, bad := x.bad + 1, misses := 0, times := [BitVec.ofInt 64 pred, a] }))) ∧
    (r = 0 → (x.times.length < 2 ∨ refState s 0 < 2 → Completes .ppsMiss s fun t => t = s) ∧
      ∀ a b l, x.times = a :: b :: l → 2 ≤ refState s 0 →
        let lost : Prop := refState s 0 = 2 ∨ 2 ≤ x.misses + 1 ∨ 4 ≤ x.bad + 1
        (lost → Completes .ppsMiss s fun t => refState t 0 = 1) ∧
        (¬ lost → Completes .ppsMiss s fun t => refState t 0 = refState s 0 ∧ refIn t 0 = { x with
          misses := x.misses + 1, bad := x.bad + 1, times := [BitVec.ofNat 64 (2 * a.toNat - b.toNat), a] })) ∧
    (r = 1 → ∀ (silent : Bool) (freq : Int),
      (s.on F.plmbStatusTcxoFallback = true → Completes (.tenEdgeLost silent) s fun t =>
        .tcxoLost ∈ t.rst.asserted ∧ unreleased t = true) ∧
      (s.on F.plmbStatusTcxoFallback = false →
        (refState s 1 < 2 → Completes (.tenEdgeLost silent) s fun t => t = s) ∧
        (2 ≤ refState s 1 → Completes (.tenEdgeLost silent) s fun t =>
          refState t 1 = if silent = true then 1 else 2)) ∧
      (refState s 1 < 2 → Completes (.tenQualify freq) s fun t => t = s) ∧
      (refState s 1 = 2 → Completes (.tenQualify freq) s (qualifies (s.passTo (after x.seen (16 * 2 ^ 32))).tb)) ∧
      (2 < refState s 1 → Completes (.tenQualify freq) s fun t => refIn t 1 = { x with freq := freq } ∧
        (refState s 1 = 5 → s.get F.plmbStatusState = 2 → t.plmb.loop = freq)) ∧
      (refState s 1 ≠ 1 → Completes .ref10mEdgeReturn s fun t => t = s) ∧
      (refState s 1 = 1 → Completes .ref10mEdgeReturn s fun t => refState t 1 = 2 ∧
        refIn t 1 = restarted s.tb [] [] x ∧ KeepsAllRegs s t [R.plmbStatus] ∧ Agree [.regs, .plmb] s t)) ∧
    (r = 2 → ∀ (d : Drawer) (v : Word) (be : BitVec 4) (freq : Int), takesWrite s d.val R.plmbHostSample = true →
      let e := (beMerge 0#32 v be).toInt
      let sec : Time := BitVec.ofNat 64 (s.tb.toNat / 2 ^ 32 * 2 ^ 32)
      let late : Prop := 9 * 2 ^ 32 < 10 * (s.tb.toNat % 2 ^ 32)
      let st := refState s 2
      let does (P : State → Prop) : Prop := Completes (.hostSample d v be freq) s P
      (regsCut s = true → does (Bumped R.tnlRegDropCnt s)) ∧
      (regsCut s = false → late → does fun t => Bumped R.plmbHostLateCnt s t ∧ t.plmb = s.plmb) ∧
      (regsCut s = false → ¬ late → st = 0 → does fun t => t = s) ∧
      (regsCut s = false → ¬ late → st = 1 → does fun t => refState t 2 = 2 ∧
        refIn t 2 = restarted s.tb [sec] [e] { x with freq := freq }) ∧
      (regsCut s = false → ¬ late → 3 ≤ st → x.times.length < 2 → does fun t => refState t 2 = st ∧
        refIn t 2 = { x with freq := freq, seen := s.tb, times := sec :: x.times, errs := e :: x.errs }) ∧
      (regsCut s = false → ¬ late → st = 3 ∨ st = 4 → ∀ a b l e1 e2 m, x.times = a :: b :: l → x.errs = e1 :: e2 :: m →
        let off : Rat := (e : Rat) - hostPred a b sec e1 e2
        let fits : Prop := -1000 ≤ off ∧ off ≤ 1000
        (fits → does fun t => refState t 2 = st ∧ refIn t 2 = { x with
          freq := freq, seen := s.tb, good := x.good + 1, misses := 0, bad := 0, times := [sec, a], errs := [e, e1] }) ∧
        (¬ fits → x.bad + 1 < 4 → does fun t => refState t 2 = st ∧ refIn t 2 = { x with
          freq := freq, seen := s.tb, bad := x.bad + 1, times := [sec, a], errs := [e, e1] }) ∧
        (¬ fits → 4 ≤ x.bad + 1 → does fun t => refState t 2 = 2 ∧
          refIn t 2 = restarted s.tb [sec] [e] { x with freq := freq }))) ∧
    (r = 2 → (refState s 2 < 2 → Completes .hostSampleTimeout s fun t => t = s) ∧
      (2 ≤ refState s 2 → Completes .hostSampleTimeout s fun t => refState t 2 = 1) ∧
      (refState s 2 = 5 → refState s 0 ≠ 4 → refState s 1 ≠ 4 → Completes .hostSampleTimeout s fun t =>
        selected t = none ∧ Bumped R.plmbSwitchCnt s t ∧
        t.get F.plmbStatusState = if s.on F.plmbStatusHoldoverReady = true then 3 else 0)) ∧
    ((∀ u, x.timer = some u → refState s r.val ≠ 3) → Completes (.wtrExpire r) s fun t => t = s) ∧
    (∀ u, x.timer = some u → refState s r.val = 3 → Completes (.wtrExpire r) s nowEligible)

/-- R403: at the zero crossing the slew ends and the unit locks; R401: 900 s in `LOCKED` make holdover ready; R406: a
steering past the range is clamped; R394, R395: a written second is taken at the next whole second, as one step; R408,
R409: outputs align at a whole second and pulse on their lattice; R19, R410: a time message counts on the master and,
near it, on the copy; R468: a write to the line die while the link is cut is dropped and counted. -/
def Obligations.PlumbTimeAndOutputs : Prop :=
  ∀ s : State,
    (selected s = none ∨ s.plmb.dir = 0 → ∀ p, Completes (.slewDone p) s fun t => t = s) ∧
    (∀ r p, selected s = some r → s.plmb.dir ≠ 0 → Completes (.slewDone p) s fun t =>
      t.get F.plmbStatusState = 2 ∧ t.plmb.dir = 0 ∧ t.on F.plmbStatusSlewing = false ∧
      t.rd R.plmbPhaseErr = 0#32 ∧ t.plmb.loop = (refIn s r).freq ∧ t.tb = (s.passTo p).tb) ∧
    (let ready : Prop := s.get F.plmbStatusState = 2 ∧ s.on F.plmbStatusHoldoverReady = false;
      (¬ ready → Completes .holdoverReady s fun t => t = s) ∧
      (ready → Completes .holdoverReady s (Counted 261 fun u => u.on F.plmbStatusHoldoverReady = true ∧
        u.tb = (s.passTo (after s.plmb.since (900 * 2 ^ 32))).tb ∧ KeepsAllRegs s u [R.plmbStatus] ∧
        Agree [.regs, .time, .copy] s u))) ∧
    (∀ (d : Drawer) (v : Word) (be : BitVec 4), takesWrite s d.val R.plmbSteer = true →
      let u := s.wrTyped R.plmbSteer v be
      (regsCut s = true → Completes (.steerWrite d v be) s (Bumped R.tnlRegDropCnt s)) ∧
      (regsCut s = false → freqPpt u = loopPpt u + steerPpt u → Completes (.steerWrite d v be) s fun t => t = u) ∧
      (regsCut s = false → freqPpt u ≠ loopPpt u + steerPpt u → Completes (.steerWrite d v be) s fun t =>
        t.rd R.plmbSteer = u.rd R.plmbSteer ∧ t.on F.plmbStatusSteerClamped = true ∧
        KeepsAllRegs s t [R.plmbSteer, R.plmbStatus] ∧ OnlyRegs s t)) ∧
    (∀ (d : Drawer) (v : Word) (be : BitVec 4), takesWrite s d.val R.plmbTodSet = true → regsCut s = false →
      (s.on F.plmbStatusTbValid = true → Completes (.todSet d v be) s fun t => t = s) ∧
      (s.on F.plmbStatusTbValid = false → Completes (.todSet d v be) s fun t =>
        t.plmb = { s.plmb with tod := some ((beMerge 0#32 v be).toNat, nextSecond s.tb) } ∧ Agree [.plmb] s t)) ∧
    (s.plmb.tod = none → Completes .todApply s fun t => t = s) ∧
    (∀ v due, s.plmb.tod = some (v, due) → Completes .todApply s fun t => t.plmb.tod = none ∧
      t.on F.plmbStatusTbValid = true ∧
      t.tb = shT ((v * 2 ^ 32 : Nat) - (due.toNat : Int)) (s.passTo due).tb) ∧
    (∀ (d : Drawer) (v : Word) (be : BitVec 4), takesWrite s d.val R.plmbAlign = true → regsCut s = false →
      let u := s.wrTyped R.plmbAlign v be
      Completes (.plmbAlign d none v be) s fun t => t.regs = u.regs ∧ Agree [.regs, .plmb] s t ∧
        ∀ n, n < 4 → outGen t n =
          if n ≠ 1 ∧ u.on (alignFld n) = true ∧ (outGen s n).wait = none then
            { outGen s n with wait := some (nextSecond s.tb) } else outGen s n) ∧
    (∀ (d : Drawer) (o : Fin 4) (v : Word) (be : BitVec 4), takesWrite s d.val (R.plmbOutCfg o.val) = true →
      regsCut s = false → be.getLsbD 0 = true →
      let n := o.val
      (v.getLsbD 0 = true → Completes (.plmbAlign d (some o) v be) s fun t =>
        t.regs = (s.wrTyped (R.plmbOutCfg n) v be).regs ∧
        outGen t n = if n = 1 then outGen s n else { outGen s n with wait := some (nextSecond s.tb) }) ∧
      (v.getLsbD 0 = false → Completes (.plmbAlign d (some o) v be) s fun t => outGen t n = OutGen.init ∧
        t.on (F.plmbOutStatAligned n) = false ∧ outPin t n = false)) ∧
    (alignDue s = none → Completes .outputAlign s fun t => t = s) ∧
    (∀ u, alignDue s = some u → Completes .outputAlign s fun t => t.tb = (s.passTo u).tb ∧
      ∀ n, n < 4 →
        ((outGen s n).wait = some u → t.on (F.plmbOutStatAligned n) = true ∧ t.on (alignFld n) = false ∧
          outGen t n = { outGen s n with base := some u.toNat, wait := none, edge := none }) ∧
        ((outGen s n).wait ≠ some u → outGen t n = outGen s n)) ∧
    (∀ o : Fin 4,
      let n := o.val
      let x := outGen s n
      let on : Prop := s.on (F.plmbOutCfgEnable n) = true
      let does (P : State → Prop) : Prop := Completes (.pulseOutputEdge o) s P
      let starts (at' : Int) : Prop := does fun t => outGen t n = { x with
          edge := some at', due := none, pulse := some (BitVec.ofInt 64 (at' + outWidth s n)) } ∧
        t.tb = (s.passTo (BitVec.ofInt 64 at')).tb ∧ Agree [.time, .copy, .plmb] s t
      (¬ on → does fun t => t = s) ∧
      (∀ u, on → x.pulse = some u → does fun t => outGen t n = { x with pulse := none } ∧ t.tb = (s.passTo u).tb ∧
        Agree [.time, .copy, .plmb] s t) ∧
      (on → x.pulse = none → n = 1 → x.due = none → does fun t => t = s) ∧
      (∀ u, on → x.pulse = none → n = 1 → x.due = some u → starts u.toNat) ∧
      (on → x.pulse = none → n ≠ 1 → x.base = none → does fun t => t = s) ∧
      (∀ b, on → x.pulse = none → n ≠ 1 → x.base = some b →
        (x.edge = none → starts (nextEdge s n b s.tb.toNat)) ∧
        (∀ e, x.edge = some e → starts (nextEdge s n b (max (e + 1) s.tb.toNat))))) ∧
    ∀ master copy : Time,
      let heard : Prop := (s.get F.tnlStatusState = 1 ∨ s.get F.tnlStatusState = 3) ∧ s.plmb.started = true
      let m := if s.tb.toNat < master.toNat then master else s.tb
      let heardAs := if s.plmb.resync = true then copy
        else if s.plmb.ahead = true then BitVec.ofNat 64 (s.tbCopy.toNat + (m.toNat - s.tb.toNat) / 2)
        else nearMaster m copy
      let c := if s.tbCopy.toNat < heardAs.toNat then heardAs else s.tbCopy
      (¬ heard → Completes (.timeMessage master copy) s fun t => t = s) ∧
      (heard → Completes (.timeMessage master copy) s fun t => t.tb = m ∧ t.plmb.resync = false ∧
        (s.plmb.resync = true → c.toNat < m.toNat → t.tbCopy = m ∧ t.on F.plmbStatusCopySynced = true) ∧
        (s.plmb.resync = false ∨ m.toNat ≤ c.toNat → t.tbCopy = c ∧
          t.on F.plmbStatusCopySynced = within8 m c))

/-! ### The UARTs (R416 to R429, R441, R442) -/

/-- R418, R441: an enable starts the port or is refused, a disable ends its job and keeps the receive FIFO; R421: a
character is stored, or dropped as an overrun, or handled by `ERR_POLICY`; R422: a read of `UART_RXDATA` pops, seven
characters or an idle time make an entry; R423: characters are sent one after the other within one `UART_DE` burst, and
half duplex ignores or discards what comes meanwhile; R424: a break is stored with its length, a stuck line is flagged;
R425: entries wait while the host island sleeps in standby, where a start edge wakes it. -/
def Obligations.UartCharactersAndBreaks : Prop :=
  ∀ (s : State) (x : Fin 4),
    let n := x.val
    let p := port s n
    let on : Prop := s.on (F.uartCfgEnable n) = true
    let stuck : Prop := s.on (F.uartStatusLineStuck n) = true
    let rxq : Prop := s.on (F.uartCfgRxqEn n) = true
    let q := s.get (F.uartCfgRxq n)
    let cause (j : Nat) (t : State) : Prop := t.on (bitFld (R.uartCause n) j) = true
    let endsJob (st : Nat) (t : State) : Prop := ∀ id j, p.job = some id → jobOf s id = some j → j.phase < 4 →
      ∃ y, jobOf t id = some y ∧ y.status = st ∧ y.phase = 4
    let takes : Prop := rxqTakes s n = true ∧ (standby s = false ∨ islandState s 5 = 0)
    let entry (t : State) : Prop := queueLevel (t.queue q) = queueLevel (s.queue q) + 1 ∧
      (port t n).rx = [] ∧ OtherQueues q s t
    let hd : Prop := s.on (F.uartCfgHalfDuplex n) = true
    let cut (start u : Nat) : Prop := hd ∧ start < p.rise.toNat ∧ p.rise.toNat ≤ u
    let deaf (start : Nat) : Prop := hd ∧ (s.on (F.uartStatusDe n) = true ∨ start < p.fall.toNat)
    (∀ (d : Drawer) (v : Word) (be : BitVec 4), takesWrite s d.val (R.uartCfg n) = true →
      let new := beMerge (s.rd (R.uartCfg n)) v be
      let f (hi lo : Nat) : Nat := bitsOf new.toNat hi lo
      let queueBad : Prop := f 14 14 = 1 ∧ ¬ (ownerQueue s (f 20 15) = ownerUart s n ∧ (ownerUart s n).isSome = true ∧
        s.on (F.queueCfgDir (f 20 15)) = false ∧ s.get (F.queueCfgEndpoint (f 20 15)) = 4)
      let bad : Prop := f 4 1 < 5 ∨ 9 < f 4 1 ∨ 4 < f 7 5 ∨ f 9 8 = 3 ∨ queueBad
      (be.getLsbD 0 = false ∨ v.getLsbD 0 = false → Completes (.uartEnable d x v be) s fun t => t = s) ∧
      (be.getLsbD 0 = false ∨ v.getLsbD 0 = true → Completes (.uartDisable d x v be) s fun t => t = s) ∧
      (be.getLsbD 0 = true → v.getLsbD 0 = true →
        (on → Completes (.uartEnable d x v be) s fun t => t = s) ∧
        (¬ on → bad → Completes (.uartEnable d x v be) s fun t => t.on (F.uartStatusCfgRefused n) = true ∧
          t.on (F.uartCfgEnable n) = false ∧ KeepsAllRegs s t [R.uartStatus n] ∧ OnlyRegs s t) ∧
        (¬ on → ¬ bad → Completes (.uartEnable d x v be) s fun t =>
          t.rd (R.uartCfg n) = (s.wrTyped (R.uartCfg n) v be).rd (R.uartCfg n) ∧ t.on (F.uartCfgEnable n) = true ∧
          (p.cur.isSome = true → (port t n).cur = p.cur) ∧
          (∀ i l, p.cur = none → p.tx = i :: l → (port t n).cur = some (lineItem t n i) ∧
            Out.serial n (lineItem t n i) ∈ t.fab.out) ∧
          (p.cur = none → p.tx = [] → p.left = [] → (port t n).cur = none))) ∧
      (be.getLsbD 0 = true → v.getLsbD 0 = false →
        (¬ on → Completes (.uartDisable d x v be) s fun t => t = s.wrTyped (R.uartCfg n) v be) ∧
        (on → Completes (.uartDisable d x v be) s fun t => t.on (F.uartCfgEnable n) = false ∧ endsJob 0x10 t ∧
          t.on (F.uartStatusLineStuck n) = false ∧
          port t n = { p with tx := [], left := [], await := none, sat := false, job := none }))) ∧
    (∀ (data : BitVec 9) (tag : Fin 4) (start fin : Time),
      let now := s.passTo fin
      let does (P : State → Prop) : Prop := Completes (.uartCharRx x data tag start fin) s P
      let cut : Prop := cut start.toNat now.tbCopy.toNat
      let deaf : Prop := deaf start.toNat
      let whole : Prop := on ∧ ¬ stuck ∧ ¬ cut ∧ ¬ deaf ∧ frameMode s n = false
      let tag := if s.on (F.uartCfgParity n) = true then tag.val else tag.val / 2 * 2
      let word := data.toNat % 2 ^ s.get (F.uartCfgDataBits n) + 512 * tag
      (¬ on ∨ stuck → does fun t => t = s) ∧
      (on → ¬ stuck → cut → does fun t => Bumped (R.uartErrCnt n) s t ∧ t.tbCopy = now.tbCopy ∧
        KeepsRegs s t [R.uartErrCnt n] ∧ Agree [.regs, .time, .copy, .events, .out, .held] s t) ∧
      (on → ¬ stuck → ¬ cut → deaf → does fun t => t = now) ∧
      (whole → ¬ rxq → (tag = 0 ∨ s.on (F.uartCfgErrPolicy n) = true) → p.rx.length < 64 → does fun t =>
        port t n = { p with lastRx := now.tbCopy, rx := p.rx ++ [word] } ∧ cause 0 t ∧
        (tag ≠ 0 → Bumped (R.uartErrCnt n) s t ∧ cause 3 t) ∧ t.fab.queues = s.fab.queues) ∧
      (whole → ¬ rxq → (tag = 0 ∨ s.on (F.uartCfgErrPolicy n) = true) → 64 ≤ p.rx.length → does fun t =>
        port t n = { p with lastRx := now.tbCopy } ∧ Bumped (R.uartOvrCnt n) s t ∧
        t.on (F.uartStatusOverrun n) = true ∧ cause 2 t) ∧
      (whole → tag ≠ 0 → s.on (F.uartCfgErrPolicy n) = false → does fun t =>
        port t n = { p with lastRx := now.tbCopy } ∧ Bumped (R.uartErrCnt n) s t ∧ cause 3 t) ∧
      (whole → rxq → tag = 0 → p.rx.length = 6 → takes → does entry) ∧
      (whole → rxq → tag = 0 → p.rx.length < 64 → p.rx.length < 6 ∨ ¬ takes → does fun t =>
        (port t n).rx = p.rx ++ [word] ∧ t.fab.queues = s.fab.queues)) ∧
    (∀ (len : Nat) (fin : Time),
      let now := s.passTo fin
      let does (P : State → Prop) : Prop := Completes (.uartBreakRx x len fin) s P
      let stored (k : Nat) (sat : Bool) (t : State) : Prop :=
        t.get (F.uartBrkLenLength n) = min 65535 k ∧ t.on (F.uartBrkLenSat n) = sat ∧ Bumped (R.uartBrkCnt n) s t ∧
        cause 3 t ∧ (¬ rxq → p.rx.length < 64 → (port t n).rx = p.rx ++ [min k 511 + 512 * 4] ∧ cause 0 t) ∧
        (¬ rxq → 64 ≤ p.rx.length → (port t n).rx = p.rx ∧ Bumped (R.uartOvrCnt n) s t) ∧
        (rxq → p.rx = [] → takes → entry t) ∧ cause 4 t
      let start := (BitVec.ofNat 64 (fin.toNat - bitSteps s n len)).toNat
      let low := (BitVec.ofNat 64 (s.tbCopy.toNat - bitSteps s n 65535)).toNat
      let meets : Prop := on ∧ p.sat = false ∧ frameMode s n = false;
      (¬ on → does fun t => t = s) ∧
      (on → p.sat = true → does fun t => port t n = { p with sat := false } ∧
        t.on (F.uartStatusLineStuck n) = false ∧ t.tbCopy = (now.pass (bitSteps s n 1)).tbCopy) ∧
      (on → p.sat = false → frameMode s n = true → does fun t => t = now) ∧
      (meets → cut start now.tbCopy.toNat → does fun t => Bumped (R.uartErrCnt n) s t ∧ t.tbCopy = now.tbCopy ∧
        KeepsRegs s t [R.uartErrCnt n]) ∧
      (meets → ¬ cut start now.tbCopy.toNat → deaf start → does fun t => t = now) ∧
      (meets → ¬ cut start now.tbCopy.toNat → ¬ deaf start → does fun t => stored len false t ∧ t.tbCopy = now.tbCopy ∧
        (port t n).lastRx = now.tbCopy) ∧
      (¬ on ∨ stuck ∨ deaf low ∧ ¬ cut low s.tbCopy.toNat → Completes (.uartLineStuck x) s fun t => t = s) ∧
      (on → ¬ stuck → cut low s.tbCopy.toNat ∨ ¬ deaf low → Completes (.uartLineStuck x) s fun t => stored 65535 true t ∧ cause 5 t ∧
        t.on (F.uartStatusLineStuck n) = true ∧ (port t n).sat = true ∧ endsJob 0x18 t)) ∧
    (let now := s.passTo (after p.lastRx (bitSteps16 s n (max 1 (s.get (F.uartTimingRxIdle n)) * charBits16 s n)));
      (¬ on ∨ ¬ rxq → Completes (.uartRxIdle x) s fun t => t = s) ∧
      (on → rxq → p.rx = [] ∨ ¬ takes → Completes (.uartRxIdle x) s fun t => t = now) ∧
      (on → rxq → 1 ≤ p.rx.length → p.rx.length ≤ 7 → takes → Completes (.uartRxIdle x) s fun t =>
        entry t ∧ t.tbCopy = now.tbCopy)) ∧
    (∀ d : Drawer, takesRead s d.val (R.uartRxdata n) = true →
      let answer (v : Word) : Out := .read d.val (R.uartRxdata n) v;
      (¬ rxq → Completes (.uartRxdataPop d x) s fun t => port t n = { p with rx := p.rx.drop 1 } ∧
        (p.rx = [] → t.fab.out = answer 0#32 :: s.fab.out) ∧
        ∀ e l, p.rx = e :: l → t.fab.out = answer (BitVec.ofNat 32 (e + 2 ^ 12)) :: s.fab.out) ∧
      (rxq → p.rx.length < 7 ∨ ¬ takes → Completes (.uartRxdataPop d x) s fun t => t = s.emit (answer 0#32)) ∧
      (rxq → p.rx.length = 7 → takes → Completes (.uartRxdataPop d x) s fun t =>
        entry t ∧ t.fab.out.head? = some (answer 0#32))) ∧
    (∀ (d : Drawer) (v : Word) (be : BitVec 4), takesWrite s d.val (R.uartTxdata n) = true →
      let does (P : State → Prop) : Prop := Completes (.uartTxdata d x v be) s P
      let c := (beMerge 0#32 v be).toNat % 512
      let drop : Prop := p.job.isSome = true ∨ frameMode s n = true ∨ 64 ≤ p.tx.length
      let de := s.on (F.uartStatusDe n)
      let i := lineItem s n c
      (be = 0#4 → does fun t => t = s) ∧
      (be ≠ 0#4 → drop → does fun t => t.on (F.uartStatusTxDropped n) = true ∧
        KeepsAllRegs s t [R.uartStatus n] ∧ OnlyRegs s t) ∧
      (be ≠ 0#4 → ¬ drop → ¬ on → does fun t => port t n = { p with tx := p.tx ++ [c] } ∧ t.fab = s.fab) ∧
      (be ≠ 0#4 → ¬ drop → p.left = [] → on → p.cur.isSome = true → does fun t =>
        port t n = { p with tx := p.tx ++ [c] } ∧ t.fab = s.fab) ∧
      (be ≠ 0#4 → ¬ drop → p.left = [] → on → p.cur = none → p.tx = [] → does fun t =>
        port t n = { p with
          cur := some i, tail := none, rise := if de = true then p.rise else s.tbCopy
          curEnd := after s.tbCopy ((if de = true then 0 else bitSteps16 s n (s.get (F.uartTimingDeLead n))) +
            bitSteps16 s n (charBits16 s n)) } ∧
        t.on (F.uartStatusDe n) = true ∧ t.on (F.uartStatusTxBusy n) = true ∧ cause 1 t ∧
        Out.serial n i ∈ t.fab.out)) ∧
    (∀ back : BitVec 9,
      let now := s.passTo p.curEnd
      let does (P : State → Prop) : Prop := Completes (.uartCharTxEnd x back) s P
      let tail := some (p.tail.getD (after now.tbCopy (bitSteps16 s n (s.get (F.uartTimingDeTail n)))))
      (p.cur = none → does fun t => t = s) ∧
      (∀ i, p.cur = some i →
        let bad : Prop := frameMode s n = true ∧ p.job.isSome = true ∧ i < 65536 ∧ back.toNat ≠ i
        (bad → does fun t => endsJob 0x12 t ∧
          port t n = { p with tx := [], left := [], job := none, await := none, cur := none, tail := tail }) ∧
        (∀ k l, ¬ bad → (refillTx p).tx = k :: l → s.on (F.uartStatusDe n) = true → does fun t =>
          (port t n).cur = some (lineItem s n k) ∧ Out.serial n (lineItem s n k) ∈ t.fab.out ∧
          (port t n).tx ++ (port t n).left = l ++ p.left.drop (64 - p.tx.length) ∧
          (port t n).curEnd = after now.tbCopy (bitSteps16 s n (itemBits16 s n (lineItem s n k)))) ∧
        (¬ bad → p.tx = [] → p.left = [] → p.job = none → does fun t =>
          port t n = { p with cur := none, tail := tail } ∧ t.tbCopy = now.tbCopy) ∧
        (∀ id j, ¬ bad → p.tx = [] → p.left = [] → p.job = some id → jobOf s id = some j → j.phase < 4 →
          (jOp j = 0x012 → sGet j = true → does fun t => port t n = { p with
              cur := none, tail := tail
              await := some ⟨protect (sId j), sLen j, sChk j, [],
                after now.tbCopy (limitSteps s n (sLen j) (sChk j)), false⟩ } ∧ t.fab = s.fab) ∧
          (jOp j ≠ 0x012 ∨ sGet j = false → does fun t => endsJob 0 t ∧ (port t n).cur = none ∧ (port t n).job = none ∧
            (port t n).tail = tail)))) ∧
    (p.tail = none → Completes (.uartDeTailEnd x) s fun t => t = s) ∧
    (∀ u, p.tail = some u → Completes (.uartDeTailEnd x) s fun t => port t n = { p with tail := none, fall := u } ∧
      t.on (F.uartStatusDe n) = false ∧ t.tbCopy = (s.passTo u).tbCopy ∧ KeepsAllRegs s t [R.uartStatus n]) ∧
    ∀ u : Time,
      (¬ on ∨ islandState s 5 ≠ 3 → Completes (.uartStartEdgeWake x u) s fun t => t = s) ∧
      (on → islandState s 5 = 3 → Completes (.uartStartEdgeWake x u) s fun t => t.tbCopy = (s.passTo u).tbCopy ∧
        (standby s = true → t.pwr.hostAwake = true) ∧ (standby s = false → t = s.passTo u))

/-- R429: a serial job is refused with the first failed check, or its characters, break or frame go to its port or to
the ring; R428: `SET_RESPONSE` fills a response and makes it ready, a header is answered, awaited, ignored or counted;
R427: a byte of an awaited response goes to its place in `BULK`, and the whole completes the job by its check; a
subscribed frame is delivered, or counted; R426: at the time limit an awaited frame has failed. -/
def Obligations.SerialJobsAndFrames : Prop :=
  (∀ (s : State) (id : Nat) (j : Job) (c : Instr) (op : Nat), jobOf s id = some j →
    (c = .txChars id ∧ op = 0x010 ∨ c = .txBreak id ∧ op = 0x011 ∨ c = .txFrame id ∧ op = 0x012 ∨
      c = .setResponse id ∧ op = 0x013) →
    let mine : Prop := j.unit = .serial ∧ jOp j = op ∧ j.phase = 0
    let n := sPort j
    let p := port s n
    let fails (st : Nat) : Prop := Completes c s fun t => (∃ y, jobOf t id = some y ∧ y.status = st ∧ y.phase = 4) ∧
      Agree [.free, .jobs, .pwr] s t
    let fieldsOk : Prop := serFieldsOk s j = true
    let modeBad : Prop := n < 4 ∧ (op ≤ 0x011 ↔ frameMode s n = true)
    let lenBad : Prop := 0x012 ≤ op ∧ (sLen j = 0 ∨ 64 < sLen j ∨ 8 < sLen j ∧ sChk j ≠ 2)
    let ringBad : Prop := n = 4 ∧ (op ≠ 0x012 ∨ sChk j ≠ 2 ∨ sGet j = true)
    let stuck : Prop := op ≠ 0x013 ∧ n < 4 ∧ s.on (F.uartStatusLineStuck n) = true
    let runs : Prop := mine ∧ serOwned s j = true ∧ serEnabled s n = true ∧ fieldsOk ∧ ¬ stuck
    let clean : Prop := bulkPoisoned s j.drawer (sOff j) (serSource j) = false
    let sends (items : List Nat) : Prop := Completes c s fun t =>
      (∃ y, jobOf t id = some y ∧ y.phase = 3) ∧ (port t n).job = some id ∧
      (∀ i, p.cur = some i → (port t n).cur = some i ∧ (port t n).tx ++ (port t n).left = p.tx ++ items) ∧
      (p.cur = none → ∃ i l, p.tx ++ items = i :: l ∧ (port t n).cur = some (lineItem s n i) ∧
        (port t n).tx ++ (port t n).left = l ∧ Out.serial n (lineItem s n i) ∈ t.fab.out)
    (¬ mine → Completes c s fun t => t = s) ∧
    (mine → (n < 4 → ownerUart s n ≠ some j.drawer) → (n = 4 → s.get F.ringCfgRingDrawer ≠ j.drawer) → fails 3) ∧
    (mine → serOwned s j = true → (n < 4 → s.on (F.uartCfgEnable n) = false) → (4 ≤ n → s.on F.ringCfgEnable = false) →
      fails 0x10) ∧
    (mine → serOwned s j = true → serEnabled s n = true → modeBad ∨ lenBad ∨ ringBad ∨ ¬ fieldsOk → fails 0x11) ∧
    (mine → serOwned s j = true → serEnabled s n = true → fieldsOk → stuck → fails 0x18) ∧
    (runs → ¬ clean → fails 1) ∧
    (runs → clean → op = 0x010 → 1 ≤ sCount j ∧ sends ((List.range (sCount j)).map fun i =>
      leNat (rdBulkN s j.drawer (sOff j + 2 * i) 2) % 512)) ∧
    (runs → clean → op = 0x011 → sends [65536 + sLength j]) ∧
    (runs → clean → op = 0x012 → n < 4 →
      let l := rdBulkN s j.drawer (sOff j) (sLen j)
      sends ([65536 + max 13 (s.get (F.uartFrameBrkBits n)), 0x55, protect (sId j)] ++
        if sGet j = true then [] else (l ++ linCheck (sChk j) (protect (sId j)) l).map fun b => b.toNat)) ∧
    (runs → clean → op = 0x012 → n = 4 → Completes c s fun t => (∃ y, jobOf t id = some y ∧ y.phase = 3) ∧
      t.ser = { s.ser with ring := { s.ser.ring with job := some id } } ∧ Agree [.jobs, .ser] s t) ∧
    (runs → clean → op = 0x013 → Completes c s fun t => (∃ y, jobOf t id = some y ∧ y.status = 0 ∧ y.phase = 4) ∧
      (respBuf t n (sId j)).take (sLen j) = rdBulkN s j.drawer (sOff j) (sLen j) ∧
      t.on (F.uartRespReady n (sId j)) = true ∧ t.ser.ports = s.ser.ports ∧
      ∀ m i : Nat, 64 * m + i ≠ 64 * n + sId j → respBuf t m i = respBuf s m i)) ∧
  ∀ (s : State) (x : Fin 4),
    let n := x.val
    let p := port s n
    let cause (j : Nat) (t : State) : Prop := t.on (bitFld (R.uartCause n) j) = true
    let errs (t : State) : Prop := Bumped (R.uartErrCnt n) s t ∧ cause 6 t
    let ends (id st : Nat) (t : State) : Prop := ∃ y, jobOf t id = some y ∧ y.status = st ∧ y.phase = 4
    (∀ (data : BitVec 9) (tag : Fin 4) (start fin : Time), s.on (F.uartCfgEnable n) = true →
      s.on (F.uartStatusLineStuck n) = false → s.on (F.uartCfgHalfDuplex n) = false → frameMode s n = true →
      let does (P : State → Prop) : Prop := Completes (.uartCharRx x data tag start fin) s P
      let b : Byte := BitVec.ofNat 8 data.toNat
      (p.await = none → does fun t => t = s.passTo fin) ∧
      ∀ a, p.await = some a →
        let got := a.got ++ [b]
        let data' := got.take a.len
        let passes : Prop := got.drop a.len = linCheck a.chk a.pid data'
        let last : Prop := got.length = a.len + if 2 ≤ a.chk then 2 else 1
        (¬ last → does fun t => port t n = { p with await := some { a with got := got } } ∧
          ∀ id j, a.sub = false → p.job = some id → jobOf s id = some j → a.got.length < a.len →
            rdBulk t j.drawer (sOff j + a.got.length) = b) ∧
        (last → a.sub = false → ∀ id j, p.job = some id → jobOf s id = some j → j.phase < 4 →
          (passes → does fun t => (∃ y, jobOf t id = some y ∧ y.status = 0 ∧ y.phase = 4 ∧
              y.result = BitVec.ofNat 64 a.len) ∧ port t n = { p with await := none, job := none, left := [] }) ∧
          (¬ passes → does fun t => ends id 0x15 t ∧ port t n = { p with await := none, job := none, left := [] })) ∧
        (last → a.sub = true → ¬ passes → does fun t => errs t ∧ port t n = { p with await := none }) ∧
        (last → a.sub = true → passes →
          let q := s.get (F.uartCfgRxq n)
          let takes (d : Nat) : Prop := s.on (F.uartCfgRxqEn n) = true ∧ frameTakes s d q data'.length = true
          (∀ d, ownerUart s n = some d → takes d → does fun t => port t n = { p with await := none } ∧
            queueLevel (t.queue q) = queueLevel (s.queue q) + 1 ∧ OtherQueues q s t) ∧
          ((∀ d, ownerUart s n = some d → ¬ takes d) → does fun t => port t n = { p with await := none } ∧
            Bumped (R.uartOvrCnt n) s t ∧ t.on (F.uartStatusOverrun n) = true ∧ t.fab.queues = s.fab.queues))) ∧
    (p.await = none → Completes (.frameTimeLimit x) s fun t => t = s) ∧
    (∀ a, p.await = some a →
      (a.sub = true → Completes (.frameTimeLimit x) s fun t => errs t ∧ port t n = { p with await := none } ∧
        t.tbCopy = (s.passTo a.limit).tbCopy) ∧
      (∀ id j, a.sub = false → p.job = some id → jobOf s id = some j → j.phase < 4 →
        Completes (.frameTimeLimit x) s fun t => ends id (if a.got = [] then 0x13 else 0x14) t ∧
          port t n = { p with job := none, left := [], await := none } ∧ t.tbCopy = (s.passTo a.limit).tbCopy)) ∧
    ∀ (pid : Byte) (ok : Bool) (u : Time),
      let now := s.passTo u
      let does (P : State → Prop) : Prop := Completes (.linHeaderRx x pid ok u) s P
      let hears : Prop := s.on (F.uartCfgEnable n) = true ∧ frameMode s n = true ∧ s.on (F.uartCfgRole n) = true
      let bad : Prop := islandState now 5 ≠ 0 ∨ ok = false ∨ protect pid.toNat ≠ pid.toNat
      let i := pid.toNat % 64
      let len := min 64 (s.get (F.uartRespLen n i))
      let chk := s.get (F.uartRespChk n i)
      let act := s.get (F.uartRespAction n i)
      (¬ hears → does fun t => t = s) ∧
      (hears → bad → does fun t => errs t ∧ t.ser = s.ser ∧ t.tbCopy = now.tbCopy) ∧
      (hears → ¬ bad → act = 0 ∨ act = 3 → does fun t => t = now) ∧
      (hears → ¬ bad → act = 1 → s.on (F.uartRespReady n i) = false → does fun t => cause 7 t ∧ t.ser = s.ser) ∧
      (hears → ¬ bad → act = 1 → s.on (F.uartRespReady n i) = true → p.cur = none → p.tx = [] → does fun t =>
        let l := (respBuf s n i ++ List.replicate 64 0#8).take len
        ∃ k m, (l ++ linCheck chk (protect i) l).map (fun b => b.toNat) = k :: m ∧ (port t n).cur = some k ∧
          (port t n).tx ++ (port t n).left = m ∧ Out.serial n k ∈ t.fab.out ∧
          let lead := if s.on (F.uartStatusDe n) = true then 0 else s.get (F.uartTimingDeLead n)
          (port t n).curEnd = after now.tbCopy (bitSteps16 s n (max 16 lead) + bitSteps16 s n 160)) ∧
      (hears → ¬ bad → act = 2 → does fun t => t.fab = s.fab ∧ port t n = { p with
        await := some ⟨protect i, len, chk, [], after now.tbCopy (limitSteps s n len chk), true⟩ })

/-! ### The Cabinet Ring and the check units (R49, R50, R430 to R440, R442) -/

/-- R50, R430: an enable needs `RING_ALLOW`, and the bypass opens after 11 idle bit times; a disable closes it; R433:
the frame of the job is inserted once the input has been idle and the buffer is empty, and what comes meanwhile waits in
the buffer; R434, R435: the node's own frame ends its job, an orphan is removed, and a removed frame leaves a fragment
unless the node inserts; a fragment or a failed CRC is counted, every other whole frame goes on, marked by the master,
and an admitted one is copied to `RING_RXQ` or counted as lost; R435: at `RETURN_TO` the frame is lost; R432: a stuck or
silent input is flagged. The count of characters in the buffer is the model's own (assumption 138). -/
def Obligations.RingPortBehaves : Prop :=
  ∀ s : State,
    let x := s.ser.ring
    let enabled : Prop := s.on F.ringCfgEnable = true
    let cause (j : Nat) (t : State) : Prop := t.on (bitFld R.ringCause j) = true
    let with' (y : Ring) (t : State) : Prop := t.ser = { s.ser with ring := y }
    let jobEnds (st : Nat) (t : State) : Prop := ∀ id j, x.job = some id → jobOf s id = some j → j.phase < 4 →
      ∃ y, jobOf t id = some y ∧ y.status = st ∧ y.phase = 4
    (∀ (d : Drawer) (v : Word) (be : BitVec 4), takesWrite s d.val R.ringCfg = true →
      let u := s.wrTyped R.ringCfg v be
      let on : Prop := be.getLsbD 0 = true ∧ v.getLsbD 0 = true
      let off : Prop := be.getLsbD 0 = true ∧ v.getLsbD 0 = false
      let enables (P : State → Prop) : Prop := Completes (.ringEnable d v be) s P
      let disables (P : State → Prop) : Prop := Completes (.ringDisable d v be) s P
      (¬ on → enables fun t => t = s) ∧
      (on → regsCut s = true → enables (Bumped R.tnlRegDropCnt s)) ∧
      (on → regsCut s = false → enabled → enables fun t => t = u) ∧
      (on → regsCut s = false → ¬ enabled → s.on F.optActive0RingAllow = false → enables fun t =>
        t.on F.ringCfgEnable = false ∧ t.on F.ringStatusRefused = true ∧
        KeepsAllRegs s t [R.ringCfg, R.ringStatus] ∧ OnlyRegs s t) ∧
      (on → regsCut s = false → ¬ enabled → s.on F.optActive0RingAllow = true → enables fun t =>
        with' { x with opening := true, lastChar := s.tb } t ∧ t.on F.ringCfgEnable = true ∧ t.regs = u.regs ∧
        Agree [.regs, .ser] s t) ∧
      (¬ off → disables fun t => t = s) ∧
      (off → regsCut s = true → disables (Bumped R.tnlRegDropCnt s)) ∧
      (off → regsCut s = false → ¬ enabled → disables fun t => t = u) ∧
      (off → regsCut s = false → enabled → disables fun t => t.on F.ringCfgEnable = false ∧
        t.on F.ringStatusBypassClosed = true ∧ with' { x with opening := false, insEnd := none, buf := 0 } t ∧
        (ringActive s = true → cause 4 t))) ∧
    (let opens : Prop := x.opening = true ∧ enabled ∧ islandHeld s 3 = false;
      (¬ opens → Completes .ringBypassOpen s fun t => t = s) ∧
      (opens → Completes .ringBypassOpen s fun t => t.on F.ringStatusBypassClosed = false ∧
        cause 4 t ∧ with' { x with opening := false } t ∧ KeepsRegs s t [R.ringStatus, R.ringCause] ∧
        t.tb = (s.passTo (after x.lastChar (ringBits s 11))).tb)) ∧
    (∀ (f : RingFrame) (at' : Time),
      let now := s.passTo at'
      let does (P : State → Prop) : Prop := Completes (.ringFrameRx f at') s P
      let active : Prop := ringActive s = true
      let mine : Prop := f.src = s.get F.ringCfgAddr
      let master : Prop := s.on F.ringCfgMaster = true
      let admitted : Prop := bitAt (s.rd (R.ringFilter (f.pid % 64 / 32))).toNat (f.pid % 64 % 32) = true
      let copied : Prop := f.whole = true ∧ f.crcOk = true ∧ ¬ mine ∧ f.src ≠ 0 ∧ f.src ≠ 255 ∧ admitted
      let q := s.get F.ringCfg2RingRxq
      let takes : Prop := s.on F.ringStatusAutonomous = false ∧
        frameTakes s (s.get F.ringCfgRingDrawer) q f.data.length = true
      let sent (t : State) : Prop := ∃ g, Out.ring g ∈ t.fab.out ∧ Out.ring g ∉ s.fab.out
      let inserting : Prop := ∃ e, x.insEnd = some e ∧ now.tb.toNat < e.toNat
      let removed (t : State) : Prop := (inserting → ¬ sent t) ∧
        (¬ inserting → Out.ring { f with whole := false, data := [] } ∈ t.fab.out)
      let buffered (t : State) : Prop := (inserting → t.ser.ring.buf = min 128 (x.buf + 8 + f.data.length)) ∧
        (x.insEnd = none → t.ser.ring.buf = x.buf)
      (¬ active → does fun t => t = s) ∧
      (active → does fun t => t.on F.ringStatusStuck = false ∧ t.on F.ringStatusSilent = false ∧
        t.tb = now.tb ∧ t.ser.ring.lastChar = now.tb ∧ t.ser.ports = s.ser.ports ∧ t.ser.chks = s.ser.chks) ∧
      (active → mine → x.due.isSome = true → does fun t =>
        jobEnds (if f.whole = true ∧ f.crcOk = true then 0 else 0x16) t ∧ removed t ∧
        (x.job.isSome = true → with' { x with lastChar := now.tb, job := none, due := none } t)) ∧
      (active → mine → x.due = none → does fun t => with' { x with lastChar := now.tb } t ∧ removed t ∧
        t.fab.jobs = s.fab.jobs) ∧
      (active → f.whole = false → does fun t => Bumped R.ringFragCnt s t ∧ cause 2 t ∧ (¬ mine → ¬ sent t)) ∧
      (active → ¬ mine → f.whole = true → master → f.mark = 1 → does fun t => Bumped R.ringOrphanCnt s t ∧
        cause 3 t ∧ removed t) ∧
      (active → ¬ mine → f.whole = true → master → f.mark ≠ 1 → does fun t =>
        Out.ring { f with mark := 1 } ∈ t.fab.out ∧ buffered t) ∧
      (active → ¬ mine → f.whole = true → ¬ master → does fun t => Out.ring f ∈ t.fab.out ∧ buffered t) ∧
      (active → f.whole = true → f.crcOk = false → does fun t => Bumped R.ringCrcCnt s t ∧ cause 1 t) ∧
      (active → ¬ copied → does fun t => t.fab.queues = s.fab.queues ∧ t.rd R.ringRxCnt = s.rd R.ringRxCnt ∧
        t.rd R.ringRxLostCnt = s.rd R.ringRxLostCnt) ∧
      (active → copied → ¬ takes → does fun t => t.fab.queues = s.fab.queues ∧ Bumped R.ringRxLostCnt s t) ∧
      (active → copied → takes → does fun t => Bumped R.ringRxCnt s t ∧ cause 0 t ∧ OtherQueues q s t ∧
        queueLevel (t.queue q) = queueLevel (s.queue q) + 1)) ∧
    (let idle : Prop := ringActive s = false ∨ s.on F.ringStatusAutonomous = true ∨ x.due.isSome = true;
      (x.job = none ∨ idle → Completes .ringInsert s fun t => t = s) ∧
      ∀ id j, x.job = some id → jobOf s id = some j → ¬ idle →
        let now := s.passTo (ringFree s)
        let e := after now.tb (ringBits s (14 + 10 * (7 + sLen j)))
        let g : RingFrame := ⟨s.get F.ringCfgAddr, 0, protect (sId j), rdBulkN s j.drawer (sOff j) (sLen j), true, true⟩
        Completes .ringInsert s fun t => t.fab.out = Out.ring g :: s.fab.out ∧
          Agree [.time, .copy, .out, .ser] s t ∧ t.tb = now.tb ∧
          with' { x with insEnd := some e, buf := 0, due := some (after e (ringBits s (s.get F.ringCfg2ReturnTo))) } t) ∧
    (x.due = none → Completes .ringReturnTimeout s fun t => t = s) ∧
    (∀ u, x.due = some u → Completes .ringReturnTimeout s fun t => jobEnds 0x17 t ∧ t.tb = (s.passTo u).tb ∧
      (x.job.isSome = true → with' { x with job := none, due := none } t)) ∧
    (¬ enabled ∨ s.on F.ringStatusStuck = true → Completes .ringStuck s fun t => t = s) ∧
    (enabled → s.on F.ringStatusStuck = false → Completes .ringStuck s fun t => t.on F.ringStatusStuck = true ∧
      cause 5 t ∧ KeepsRegs s t [R.ringStatus, R.ringCause] ∧ OnlyRegsAndEvents s t) ∧
    (¬ enabled ∨ s.on F.ringStatusSilent = true → Completes .ringSilent s fun t => t = s) ∧
    (enabled → s.on F.ringStatusSilent = false → Completes .ringSilent s fun t => t.on F.ringStatusSilent = true ∧
      cause 6 t ∧ t.tb = (s.passTo (after x.lastChar (msSteps (s.get F.ringSilentSilentMs)))).tb ∧
      KeepsRegs s t [R.ringStatus, R.ringCause] ∧ Agree [.regs, .time, .copy, .events, .out, .held] s t)

/-- R438: a feed runs its bytes through the register, in the order of `BIG`, or finds the buffer full; the result is
the register after `REFOUT` and `XOROUT`; a restart, and a write of the configuration, set `INIT`; R440: the captured
alive value is judged against the last one at the compare and becomes it. -/
def Obligations.CheckUnitsFeedAndRestart : Prop :=
  ∀ (s : State) (d : Drawer) (y : Fin 4),
    let k := y.val
    let c := chkUnit s k
    let w := (polyOf (s.get (F.chkCfgPoly k))).1
    let poly := (polyOf (s.get (F.chkCfgPoly k))).2
    let others (t : State) : Prop := ∀ m, m ≠ k → chkUnit t m = chkUnit s m
    let fresh (u t : State) : Prop := others t ∧ chkUnit t k = { c with
      reg := (s.rd (R.chkInit k)).toNat % 2 ^ (polyOf (u.get (F.chkCfgPoly k))).1, bits := 0, cap := 0, ncap := 0 }
    (∀ (v : Word) (be : BitVec 4) (at' : Time) (i : Instr) (n off : Nat),
      (i = .chkFeed8 d y v be at' ∧ n = 1 ∧ off = R.chkFeed8 k ∨ i = .chkFeed16 d y v be at' ∧ n = 2 ∧ off = R.chkFeed16 k ∨
        i = .chkFeed32 d y v be at' ∧ n = 4 ∧ off = R.chkFeed32 k) → takesWrite s d.val off = true →
      let now := s.passTo at'
      let left := c.busy.filter fun e => decide (now.tbCopy.toNat < e.toNat)
      let low := leBytes n (beMerge 0#32 v be).toNat
      let bytes := if s.on (F.chkCfgBig k) = true then low.reverse else low
      let bits := bytes.flatMap fun b => (List.range 8).map b.getLsbD
      let takenBits := if s.on (F.chkAliveAliveEn k) = true then bits.foldl (captureBit (s.get (F.chkAlivePos k))) c
        else { c with bits := c.bits + 8 * n }
      (be = 0#4 → Completes i s fun t => t = s) ∧
      (be ≠ 0#4 → 8 ≤ left.length → Completes i s fun t => t.on (F.chkStatusFeedLost k) = true ∧ others t ∧
        chkUnit t k = { c with busy := left } ∧ KeepsRegs s t [R.chkStatus k] ∧
        Agree [.regs, .time, .copy, .ser, .events, .out, .held] s t) ∧
      (be ≠ 0#4 → left.length < 8 → Completes i s fun t => others t ∧ Agree [.time, .copy, .ser] s t ∧
        chkUnit t k = { takenBits with
          reg := crcBytes w poly (s.on (F.chkCfgRefin k)) c.reg bytes
          busy := left ++ [after (left.getLast?.getD now.tbCopy) (stepsOf 400000000 n)] })) ∧
    (takesRead s d.val (R.chkResult k) = true → Completes (.chkResult d y) s fun t => t = s.emit (.read d.val
      (R.chkResult k) (BitVec.ofNat 32 ((if s.on (F.chkCfgRefout k) = true then reflect w c.reg else c.reg) ^^^
        ((s.rd (R.chkXorout k)).toNat % 2 ^ w))))) ∧
    (∀ (v : Word) (be : BitVec 4),
      (takesWrite s d.val (R.chkCtl k) = true →
        (be.getLsbD 0 = true ∧ v.getLsbD 0 = true → Completes (.restart d y v be) s fun t => fresh s t ∧
          Agree [.ser] s t) ∧
        (be.getLsbD 0 = false ∨ v.getLsbD 0 = false → Completes (.restart d y v be) s fun t => t = s)) ∧
      (takesWrite s d.val (R.chkCfg k) = true → Completes (.chkCfgWrite d y v be) s fun t =>
        fresh (s.wrTyped (R.chkCfg k) v be) t ∧ t.regs = (s.wrTyped (R.chkCfg k) v be).regs ∧
        Agree [.regs, .ser] s t) ∧
      (takesWrite s d.val (R.chkExpected k) = true →
        let judged : Prop := s.on (F.chkAliveAliveEn k) = true ∧ 4 ≤ c.ncap
        let known : Prop := s.on (F.chkAliveLastValid k) = true
        let delta := (c.cap + 16 - s.get (F.chkAliveLast k)) % 16
        (¬ judged → Completes (.chkExpected d y v be) s fun t => t.rd (R.chkAlive k) = s.rd (R.chkAlive k) ∧
          t.get (F.chkStatusAliveRepeat k) = s.get (F.chkStatusAliveRepeat k) ∧
          t.get (F.chkStatusAliveGap k) = s.get (F.chkStatusAliveGap k)) ∧
        (judged → Completes (.chkExpected d y v be) s fun t => t.get (F.chkAliveLast k) = c.cap % 16 ∧
          t.on (F.chkAliveLastValid k) = true ∧
          (known → delta = 0 → t.on (F.chkStatusAliveRepeat k) = true) ∧
          (known → max 1 (s.get (F.chkAliveAliveDelta k)) < delta → t.on (F.chkStatusAliveGap k) = true) ∧
          (¬ known ∨ delta ≠ 0 → t.get (F.chkStatusAliveRepeat k) = s.get (F.chkStatusAliveRepeat k)) ∧
          (¬ known ∨ delta ≤ max 1 (s.get (F.chkAliveAliveDelta k)) →
            t.get (F.chkStatusAliveGap k) = s.get (F.chkStatusAliveGap k)))))

/-- R439: a write of `CHK_EXPECTED_k` compares the result, as the commands before it left it, with the written value;
`MATCH` reads the outcome; a mismatch sets `MISMATCH`, counts, and raises the cause, which counts on source 275 + k
when enabled; the unit goes on as it was. -/
def Obligations.ExpectedWriteCompares : Prop :=
  ∀ (s : State) (d : Drawer) (y : Fin 4) (v : Word) (be : BitVec 4), takesWrite s d.val (R.chkExpected y.val) = true →
    let k := y.val
    let written := (s.wrTyped (R.chkExpected k) v be).rd (R.chkExpected k)
    let w := (polyOf (s.get (F.chkCfgPoly k))).1
    let r := (chkUnit s k).reg
    let result := (if s.on (F.chkCfgRefout k) = true then reflect w r else r) ^^^ ((s.rd (R.chkXorout k)).toNat % 2 ^ w)
    Completes (.chkExpected d y v be) s fun t =>
      (be = 15#4 → written = v) ∧ t.rd (R.chkExpected k) = written ∧
      (t.on (F.chkStatusMatch k) = true ↔ result = written.toNat) ∧
      (result = written.toNat → t.get (F.chkStatusMismatch k) = s.get (F.chkStatusMismatch k) ∧
        t.rd (R.chkMismatchCnt k) = s.rd (R.chkMismatchCnt k)) ∧
      (result ≠ written.toNat → t.on (F.chkStatusMismatch k) = true ∧ Bumped (R.chkMismatchCnt k) s t ∧
        (s.on (bitFld (R.chkStatus k) 8) = true → ∃ u, OnlyRegsAndEvents s u ∧
          OnlyRegsAndEvents (occur u (275 + k)) t)) ∧
      t.ser = s.ser ∧ OnlyRegsAndEvents s t ∧
      KeepsRegs s t [R.chkExpected k, R.chkStatus k, R.chkMismatchCnt k, R.chkAlive k]

/-! ### Power (R443 to R446, R450, R452 to R455, R483, R484, R513) -/

/-- R453, R454: last-gasp is entered on command, when the supply falls while every tracker is out of lock, or after 20
ms of link loss: storage jobs end with `POWER_LOSS`, chains stop, frames and waits of threads outside `PWR_LG_THREADS`
fail, the flush begins; R455: it ends on command or when both conditions have gone; R452, R464: standby parks the
link, and its wake takes 1.2 ms; R450: shares above 100 are refused; R446: tolerances; R443, R445: a wake takes its
time; R513: the PCIe link. -/
def Obligations.PowerModesAndShares : Prop :=
  ∀ s : State,
    let auto : Prop := s.get F.tnlStatusState ≠ 2 ∧ s.on F.pwrLgCfgLgAuto = true
    let outage (n : Nat) : Prop := bitAt (s.rd R.pwrLgThreads).toNat n = true
    let settled : Prop := ∀ n k, n < 32 → k < 4 → isPending (s.act n k) = true → (s.act n k).stage ≠ .closing
    let isTx (a : Act) : Prop := (∃ d, a.body = .txf d) ∨ ∃ d, a.body = .rtx d
    let entered (cmd : Bool) : State → Prop := Counted 285 fun u =>
      lastGasp u = true ∧ u.on F.pwrStatusLgByCmd = cmd ∧ u.on F.pwrCauseLgEntry = true ∧ budgetMw u = 350 ∧
      u.on F.storStatusLastGaspFlushed = false ∧ u.stor.flushing = true ∧ u.pwr.armed = false ∧
      (∀ id j, jobOf s id = some j → j.unit = .storage → j.phase < 4 →
        ∃ y, jobOf u id = some y ∧ y.status = 0x16 ∧ y.phase = 4) ∧
      (settled → (∀ c, c < 6 → s.on (F.lphyRxcfgEnable c) = true → (chain u c).nat = .listen ∧
          (chain u c).swp = .listen ∧ (chain u c).cmp = .listen) ∧
        ∀ n, n < 32 → ¬ outage n →
          (∀ k, k < 4 → isPending (s.act n k) = true → (s.act n k).stage = .waiting → isTx (s.act n k) →
            (u.act n k).status = 4 ∧ (u.act n k).cause = 0x38) ∧
          ∀ k a, (s.thr n).wait = .grant k a → isTx a → (u.thr n).state = .run ∧ (u.thr n).flags.fail = true ∧
            (u.thr n).cause = 0x38 ∧ (u.thr n).pc = (s.thr n).pc + 1)
    let left : State → Prop := Counted 285 fun u => lastGasp u = false ∧ u.on F.pwrStatusLgByCmd = false ∧
      u.on F.pwrCauseLgExit = true ∧ u.stor = { s.stor with flushing := false, owed := true } ∧
      KeepsAllRegs s u [R.pwrStatus, R.pwrCause] ∧ Agree [.regs, .stor, .pwr] s u
    (∀ d : Drawer, takesWrite s d.val R.pwrCmd = true →
      let inService : Prop := (∃ c, c < 6 ∧ s.on (F.lphyRxcfgEnable c) = true) ∨
        (∃ x, x < 3 ∧ s.on (F.lphyTxcfgEnable x) = true) ∨ s.on F.radioCfgEnable = true ∨ s.on F.ringCfgEnable = true ∨
        (∃ n, n < 32 ∧ (s.thr n).state ≠ .idle) ∨ lastGasp s = true
      (lastGasp s = true → Completes (.lastGasp d) s fun t => t = s) ∧
      (lastGasp s = false → Completes (.lastGasp d) s (entered true)) ∧
      (lastGasp s = false → Completes (.exit d) s fun t => t = s) ∧
      (lastGasp s = true → Completes (.exit d) s left) ∧
      (standby s = true → Completes (.standby d) s fun t => t = s) ∧
      (standby s = false → inService → Completes (.standby d) s fun t => t.on F.pwrStatusCmdRefused = true ∧
        standby t = false ∧ KeepsAllRegs s t [R.pwrStatus] ∧ OnlyRegs s t) ∧
      (standby s = false → ¬ inService → Completes (.standby d) s fun t => standby t = true ∧
        t.pwr = { s.pwr with hostAwake := false } ∧
        t.get F.tnlStatusState = (if s.get F.tnlStatusState = 1 then 4 else s.get F.tnlStatusState) ∧
        KeepsAllRegs s t [R.pwrStatus, R.tnlStatus] ∧ Agree [.regs, .pwr, .tnl] s t) ∧
      (standby s = false → Completes (.wake d) s fun t => t = s) ∧
      (standby s = true → Completes (.wake d) s fun t => standby t = false ∧ t.pwr = { s.pwr with hostAwake := false } ∧
        t.get F.tnlStatusState = (if s.get F.tnlStatusState = 4 then 1 else s.get F.tnlStatusState) ∧
        t.get F.plmbStatusState = 0 ∧ t.on F.plmbStatusHoldoverReady = false ∧ t.plmb.resync = true ∧
        t.tb = (s.pass (usSteps 1200)).tb ∧ t.tbCopy = (s.pass (usSteps 1200)).tbCopy)) ∧
    (let fallen : State := { s with pwr := { s.pwr with vinLow := true } }
      let enters : Prop := auto ∧ lastGasp s = false ∧ s.pwr.armed = true ∧ mainsOut s = true;
      (¬ enters → Completes .vinMonFall s fun t => t = fallen) ∧
      (enters → Completes .vinMonFall s (entered false))) ∧
    (let risen : State := { s with
        pwr := { s.pwr with vinLow := false, armed := !mainsOut s || s.pwr.armed } }
      let leaves : Prop := auto ∧ lastGasp s = true ∧ mainsOut s = false;
      (¬ leaves → Completes .vinMonRise s fun t => t = risen) ∧
      (leaves → Completes .vinMonRise s fun t => left t ∧ t.pwr = risen.pwr)) ∧
    (let lost : Prop := s.get F.tnlStatusState = 2 ∧ s.on F.pwrLgCfgLgAuto = true;
      (s.tnl.logicLost = none ∨ ¬ lost → Completes .linkLossLastGasp s fun t => t = s) ∧
      ∀ u, s.tnl.logicLost = some u → lost →
        let due := s.passTo (after u (msSteps 20))
        (lastGasp s = true → Completes .linkLossLastGasp s fun t => t = due) ∧
        (lastGasp s = false → Completes .linkLossLastGasp s fun t => entered false t ∧ t.tb = due.tb)) ∧
    (∀ (d : Drawer) (v : Word) (be : BitVec 4),
      (takesWrite s d.val R.pwrShare = true →
        let u := s.wrTyped R.pwrShare v be
        let w := (u.rd R.pwrShare).toNat
        let total := w % 128 + w / 2 ^ 8 % 128 + w / 2 ^ 16 % 128 + w / 2 ^ 24 % 128
        (total ≤ 100 → Completes (.pwrShareWrite d v be) s fun t => t = u) ∧
        (100 < total → Completes (.pwrShareWrite d v be) s fun t => t.on F.pwrStatusShareRefused = true ∧
          KeepsAllRegs s t [R.pwrStatus] ∧ OnlyRegs s t)) ∧
      (takesWrite s d.val R.pwrLtrA = true → Completes (.pwrLtrWrite d false v be) s fun t =>
        t = s.wrTyped (selfKey d.val R.pwrLtrA) v be) ∧
      (takesWrite s d.val R.pwrLtrB = true → Completes (.pwrLtrWrite d true v be) s fun t =>
        t = s.wrTyped (selfKey d.val R.pwrLtrB) v be)) ∧
    (∀ i : Fin 16, Completes (.islandWake i) s fun t => t = s.pass (usSteps
      (if islandState s i.val = 0 then 0 else if islandState s i.val = 1 then 1
        else if islandState s i.val = 2 then 40 else 1200))) ∧
    ∀ l : Fin 3, Completes (.pcieLinkChange l) s fun t => t = { s with pwr := { s.pwr with
      pcie := l.val, perstLow := s.pwr.perstLow && l.val == 0 } }

/-! ### The Tenon link (R456 to R470, R484) -/

/-- R457 to R461: a flit is taken, its gap counted, or answered with a NAK, and a NAK makes the sender resend; R465 to
R467: the sixteenth NAK of one name, 4 µs of silence or the other die's report loses the link, with the effects of
R466 on the line die and of R467 on the logic die; R461: an underrun cuts the frame; R462, R463, R469: a training
attempt; R470: `RESUME`. -/
def Obligations.TenonLinkBehaves : Prop :=
  ∀ s : State,
    let st := s.get F.tnlStatusState
    let settled : Prop := ∀ n k, n < 32 → k < 4 → isPending (s.act n k) = true → (s.act n k).stage ≠ .closing
    let air (n k : Nat) : Prop := n < 32 ∧ k < 4 ∧ isPending (s.act n k) = true ∧ airBody (s.act n k) = true
    let cause (j : Nat) (t : State) : Prop := t.on (bitFld R.tnlCause j) = true
    let deaf (r : Nat) : Prop := r = 0 ∧ st ≠ 1 ∧ st ≠ 3 ∨ r = 1 ∧ (s.tnl.lineLost = true ∨ st = 0 ∨ st = 4)
    -- the logic die has declared loss (R467, R468)
    let logicLost (reason : Nat) (wr : Option Nat) (now : State) (t : State) : Prop :=
      t.get F.tnlStatusState = 2 ∧ t.get F.tnlStatusTries = 0 ∧ t.get F.tnlLossInfoReason = reason ∧
      t.on F.tnlLossInfoWritePending = wr.isSome ∧ (∀ o, wr = some o → o < 2 ^ 23 → t.get F.tnlLossInfoOffset = o) ∧
      Bumped R.tnlLossCnt s t ∧ cause 0 t ∧ (wr.isSome = true → cause 4 t) ∧ t.tnl.logicLost = some now.tbCopy ∧
      (∀ c, c < 6 → t.on (F.lphyRxstatAbsent c) = true) ∧ t.on F.radioStatusAbsent = true ∧ t.radio.rx = none ∧
      t.radio.frozen.isSome = true ∧ t.on F.plmbStatusCopySynced = false ∧ t.plmb.resync = true ∧
      (settled → (∀ n k, air n k → (t.act n k).status = 4 ∧ (t.act n k).cause = 0x03) ∧
        ∀ n k a, n < 32 → (s.thr n).wait = .grant k a → airBody a = true → (t.thr n).state = .run ∧
          (t.thr n).flags.fail = true ∧ (t.thr n).cause = 0x03)
    -- the line die has declared loss (R466)
    let lineLost (t : State) : Prop :=
      t.tnl.lineLost = true ∧ t.get F.tnlStatusState = st ∧
      (∀ x, x < 3 → t.on (F.lphyTxstatMuted x) = true ∧ t.on (F.lphyTxstatBusy x) = false) ∧
      t.on F.radioStatusMuted = true ∧ t.on F.radioStatusTxBusy = false ∧ (∀ a ∈ t.line.acks, a.sent = none) ∧
      t.ser.ring.job = none ∧
      (if s.on F.optActive0RingAutonomous = true ∧ ringActive s = true then t.on F.ringStatusAutonomous = true
        else t.on F.ringStatusBypassClosed = true) ∧
      (settled → ∀ n k, air n k → ∀ g ∈ t.pwr.held, g.who ≠ .act n k)
    let lost (r reason : Nat) (wr : Option Nat) (now t : State) : Prop :=
      (r = 0 → logicLost reason wr now t) ∧ (r = 1 → lineLost t)
    (∀ (x : Fin 2) (f : Flit) (at' : Time),
      let r := x.val
      let now := s.passTo at'
      let does (P : State → Prop) : Prop := Completes (.flitRx x f at') s P
      let valid : Prop := f.parOk = true ∧ f.ecc.val ≠ 2
      let want := tabGet (fun _ => 0) s.tnl.expect r
      let name := (want + 7) % 8
      let naks := tabGet (fun _ => 0) s.tnl.naks r
      let k := if 0 < naks ∧ tabGet (fun _ => 0) s.tnl.nakSeq r = name then naks + 1 else 1
      let bad : Prop := ¬ valid ∨ f.lossMsg = false ∧ f.replay = true ∧ f.seq.val ≠ want
      let good : Prop := valid ∧ f.lossMsg = false ∧ (f.replay = true → f.seq.val = want)
      (deaf r → does fun t => t = s) ∧
      (¬ deaf r → bad ∨ good → k < 16 → f.ecc.val = 1 → does (Bumped (R.tnlCorrCnt r) s)) ∧
      (¬ deaf r → bad → k < 16 → does fun t => Out.nak r name ∈ t.fab.out ∧ tabGet (fun _ => 0) t.tnl.naks r = k ∧
        tabGet (fun _ => 0) t.tnl.nakSeq r = name ∧ t.tnl.expect = s.tnl.expect ∧ t.tnl.lineLost = s.tnl.lineLost ∧
        t.get F.tnlStatusState = st) ∧
      (¬ deaf r → bad → 16 ≤ k → does (lost r 2 none now)) ∧
      (¬ deaf r → valid → f.replay = false → f.lossMsg = true → does (lost r 3 none now)) ∧
      (¬ deaf r → good → does fun t => tabGet (fun _ => 0#64) t.tnl.last r = now.tb ∧ t.get F.tnlStatusState = st ∧
        (f.replay = true → tabGet (fun _ => 0) t.tnl.expect r = (f.seq.val + 1) % 8 ∧
          (⟨r, f.seq.val, BitVec.ofNat 64 (now.tb.toNat - nsSteps 120)⟩ : Kept) ∈ t.tnl.kept) ∧
        (f.replay = false → t.tnl.expect = s.tnl.expect ∧ t.tnl.kept = s.tnl.kept) ∧
        (f.stream = none → t.rd R.tnlEraseCnt = s.rd R.tnlEraseCnt ∧ t.tnl.index = s.tnl.index) ∧
        (∀ c i, f.stream = some (c, i) →
          let w := if c.val < 6 then 8192 else 256
          let next := tabGet (fun _ => 0) s.tnl.index c.val
          let gap := if next = 0 then 0 else (i + w - (next - 1) % w) % w
          (t.rd R.tnlEraseCnt).toNat = min ((s.rd R.tnlEraseCnt).toNat + gap) (2 ^ 32 - 1) ∧
          tabGet (fun _ => 0) t.tnl.index c.val = (i + 1) % w + 1) ∧
        Agree [.regs, .time, .copy, .tnl, .events, .out, .held] s t)) ∧
    (∀ (x : Fin 2) (wr : Option Nat),
      let now := s.passTo (after (tabGet (fun _ => 0#64) s.tnl.last x.val) (usSteps 4))
      (deaf x.val → Completes (.linkSilence x wr) s fun t => t = s) ∧
      (¬ deaf x.val → Completes (.linkSilence x wr) s (lost x.val 1 wr now))) ∧
    (∀ (x : Fin 2) (seq : Fin 8) (at' : Time),
      let now := s.passTo at'
      let l := afterSeq seq.val (keptFlits s x.val now.tb.toNat)
      (st ≠ 1 ∧ st ≠ 3 → Completes (.nakRx x seq at') s fun t => t = s) ∧
      (st = 1 ∨ st = 3 → (s.rd (R.tnlReplayCnt x.val)).toNat + l.length < 2 ^ 32 - 1 →
        Completes (.nakRx x seq at') s fun t => t.fab.out = (l.map fun k => Out.flit x.val k.seq).reverse ++ s.fab.out ∧
          (t.rd (R.tnlReplayCnt x.val)).toNat = (s.rd (R.tnlReplayCnt x.val)).toNat + l.length ∧
          t.tnl = { s.tnl with kept := s.tnl.kept.map fun k => if l.contains k = true then { k with sent := now.tb } else k } ∧
          KeepsAllRegs s t [R.tnlReplayCnt x.val] ∧ Agree [.regs, .time, .copy, .out, .tnl] s t)) ∧
    (∀ x : Fin 4,
      let mine (a : Act) : Prop := if x.val < 3 then usesTx a (2 ^ x.val) = true else isRtx a = true
      let busy := if x.val < 3 then F.lphyTxstatBusy x.val else F.radioStatusTxBusy
      (s.on busy = false → Completes (.txStreamUnderrun x) s fun t => t = s) ∧
      (s.on busy = true → Completes (.txStreamUnderrun x) s fun t => t.on busy = false ∧
        (x.val < 3 → (xmit t x.val).under = true) ∧
        (findIdxFrom (fun a => a.sent == some x.val) 0 s.line.acks = none → t.line.acks = s.line.acks) ∧
        (∀ i, findIdxFrom (fun a => a.sent == some x.val) 0 s.line.acks = some i →
          t.line.acks = s.line.acks.eraseIdx i) ∧
        (settled → ∀ n k, n < 32 → k < 4 → isPending (s.act n k) = true → (s.act n k).stage = .emitting →
          mine (s.act n k) → (t.act n k).status = 4 ∧ (t.act n k).cause = 0x03))) ∧
    (∀ ok : Bool,
      let waits : Prop := st ≠ 0 ∧ st ≠ 2 ∨ s.rst.level ≠ .none ∧ s.rst.seq < 4
      let muted : Prop := st = 2 ∨ s.on F.bootStatusLinkDown = true
      let tried (t : State) : Prop := t.tb = (s.pass (usSteps 300)).tb ∧
        t.get F.tnlStatusTries = min 65535 (s.get F.tnlStatusTries + 1)
      (waits → Completes (.trainingAttempt ok) s fun t => t = s) ∧
      (¬ waits → ok = false → Completes (.trainingAttempt ok) s fun t => tried t ∧
        t.get F.tnlStatusState = st ∧ (st = 2 → t.tnl.lineLost = true)) ∧
      (¬ waits → ok = true → muted → Completes (.trainingAttempt ok) s fun t => tried t ∧
        t.get F.tnlStatusState = 3 ∧ cause 1 t ∧ t.tnl.logicLost = none ∧ t.tnl.lineLost = false ∧ t.tnl.events = []) ∧
      (¬ waits → ok = true → ¬ muted → Completes (.trainingAttempt ok) s fun t => tried t ∧
        t.get F.tnlStatusState = 1 ∧ t.rst.seq = (if s.rst.seq = 4 then 7 else s.rst.seq) ∧ t.tnl.events = [])) ∧
    ∀ (d : Drawer) (v : Word) (be : BitVec 4), takesWrite s d.val R.tnlCmd = true →
      let asked : Prop := be.getLsbD 0 = true ∧ v.getLsbD 0 = true
      let refused : Prop := st ≠ 3 ∨ s.on F.bootStatusLinkDown = true
      let reopens : Prop := s.on F.ringCfgEnable = true ∧ s.on F.optActive0RingAllow = true ∧ ringActive s = false
      (¬ asked → Completes (.tnlResume d v be) s fun t => t = s) ∧
      (asked → refused → Completes (.tnlResume d v be) s fun t => t.on F.tnlStatusCmdRefused = true ∧
        t.get F.tnlStatusState = st ∧ KeepsAllRegs s t [R.tnlStatus] ∧ OnlyRegs s t) ∧
      (asked → ¬ refused → Completes (.tnlResume d v be) s fun t => t.get F.tnlStatusState = 1 ∧ cause 2 t ∧
        (∀ c, c < 6 → t.on (F.lphyRxstatAbsent c) = false) ∧ t.on F.radioStatusAbsent = false ∧
        (∀ x, x < 3 → t.on (F.lphyTxstatMuted x) = false) ∧ t.on F.radioStatusMuted = false ∧
        t.radio.frozen = none ∧ t.on F.ringStatusAutonomous = false ∧
        (reopens → t.ser.ring = { s.ser.ring with opening := true, lastChar := s.tb }) ∧
        (¬ reopens → t.ser = s.ser))
end

