-- ==== Sys2Proof/Laws/State.lean ====
section
/-!
SUPPORT. What the named updates of the state leave alone: one lemma for each field and update, each true by
unfolding, so that no later proof unfolds a record update.
-/

namespace Sys2Proof.Machine

/-! ### `State.wr` -/

@[simp] theorem State.wr_pending (s : State) (k : Nat) (v : Word) : (s.wr k v).pending = s.pending := rfl
@[simp] theorem State.wr_freeIdx (s : State) (k : Nat) (v : Word) : (s.wr k v).freeIdx = s.freeIdx := rfl
@[simp] theorem State.wr_tb (s : State) (k : Nat) (v : Word) : (s.wr k v).tb = s.tb := rfl
@[simp] theorem State.wr_tbCopy (s : State) (k : Nat) (v : Word) : (s.wr k v).tbCopy = s.tbCopy := rfl
@[simp] theorem State.wr_opt (s : State) (k : Nat) (v : Word) : (s.wr k v).opt = s.opt := rfl
@[simp] theorem State.wr_rst (s : State) (k : Nat) (v : Word) : (s.wr k v).rst = s.rst := rfl
@[simp] theorem State.wr_att (s : State) (k : Nat) (v : Word) : (s.wr k v).att = s.att := rfl
@[simp] theorem State.wr_fab (s : State) (k : Nat) (v : Word) : (s.wr k v).fab = s.fab := rfl
@[simp] theorem State.wr_jig (s : State) (k : Nat) (v : Word) : (s.wr k v).jig = s.jig := rfl
@[simp] theorem State.wr_pwr (s : State) (k : Nat) (v : Word) : (s.wr k v).pwr = s.pwr := rfl
@[simp] theorem State.wr_ciph (s : State) (k : Nat) (v : Word) : (s.wr k v).ciph = s.ciph := rfl
@[simp] theorem State.wr_ncp (s : State) (k : Nat) (v : Word) : (s.wr k v).ncp = s.ncp := rfl
@[simp] theorem State.wr_nand (s : State) (k : Nat) (v : Word) : (s.wr k v).nand = s.nand := rfl
@[simp] theorem State.wr_stor (s : State) (k : Nat) (v : Word) : (s.wr k v).stor = s.stor := rfl
@[simp] theorem State.wr_line (s : State) (k : Nat) (v : Word) : (s.wr k v).line = s.line := rfl
@[simp] theorem State.wr_radio (s : State) (k : Nat) (v : Word) : (s.wr k v).radio = s.radio := rfl
@[simp] theorem State.wr_plmb (s : State) (k : Nat) (v : Word) : (s.wr k v).plmb = s.plmb := rfl
@[simp] theorem State.wr_ser (s : State) (k : Nat) (v : Word) : (s.wr k v).ser = s.ser := rfl
@[simp] theorem State.wr_tnl (s : State) (k : Nat) (v : Word) : (s.wr k v).tnl = s.tnl := rfl
@[simp] theorem State.wr_caps (s : State) (k : Nat) (v : Word) : (s.wr k v).caps = s.caps := rfl

/-! ### `State.put` -/

@[simp] theorem State.put_pending (s : State) (f : Fld) (n : Nat) : (s.put f n).pending = s.pending := rfl
@[simp] theorem State.put_freeIdx (s : State) (f : Fld) (n : Nat) : (s.put f n).freeIdx = s.freeIdx := rfl
@[simp] theorem State.put_tb (s : State) (f : Fld) (n : Nat) : (s.put f n).tb = s.tb := rfl
@[simp] theorem State.put_tbCopy (s : State) (f : Fld) (n : Nat) : (s.put f n).tbCopy = s.tbCopy := rfl
@[simp] theorem State.put_opt (s : State) (f : Fld) (n : Nat) : (s.put f n).opt = s.opt := rfl
@[simp] theorem State.put_rst (s : State) (f : Fld) (n : Nat) : (s.put f n).rst = s.rst := rfl
@[simp] theorem State.put_att (s : State) (f : Fld) (n : Nat) : (s.put f n).att = s.att := rfl
@[simp] theorem State.put_fab (s : State) (f : Fld) (n : Nat) : (s.put f n).fab = s.fab := rfl
@[simp] theorem State.put_jig (s : State) (f : Fld) (n : Nat) : (s.put f n).jig = s.jig := rfl
@[simp] theorem State.put_pwr (s : State) (f : Fld) (n : Nat) : (s.put f n).pwr = s.pwr := rfl
@[simp] theorem State.put_ciph (s : State) (f : Fld) (n : Nat) : (s.put f n).ciph = s.ciph := rfl
@[simp] theorem State.put_ncp (s : State) (f : Fld) (n : Nat) : (s.put f n).ncp = s.ncp := rfl
@[simp] theorem State.put_nand (s : State) (f : Fld) (n : Nat) : (s.put f n).nand = s.nand := rfl
@[simp] theorem State.put_stor (s : State) (f : Fld) (n : Nat) : (s.put f n).stor = s.stor := rfl
@[simp] theorem State.put_line (s : State) (f : Fld) (n : Nat) : (s.put f n).line = s.line := rfl
@[simp] theorem State.put_radio (s : State) (f : Fld) (n : Nat) : (s.put f n).radio = s.radio := rfl
@[simp] theorem State.put_plmb (s : State) (f : Fld) (n : Nat) : (s.put f n).plmb = s.plmb := rfl
@[simp] theorem State.put_ser (s : State) (f : Fld) (n : Nat) : (s.put f n).ser = s.ser := rfl
@[simp] theorem State.put_tnl (s : State) (f : Fld) (n : Nat) : (s.put f n).tnl = s.tnl := rfl
@[simp] theorem State.put_caps (s : State) (f : Fld) (n : Nat) : (s.put f n).caps = s.caps := rfl

/-! ### `State.resetReg` -/

@[simp] theorem State.resetReg_pending (s : State) (k : Nat) : (s.resetReg k).pending = s.pending := rfl
@[simp] theorem State.resetReg_freeIdx (s : State) (k : Nat) : (s.resetReg k).freeIdx = s.freeIdx := rfl
@[simp] theorem State.resetReg_tb (s : State) (k : Nat) : (s.resetReg k).tb = s.tb := rfl
@[simp] theorem State.resetReg_tbCopy (s : State) (k : Nat) : (s.resetReg k).tbCopy = s.tbCopy := rfl
@[simp] theorem State.resetReg_opt (s : State) (k : Nat) : (s.resetReg k).opt = s.opt := rfl
@[simp] theorem State.resetReg_rst (s : State) (k : Nat) : (s.resetReg k).rst = s.rst := rfl
@[simp] theorem State.resetReg_att (s : State) (k : Nat) : (s.resetReg k).att = s.att := rfl
@[simp] theorem State.resetReg_fab (s : State) (k : Nat) : (s.resetReg k).fab = s.fab := rfl
@[simp] theorem State.resetReg_jig (s : State) (k : Nat) : (s.resetReg k).jig = s.jig := rfl
@[simp] theorem State.resetReg_pwr (s : State) (k : Nat) : (s.resetReg k).pwr = s.pwr := rfl
@[simp] theorem State.resetReg_ciph (s : State) (k : Nat) : (s.resetReg k).ciph = s.ciph := rfl
@[simp] theorem State.resetReg_ncp (s : State) (k : Nat) : (s.resetReg k).ncp = s.ncp := rfl
@[simp] theorem State.resetReg_nand (s : State) (k : Nat) : (s.resetReg k).nand = s.nand := rfl
@[simp] theorem State.resetReg_stor (s : State) (k : Nat) : (s.resetReg k).stor = s.stor := rfl
@[simp] theorem State.resetReg_line (s : State) (k : Nat) : (s.resetReg k).line = s.line := rfl
@[simp] theorem State.resetReg_radio (s : State) (k : Nat) : (s.resetReg k).radio = s.radio := rfl
@[simp] theorem State.resetReg_plmb (s : State) (k : Nat) : (s.resetReg k).plmb = s.plmb := rfl
@[simp] theorem State.resetReg_ser (s : State) (k : Nat) : (s.resetReg k).ser = s.ser := rfl
@[simp] theorem State.resetReg_tnl (s : State) (k : Nat) : (s.resetReg k).tnl = s.tnl := rfl
@[simp] theorem State.resetReg_caps (s : State) (k : Nat) : (s.resetReg k).caps = s.caps := rfl

/-! ### `State.drew` -/

@[simp] theorem State.drew_pending (s : State) : (s.drew).pending = s.pending := rfl
@[simp] theorem State.drew_regs (s : State) : (s.drew).regs = s.regs := rfl
@[simp] theorem State.drew_tb (s : State) : (s.drew).tb = s.tb := rfl
@[simp] theorem State.drew_tbCopy (s : State) : (s.drew).tbCopy = s.tbCopy := rfl
@[simp] theorem State.drew_opt (s : State) : (s.drew).opt = s.opt := rfl
@[simp] theorem State.drew_rst (s : State) : (s.drew).rst = s.rst := rfl
@[simp] theorem State.drew_att (s : State) : (s.drew).att = s.att := rfl
@[simp] theorem State.drew_fab (s : State) : (s.drew).fab = s.fab := rfl
@[simp] theorem State.drew_jig (s : State) : (s.drew).jig = s.jig := rfl
@[simp] theorem State.drew_pwr (s : State) : (s.drew).pwr = s.pwr := rfl
@[simp] theorem State.drew_ciph (s : State) : (s.drew).ciph = s.ciph := rfl
@[simp] theorem State.drew_ncp (s : State) : (s.drew).ncp = s.ncp := rfl
@[simp] theorem State.drew_nand (s : State) : (s.drew).nand = s.nand := rfl
@[simp] theorem State.drew_stor (s : State) : (s.drew).stor = s.stor := rfl
@[simp] theorem State.drew_line (s : State) : (s.drew).line = s.line := rfl
@[simp] theorem State.drew_radio (s : State) : (s.drew).radio = s.radio := rfl
@[simp] theorem State.drew_plmb (s : State) : (s.drew).plmb = s.plmb := rfl
@[simp] theorem State.drew_ser (s : State) : (s.drew).ser = s.ser := rfl
@[simp] theorem State.drew_tnl (s : State) : (s.drew).tnl = s.tnl := rfl
@[simp] theorem State.drew_caps (s : State) : (s.drew).caps = s.caps := rfl

/-! ### `State.passTo` -/

@[simp] theorem State.passTo_pending (s : State) (u : Time) : (s.passTo u).pending = s.pending := rfl
@[simp] theorem State.passTo_freeIdx (s : State) (u : Time) : (s.passTo u).freeIdx = s.freeIdx := rfl
@[simp] theorem State.passTo_regs (s : State) (u : Time) : (s.passTo u).regs = s.regs := rfl
@[simp] theorem State.passTo_opt (s : State) (u : Time) : (s.passTo u).opt = s.opt := rfl
@[simp] theorem State.passTo_rst (s : State) (u : Time) : (s.passTo u).rst = s.rst := rfl
@[simp] theorem State.passTo_att (s : State) (u : Time) : (s.passTo u).att = s.att := rfl
@[simp] theorem State.passTo_fab (s : State) (u : Time) : (s.passTo u).fab = s.fab := rfl
@[simp] theorem State.passTo_jig (s : State) (u : Time) : (s.passTo u).jig = s.jig := rfl
@[simp] theorem State.passTo_pwr (s : State) (u : Time) : (s.passTo u).pwr = s.pwr := rfl
@[simp] theorem State.passTo_ciph (s : State) (u : Time) : (s.passTo u).ciph = s.ciph := rfl
@[simp] theorem State.passTo_ncp (s : State) (u : Time) : (s.passTo u).ncp = s.ncp := rfl
@[simp] theorem State.passTo_nand (s : State) (u : Time) : (s.passTo u).nand = s.nand := rfl
@[simp] theorem State.passTo_stor (s : State) (u : Time) : (s.passTo u).stor = s.stor := rfl
@[simp] theorem State.passTo_line (s : State) (u : Time) : (s.passTo u).line = s.line := rfl
@[simp] theorem State.passTo_radio (s : State) (u : Time) : (s.passTo u).radio = s.radio := rfl
@[simp] theorem State.passTo_plmb (s : State) (u : Time) : (s.passTo u).plmb = s.plmb := rfl
@[simp] theorem State.passTo_ser (s : State) (u : Time) : (s.passTo u).ser = s.ser := rfl
@[simp] theorem State.passTo_tnl (s : State) (u : Time) : (s.passTo u).tnl = s.tnl := rfl
@[simp] theorem State.passTo_caps (s : State) (u : Time) : (s.passTo u).caps = s.caps := rfl

/-! ### `State.emit` -/

@[simp] theorem State.emit_pending (s : State) (o : Out) : (s.emit o).pending = s.pending := rfl
@[simp] theorem State.emit_freeIdx (s : State) (o : Out) : (s.emit o).freeIdx = s.freeIdx := rfl
@[simp] theorem State.emit_regs (s : State) (o : Out) : (s.emit o).regs = s.regs := rfl
@[simp] theorem State.emit_tb (s : State) (o : Out) : (s.emit o).tb = s.tb := rfl
@[simp] theorem State.emit_tbCopy (s : State) (o : Out) : (s.emit o).tbCopy = s.tbCopy := rfl
@[simp] theorem State.emit_opt (s : State) (o : Out) : (s.emit o).opt = s.opt := rfl
@[simp] theorem State.emit_rst (s : State) (o : Out) : (s.emit o).rst = s.rst := rfl
@[simp] theorem State.emit_att (s : State) (o : Out) : (s.emit o).att = s.att := rfl
@[simp] theorem State.emit_jig (s : State) (o : Out) : (s.emit o).jig = s.jig := rfl
@[simp] theorem State.emit_pwr (s : State) (o : Out) : (s.emit o).pwr = s.pwr := rfl
@[simp] theorem State.emit_ciph (s : State) (o : Out) : (s.emit o).ciph = s.ciph := rfl
@[simp] theorem State.emit_ncp (s : State) (o : Out) : (s.emit o).ncp = s.ncp := rfl
@[simp] theorem State.emit_nand (s : State) (o : Out) : (s.emit o).nand = s.nand := rfl
@[simp] theorem State.emit_stor (s : State) (o : Out) : (s.emit o).stor = s.stor := rfl
@[simp] theorem State.emit_line (s : State) (o : Out) : (s.emit o).line = s.line := rfl
@[simp] theorem State.emit_radio (s : State) (o : Out) : (s.emit o).radio = s.radio := rfl
@[simp] theorem State.emit_plmb (s : State) (o : Out) : (s.emit o).plmb = s.plmb := rfl
@[simp] theorem State.emit_ser (s : State) (o : Out) : (s.emit o).ser = s.ser := rfl
@[simp] theorem State.emit_tnl (s : State) (o : Out) : (s.emit o).tnl = s.tnl := rfl
@[simp] theorem State.emit_caps (s : State) (o : Out) : (s.emit o).caps = s.caps := rfl
@[simp] theorem State.emit_fab_queues (s : State) (o : Out) : (s.emit o).fab.queues = s.fab.queues := rfl
@[simp] theorem State.emit_fab_jobs (s : State) (o : Out) : (s.emit o).fab.jobs = s.fab.jobs := rfl
@[simp] theorem State.emit_fab_nextJob (s : State) (o : Out) : (s.emit o).fab.nextJob = s.fab.nextJob := rfl
@[simp] theorem State.emit_fab_turn (s : State) (o : Out) : (s.emit o).fab.turn = s.fab.turn := rfl
@[simp] theorem State.emit_fab_evts (s : State) (o : Out) : (s.emit o).fab.evts = s.fab.evts := rfl
@[simp] theorem State.emit_fab_msix (s : State) (o : Out) : (s.emit o).fab.msix = s.fab.msix := rfl
@[simp] theorem State.emit_fab_msixCtl (s : State) (o : Out) : (s.emit o).fab.msixCtl = s.fab.msixCtl := rfl
@[simp] theorem State.emit_fab_ports (s : State) (o : Out) : (s.emit o).fab.ports = s.fab.ports := rfl
@[simp] theorem State.emit_fab_bars (s : State) (o : Out) : (s.emit o).fab.bars = s.fab.bars := rfl
@[simp] theorem State.emit_fab_bulk (s : State) (o : Out) : (s.emit o).fab.bulk = s.fab.bulk := rfl
@[simp] theorem State.emit_fab_bulkPoison (s : State) (o : Out) : (s.emit o).fab.bulkPoison = s.fab.bulkPoison := rfl

/-! ### `State.setEvt` -/

@[simp] theorem State.setEvt_pending (s : State) (n : Nat) (e : EvtSrc) : (s.setEvt n e).pending = s.pending := rfl
@[simp] theorem State.setEvt_freeIdx (s : State) (n : Nat) (e : EvtSrc) : (s.setEvt n e).freeIdx = s.freeIdx := rfl
@[simp] theorem State.setEvt_regs (s : State) (n : Nat) (e : EvtSrc) : (s.setEvt n e).regs = s.regs := rfl
@[simp] theorem State.setEvt_tb (s : State) (n : Nat) (e : EvtSrc) : (s.setEvt n e).tb = s.tb := rfl
@[simp] theorem State.setEvt_tbCopy (s : State) (n : Nat) (e : EvtSrc) : (s.setEvt n e).tbCopy = s.tbCopy := rfl
@[simp] theorem State.setEvt_opt (s : State) (n : Nat) (e : EvtSrc) : (s.setEvt n e).opt = s.opt := rfl
@[simp] theorem State.setEvt_rst (s : State) (n : Nat) (e : EvtSrc) : (s.setEvt n e).rst = s.rst := rfl
@[simp] theorem State.setEvt_att (s : State) (n : Nat) (e : EvtSrc) : (s.setEvt n e).att = s.att := rfl
@[simp] theorem State.setEvt_jig (s : State) (n : Nat) (e : EvtSrc) : (s.setEvt n e).jig = s.jig := rfl
@[simp] theorem State.setEvt_pwr (s : State) (n : Nat) (e : EvtSrc) : (s.setEvt n e).pwr = s.pwr := rfl
@[simp] theorem State.setEvt_ciph (s : State) (n : Nat) (e : EvtSrc) : (s.setEvt n e).ciph = s.ciph := rfl
@[simp] theorem State.setEvt_ncp (s : State) (n : Nat) (e : EvtSrc) : (s.setEvt n e).ncp = s.ncp := rfl
@[simp] theorem State.setEvt_nand (s : State) (n : Nat) (e : EvtSrc) : (s.setEvt n e).nand = s.nand := rfl
@[simp] theorem State.setEvt_stor (s : State) (n : Nat) (e : EvtSrc) : (s.setEvt n e).stor = s.stor := rfl
@[simp] theorem State.setEvt_line (s : State) (n : Nat) (e : EvtSrc) : (s.setEvt n e).line = s.line := rfl
@[simp] theorem State.setEvt_radio (s : State) (n : Nat) (e : EvtSrc) : (s.setEvt n e).radio = s.radio := rfl
@[simp] theorem State.setEvt_plmb (s : State) (n : Nat) (e : EvtSrc) : (s.setEvt n e).plmb = s.plmb := rfl
@[simp] theorem State.setEvt_ser (s : State) (n : Nat) (e : EvtSrc) : (s.setEvt n e).ser = s.ser := rfl
@[simp] theorem State.setEvt_tnl (s : State) (n : Nat) (e : EvtSrc) : (s.setEvt n e).tnl = s.tnl := rfl
@[simp] theorem State.setEvt_caps (s : State) (n : Nat) (e : EvtSrc) : (s.setEvt n e).caps = s.caps := rfl
@[simp] theorem State.setEvt_fab_queues (s : State) (n : Nat) (e : EvtSrc) : (s.setEvt n e).fab.queues = s.fab.queues := rfl
@[simp] theorem State.setEvt_fab_jobs (s : State) (n : Nat) (e : EvtSrc) : (s.setEvt n e).fab.jobs = s.fab.jobs := rfl
@[simp] theorem State.setEvt_fab_nextJob (s : State) (n : Nat) (e : EvtSrc) : (s.setEvt n e).fab.nextJob = s.fab.nextJob := rfl
@[simp] theorem State.setEvt_fab_turn (s : State) (n : Nat) (e : EvtSrc) : (s.setEvt n e).fab.turn = s.fab.turn := rfl
@[simp] theorem State.setEvt_fab_msix (s : State) (n : Nat) (e : EvtSrc) : (s.setEvt n e).fab.msix = s.fab.msix := rfl
@[simp] theorem State.setEvt_fab_msixCtl (s : State) (n : Nat) (e : EvtSrc) : (s.setEvt n e).fab.msixCtl = s.fab.msixCtl := rfl
@[simp] theorem State.setEvt_fab_ports (s : State) (n : Nat) (e : EvtSrc) : (s.setEvt n e).fab.ports = s.fab.ports := rfl
@[simp] theorem State.setEvt_fab_bars (s : State) (n : Nat) (e : EvtSrc) : (s.setEvt n e).fab.bars = s.fab.bars := rfl
@[simp] theorem State.setEvt_fab_bulk (s : State) (n : Nat) (e : EvtSrc) : (s.setEvt n e).fab.bulk = s.fab.bulk := rfl
@[simp] theorem State.setEvt_fab_bulkPoison (s : State) (n : Nat) (e : EvtSrc) : (s.setEvt n e).fab.bulkPoison = s.fab.bulkPoison := rfl
@[simp] theorem State.setEvt_fab_out (s : State) (n : Nat) (e : EvtSrc) : (s.setEvt n e).fab.out = s.fab.out := rfl

/-! ### `State.setQueue` -/

@[simp] theorem State.setQueue_pending (s : State) (n : Nat) (q : Queue) : (s.setQueue n q).pending = s.pending := rfl
@[simp] theorem State.setQueue_freeIdx (s : State) (n : Nat) (q : Queue) : (s.setQueue n q).freeIdx = s.freeIdx := rfl
@[simp] theorem State.setQueue_regs (s : State) (n : Nat) (q : Queue) : (s.setQueue n q).regs = s.regs := rfl
@[simp] theorem State.setQueue_tb (s : State) (n : Nat) (q : Queue) : (s.setQueue n q).tb = s.tb := rfl
@[simp] theorem State.setQueue_tbCopy (s : State) (n : Nat) (q : Queue) : (s.setQueue n q).tbCopy = s.tbCopy := rfl
@[simp] theorem State.setQueue_opt (s : State) (n : Nat) (q : Queue) : (s.setQueue n q).opt = s.opt := rfl
@[simp] theorem State.setQueue_rst (s : State) (n : Nat) (q : Queue) : (s.setQueue n q).rst = s.rst := rfl
@[simp] theorem State.setQueue_att (s : State) (n : Nat) (q : Queue) : (s.setQueue n q).att = s.att := rfl
@[simp] theorem State.setQueue_jig (s : State) (n : Nat) (q : Queue) : (s.setQueue n q).jig = s.jig := rfl
@[simp] theorem State.setQueue_pwr (s : State) (n : Nat) (q : Queue) : (s.setQueue n q).pwr = s.pwr := rfl
@[simp] theorem State.setQueue_ciph (s : State) (n : Nat) (q : Queue) : (s.setQueue n q).ciph = s.ciph := rfl
@[simp] theorem State.setQueue_ncp (s : State) (n : Nat) (q : Queue) : (s.setQueue n q).ncp = s.ncp := rfl
@[simp] theorem State.setQueue_nand (s : State) (n : Nat) (q : Queue) : (s.setQueue n q).nand = s.nand := rfl
@[simp] theorem State.setQueue_stor (s : State) (n : Nat) (q : Queue) : (s.setQueue n q).stor = s.stor := rfl
@[simp] theorem State.setQueue_line (s : State) (n : Nat) (q : Queue) : (s.setQueue n q).line = s.line := rfl
@[simp] theorem State.setQueue_radio (s : State) (n : Nat) (q : Queue) : (s.setQueue n q).radio = s.radio := rfl
@[simp] theorem State.setQueue_plmb (s : State) (n : Nat) (q : Queue) : (s.setQueue n q).plmb = s.plmb := rfl
@[simp] theorem State.setQueue_ser (s : State) (n : Nat) (q : Queue) : (s.setQueue n q).ser = s.ser := rfl
@[simp] theorem State.setQueue_tnl (s : State) (n : Nat) (q : Queue) : (s.setQueue n q).tnl = s.tnl := rfl
@[simp] theorem State.setQueue_caps (s : State) (n : Nat) (q : Queue) : (s.setQueue n q).caps = s.caps := rfl
@[simp] theorem State.setQueue_fab_jobs (s : State) (n : Nat) (q : Queue) : (s.setQueue n q).fab.jobs = s.fab.jobs := rfl
@[simp] theorem State.setQueue_fab_nextJob (s : State) (n : Nat) (q : Queue) : (s.setQueue n q).fab.nextJob = s.fab.nextJob := rfl
@[simp] theorem State.setQueue_fab_turn (s : State) (n : Nat) (q : Queue) : (s.setQueue n q).fab.turn = s.fab.turn := rfl
@[simp] theorem State.setQueue_fab_evts (s : State) (n : Nat) (q : Queue) : (s.setQueue n q).fab.evts = s.fab.evts := rfl
@[simp] theorem State.setQueue_fab_msix (s : State) (n : Nat) (q : Queue) : (s.setQueue n q).fab.msix = s.fab.msix := rfl
@[simp] theorem State.setQueue_fab_msixCtl (s : State) (n : Nat) (q : Queue) : (s.setQueue n q).fab.msixCtl = s.fab.msixCtl := rfl
@[simp] theorem State.setQueue_fab_ports (s : State) (n : Nat) (q : Queue) : (s.setQueue n q).fab.ports = s.fab.ports := rfl
@[simp] theorem State.setQueue_fab_bars (s : State) (n : Nat) (q : Queue) : (s.setQueue n q).fab.bars = s.fab.bars := rfl
@[simp] theorem State.setQueue_fab_bulk (s : State) (n : Nat) (q : Queue) : (s.setQueue n q).fab.bulk = s.fab.bulk := rfl
@[simp] theorem State.setQueue_fab_bulkPoison (s : State) (n : Nat) (q : Queue) : (s.setQueue n q).fab.bulkPoison = s.fab.bulkPoison := rfl
@[simp] theorem State.setQueue_fab_out (s : State) (n : Nat) (q : Queue) : (s.setQueue n q).fab.out = s.fab.out := rfl

/-! ### `State.setThr` -/

@[simp] theorem State.setThr_pending (s : State) (n : Nat) (x : Thread) : (s.setThr n x).pending = s.pending := rfl
@[simp] theorem State.setThr_freeIdx (s : State) (n : Nat) (x : Thread) : (s.setThr n x).freeIdx = s.freeIdx := rfl
@[simp] theorem State.setThr_regs (s : State) (n : Nat) (x : Thread) : (s.setThr n x).regs = s.regs := rfl
@[simp] theorem State.setThr_tb (s : State) (n : Nat) (x : Thread) : (s.setThr n x).tb = s.tb := rfl
@[simp] theorem State.setThr_tbCopy (s : State) (n : Nat) (x : Thread) : (s.setThr n x).tbCopy = s.tbCopy := rfl
@[simp] theorem State.setThr_opt (s : State) (n : Nat) (x : Thread) : (s.setThr n x).opt = s.opt := rfl
@[simp] theorem State.setThr_rst (s : State) (n : Nat) (x : Thread) : (s.setThr n x).rst = s.rst := rfl
@[simp] theorem State.setThr_att (s : State) (n : Nat) (x : Thread) : (s.setThr n x).att = s.att := rfl
@[simp] theorem State.setThr_fab (s : State) (n : Nat) (x : Thread) : (s.setThr n x).fab = s.fab := rfl
@[simp] theorem State.setThr_pwr (s : State) (n : Nat) (x : Thread) : (s.setThr n x).pwr = s.pwr := rfl
@[simp] theorem State.setThr_ciph (s : State) (n : Nat) (x : Thread) : (s.setThr n x).ciph = s.ciph := rfl
@[simp] theorem State.setThr_ncp (s : State) (n : Nat) (x : Thread) : (s.setThr n x).ncp = s.ncp := rfl
@[simp] theorem State.setThr_nand (s : State) (n : Nat) (x : Thread) : (s.setThr n x).nand = s.nand := rfl
@[simp] theorem State.setThr_stor (s : State) (n : Nat) (x : Thread) : (s.setThr n x).stor = s.stor := rfl
@[simp] theorem State.setThr_line (s : State) (n : Nat) (x : Thread) : (s.setThr n x).line = s.line := rfl
@[simp] theorem State.setThr_radio (s : State) (n : Nat) (x : Thread) : (s.setThr n x).radio = s.radio := rfl
@[simp] theorem State.setThr_plmb (s : State) (n : Nat) (x : Thread) : (s.setThr n x).plmb = s.plmb := rfl
@[simp] theorem State.setThr_ser (s : State) (n : Nat) (x : Thread) : (s.setThr n x).ser = s.ser := rfl
@[simp] theorem State.setThr_tnl (s : State) (n : Nat) (x : Thread) : (s.setThr n x).tnl = s.tnl := rfl
@[simp] theorem State.setThr_caps (s : State) (n : Nat) (x : Thread) : (s.setThr n x).caps = s.caps := rfl

end Sys2Proof.Machine
end

