-- ==== Sys2Proof/Laws/Tab.lean ====
section
/-!
SUPPORT. What tables and bit fields read after a write, and that a write keeps a table's canonical form.
-/

namespace Sys2Proof.Machine

theorem tabGet_tabErase {α : Type} (d : Nat → α) (t : Tab α) (k j : Nat) :
    tabGet d (tabErase t k) j = if j = k then d j else tabGet d t j := by
  induction t with
  | nil => simp [tabErase, tabGet]
  | cons e t ih =>
    obtain ⟨i, v⟩ := e
    simp only [tabErase] at ih
    by_cases hik : i = k
    · subst hik
      simp only [tabErase, List.filter_cons, bne_self_eq_false, Bool.false_eq_true, if_false, ih, tabGet]
      by_cases hj : j = i <;> simp [hj]
    · have hb : (i != k) = true := by simpa using hik
      simp only [tabErase, List.filter_cons, hb, if_true, tabGet, ih]
      by_cases hj : j = i
      · subst hj; simp [hik]
      · simp [hj]

theorem tabGet_tabPut {α : Type} (d : Nat → α) (t : Tab α) (k j : Nat) (v : α) :
    tabGet d (tabPut t k v) j = if j = k then v else tabGet d t j := by
  induction t with
  | nil => simp [tabPut, tabGet]
  | cons e t ih =>
    obtain ⟨i, w⟩ := e
    simp only [tabPut]
    split
    · next h => subst h; simp only [tabGet]; by_cases hj : j = k <;> simp [hj]
    · split
      · simp only [tabGet]
      · next h1 h2 =>
        simp only [tabGet, ih]
        by_cases hj : j = i
        · subst hj; simp [Ne.symm h1]
        · simp [hj]

/-- A table reads what was written at its key and is unchanged at every other. -/
@[simp] theorem tabGet_tabSet {α : Type} [DecidableEq α] (d : Nat → α) (t : Tab α) (k j : Nat) (v : α) :
    tabGet d (tabSet d t k v) j = if j = k then v else tabGet d t j := by
  unfold tabSet
  split
  · next h =>
    rw [tabGet_tabErase]
    by_cases hj : j = k
    · subst hj; simp [h]
    · simp [hj]
  · exact tabGet_tabPut d t k j v

@[simp] theorem tabGet_nil {α : Type} (d : Nat → α) (k : Nat) : tabGet d [] k = d k := rfl

/-- A table with only the keys that pass a test. -/
theorem tabGet_tabKeep {α : Type} (d : Nat → α) (p : Nat → Bool) (t : Tab α) (k : Nat) :
    tabGet d (tabKeep p t) k = if p k then tabGet d t k else d k := by
  induction t with
  | nil => simp [tabKeep, tabGet]
  | cons e t ih =>
    obtain ⟨i, v⟩ := e
    simp only [tabKeep, List.filter_cons] at ih ⊢
    by_cases hp : p i = true
    · simp only [hp, if_true, tabGet, ih]
      by_cases hk : k = i
      · subst hk; simp [hp]
      · simp [hk]
    · simp only [hp, Bool.false_eq_true, if_false, ih, tabGet]
      by_cases hk : k = i
      · subst hk; simp [hp]
      · simp [hk]

/-! ### The canonical form is kept -/

theorem tabWfFrom_mono {α : Type} [DecidableEq α] (d : Nat → α) (t : Tab α) (lo hi : Nat) (h : lo ≤ hi)
    (hw : tabWfFrom d (some hi) t = true) : tabWfFrom d (some lo) t = true := by
  cases t with
  | nil => rfl
  | cons e t =>
    obtain ⟨k, v⟩ := e
    simp only [tabWfFrom, Bool.and_eq_true, decide_eq_true_eq] at hw ⊢
    exact ⟨⟨by omega, hw.1.2⟩, hw.2⟩

theorem tabWfFrom_none {α : Type} [DecidableEq α] (d : Nat → α) (t : Tab α) (lo : Nat)
    (hw : tabWfFrom d (some lo) t = true) : tabWfFrom d none t = true := by
  cases t with
  | nil => rfl
  | cons e t =>
    obtain ⟨k, v⟩ := e
    simp only [tabWfFrom, Bool.and_eq_true, decide_eq_true_eq] at hw ⊢
    exact ⟨⟨trivial, hw.1.2⟩, hw.2⟩

theorem tabWfFrom_filter {α : Type} [DecidableEq α] (d : Nat → α) (p : Nat × α → Bool) (t : Tab α) :
    ∀ lo, tabWfFrom d lo t = true → tabWfFrom d lo (t.filter p) = true := by
  induction t with
  | nil => intro _ h; exact h
  | cons e t ih =>
    obtain ⟨k, v⟩ := e
    intro lo h
    simp only [tabWfFrom, Bool.and_eq_true, decide_eq_true_eq] at h
    have ht := ih (some k) h.2
    by_cases hp : p (k, v) = true
    · simp only [List.filter_cons, hp, if_true, tabWfFrom, Bool.and_eq_true, decide_eq_true_eq]
      exact ⟨h.1, ht⟩
    · simp only [List.filter_cons, hp, if_false, Bool.false_eq_true]
      cases lo with
      | none => exact tabWfFrom_none d _ k ht
      | some l =>
        have hl : l < k := by simpa using h.1.1
        exact tabWfFrom_mono d _ l k (by omega) ht

theorem tabWfFrom_put {α : Type} [DecidableEq α] (d : Nat → α) (k : Nat) (v : α) (hv : v ≠ d k) (t : Tab α) :
    ∀ lo, (∀ l, lo = some l → l < k) → tabWfFrom d lo t = true → tabWfFrom d lo (tabPut t k v) = true := by
  induction t with
  | nil => intro lo hl _; cases lo <;> simp_all [tabPut, tabWfFrom]
  | cons e t ih =>
    obtain ⟨i, w⟩ := e
    intro lo hl h
    simp only [tabWfFrom, Bool.and_eq_true, decide_eq_true_eq] at h
    simp only [tabPut]
    split
    · next he => subst he; simp only [tabWfFrom, Bool.and_eq_true, decide_eq_true_eq]; exact ⟨⟨h.1.1, hv⟩, h.2⟩
    · split
      · next hlt =>
        simp only [tabWfFrom, Bool.and_eq_true, decide_eq_true_eq]
        refine ⟨⟨?_, hv⟩, ⟨by simpa using hlt, h.1.2⟩, h.2⟩
        cases lo with
        | none => rfl
        | some l => simpa using hl l rfl
      · next hne hnlt =>
        simp only [tabWfFrom, Bool.and_eq_true, decide_eq_true_eq]
        refine ⟨h.1, ih (some i) ?_ h.2⟩
        intro l hl'
        injection hl' with hl'
        omega

/-- Every write of a table keeps its canonical form. -/
theorem tabWf_tabSet {α : Type} [DecidableEq α] (d : Nat → α) (t : Tab α) (k : Nat) (v : α)
    (h : tabWf d t = true) : tabWf d (tabSet d t k v) = true := by
  unfold tabSet
  split
  · exact tabWfFrom_filter d _ t none h
  · next hv => exact tabWfFrom_put d k v hv t none (fun _ h => nomatch h) h

/-- Keeping only some entries keeps the canonical form. -/
theorem tabWf_tabKeep {α : Type} [DecidableEq α] (d : Nat → α) (p : Nat → Bool) (t : Tab α)
    (h : tabWf d t = true) : tabWf d (tabKeep p t) = true := tabWfFrom_filter d _ t none h

/-! ### Bit fields -/

/-- A field reads the low bits of what was written to it. -/
theorem bitsOf_putBits_same (v hi lo n : Nat) (h : lo ≤ hi) :
    bitsOf (putBits v hi lo n) hi lo = n % 2 ^ (hi + 1 - lo) := by
  unfold bitsOf putBits
  have hp : (2 : Nat) ^ (hi + 1) = 2 ^ lo * 2 ^ (hi + 1 - lo) := by
    rw [← Nat.pow_add]; congr 1; omega
  have h1 : v % 2 ^ lo + n % 2 ^ (hi + 1 - lo) * 2 ^ lo + v / 2 ^ (hi + 1) * 2 ^ (hi + 1) =
      v % 2 ^ lo + 2 ^ lo * (n % 2 ^ (hi + 1 - lo) + 2 ^ (hi + 1 - lo) * (v / 2 ^ (hi + 1))) := by
    rw [hp]; grind
  rw [h1, Nat.add_mul_div_left _ _ (Nat.two_pow_pos lo), Nat.div_eq_of_lt (Nat.mod_lt _ (Nat.two_pow_pos lo)),
    Nat.zero_add, Nat.add_mul_mod_self_left, Nat.mod_mod]

/-- Bit `i` of a number with a field replaced. -/
theorem testBit_putBits (v hi lo n i : Nat) (h : lo ≤ hi) :
    (putBits v hi lo n).testBit i =
      if lo ≤ i ∧ i ≤ hi then n.testBit (i - lo) else v.testBit i := by
  have hp : (2 : Nat) ^ (hi + 1) = 2 ^ lo * 2 ^ (hi + 1 - lo) := by
    rw [← Nat.pow_add]; congr 1; omega
  have e : putBits v hi lo n =
      2 ^ lo * (2 ^ (hi + 1 - lo) * (v / 2 ^ (hi + 1)) + n % 2 ^ (hi + 1 - lo)) + v % 2 ^ lo := by
    unfold putBits; rw [hp]; grind
  rw [e, Nat.testBit_two_pow_mul_add _ (Nat.mod_lt _ (Nat.two_pow_pos lo))]
  by_cases h1 : i < lo
  · rw [if_pos h1, Nat.testBit_mod_two_pow, if_neg (by omega)]; simp [h1]
  · rw [if_neg h1, Nat.testBit_two_pow_mul_add _ (Nat.mod_lt _ (Nat.two_pow_pos _))]
    by_cases h2 : i ≤ hi
    · rw [if_pos (by omega), if_pos (by omega), Nat.testBit_mod_two_pow]
      simp; omega
    · rw [if_neg (by omega), if_neg (by omega), Nat.testBit_div_two_pow]
      congr 1; omega

theorem bitsOf_eq_iff (v w hi lo : Nat) (h : lo ≤ hi)
    (e : ∀ i, lo ≤ i → i ≤ hi → v.testBit i = w.testBit i) : bitsOf v hi lo = bitsOf w hi lo := by
  unfold bitsOf
  apply Nat.eq_of_testBit_eq
  intro i
  rw [Nat.testBit_mod_two_pow, Nat.testBit_mod_two_pow, Nat.testBit_div_two_pow, Nat.testBit_div_two_pow]
  by_cases hi' : i < hi + 1 - lo
  · rw [e (i + lo) (by omega) (by omega)]
  · simp [hi']

/-- A field is unchanged by a write of another that shares no bit with it. -/
theorem bitsOf_putBits_disjoint (v hi lo n hi' lo' : Nat) (h : lo ≤ hi) (h' : lo' ≤ hi')
    (hd : hi < lo' ∨ hi' < lo) : bitsOf (putBits v hi lo n) hi' lo' = bitsOf v hi' lo' := by
  apply bitsOf_eq_iff _ _ _ _ h'
  intro i h1 h2
  rw [testBit_putBits _ _ _ _ _ h, if_neg (by omega)]

end Sys2Proof.Machine
end

