-- ==== Sys2Proof/Laws/Regs.lean ====
section
/-!
SUPPORT. What registers and fields read after the named updates (R7, R8).
-/

namespace Sys2Proof.Machine

@[simp] theorem State.rd_wr (s : State) (k j : Nat) (v : Word) :
    (s.wr k v).rd j = if j = k then v else s.rd j := by simp [State.rd, State.wr]

theorem State.rd_wr_same (s : State) (k : Nat) (v : Word) : (s.wr k v).rd k = v := by simp

theorem State.rd_wr_ne (s : State) (k j : Nat) (v : Word) (h : j ≠ k) : (s.wr k v).rd j = s.rd j := by simp [h]

theorem State.rd_put_ne (s : State) (f : Fld) (n j : Nat) (h : j ≠ f.off) : (s.put f n).rd j = s.rd j := by
  simp [State.put, h]

/-- A register is decided by the register file alone. -/
theorem State.rd_congr (s t : State) (h : t.regs = s.regs) (k : Nat) : t.rd k = s.rd k := by
  simp [State.rd, h]

theorem State.get_congr (s t : State) (f : Fld) (h : t.rd f.off = s.rd f.off) : t.get f = s.get f := by
  simp [State.get, h]

@[simp] theorem State.rd_setThr (s : State) (n : Nat) (x : Thread) (k : Nat) : (s.setThr n x).rd k = s.rd k := rfl
@[simp] theorem State.rd_passTo (s : State) (u : Time) (k : Nat) : (s.passTo u).rd k = s.rd k := rfl
@[simp] theorem State.rd_drew (s : State) (k : Nat) : s.drew.rd k = s.rd k := rfl
@[simp] theorem State.rd_emit (s : State) (o : Out) (k : Nat) : (s.emit o).rd k = s.rd k := rfl
@[simp] theorem State.rd_setEvt (s : State) (n : Nat) (e : EvtSrc) (k : Nat) : (s.setEvt n e).rd k = s.rd k := rfl
@[simp] theorem State.rd_setQueue (s : State) (n : Nat) (q : Queue) (k : Nat) : (s.setQueue n q).rd k = s.rd k := rfl
@[simp] theorem State.get_setThr (s : State) (n : Nat) (x : Thread) (f : Fld) : (s.setThr n x).get f = s.get f := rfl
@[simp] theorem State.get_passTo (s : State) (u : Time) (f : Fld) : (s.passTo u).get f = s.get f := rfl
@[simp] theorem State.get_drew (s : State) (f : Fld) : s.drew.get f = s.get f := rfl
@[simp] theorem State.get_emit (s : State) (o : Out) (f : Fld) : (s.emit o).get f = s.get f := rfl
@[simp] theorem State.get_setEvt (s : State) (n : Nat) (e : EvtSrc) (f : Fld) : (s.setEvt n e).get f = s.get f := rfl
@[simp] theorem State.get_setQueue (s : State) (n : Nat) (q : Queue) (f : Fld) : (s.setQueue n q).get f = s.get f := rfl

theorem putBits_lt (v hi lo n : Nat) (h : lo ≤ hi) (hh : hi < 32) (hv : v < 2 ^ 32) : putBits v hi lo n < 2 ^ 32 := by
  apply Nat.lt_pow_two_of_testBit
  intro i hi'
  rw [testBit_putBits _ _ _ _ _ h, if_neg (by omega)]
  exact Nat.testBit_lt_two_pow (Nat.lt_of_lt_of_le hv (Nat.pow_le_pow_right (by omega) hi'))

/-- The register of a field written: the word with that field replaced. -/
theorem State.rd_put_same (s : State) (f : Fld) (n : Nat) (h : f.lo ≤ f.hi) (hh : f.hi < 32) :
    ((s.put f n).rd f.off).toNat = putBits (s.rd f.off).toNat f.hi f.lo n := by
  simp only [State.put, State.rd_wr_same, BitVec.toNat_ofNat]
  exact Nat.mod_eq_of_lt (putBits_lt _ _ _ _ h hh (s.rd f.off).isLt)

/-- A field reads the low bits of what was written to it. -/
theorem State.get_put_same (s : State) (f : Fld) (n : Nat) (h : f.lo ≤ f.hi) (hh : f.hi < 32) :
    (s.put f n).get f = n % 2 ^ (f.hi + 1 - f.lo) := by
  rw [State.get, State.rd_put_same s f n h hh, bitsOf_putBits_same _ _ _ _ h]

/-- A field of another register is unchanged by a write of a field. -/
theorem State.get_put_ne (s : State) (f g : Fld) (n : Nat) (h : g.off ≠ f.off) : (s.put f n).get g = s.get g := by
  simp [State.get, State.rd_put_ne s f n g.off h]

/-- A field that shares no bit with the one written is unchanged. -/
theorem State.get_put_disjoint (s : State) (f g : Fld) (n : Nat) (h : f.lo ≤ f.hi) (hh : f.hi < 32)
    (h' : g.lo ≤ g.hi) (hd : g.off ≠ f.off ∨ f.hi < g.lo ∨ g.hi < f.lo) : (s.put f n).get g = s.get g := by
  by_cases ho : g.off = f.off
  · have hd' : f.hi < g.lo ∨ g.hi < f.lo := by rcases hd with h | h <;> simp_all
    rw [State.get, ho, State.rd_put_same s f n h hh, bitsOf_putBits_disjoint _ _ _ _ _ _ h h' hd', State.get, ho]
  · exact State.get_put_ne s f g n ho

theorem State.get_wr_ne (s : State) (k : Nat) (v : Word) (g : Fld) (h : g.off ≠ k) : (s.wr k v).get g = s.get g := by
  simp [State.get, h]

theorem State.get_wr_same (s : State) (v : Word) (g : Fld) : (s.wr g.off v).get g = bitsOf v.toNat g.hi g.lo := by
  simp [State.get]

/-- A one-bit field is 0 or 1. -/
theorem State.get_bit_lt (s : State) (f : Fld) (h : f.hi = f.lo) : s.get f < 2 := by
  simp only [State.get, bitsOf, h]
  have : f.lo + 1 - f.lo = 1 := by omega
  rw [this]; omega

end Sys2Proof.Machine
end

