-- ==== Sys2Proof/Laws/Events.lean ====
section
/-!
SUPPORT. What the counting of an occurrence (R131 to R133, R466, R497) and a statistics counter (R13) can
change.
-/

namespace Sys2Proof.Machine

/-! ### Nothing but registers and events -/

theorem OnlyRegsAndEvents.refl (s : State) : OnlyRegsAndEvents s s := rfl

theorem OnlyRegsAndEvents.trans {s t u : State} (h : OnlyRegsAndEvents s t) (h' : OnlyRegsAndEvents t u) :
    OnlyRegsAndEvents s u := by
  unfold OnlyRegsAndEvents at *
  rw [h'] ; rw [h]

theorem onlyEvents_wr (s : State) (k : Nat) (v : Word) : OnlyRegsAndEvents s (s.wr k v) := rfl
theorem onlyEvents_put (s : State) (f : Fld) (n : Nat) : OnlyRegsAndEvents s (s.put f n) := rfl
theorem onlyEvents_setEvt (s : State) (n : Nat) (e : EvtSrc) : OnlyRegsAndEvents s (s.setEvt n e) := rfl
theorem onlyEvents_setMsix (s : State) (d v : Nat) (m : Msix) : OnlyRegsAndEvents s (setMsix s d v m) := rfl
theorem onlyEvents_emit (s : State) (o : Out) : OnlyRegsAndEvents s (s.emit o) := rfl

theorem onlyEvents_sendMsix (s : State) (d v : Nat) : OnlyRegsAndEvents s (sendMsix s d v) := by
  unfold sendMsix
  split
  · exact .refl s
  · dsimp only
    split
    · exact onlyEvents_setMsix ..
    · exact onlyEvents_emit ..

theorem onlyEvents_fire (s : State) (src : Nat) : OnlyRegsAndEvents s (fire s src) := by
  unfold fire
  dsimp only
  have h : OnlyRegsAndEvents s ((setEvtPending s src true).setEvt src evtZero) :=
    (onlyEvents_put ..).trans (onlyEvents_setEvt ..)
  split
  · exact h.trans (onlyEvents_sendMsix ..)
  · exact h

theorem onlyEvents_traceOcc (s : State) (src : Nat) : OnlyRegsAndEvents s (traceOcc s src) := by
  unfold traceOcc
  split
  · dsimp only
    have e : ∀ (a b : Nat) (v w : Word) (n : Nat), OnlyRegsAndEvents s (((s.wr a v).wr b w).put F.dbgStatusNext n) :=
      fun a b v w n => ((onlyEvents_wr s a v).trans (onlyEvents_wr _ b w)).trans (onlyEvents_put ..)
    split
    · split
      · exact ((e _ _ _ _ _).trans (onlyEvents_put ..)).trans (onlyEvents_put ..)
      · exact (e _ _ _ _ _).trans (onlyEvents_put ..)
    · exact e _ _ _ _ _
  · exact .refl s

theorem onlyEvents_occurNow (s : State) (src : Nat) : OnlyRegsAndEvents s (occurNow s src) := by
  unfold occurNow
  refine (onlyEvents_traceOcc s src).trans ?_
  dsimp only
  split
  · exact .refl _
  · split
    · exact .refl _
    · split
      · split
        · exact .refl _
        · split
          · exact onlyEvents_fire ..
          · exact onlyEvents_setEvt ..
      · split
        · exact onlyEvents_fire ..
        · exact onlyEvents_setEvt ..

theorem onlyEvents_holdEvent (src : Nat) (s : State) : OnlyRegsAndEvents s (holdEvent src s) := by
  unfold holdEvent; split <;> rfl

/-- Counting an occurrence changes nothing but registers and events. -/
theorem onlyEvents_occur (s : State) (src : Nat) : OnlyRegsAndEvents s (occur s src) := by
  unfold occur
  split
  · exact onlyEvents_holdEvent ..
  · exact onlyEvents_occurNow ..

theorem onlyEvents_fabricNotice (f : Fld) (s : State) : OnlyRegsAndEvents s (fabricNotice f s) :=
  (onlyEvents_put ..).trans (onlyEvents_occur ..)

theorem onlyEvents_bumpStat (k : Nat) (ovf : State → State) (s : State)
    (h : ∀ x, OnlyRegsAndEvents x (ovf x)) : OnlyRegsAndEvents s (bumpStat k ovf s) := by
  unfold bumpStat
  dsimp only
  split
  · exact .refl s
  · split
    · exact (onlyEvents_wr ..).trans (h _)
    · exact onlyEvents_wr ..

theorem onlyEvents_fabricOvf (s : State) : OnlyRegsAndEvents s (fabricOvf s) := onlyEvents_fabricNotice ..

theorem onlyEvents_violation (s : State) (d : Nat) (q : Bool) (off : Nat) (w : Bool) :
    OnlyRegsAndEvents s (violation s d q off w) := by
  unfold violation
  exact (((onlyEvents_put ..).trans (onlyEvents_bumpStat _ _ _ onlyEvents_fabricOvf)).trans (onlyEvents_wr ..)).trans
    (onlyEvents_fabricNotice ..)

/-! ### The registers that an occurrence leaves alone -/

theorem eventKey_iff (k : Nat) : eventKey k = false ↔
    (k < 0x22000 ∨ 0x22020 < k) ∧ (k < 0x1A0100 ∨ 0x1A01FC < k) ∧ k ≠ 0x1A0008 := by
  rw [← Bool.not_eq_true]
  simp only [eventKey, Bool.or_eq_true, Bool.and_eq_true, decide_eq_true_eq, beq_iff_eq]
  simp only [R.evtPend, R.dbgTrace, R.dbgStatus]
  omega

theorem sendMsix_regs (s : State) (d v : Nat) : (sendMsix s d v).regs = s.regs := by
  unfold sendMsix
  split
  · rfl
  · dsimp only; split <;> rfl

theorem rd_traceOcc (s : State) (src k : Nat) (h : eventKey k = false) : (traceOcc s src).rd k = s.rd k := by
  have hk : k ≠ R.dbgStatus ∧ ∀ i, i < 64 → k ≠ R.dbgTrace i := by
    rw [eventKey_iff] at h
    simp only [R.dbgTrace, R.dbgStatus]
    exact ⟨h.2.2, fun i hi => by omega⟩
  have hr : s.get F.dbgStatusNext < 32 := by
    simp only [State.get, bitsOf, F.dbgStatusNext]; omega
  unfold traceOcc
  split
  · dsimp only
    have e1 := hk.2 (2 * s.get F.dbgStatusNext) (by omega)
    have e2 := hk.2 (2 * s.get F.dbgStatusNext + 1) (by omega)
    have d1 : ∀ (x : State) (f : Fld) (n : Nat), f.off = R.dbgStatus → (x.put f n).rd k = x.rd k :=
      fun x f n hf => State.rd_put_ne x f n k (by rw [hf]; exact hk.1)
    split
    · split
      · rw [d1 _ _ _ rfl, d1 _ _ _ rfl, d1 _ _ _ rfl, State.rd_wr_ne _ _ _ _ e2, State.rd_wr_ne _ _ _ _ e1]
      · rw [d1 _ _ _ rfl, d1 _ _ _ rfl, State.rd_wr_ne _ _ _ _ e2, State.rd_wr_ne _ _ _ _ e1]
    · rw [d1 _ _ _ rfl, State.rd_wr_ne _ _ _ _ e2, State.rd_wr_ne _ _ _ _ e1]
  · rfl

theorem rd_fire (s : State) (src k : Nat) (hs : src < 288) (h : eventKey k = false) : (fire s src).rd k = s.rd k := by
  have hk : k ≠ R.evtPend (src / 32) := by
    rw [eventKey_iff] at h
    simp only [R.evtPend]
    omega
  have e : ((setEvtPending s src true).setEvt src evtZero).rd k = s.rd k := by
    rw [State.rd_setEvt]; exact State.rd_put_ne _ _ _ _ hk
  unfold fire
  dsimp only
  split
  · rw [State.rd_congr _ _ (sendMsix_regs ..)]; exact e
  · exact e

theorem rd_occurNow (s : State) (src k : Nat) (hs : src < 288) (h : eventKey k = false) :
    (occurNow s src).rd k = s.rd k := by
  have ht := rd_traceOcc s src k h
  unfold occurNow
  dsimp only
  split
  · exact ht
  · split
    · exact ht
    · split
      · split
        · exact ht
        · split
          · rw [rd_fire _ _ _ hs h, ht]
          · rw [State.rd_setEvt, ht]
      · split
        · rw [rd_fire _ _ _ hs h, ht]
        · rw [State.rd_setEvt, ht]

/-- Counting an occurrence leaves every register alone but pending bits and the trace. -/
theorem rd_occur (s : State) (src k : Nat) (hs : src < 288) (h : eventKey k = false) :
    (occur s src).rd k = s.rd k := by
  unfold occur
  split
  · unfold holdEvent; split <;> rfl
  · exact rd_occurNow s src k hs h

theorem get_occur (s : State) (src : Nat) (f : Fld) (hs : src < 288) (h : eventKey f.off = false) :
    (occur s src).get f = s.get f := State.get_congr _ _ _ (rd_occur s src f.off hs h)

theorem keepsRegs_occur (s : State) (src : Nat) (hs : src < 288) : KeepsRegs s (occur s src) [] :=
  fun k _ h => rd_occur s src k hs h

theorem KeepsRegs.trans {s t u : State} {l m : List Nat} (h : KeepsRegs s t l) (h' : KeepsRegs t u m) :
    KeepsRegs s u (l ++ m) := fun k hk he => by
  rw [h' k (fun x => hk (List.mem_append_right _ x)) he, h k (fun x => hk (List.mem_append_left _ x)) he]

/-! ### Consequences of `OnlyRegsAndEvents`, field by field -/

section
variable {s t : State} (h : OnlyRegsAndEvents s t)
include h
theorem OnlyRegsAndEvents.pending : t.pending = s.pending := by rw [h]
theorem OnlyRegsAndEvents.freeIdx : t.freeIdx = s.freeIdx := by rw [h]
theorem OnlyRegsAndEvents.tb : t.tb = s.tb := by rw [h]
theorem OnlyRegsAndEvents.tbCopy : t.tbCopy = s.tbCopy := by rw [h]
theorem OnlyRegsAndEvents.opt : t.opt = s.opt := by rw [h]
theorem OnlyRegsAndEvents.rst : t.rst = s.rst := by rw [h]
theorem OnlyRegsAndEvents.att : t.att = s.att := by rw [h]
theorem OnlyRegsAndEvents.queues : t.fab.queues = s.fab.queues := by rw [h]
theorem OnlyRegsAndEvents.jobs : t.fab.jobs = s.fab.jobs := by rw [h]
theorem OnlyRegsAndEvents.bulk : t.fab.bulk = s.fab.bulk := by rw [h]
theorem OnlyRegsAndEvents.jig : t.jig = s.jig := by rw [h]
theorem OnlyRegsAndEvents.pwr : t.pwr = s.pwr := by rw [h]
theorem OnlyRegsAndEvents.ciph : t.ciph = s.ciph := by rw [h]
theorem OnlyRegsAndEvents.ncp : t.ncp = s.ncp := by rw [h]
theorem OnlyRegsAndEvents.nand : t.nand = s.nand := by rw [h]
theorem OnlyRegsAndEvents.stor : t.stor = s.stor := by rw [h]
theorem OnlyRegsAndEvents.line : t.line = s.line := by rw [h]
theorem OnlyRegsAndEvents.radio : t.radio = s.radio := by rw [h]
theorem OnlyRegsAndEvents.plmb : t.plmb = s.plmb := by rw [h]
theorem OnlyRegsAndEvents.ser : t.ser = s.ser := by rw [h]
theorem OnlyRegsAndEvents.caps : t.caps = s.caps := by rw [h]
end

/-! ### A statistics counter (R13) -/

/-- A statistics counter below its limit goes up by one. -/
theorem rd_bumpStat (k : Nat) (ovf : State → State) (s : State) (ho : ∀ x, (ovf x).rd k = x.rd k) :
    ((bumpStat k ovf s).rd k).toNat = min 0xFFFFFFFF ((s.rd k).toNat + 1) := by
  have hl := (s.rd k).isLt
  unfold bumpStat
  dsimp only
  split
  · omega
  · split
    · rw [ho, State.rd_wr_same, BitVec.toNat_ofNat]; omega
    · rw [State.rd_wr_same, BitVec.toNat_ofNat]; omega

theorem rd_bumpStat_ne (k j : Nat) (ovf : State → State) (s : State) (hj : j ≠ k)
    (ho : ∀ x, (ovf x).rd j = x.rd j) : (bumpStat k ovf s).rd j = s.rd j := by
  unfold bumpStat
  dsimp only
  split
  · rfl
  · split
    · rw [ho, State.rd_wr_ne _ _ _ _ hj]
    · rw [State.rd_wr_ne _ _ _ _ hj]

theorem rd_fabricNotice (f : Fld) (s : State) (k : Nat) (hk : k ≠ f.off) (h : eventKey k = false) :
    (fabricNotice f s).rd k = s.rd k := by
  rw [fabricNotice, rd_occur _ _ _ (by decide) h, State.rd_put_ne _ _ _ _ hk]

end Sys2Proof.Machine
end

