-- ==== Sys2Proof/Laws/Access.lean ====
section
/-!
SUPPORT. An access that the filter takes has its effect (R103, R493).
-/

namespace Sys2Proof.Machine

/-- A write that the filter takes has the effect `f`. -/
theorem filtered_take {s : State} {d off : Nat} (h : takesWrite s d off = true) (f : State → State) :
    filtered s d off f = f s := by
  unfold takesWrite at h
  unfold filtered
  split at h
  · next r i j e => rw [e]; simp only; rw [beq_iff_eq] at h; rw [h]
  · exact absurd h (by simp)

/-- An access to a queue slot that the filter takes has the effect `f`. -/
theorem filteredSlot_take {s : State} {d n : Nat} (h : takesSlot s d n = true) (off : Nat) (w : Bool)
    (f : State → State) : filteredSlot s d n off w f = f s := by
  unfold takesSlot at h
  rw [beq_iff_eq] at h
  unfold filteredSlot
  rw [h]

/-- A read that the filter takes answers `v` and has the effect `f`. -/
theorem filteredRead_take {s : State} {d off : Nat} (h : takesRead s d off = true) (v : State → Word)
    (f : State → State) : filteredRead s d off v f = (f s).emit (.read d off (v s)) := by
  unfold takesRead at h
  unfold filteredRead
  split at h
  · next r i j e => rw [e]; simp only; rw [beq_iff_eq] at h; rw [h]
  · exact absurd h (by simp)

/-- A write with every byte enabled merges to the value written. -/
theorem beMerge_full (old v : Word) : beMerge old v 15#4 = v := by
  have h : byteMask 15#4 = BitVec.allOnes 32 := by decide
  unfold beMerge
  rw [h, BitVec.not_allOnes, BitVec.and_zero, BitVec.and_allOnes, BitVec.zero_or]

end Sys2Proof.Machine
end

