-- ==== Sys2Proof/Laws/Agree.lean ====
section
/-!
SUPPORT. How the parts that differ between two states compose, for the operators that the meanings are built of.
-/

namespace Sys2Proof.Machine

theorem Agree.refl (l : List Part) (s : State) : Agree l s s :=
  ⟨fun p _ => by cases p <;> first | rfl | exact ⟨rfl, rfl⟩ | exact ⟨rfl, rfl, rfl⟩⟩

theorem samePart_trans (p : Part) (s t u : State) (h : samePart p s t) (h' : samePart p t u) : samePart p s u := by
  cases p with
  | jobs | events => exact ⟨h'.1.trans h.1, h'.2.1.trans h.2.1, h'.2.2.trans h.2.2⟩
  | bulk | held | ports => exact ⟨h'.1.trans h.1, h'.2.trans h.2⟩
  | mem | tnl => simp only [samePart] at h h' ⊢; rw [h', h]
  | _ => simp only [samePart] at h h' ⊢; rw [h', h]

/-- One list of parts lies in another. -/
def subParts (a b : List Part) : Bool := a.all fun p => b.contains p

theorem Agree.mono {a b : List Part} {s t : State} (h : Agree a s t) (hs : subParts a b = true) : Agree b s t :=
  ⟨fun p hp => h.part p fun ha => hp (by
    have := List.all_eq_true.mp hs p ha
    simpa using this)⟩

theorem subParts_mem {a b : List Part} (h : subParts a b = true) {p : Part} (hp : p ∈ a) : p ∈ b := by
  have := List.all_eq_true.mp h p hp
  simpa using this

theorem subParts_trans {a b c : List Part} (h : subParts a b = true) (h' : subParts b c = true) :
    subParts a c = true :=
  List.all_eq_true.mpr fun p hp => by simpa using subParts_mem h' (subParts_mem h hp)

/-- A change followed by another that touches no part outside the list. -/
theorem Agree.step {a b : List Part} {s t u : State} (h : Agree b s t) (h' : Agree a t u)
    (hs : subParts a b = true) : Agree b s u :=
  ⟨fun p hp => samePart_trans p s t u (h.part p hp) ((h'.mono hs).part p hp)⟩

theorem Agree.foldl {l : List Part} {α : Type} {f : State → α → State} {s x : State} {xs : List α}
    (hf : ∀ y a, Agree l y (f y a)) (h : Agree l s x) : Agree l s (xs.foldl f x) := by
  induction xs generalizing x with
  | nil => exact h
  | cons a xs ih => exact ih (h.step (hf x a) (List.all_eq_true.mpr fun p hp => by simpa using hp))

theorem Agree.trans {l : List Part} {s t u : State} (h : Agree l s t) (h' : Agree l t u) : Agree l s u :=
  h.step h' (List.all_eq_true.mpr fun p hp => by simpa using hp)

theorem Agree.foldUpto {l : List Part} {f : Nat → State → State} {s x : State} {n : Nat}
    (hf : ∀ i y, Agree l y (f i y)) (h : Agree l s x) : Agree l s (foldUpto n f x) :=
  Agree.foldl (fun y i => hf i y) h

theorem Agree.forActs {l : List Part} {f : Nat → Nat → State → State} {s x : State} {xs : List (Nat × Nat)}
    (hf : ∀ n k y, Agree l y (f n k y)) (h : Agree l s x) : Agree l s (forActs xs f x) :=
  Agree.foldl (fun y p => hf p.1 p.2 y) h

theorem Agree.ite {l : List Part} {s x y : State} {c : Prop} [Decidable c] (hx : Agree l s x) (hy : Agree l s y) :
    Agree l s (if c then x else y) := by split <;> assumption

/-! ### A state beside a value -/

/-- The state in a pair agrees with one before. -/
def AgreeFst {α : Type} (l : List Part) (s : State) (p : State × α) : Prop := Agree l s p.1
def AgreeSnd {α : Type} (l : List Part) (s : State) (p : α × State) : Prop := Agree l s p.2

theorem AgreeFst.mk {α : Type} {l : List Part} {s t : State} {a : α} (h : Agree l s t) : AgreeFst l s (t, a) := h
theorem AgreeSnd.mk {α : Type} {l : List Part} {s t : State} {a : α} (h : Agree l s t) : AgreeSnd l s (a, t) := h

theorem AgreeFst.of_eq {α : Type} {l : List Part} {s t : State} {a : α} {p : State × α} (h : AgreeFst l s p)
    (he : p = (t, a)) : Agree l s t := by subst he; exact h

theorem AgreeSnd.of_eq {α : Type} {l : List Part} {s t : State} {a : α} {p : α × State} (h : AgreeSnd l s p)
    (he : p = (a, t)) : Agree l s t := by subst he; exact h

theorem AgreeFst.ite {α : Type} {l : List Part} {s : State} {x y : State × α} {c : Prop} [Decidable c]
    (hx : AgreeFst l s x) (hy : AgreeFst l s y) : AgreeFst l s (if c then x else y) := by split <;> assumption

theorem AgreeSnd.ite {α : Type} {l : List Part} {s : State} {x y : α × State} {c : Prop} [Decidable c]
    (hx : AgreeSnd l s x) (hy : AgreeSnd l s y) : AgreeSnd l s (if c then x else y) := by split <;> assumption

theorem AgreeFst.step {α : Type} {a b : List Part} {s t : State} {p : State × α} (h : Agree b s t)
    (h' : AgreeFst a t p) (hs : subParts a b = true) : AgreeFst b s p := Agree.step h h' hs

theorem AgreeSnd.step {α : Type} {a b : List Part} {s t : State} {p : α × State} (h : Agree b s t)
    (h' : AgreeSnd a t p) (hs : subParts a b = true) : AgreeSnd b s p := Agree.step h h' hs

/-! ### A record update -/

/-- A state written field by field over `x`, whose queue it keeps. -/
theorem Agree.mk' {l : List Part} {s x : State} {a2 a3 a4 a5 a6 a7 a8 a9 a10 a11 a12 a13 a14 a15 a16 a17 a18 a19 a20 a21 : _}
    (h : Agree l s x)
    (hp : ∀ p, p ∉ l → samePart p x (State.mk x.pending a2 a3 a4 a5 a6 a7 a8 a9 a10 a11 a12 a13 a14 a15 a16 a17 a18 a19 a20 a21)) :
    Agree l s (State.mk x.pending a2 a3 a4 a5 a6 a7 a8 a9 a10 a11 a12 a13 a14 a15 a16 a17 a18 a19 a20 a21) :=
  h.trans ⟨hp⟩

/-- What a meaning answers agrees with the state it met. -/
@[irreducible] def AgreeAns (l : List Part) (s : State) : Ans → Prop
  | .next t => Agree l s t
  | _ => False

theorem AgreeAns.of_next {l : List Part} {s t : State} (h : Agree l s t) : AgreeAns l s (.next t) := by
  unfold AgreeAns; exact h

theorem AgreeAns.ite {l : List Part} {s : State} {x y : Ans} {c : Prop} [Decidable c]
    (hx : AgreeAns l s x) (hy : AgreeAns l s y) : AgreeAns l s (if c then x else y) := by split <;> assumption

theorem AgreeAns.completes {l : List Part} {s : State} {o : Ans} (h : AgreeAns l s o) :
    ∃ t, o = .next t ∧ Agree l s t := by
  unfold AgreeAns at h
  cases o with
  | next t => exact ⟨t, rfl, h⟩
  | fault => exact h.elim
  | refused => exact h.elim

/-- The same for an effect that may not apply. -/
def AgreeOpt (l : List Part) (s : State) : Option State → Prop
  | some t => Agree l s t
  | none => True

theorem AgreeOpt.of_some {l : List Part} {s t : State} (h : Agree l s t) : AgreeOpt l s (some t) := h
theorem AgreeOpt.ite {l : List Part} {s : State} {x y : Option State} {c : Prop} [Decidable c]
    (hx : AgreeOpt l s x) (hy : AgreeOpt l s y) : AgreeOpt l s (if c then x else y) := by split <;> assumption

theorem AgreeOpt.of_eq {l : List Part} {s t : State} {o : Option State} (h : AgreeOpt l s o) (he : o = some t) :
    Agree l s t := by subst he; exact h

theorem AgreeOpt.of_none {l : List Part} {s : State} : AgreeOpt l s none := trivial

end Sys2Proof.Machine
end

