-- ==== Sys2Proof/Laws/Frame/Ops.lean ====
section
/-!
SUPPORT. Which parts of the state each definition of Machine/Ops.lean may change.
-/

namespace Sys2Proof.Machine

theorem State_drew_agree {x0} :
    Agree [.free] x0 (State.drew x0) := by
  unfold State.drew
  refine Agree.mk' ?_ (by
    intro p hp
    cases p <;> first | exact (hp (by decide)).elim | rfl | exact ⟨rfl, rfl⟩ | exact ⟨rfl, rfl, rfl⟩)
  exact Agree.refl _ _

theorem State_wr_agree {x0 x1 x2} :
    Agree [.regs] x0 (State.wr x0 x1 x2) := by
  unfold State.wr
  refine Agree.mk' ?_ (by
    intro p hp
    cases p <;> first | exact (hp (by decide)).elim | rfl | exact ⟨rfl, rfl⟩ | exact ⟨rfl, rfl, rfl⟩)
  exact Agree.refl _ _

theorem bumpStat_agree {l : List Part} {x0 x1 x2} (hl : subParts [.regs] l = true)
    (h1 : ∀ y0, Agree l y0 (x1 y0)) :
    Agree l x2 (bumpStat x0 x1 x2) := by
  unfold bumpStat
  extract_lets a0 a1
  clear_value a0
  have ha1 : Agree l x2 a1 := by
    unfold a1
    refine Agree.step ?_ State_wr_agree (subParts_trans (by decide) hl)
    exact Agree.refl _ _
  clear_value a1
  refine Agree.ite ?_ ?_
  · exact Agree.refl _ _
  · refine Agree.ite ?_ ?_
    · refine Agree.trans ?_ (h1 _)
      assumption
    · assumption

theorem holdEvent_agree {x0 x1} :
    Agree [.held] x1 (holdEvent x0 x1) := by
  unfold holdEvent
  extract_lets a0
  refine Agree.ite ?_ ?_
  · refine Agree.mk' ?_ (by
      intro p hp
      cases p <;> first | exact (hp (by decide)).elim | rfl | exact ⟨rfl, rfl⟩ | exact ⟨rfl, rfl, rfl⟩)
    exact Agree.refl _ _
  · refine Agree.mk' ?_ (by
      intro p hp
      cases p <;> first | exact (hp (by decide)).elim | rfl | exact ⟨rfl, rfl⟩ | exact ⟨rfl, rfl, rfl⟩)
    exact Agree.refl _ _

theorem State_put_agree {x0 x1 x2} :
    Agree [.regs] x0 (State.put x0 x1 x2) := by
  unfold State.put
  exact State_wr_agree.mono (by decide)

theorem traceOcc_agree {x0 x1} :
    Agree [.regs] x0 (traceOcc x0 x1) := by
  unfold traceOcc
  extract_lets a0 a1 a2 a3 a4
  clear_value a0
  have ha1 : Agree [Part.regs] x0 a1 := by
    unfold a1
    exact State_wr_agree.mono (by decide)
  clear_value a1
  have ha2 : Agree [Part.regs] x0 a2 := by
    unfold a2
    refine Agree.step ?_ State_wr_agree (by decide)
    assumption
  clear_value a2
  have ha3 : Agree [Part.regs] x0 a3 := by
    unfold a3
    refine Agree.step ?_ State_put_agree (by decide)
    assumption
  clear_value a3
  have ha4 : Agree [Part.regs] x0 a4 := by
    unfold a4
    refine Agree.step ?_ State_put_agree (by decide)
    assumption
  clear_value a4
  refine Agree.ite ?_ ?_
  · refine Agree.ite ?_ ?_
    · refine Agree.ite ?_ ?_
      · refine Agree.step ?_ State_put_agree (by decide)
        assumption
      · assumption
    · assumption
  · exact Agree.refl _ _

theorem setEvtPending_agree {x0 x1 x2} :
    Agree [.regs] x0 (setEvtPending x0 x1 x2) := by
  unfold setEvtPending
  exact State_put_agree.mono (by decide)

theorem State_setEvt_agree {x0 x1 x2} :
    Agree [.events] x0 (State.setEvt x0 x1 x2) := by
  unfold State.setEvt
  extract_lets a0
  refine Agree.mk' ?_ (by
    intro p hp
    cases p <;> first | exact (hp (by decide)).elim | rfl | exact ⟨rfl, rfl⟩ | exact ⟨rfl, rfl, rfl⟩)
  exact Agree.refl _ _

theorem setMsix_agree {x0 x1 x2 x3} :
    Agree [.events] x0 (setMsix x0 x1 x2 x3) := by
  unfold setMsix
  extract_lets a0
  refine Agree.mk' ?_ (by
    intro p hp
    cases p <;> first | exact (hp (by decide)).elim | rfl | exact ⟨rfl, rfl⟩ | exact ⟨rfl, rfl, rfl⟩)
  exact Agree.refl _ _

theorem State_emit_agree {x0 x1} :
    Agree [.out] x0 (State.emit x0 x1) := by
  unfold State.emit
  extract_lets a0
  refine Agree.mk' ?_ (by
    intro p hp
    cases p <;> first | exact (hp (by decide)).elim | rfl | exact ⟨rfl, rfl⟩ | exact ⟨rfl, rfl, rfl⟩)
  exact Agree.refl _ _

theorem sendMsix_agree {x0 x1 x2} :
    Agree [.events, .out] x0 (sendMsix x0 x1 x2) := by
  unfold sendMsix
  extract_lets a0
  clear_value a0
  refine Agree.ite ?_ ?_
  · exact Agree.refl _ _
  · refine Agree.ite ?_ ?_
    · exact setMsix_agree.mono (by decide)
    · exact State_emit_agree.mono (by decide)

theorem fire_agree {x0 x1} :
    Agree [.regs, .events, .out] x0 (fire x0 x1) := by
  unfold fire
  extract_lets a0 a1
  have ha0 : Agree [Part.regs, Part.events, Part.out] x0 a0 := by
    unfold a0
    exact setEvtPending_agree.mono (by decide)
  clear_value a0
  have ha1 : Agree [Part.regs, Part.events, Part.out] x0 a1 := by
    unfold a1
    refine Agree.step ?_ State_setEvt_agree (by decide)
    assumption
  clear_value a1
  split
  · refine Agree.step ?_ sendMsix_agree (by decide)
    assumption
  · assumption

theorem occurNow_agree {x0 x1} :
    Agree [.regs, .events, .out] x0 (occurNow x0 x1) := by
  unfold occurNow
  extract_lets a0 a1
  have ha0 : Agree [Part.regs, Part.events, Part.out] x0 a0 := by
    unfold a0
    exact traceOcc_agree.mono (by decide)
  clear_value a0
  clear_value a1
  split
  · assumption
  · refine Agree.ite ?_ ?_
    · assumption
    · refine Agree.ite ?_ ?_
      · refine Agree.ite ?_ ?_
        · assumption
        · refine Agree.ite ?_ ?_
          · refine Agree.step ?_ fire_agree (by decide)
            assumption
          · refine Agree.step ?_ State_setEvt_agree (by decide)
            assumption
      · refine Agree.ite ?_ ?_
        · refine Agree.step ?_ fire_agree (by decide)
          assumption
        · refine Agree.step ?_ State_setEvt_agree (by decide)
          assumption

theorem occur_agree {x0 x1} :
    Agree [.regs, .events, .out, .held] x0 (occur x0 x1) := by
  unfold occur
  refine Agree.ite ?_ ?_
  · exact holdEvent_agree.mono (by decide)
  · exact occurNow_agree.mono (by decide)

theorem bumpStick_agree {x0 x1} :
    Agree [.regs] x1 (bumpStick x0 x1) := by
  unfold bumpStick
  extract_lets a0
  clear_value a0
  refine Agree.ite ?_ ?_
  · exact Agree.refl _ _
  · exact State_wr_agree.mono (by decide)

theorem State_passTo_agree {x0 x1} :
    Agree [.time, .copy] x0 (State.passTo x0 x1) := by
  unfold State.passTo
  refine Agree.mk' ?_ (by
    intro p hp
    cases p <;> first | exact (hp (by decide)).elim | rfl | exact ⟨rfl, rfl⟩ | exact ⟨rfl, rfl, rfl⟩)
  exact Agree.refl _ _

theorem setJob_agree {x0 x1} :
    Agree [.jobs] x0 (setJob x0 x1) := by
  unfold setJob
  extract_lets a0
  refine Agree.mk' ?_ (by
    intro p hp
    cases p <;> first | exact (hp (by decide)).elim | rfl | exact ⟨rfl, rfl⟩ | exact ⟨rfl, rfl, rfl⟩)
  exact Agree.refl _ _

theorem fabricNotice_agree {x0 x1} :
    Agree [.regs, .events, .out, .held] x1 (fabricNotice x0 x1) := by
  unfold fabricNotice
  refine Agree.step ?_ occur_agree (by decide)
  exact State_put_agree.mono (by decide)

theorem fabricOvf_agree {x0} :
    Agree [.regs, .events, .out, .held] x0 (fabricOvf x0) := by
  unfold fabricOvf
  exact fabricNotice_agree.mono (by decide)

theorem violation_agree {x0 x1 x2 x3 x4} :
    Agree [.regs, .events, .out, .held] x0 (violation x0 x1 x2 x3 x4) := by
  unfold violation
  extract_lets a0 a1 a2
  have ha0 : Agree [Part.regs, Part.events, Part.out, Part.held] x0 a0 := by
    unfold a0
    exact State_put_agree.mono (by decide)
  clear_value a0
  have ha1 : Agree [Part.regs, Part.events, Part.out, Part.held] x0 a1 := by
    unfold a1
    refine Agree.trans ?_ (bumpStat_agree (by decide) ?_)
    · assumption
    · intro y3
      exact fabricOvf_agree.mono (by decide)
  clear_value a1
  have ha2 : Agree [Part.regs, Part.events, Part.out, Part.held] x0 a2 := by
    unfold a2
    refine Agree.step ?_ State_wr_agree (by decide)
    assumption
  clear_value a2
  refine Agree.step ?_ fabricNotice_agree (by decide)
  assumption

theorem State_wrMerge_agree {x0 x1 x2 x3 x4} :
    Agree [.regs] x0 (State.wrMerge x0 x1 x2 x3 x4) := by
  unfold State.wrMerge
  exact State_wr_agree.mono (by decide)

theorem State_wrTyped_agree {x0 x1 x2 x3} :
    Agree [.regs] x0 (State.wrTyped x0 x1 x2 x3) := by
  unfold State.wrTyped
  split
  · exact State_wrMerge_agree.mono (by decide)
  · exact Agree.refl _ _

theorem setBulkPoison_agree {x0 x1 x2 x3} :
    Agree [.bulk] x0 (setBulkPoison x0 x1 x2 x3) := by
  unfold setBulkPoison
  extract_lets a0
  refine Agree.mk' ?_ (by
    intro p hp
    cases p <;> first | exact (hp (by decide)).elim | rfl | exact ⟨rfl, rfl⟩ | exact ⟨rfl, rfl, rfl⟩)
  exact Agree.refl _ _

theorem wrBulk_agree {x0 x1 x2 x3} :
    Agree [.bulk] x0 (wrBulk x0 x1 x2 x3) := by
  unfold wrBulk
  extract_lets a0
  refine Agree.mk' ?_ (by
    intro p hp
    cases p <;> first | exact (hp (by decide)).elim | rfl | exact ⟨rfl, rfl⟩ | exact ⟨rfl, rfl, rfl⟩)
  exact Agree.refl _ _

theorem wrBulkFrom_agree {x0 x1 x2 x3} :
    Agree [.bulk] x0 (wrBulkFrom x0 x1 x2 x3) := by
  induction x3 generalizing x0 x2 with
  | nil => exact Agree.refl _ _
  | cons b bs ih => exact Agree.step wrBulk_agree ih (by decide)

theorem wrBulkL_agree {x0 x1 x2 x3} :
    Agree [.bulk] x0 (wrBulkL x0 x1 x2 x3) := by
  unfold wrBulkL
  extract_lets a0
  clear_value a0
  refine Agree.foldUpto ?_ ?_
  · intro y1
    intro y2
    exact setBulkPoison_agree.mono (by decide)
  · exact wrBulkFrom_agree.mono (by decide)

theorem State_setQueue_agree {x0 x1 x2} :
    Agree [.queues] x0 (State.setQueue x0 x1 x2) := by
  unfold State.setQueue
  extract_lets a0
  refine Agree.mk' ?_ (by
    intro p hp
    cases p <;> first | exact (hp (by decide)).elim | rfl | exact ⟨rfl, rfl⟩ | exact ⟨rfl, rfl, rfl⟩)
  exact Agree.refl _ _

theorem returnCredit_agree {x0 x1 x2} :
    Agree [.regs, .queues, .events, .out, .held] x0 (returnCredit x0 x1 x2) := by
  unfold returnCredit
  extract_lets a0 a1 a2
  clear_value a0
  have ha1 : Agree [Part.regs, Part.queues, Part.events, Part.out, Part.held] x0 a1 := by
    unfold a1
    exact State_setQueue_agree.mono (by decide)
  clear_value a1
  have ha2 : Agree [Part.regs, Part.queues, Part.events, Part.out, Part.held] x0 a2 := by
    unfold a2
    refine Agree.step ?_ State_put_agree (by decide)
    assumption
  clear_value a2
  refine Agree.step ?_ occur_agree (by decide)
  assumption

theorem syncQueue_agree {x0 x1} :
    Agree [.regs] x0 (syncQueue x0 x1) := by
  unfold syncQueue
  extract_lets a0 a1
  clear_value a0
  have ha1 : Agree [Part.regs] x0 a1 := by
    unfold a1
    exact State_put_agree.mono (by decide)
  clear_value a1
  refine Agree.ite ?_ ?_
  · refine Agree.step ?_ State_put_agree (by decide)
    assumption
  · refine Agree.ite ?_ ?_
    · refine Agree.step ?_ State_put_agree (by decide)
      assumption
    · assumption

theorem queueWrite_agree {x0 x1 x2 x3} :
    Agree [.regs, .queues, .events, .out, .held] x0 (queueWrite x0 x1 x2 x3) := by
  unfold queueWrite
  extract_lets a0 a1 a2
  clear_value a0
  clear_value a1
  clear_value a2
  refine Agree.step ?_ occur_agree (by decide)
  refine Agree.step ?_ syncQueue_agree (by decide)
  exact State_setQueue_agree.mono (by decide)

theorem poisonRead_agree {x0 x1 x2 x3} :
    Agree [.regs] x3 (poisonRead x0 x1 x2 x3) := by
  unfold poisonRead
  exact State_wr_agree.mono (by decide)

theorem setMsixCtl_agree {x0 x1 x2} :
    Agree [.events] x0 (setMsixCtl x0 x1 x2) := by
  unfold setMsixCtl
  extract_lets a0
  refine Agree.mk' ?_ (by
    intro p hp
    cases p <;> first | exact (hp (by decide)).elim | rfl | exact ⟨rfl, rfl⟩ | exact ⟨rfl, rfl, rfl⟩)
  exact Agree.refl _ _

theorem dropJob_agree {x0 x1} :
    Agree [.jobs] x0 (dropJob x0 x1) := by
  unfold dropJob
  extract_lets a0
  refine Agree.mk' ?_ (by
    intro p hp
    cases p <;> first | exact (hp (by decide)).elim | rfl | exact ⟨rfl, rfl⟩ | exact ⟨rfl, rfl, rfl⟩)
  exact Agree.refl _ _

theorem completeJob_agree {x0 x1} :
    Agree [.regs, .queues, .jobs, .events, .out, .held] x0 (completeJob x0 x1) := by
  unfold completeJob
  extract_lets a0 a1 a2 a3
  have ha0 : Agree [Part.regs, Part.queues, Part.jobs, Part.events, Part.out, Part.held] x0 a0 := by
    unfold a0
    exact dropJob_agree.mono (by decide)
  clear_value a0
  clear_value a1
  have ha2 : Agree [Part.regs, Part.queues, Part.jobs, Part.events, Part.out, Part.held] x0 a2 := by
    unfold a2
    refine Agree.step ?_ State_setQueue_agree (by decide)
    assumption
  clear_value a2
  have ha3 : Agree [Part.regs, Part.queues, Part.jobs, Part.events, Part.out, Part.held] x0 a3 := by
    unfold a3
    refine Agree.step ?_ queueWrite_agree (by decide)
    assumption
  clear_value a3
  refine Agree.ite ?_ ?_
  · refine Agree.step ?_ returnCredit_agree (by decide)
    assumption
  · assumption

theorem addStat_agree {l : List Part} {x0 x1 x2 x3} (hl : subParts [.regs] l = true)
    (h2 : ∀ y0, Agree l y0 (x2 y0)) :
    Agree l x3 (addStat x0 x1 x2 x3) := by
  unfold addStat
  extract_lets a0 a1
  clear_value a0
  have ha1 : Agree l x3 a1 := by
    unfold a1
    refine Agree.step ?_ State_wr_agree (subParts_trans (by decide) hl)
    exact Agree.refl _ _
  clear_value a1
  refine Agree.ite ?_ ?_
  · refine Agree.trans ?_ (h2 _)
    assumption
  · assumption

theorem State_resetReg_agree {x0 x1} :
    Agree [.regs] x0 (State.resetReg x0 x1) := by
  unfold State.resetReg
  exact State_wr_agree.mono (by decide)

theorem zeroBulk_agree {x0 x1} :
    Agree [.bulk] x0 (zeroBulk x0 x1) := by
  unfold zeroBulk
  extract_lets a0
  refine Agree.mk' ?_ (by
    intro p hp
    cases p <;> first | exact (hp (by decide)).elim | rfl | exact ⟨rfl, rfl⟩ | exact ⟨rfl, rfl, rfl⟩)
  exact Agree.refl _ _

theorem State_pass_agree {x0 x1} :
    Agree [.time, .copy] x0 (State.pass x0 x1) := by
  unfold State.pass
  exact State_passTo_agree.mono (by decide)

end Sys2Proof.Machine
end

