-- ==== Sys2Proof/Laws/Frame/Jig.lean ====
section
/-!
SUPPORT. Which parts of the state each definition of Machine/Jig.lean may change.
-/

namespace Sys2Proof.Machine

theorem State_setThr_agree {x0 x1 x2} :
    Agree [.threads] x0 (State.setThr x0 x1 x2) := by
  unfold State.setThr
  extract_lets a0
  refine Agree.mk' ?_ (by
    intro p hp
    cases p <;> first | exact (hp (by decide)).elim | rfl | exact ⟨rfl, rfl⟩ | exact ⟨rfl, rfl, rfl⟩)
  exact Agree.refl _ _

theorem modThr_agree {x0 x1 x2} :
    Agree [.threads] x0 (modThr x0 x1 x2) := by
  unfold modThr
  exact State_setThr_agree.mono (by decide)

theorem done_agree {x0 x1 x2} :
    Agree [.threads] x2 (done x0 x1 x2) := by
  unfold done
  exact modThr_agree.mono (by decide)

theorem failWith_agree {x0 x1 x2 x3} :
    Agree [.threads] x3 (failWith x0 x1 x2 x3) := by
  unfold failWith
  exact modThr_agree.mono (by decide)

theorem countLate_agree {x0 x1} :
    Agree [.regs] x1 (countLate x0 x1) := by
  unfold countLate
  refine Agree.trans ?_ (bumpStat_agree (by decide) ?_)
  · exact Agree.refl _ _
  · intro y0
    unfold id
    exact Agree.refl _ _

theorem setLate_agree {x0 x1 x2} :
    Agree [.regs, .threads] x2 (setLate x0 x1 x2) := by
  unfold setLate
  extract_lets a0
  have ha0 : Agree [Part.regs, Part.threads] x2 a0 := by
    unfold a0
    exact modThr_agree.mono (by decide)
  clear_value a0
  refine Agree.step ?_ countLate_agree (by decide)
  assumption

theorem releaseGrant_agree {x0 x1} :
    Agree [.pwr] x1 (releaseGrant x0 x1) := by
  unfold releaseGrant
  extract_lets a0
  clear_value a0
  refine Agree.mk' ?_ (by
    intro p hp
    cases p <;> first | exact (hp (by decide)).elim | rfl | exact ⟨rfl, rfl⟩ | exact ⟨rfl, rfl, rfl⟩)
  exact Agree.refl _ _

theorem endAct_agree {x0 x1 x2 x3 x4 x5} :
    Agree [.threads, .pwr] x5 (endAct x0 x1 x2 x3 x4 x5) := by
  unfold endAct
  extract_lets a0
  have ha0 : Agree [Part.threads, Part.pwr] x5 a0 := by
    unfold a0
    exact modThr_agree.mono (by decide)
  clear_value a0
  refine Agree.step ?_ releaseGrant_agree (by decide)
  assumption

theorem actLate_agree {x0 x1 x2} :
    Agree [.regs, .events, .out, .threads, .pwr, .held] x2 (actLate x0 x1 x2) := by
  unfold actLate
  extract_lets a0 a1 a2
  have ha0 : Agree [Part.regs, Part.events, Part.out, Part.threads, Part.pwr, Part.held] x2 a0 := by
    unfold a0
    exact endAct_agree.mono (by decide)
  clear_value a0
  have ha1 : Agree [Part.regs, Part.events, Part.out, Part.threads, Part.pwr, Part.held] x2 a1 := by
    unfold a1
    refine Agree.step ?_ countLate_agree (by decide)
    assumption
  clear_value a1
  have ha2 : Agree [Part.regs, Part.events, Part.out, Part.threads, Part.pwr, Part.held] x2 a2 := by
    unfold a2
    refine Agree.step ?_ State_put_agree (by decide)
    assumption
  clear_value a2
  refine Agree.step ?_ occur_agree (by decide)
  assumption

theorem State_setAct_agree {x0 x1 x2 x3} :
    Agree [.threads] x0 (State.setAct x0 x1 x2 x3) := by
  unfold State.setAct
  exact modThr_agree.mono (by decide)

theorem denyWith_agree {x0 x1 x2 x3} :
    Agree [.threads] x3 (denyWith x0 x1 x2 x3) := by
  unfold denyWith
  exact modThr_agree.mono (by decide)

theorem enterWait_agree {x0 x1 x2 x3 x4} :
    Agree [.threads] x4 (enterWait x0 x1 x2 x3 x4) := by
  unfold enterWait
  exact modThr_agree.mono (by decide)

theorem clearLate_agree {x0 x1} :
    Agree [.threads] x1 (clearLate x0 x1) := by
  unfold clearLate
  exact modThr_agree.mono (by decide)

theorem dropRequest_agree {x0 x1} :
    Agree [.pwr] x1 (dropRequest x0 x1) := by
  unfold dropRequest
  extract_lets a0
  clear_value a0
  refine Agree.mk' ?_ (by
    intro p hp
    cases p <;> first | exact (hp (by decide)).elim | rfl | exact ⟨rfl, rfl⟩ | exact ⟨rfl, rfl, rfl⟩)
  exact Agree.refl _ _

theorem threadFault_agree {x0 x1 x2 x3} :
    Agree [.regs, .events, .out, .threads, .held] x3 (threadFault x0 x1 x2 x3) := by
  unfold threadFault
  extract_lets a0 a1 a2
  clear_value a0
  have ha1 : Agree [Part.regs, Part.events, Part.out, Part.threads, Part.held] x3 a1 := by
    unfold a1
    exact modThr_agree.mono (by decide)
  clear_value a1
  have ha2 : Agree [Part.regs, Part.events, Part.out, Part.threads, Part.held] x3 a2 := by
    unfold a2
    refine Agree.step ?_ State_wr_agree (by decide)
    assumption
  clear_value a2
  refine Agree.step ?_ occur_agree (by decide)
  assumption

theorem threadFaultFree_agree {x0 x1 x2} :
    Agree [.free, .regs, .events, .out, .threads, .held] x2 (threadFaultFree x0 x1 x2) := by
  unfold threadFaultFree
  refine Agree.step ?_ threadFault_agree (by decide)
  exact State_drew_agree.mono (by decide)

theorem exitWait_agree {x0 x1} :
    Agree [.threads] x1 (exitWait x0 x1) := by
  unfold exitWait
  exact modThr_agree.mono (by decide)

theorem forActs_agree {l : List Part} {x0 x1 x2} (hl : subParts [] l = true)
    (h1 : ∀ y0 y1 y2, Agree l y2 (x1 y0 y1 y2)) :
    Agree l x2 (forActs x0 x1 x2) := by
  unfold forActs
  refine Agree.foldl ?_ ?_
  · intro y0
    intro y1
    refine Agree.trans ?_ (h1 _ _ _)
    exact Agree.refl _ _
  · exact Agree.refl _ _

theorem issue_agree {l : List Part} {x0 x1 x2} (hl : subParts [.free, .regs, .events, .out, .threads, .held] l = true)
    (h2 : ∀ y0 y1 y2, AgreeOpt l y2 (x2 y0 y1 y2)) :
    Agree l x0 (issue x0 x1 x2) := by
  unfold issue
  split
  · exact Agree.refl _ _
  · refine Agree.ite ?_ ?_
    · refine Agree.step ?_ threadFault_agree (subParts_trans (by decide) hl)
      exact Agree.refl _ _
    · refine Agree.step ?_ threadFaultFree_agree (subParts_trans (by decide) hl)
      exact Agree.refl _ _
  · split
    · refine Agree.trans ?_ (AgreeOpt.of_eq (h2 _ _ _) (by assumption))
      refine Agree.step ?_ modThr_agree (subParts_trans (by decide) hl)
      exact Agree.refl _ _
    · exact Agree.refl _ _

theorem stByte_agree {x0 x1 x2 x3} :
    Agree [.mem] x0 (stByte x0 x1 x2 x3) := by
  unfold stByte
  extract_lets a0
  refine Agree.mk' ?_ (by
    intro p hp
    cases p <;> first | exact (hp (by decide)).elim | rfl | exact ⟨rfl, rfl⟩ | exact ⟨rfl, rfl, rfl⟩)
  exact Agree.refl _ _

theorem stBytes_agree {x0 x1 x2 x3} :
    Agree [.mem] x0 (stBytes x0 x1 x2 x3) := by
  induction x3 generalizing x0 x2 with
  | nil => exact Agree.refl _ _
  | cons b bs ih => exact Agree.step stByte_agree ih (by decide)

theorem missSet_agree {x0 x1 x2} :
    Agree [.threads] x2 (missSet x0 x1 x2) := by
  unfold missSet
  exact modThr_agree.mono (by decide)

theorem failClear_agree {x0 x1} :
    Agree [.threads] x1 (failClear x0 x1) := by
  unfold failClear
  exact modThr_agree.mono (by decide)

theorem setDmemPoison_agree {x0 x1 x2 x3} :
    Agree [.mem] x0 (setDmemPoison x0 x1 x2 x3) := by
  unfold setDmemPoison
  extract_lets a0
  refine Agree.mk' ?_ (by
    intro p hp
    cases p <;> first | exact (hp (by decide)).elim | rfl | exact ⟨rfl, rfl⟩ | exact ⟨rfl, rfl, rfl⟩)
  exact Agree.refl _ _

theorem waitUntil_agree {x0 x1 x2 x3} :
    Agree [.regs, .threads] x3 (waitUntil x0 x1 x2 x3) := by
  unfold waitUntil
  refine Agree.ite ?_ ?_
  · refine Agree.step ?_ done_agree (by decide)
    exact setLate_agree.mono (by decide)
  · refine Agree.step ?_ enterWait_agree (by decide)
    exact clearLate_agree.mono (by decide)

end Sys2Proof.Machine
end

