-- ==== Sys2Proof/Laws/Frame/Flags.lean ====
section
/-!
SUPPORT. Which parts of the state each definition of Machine/Flags.lean may change.
-/

namespace Sys2Proof.Machine

theorem aluApply_agree {x0 x1 x2 x3 x4 x5} :
    Agree [.threads] x5 (aluApply x0 x1 x2 x3 x4 x5) := by
  unfold aluApply
  extract_lets a0 a1
  clear_value a0
  have ha1 : Agree [Part.threads] x5 a1 := by
    unfold a1
    exact modThr_agree.mono (by decide)
  clear_value a1
  refine Agree.step ?_ done_agree (by decide)
  assumption

end Sys2Proof.Machine
end

