-- ==== Sys2Proof/Laws/Frame/Ctx.lean ====
section
/-!
SUPPORT. Which parts of the state each definition of Machine/Ctx.lean may change.
-/

namespace Sys2Proof.Machine

theorem issueRead_agree {x0} :
    Agree [.ncp] x0 (issueRead x0) := by
  unfold issueRead
  extract_lets a0 a1
  clear_value a0
  clear_value a1
  refine Agree.ite ?_ ?_
  · exact Agree.refl _ _
  · split
    · exact Agree.refl _ _
    · refine Agree.mk' ?_ (by
        intro p hp
        cases p <;> first | exact (hp (by decide)).elim | rfl | exact ⟨rfl, rfl⟩ | exact ⟨rfl, rfl, rfl⟩)
      exact Agree.refl _ _

theorem issueReads_agree {x0} :
    Agree [.ncp] x0 (issueReads x0) := by
  unfold issueReads
  refine Agree.ite ?_ ?_
  · exact Agree.refl _ _
  · refine Agree.foldUpto ?_ ?_
    · intro y0
      intro y1
      exact issueRead_agree.mono (by decide)
    · exact Agree.refl _ _

theorem ncpOvf_agree {x0} :
    Agree [.regs, .events, .out, .held] x0 (ncpOvf x0) := by
  unfold ncpOvf
  exact occur_agree.mono (by decide)

theorem requestMissAt_agree {x0 x1 x2 x3 x4} :
    Agree [.regs, .events, .out, .ncp, .held] x4 (requestMissAt x0 x1 x2 x3 x4) := by
  unfold requestMissAt
  extract_lets a0 a1
  clear_value a0
  have ha1 : Agree [Part.regs, Part.events, Part.out, Part.ncp, Part.held] x4 a1 := by
    unfold a1
    refine Agree.mk' ?_ (by
      intro p hp
      cases p <;> first | exact (hp (by decide)).elim | rfl | exact ⟨rfl, rfl⟩ | exact ⟨rfl, rfl, rfl⟩)
    exact Agree.refl _ _
  clear_value a1
  refine Agree.ite ?_ ?_
  · exact Agree.refl _ _
  · refine Agree.ite ?_ ?_
    · refine Agree.mk' ?_ (by
        intro p hp
        cases p <;> first | exact (hp (by decide)).elim | rfl | exact ⟨rfl, rfl⟩ | exact ⟨rfl, rfl, rfl⟩)
      exact Agree.refl _ _
    · refine Agree.step ?_ issueReads_agree (by decide)
      refine Agree.trans ?_ (bumpStat_agree (by decide) ?_)
      · assumption
      · intro y2
        exact ncpOvf_agree.mono (by decide)

theorem requestMiss_agree {x0 x1 x2} :
    Agree [.regs, .events, .out, .ncp, .held] x2 (requestMiss x0 x1 x2) := by
  unfold requestMiss
  exact requestMissAt_agree.mono (by decide)

theorem touch_agree {x0 x1} :
    Agree [.ncp] x1 (touch x0 x1) := by
  unfold touch
  extract_lets a0
  clear_value a0
  refine Agree.mk' ?_ (by
    intro p hp
    cases p <;> first | exact (hp (by decide)).elim | rfl | exact ⟨rfl, rfl⟩ | exact ⟨rfl, rfl, rfl⟩)
  exact Agree.refl _ _

theorem rekeyRefuse_agree {x0} :
    Agree [.regs, .events, .out, .held] x0 (rekeyRefuse x0) := by
  unfold rekeyRefuse
  refine Agree.step ?_ occur_agree (by decide)
  refine Agree.trans ?_ (bumpStat_agree (by decide) ?_)
  · exact Agree.refl _ _
  · intro y0
    exact occur_agree.mono (by decide)

theorem journal_agree {x0 x1 x2} :
    Agree [.ncp] x2 (journal x0 x1 x2) := by
  unfold journal
  extract_lets a0
  clear_value a0
  refine Agree.mk' ?_ (by
    intro p hp
    cases p <;> first | exact (hp (by decide)).elim | rfl | exact ⟨rfl, rfl⟩ | exact ⟨rfl, rfl, rfl⟩)
  exact Agree.refl _ _

theorem markDirty_agree {x0 x1} :
    Agree [.ncp] x1 (markDirty x0 x1) := by
  unfold markDirty
  extract_lets a0 a1
  clear_value a1
  refine Agree.mk' ?_ (by
    intro p hp
    cases p <;> first | exact (hp (by decide)).elim | rfl | exact ⟨rfl, rfl⟩ | exact ⟨rfl, rfl, rfl⟩)
  exact Agree.refl _ _

theorem setCtx_agree {x0 x1 x2 x3} :
    Agree [.ncp] x3 (setCtx x0 x1 x2 x3) := by
  unfold setCtx
  extract_lets a0
  clear_value a0
  refine Agree.ite ?_ ?_
  · refine Agree.step ?_ markDirty_agree (by decide)
    refine Agree.mk' ?_ (by
      intro p hp
      cases p <;> first | exact (hp (by decide)).elim | rfl | exact ⟨rfl, rfl⟩ | exact ⟨rfl, rfl, rfl⟩)
    exact Agree.refl _ _
  · exact Agree.refl _ _

theorem setCtxJ_agree {x0 x1 x2 x3} :
    Agree [.ncp] x3 (setCtxJ x0 x1 x2 x3) := by
  unfold setCtxJ
  refine Agree.step ?_ journal_agree (by decide)
  exact setCtx_agree.mono (by decide)

theorem raiseCeil_agree {x0 x1 x2} :
    Agree [.ncp] x2 (raiseCeil x0 x1 x2) := by
  unfold raiseCeil
  refine Agree.ite ?_ ?_
  · exact setCtxJ_agree.mono (by decide)
  · exact Agree.refl _ _

theorem makeDurable_agree {x0 x1 x2} :
    Agree [.ncp] x2 (makeDurable x0 x1 x2) := by
  unfold makeDurable
  extract_lets a0
  have ha0 : Agree [Part.ncp] x2 a0 := by
    unfold a0
    exact raiseCeil_agree.mono (by decide)
  clear_value a0
  refine Agree.ite ?_ ?_
  · refine Agree.step ?_ journal_agree (by decide)
    assumption
  · assumption

theorem setCtxBits_agree {x0 x1 x2 x3 x4 x5} :
    Agree [.ncp] x5 (setCtxBits x0 x1 x2 x3 x4 x5) := by
  unfold setCtxBits
  exact setCtx_agree.mono (by decide)

theorem setWarned_agree {x0 x1 x2 x3} :
    Agree [.ncp] x3 (setWarned x0 x1 x2 x3) := by
  unfold setWarned
  extract_lets a0
  have ha0 : Agree [Part.ncp] x3 a0 := by
    unfold a0
    exact setCtxBits_agree.mono (by decide)
  clear_value a0
  refine Agree.step ?_ setCtxBits_agree (by decide)
  assumption

theorem rekeyWarn_agree {x0 x1 x2 x3} :
    Agree [.regs, .events, .out, .ncp, .held] x3 (rekeyWarn x0 x1 x2 x3) := by
  unfold rekeyWarn
  extract_lets a0
  clear_value a0
  refine Agree.ite ?_ ?_
  · refine Agree.step ?_ occur_agree (by decide)
    exact setWarned_agree.mono (by decide)
  · exact Agree.refl _ _

theorem takeFc_agree {x0 x1 x2 x3} :
    Agree [.regs, .events, .out, .ncp, .held] x3 (takeFc x0 x1 x2 x3) := by
  unfold takeFc
  extract_lets a0
  have ha0 : Agree [Part.regs, Part.events, Part.out, Part.ncp, Part.held] x3 a0 := by
    unfold a0
    exact setCtx_agree.mono (by decide)
  clear_value a0
  refine Agree.step ?_ rekeyWarn_agree (by decide)
  refine Agree.step ?_ raiseCeil_agree (by decide)
  assumption

theorem setCtxBad_agree {x0 x1 x2 x3} :
    Agree [.ncp] x3 (setCtxBad x0 x1 x2 x3) := by
  unfold setCtxBad
  extract_lets a0
  clear_value a0
  refine Agree.mk' ?_ (by
    intro p hp
    cases p <;> first | exact (hp (by decide)).elim | rfl | exact ⟨rfl, rfl⟩ | exact ⟨rfl, rfl, rfl⟩)
  exact Agree.refl _ _

theorem clearBad_agree {x0 x1 x2 x3} :
    Agree [.ncp] x3 (clearBad x0 x1 x2 x3) := by
  unfold clearBad
  refine Agree.foldUpto ?_ ?_
  · intro y0
    intro y1
    exact setCtxBad_agree.mono (by decide)
  · exact Agree.refl _ _

theorem journalPos_agree {x0 x1 x2} :
    Agree [.ncp] x2 (journalPos x0 x1 x2) := by
  unfold journalPos
  refine Agree.foldUpto ?_ ?_
  · intro y0
    intro y1
    exact journal_agree.mono (by decide)
  · refine Agree.step ?_ journal_agree (by decide)
    exact journal_agree.mono (by decide)

theorem startRebuild_agree {x0} :
    Agree [.regs, .ncp] x0 (startRebuild x0) := by
  unfold startRebuild
  extract_lets a0 a1
  clear_value a0
  have ha1 : Agree [Part.regs, Part.ncp] x0 a1 := by
    unfold a1
    exact State_put_agree.mono (by decide)
  clear_value a1
  refine Agree.ite ?_ ?_
  · refine Agree.mk' ?_ (by
      intro p hp
      cases p <;> first | exact (hp (by decide)).elim | rfl | exact ⟨rfl, rfl⟩ | exact ⟨rfl, rfl, rfl⟩)
    exact Agree.refl _ _
  · refine Agree.mk' ?_ (by
      intro p hp
      cases p <;> first | exact (hp (by decide)).elim | rfl | exact ⟨rfl, rfl⟩ | exact ⟨rfl, rfl, rfl⟩)
    assumption

theorem autoRebuild_agree {x0} :
    Agree [.regs, .ncp] x0 (autoRebuild x0) := by
  unfold autoRebuild
  refine Agree.ite ?_ ?_
  · exact startRebuild_agree.mono (by decide)
  · exact Agree.refl _ _

theorem syncIdx_agree {x0} :
    Agree [.regs] x0 (syncIdx x0) := by
  unfold syncIdx
  refine Agree.step ?_ State_put_agree (by decide)
  exact State_put_agree.mono (by decide)

theorem setIdx_agree {x0 x1} :
    Agree [.regs, .ncp] x0 (setIdx x0 x1) := by
  unfold setIdx
  extract_lets a0
  clear_value a0
  refine Agree.step ?_ syncIdx_agree (by decide)
  refine Agree.mk' ?_ (by
    intro p hp
    cases p <;> first | exact (hp (by decide)).elim | rfl | exact ⟨rfl, rfl⟩ | exact ⟨rfl, rfl, rfl⟩)
  exact Agree.refl _ _

theorem idxRemove_agree {x0 x1} :
    Agree [.regs, .ncp] x1 (idxRemove x0 x1) := by
  unfold idxRemove
  exact setIdx_agree.mono (by decide)

theorem setPins_agree {x0 x1} :
    Agree [.regs, .ncp] x0 (setPins x0 x1) := by
  unfold setPins
  extract_lets a0 a1
  clear_value a0
  have ha1 : Agree [Part.regs, Part.ncp] x0 a1 := by
    unfold a1
    refine Agree.mk' ?_ (by
      intro p hp
      cases p <;> first | exact (hp (by decide)).elim | rfl | exact ⟨rfl, rfl⟩ | exact ⟨rfl, rfl, rfl⟩)
    exact Agree.refl _ _
  clear_value a1
  refine Agree.step ?_ State_put_agree (by decide)
  assumption

theorem dropCtxPins_agree {x0 x1} :
    Agree [.regs, .ncp] x1 (dropCtxPins x0 x1) := by
  unfold dropCtxPins
  exact setPins_agree.mono (by decide)

theorem unhold_agree {x0 x1} :
    Agree [.ncp] x1 (unhold x0 x1) := by
  unfold unhold
  extract_lets a0
  clear_value a0
  refine Agree.mk' ?_ (by
    intro p hp
    cases p <;> first | exact (hp (by decide)).elim | rfl | exact ⟨rfl, rfl⟩ | exact ⟨rfl, rfl, rfl⟩)
  exact Agree.refl _ _

theorem ctxStat_agree {x0 x1 x2} :
    Agree [.regs, .events, .out, .ncp, .held] x2 (ctxStat x0 x1 x2) := by
  unfold ctxStat
  extract_lets a0 a1
  clear_value a0
  have ha1 : Agree [Part.regs, Part.events, Part.out, Part.ncp, Part.held] x2 a1 := by
    unfold a1
    exact setCtx_agree.mono (by decide)
  clear_value a1
  refine Agree.ite ?_ ?_
  · exact Agree.refl _ _
  · refine Agree.ite ?_ ?_
    · refine Agree.step ?_ occur_agree (by decide)
      assumption
    · assumption

theorem setCtxPair_agree {x0 x1 x2 x3} :
    Agree [.ncp] x3 (setCtxPair x0 x1 x2 x3) := by
  unfold setCtxPair
  refine Agree.step ?_ setCtx_agree (by decide)
  exact setCtx_agree.mono (by decide)

theorem dropThreadPins_agree {x0 x1} :
    Agree [.regs, .ncp] x1 (dropThreadPins x0 x1) := by
  unfold dropThreadPins
  exact setPins_agree.mono (by decide)

theorem emptyPos_agree {x0 x1 x2} :
    Agree [.ncp] x2 (emptyPos x0 x1 x2) := by
  unfold emptyPos
  extract_lets a0 a1 a2
  have ha0 : Agree [Part.ncp] x2 a0 := by
    unfold a0
    refine Agree.foldUpto ?_ ?_
    · intro y3
      intro y4
      exact setCtx_agree.mono (by decide)
    · exact Agree.refl _ _
  clear_value a0
  have ha1 : Agree [Part.ncp] x2 a1 := by
    unfold a1
    refine Agree.step ?_ setCtxBits_agree (by decide)
    assumption
  clear_value a1
  have ha2 : Agree [Part.ncp] x2 a2 := by
    unfold a2
    refine Agree.step ?_ setCtxBits_agree (by decide)
    assumption
  clear_value a2
  refine Agree.step ?_ journalPos_agree (by decide)
  refine Agree.step ?_ clearBad_agree (by decide)
  refine Agree.step ?_ setCtxBits_agree (by decide)
  assumption

theorem setRole_agree {x0 x1 x2 x3} :
    Agree [.ncp] x3 (setRole x0 x1 x2 x3) := by
  unfold setRole
  extract_lets a0
  have ha0 : Agree [Part.ncp] x3 a0 := by
    unfold a0
    exact setCtxBits_agree.mono (by decide)
  clear_value a0
  refine Agree.step ?_ journal_agree (by decide)
  refine Agree.step ?_ journal_agree (by decide)
  refine Agree.step ?_ setCtxBits_agree (by decide)
  assumption

theorem promote_agree {x0 x1} :
    Agree [.regs, .events, .out, .ncp, .held] x1 (promote x0 x1) := by
  unfold promote
  split
  · exact Agree.refl _ _
  · extract_lets a0
    have ha0 : Agree [Part.regs, Part.events, Part.out, Part.ncp, Part.held] x1 a0 := by
      unfold a0
      exact setRole_agree.mono (by decide)
    clear_value a0
    refine Agree.step ?_ occur_agree (by decide)
    refine Agree.step ?_ setRole_agree (by decide)
    assumption

theorem hold_agree {x0 x1} :
    Agree [.ncp] x1 (hold x0 x1) := by
  unfold hold
  extract_lets a0
  clear_value a0
  refine Agree.mk' ?_ (by
    intro p hp
    cases p <;> first | exact (hp (by decide)).elim | rfl | exact ⟨rfl, rfl⟩ | exact ⟨rfl, rfl, rfl⟩)
  exact Agree.refl _ _

theorem setRxSeen_agree {x0 x1 x2 x3} :
    Agree [.ncp] x3 (setRxSeen x0 x1 x2 x3) := by
  unfold setRxSeen
  extract_lets a0
  have ha0 : Agree [Part.ncp] x3 a0 := by
    unfold a0
    exact setCtxBits_agree.mono (by decide)
  clear_value a0
  refine Agree.step ?_ setCtxBits_agree (by decide)
  assumption

theorem storeRecord_agree {x0 x1} :
    Agree [.ncp, .nand] x1 (storeRecord x0 x1) := by
  unfold storeRecord
  extract_lets a0 a1 a2
  clear_value a0
  have ha1 : Agree [Part.ncp, Part.nand] x1 a1 := by
    unfold a1
    refine Agree.mk' ?_ (by
      intro p hp
      cases p <;> first | exact (hp (by decide)).elim | rfl | exact ⟨rfl, rfl⟩ | exact ⟨rfl, rfl, rfl⟩)
    exact Agree.refl _ _
  clear_value a1
  clear_value a2
  refine Agree.mk' ?_ (by
    intro p hp
    cases p <;> first | exact (hp (by decide)).elim | rfl | exact ⟨rfl, rfl⟩ | exact ⟨rfl, rfl, rfl⟩)
  assumption

theorem writeBack_agree {x0 x1} :
    Agree [.ncp, .nand] x1 (writeBack x0 x1) := by
  unfold writeBack
  extract_lets a0 a1 a2 a3 a4
  have ha0 : Agree [Part.ncp, Part.nand] x1 a0 := by
    unfold a0
    exact storeRecord_agree.mono (by decide)
  clear_value a0
  have ha1 : Agree [Part.ncp, Part.nand] x1 a1 := by
    unfold a1
    refine Agree.ite ?_ ?_
    · refine Agree.step ?_ storeRecord_agree (by decide)
      assumption
    · assumption
  clear_value a1
  clear_value a2
  clear_value a3
  clear_value a4
  refine Agree.mk' ?_ (by
    intro p hp
    cases p <;> first | exact (hp (by decide)).elim | rfl | exact ⟨rfl, rfl⟩ | exact ⟨rfl, rfl, rfl⟩)
  assumption

theorem takeEntry_agree {x0} :
    AgreeFst [.ncp, .nand] x0 (takeEntry x0) := by
  unfold takeEntry
  extract_lets a0
  clear_value a0
  refine AgreeFst.ite ?_ ?_
  · refine AgreeFst.mk ?_
    exact Agree.refl _ _
  · split
    extract_lets a1
    have ha1 : Agree [Part.ncp, Part.nand] x0 a1 := by
      unfold a1
      refine Agree.mk' ?_ (by
        intro p hp
        cases p <;> first | exact (hp (by decide)).elim | rfl | exact ⟨rfl, rfl⟩ | exact ⟨rfl, rfl, rfl⟩)
      exact Agree.refl _ _
    clear_value a1
    split
    · refine AgreeFst.mk ?_
      assumption
    · extract_lets a2 a3
      have ha2 : Agree [Part.ncp, Part.nand] x0 a2 := by
        unfold a2
        refine Agree.ite ?_ ?_
        · refine Agree.step ?_ writeBack_agree (by decide)
          assumption
        · assumption
      clear_value a2
      clear_value a3
      refine AgreeFst.mk ?_
      refine Agree.mk' ?_ (by
        intro p hp
        cases p <;> first | exact (hp (by decide)).elim | rfl | exact ⟨rfl, rfl⟩ | exact ⟨rfl, rfl, rfl⟩)
      assumption

theorem setSlots_agree {x0 x1} :
    Agree [.regs, .ncp] x0 (setSlots x0 x1) := by
  unfold setSlots
  extract_lets a0 a1
  clear_value a0
  have ha1 : Agree [Part.regs, Part.ncp] x0 a1 := by
    unfold a1
    refine Agree.mk' ?_ (by
      intro p hp
      cases p <;> first | exact (hp (by decide)).elim | rfl | exact ⟨rfl, rfl⟩ | exact ⟨rfl, rfl, rfl⟩)
    exact Agree.refl _ _
  clear_value a1
  refine Agree.step ?_ State_put_agree (by decide)
  assumption

theorem insertRecord_agree {x0 x1} :
    Agree [.regs, .ncp, .nand] x1 (insertRecord x0 x1) := by
  unfold insertRecord
  refine Agree.ite ?_ ?_
  · exact Agree.refl _ _
  · split
    extract_lets a0 a1
    clear_value a0
    have ha1 : Agree [Part.regs, Part.ncp, Part.nand] x1 a1 := by
      unfold a1
      refine Agree.mk' ?_ (by
        intro p hp
        cases p <;> first | exact (hp (by decide)).elim | rfl | exact ⟨rfl, rfl⟩ | exact ⟨rfl, rfl, rfl⟩)
      refine Agree.step ?_ (AgreeFst.of_eq takeEntry_agree (by assumption)) (by decide)
      exact Agree.refl _ _
    clear_value a1
    refine Agree.step ?_ setSlots_agree (by decide)
    assumption

theorem missEnd_agree {x0 x1} :
    Agree [.regs, .events, .out, .held] x1 (missEnd x0 x1) := by
  unfold missEnd
  extract_lets a0 a1 a2
  clear_value a0
  have ha1 : Agree [Part.regs, Part.events, Part.out, Part.held] x1 a1 := by
    unfold a1
    refine Agree.ite ?_ ?_
    · refine Agree.step ?_ occur_agree (by decide)
      refine Agree.trans ?_ (bumpStat_agree (by decide) ?_)
      · exact Agree.refl _ _
      · intro y3
        exact ncpOvf_agree.mono (by decide)
    · exact Agree.refl _ _
  clear_value a1
  have ha2 : Agree [Part.regs, Part.events, Part.out, Part.held] x1 a2 := by
    unfold a2
    refine Agree.ite ?_ ?_
    · refine Agree.step ?_ State_put_agree (by decide)
      assumption
    · assumption
  clear_value a2
  refine Agree.ite ?_ ?_
  · refine Agree.step ?_ State_put_agree (by decide)
    assumption
  · assumption

theorem dropMiss_agree {x0 x1} :
    Agree [.ncp] x1 (dropMiss x0 x1) := by
  unfold dropMiss
  extract_lets a0
  clear_value a0
  refine Agree.mk' ?_ (by
    intro p hp
    cases p <;> first | exact (hp (by decide)).elim | rfl | exact ⟨rfl, rfl⟩ | exact ⟨rfl, rfl, rfl⟩)
  exact Agree.refl _ _

end Sys2Proof.Machine
end

