-- ==== Sys2Proof/Laws/Frame/Power.lean ====
section
/-!
SUPPORT. Which parts of the state each definition of Machine/Power.lean may change.
-/

namespace Sys2Proof.Machine

theorem giveGrant_agree {x0 x1} :
    Agree [.pwr] x1 (giveGrant x0 x1) := by
  unfold giveGrant
  extract_lets a0
  clear_value a0
  refine Agree.mk' ?_ (by
    intro p hp
    cases p <;> first | exact (hp (by decide)).elim | rfl | exact ⟨rfl, rfl⟩ | exact ⟨rfl, rfl, rfl⟩)
  exact Agree.refl _ _

theorem countDeny_agree {x0 x1} :
    Agree [.regs] x1 (countDeny x0 x1) := by
  unfold countDeny
  refine Agree.trans ?_ (bumpStat_agree (by decide) ?_)
  · exact Agree.refl _ _
  · intro y0
    exact State_put_agree.mono (by decide)

theorem queueGrant_agree {x0 x1} :
    Agree [.pwr] x1 (queueGrant x0 x1) := by
  unfold queueGrant
  extract_lets a0
  clear_value a0
  refine Agree.mk' ?_ (by
    intro p hp
    cases p <;> first | exact (hp (by decide)).elim | rfl | exact ⟨rfl, rfl⟩ | exact ⟨rfl, rfl, rfl⟩)
  exact Agree.refl _ _

end Sys2Proof.Machine
end

