-- ==== Sys2Proof/Laws/Frame/Queues.lean ====
section
/-!
SUPPORT. Which parts of the state each definition of Machine/Queues.lean may change.
-/

namespace Sys2Proof.Machine

theorem filtered_agree {l : List Part} {x0 x1 x2 x3} (hl : subParts [.regs, .events, .out, .held] l = true)
    (h3 : ∀ y0, Agree l y0 (x3 y0)) :
    Agree l x0 (filtered x0 x1 x2 x3) := by
  unfold filtered
  split
  · exact Agree.refl _ _
  · split
    · refine Agree.trans ?_ (h3 _)
      exact Agree.refl _ _
    · exact Agree.refl _ _
    · refine Agree.step ?_ violation_agree (subParts_trans (by decide) hl)
      exact Agree.refl _ _

theorem evtRouteWrite_agree {x0 x1 x2 x3 x4} :
    Agree [.regs, .events, .out, .held] x4 (evtRouteWrite x0 x1 x2 x3 x4) := by
  unfold evtRouteWrite
  extract_lets a0 a1
  clear_value a0
  have ha1 : Agree [Part.regs, Part.events, Part.out, Part.held] x4 a1 := by
    unfold a1
    exact State_wrTyped_agree.mono (by decide)
  clear_value a1
  refine Agree.ite ?_ ?_
  · exact violation_agree.mono (by decide)
  · refine Agree.ite ?_ ?_
    · assumption
    · refine Agree.step ?_ State_setEvt_agree (by decide)
      assumption

theorem execEvtRouteWrite_agree {x0 x1 x2 x3 x4} :
    AgreeAns [.regs, .events, .out, .held] x4 (execEvtRouteWrite x0 x1 x2 x3 x4) := by
  unfold execEvtRouteWrite
  refine AgreeAns.of_next ?_
  refine Agree.trans ?_ (filtered_agree (by decide) ?_)
  · exact Agree.refl _ _
  · intro y0
    exact evtRouteWrite_agree.mono (by decide)

theorem refuseEnable_agree {x0 x1 x2} :
    Agree [.regs] x2 (refuseEnable x0 x1 x2) := by
  unfold refuseEnable
  refine Agree.step ?_ State_put_agree (by decide)
  exact State_put_agree.mono (by decide)

theorem dropDesc_agree {x0 x1} :
    Agree [.regs, .events, .out, .held] x1 (dropDesc x0 x1) := by
  unfold dropDesc
  refine Agree.step ?_ occur_agree (by decide)
  refine Agree.trans ?_ (bumpStat_agree (by decide) ?_)
  · exact Agree.refl _ _
  · intro y0
    exact fabricOvf_agree.mono (by decide)

theorem orphanPair_agree {x0 x1} :
    Agree [.jobs] x1 (orphanPair x0 x1) := by
  unfold orphanPair
  extract_lets a0
  refine Agree.mk' ?_ (by
    intro p hp
    cases p <;> first | exact (hp (by decide)).elim | rfl | exact ⟨rfl, rfl⟩ | exact ⟨rfl, rfl, rfl⟩)
  exact Agree.refl _ _

theorem wakeDeqOff_agree {x0 x1} :
    Agree [.threads] x1 (wakeDeqOff x0 x1) := by
  unfold wakeDeqOff
  refine Agree.foldl ?_ ?_
  · intro y0
    intro y1
    split
    · refine Agree.ite ?_ ?_
      · refine Agree.step ?_ exitWait_agree (by decide)
        exact failWith_agree.mono (by decide)
      · exact Agree.refl _ _
    · exact Agree.refl _ _
  · exact Agree.refl _ _

theorem disableQueue_agree {x0 x1} :
    Agree [.regs, .queues, .jobs, .events, .out, .threads, .held] x1 (disableQueue x0 x1) := by
  unfold disableQueue
  extract_lets a0 a1 a2 a3 a4 a5 a6
  clear_value a0
  have ha1 : Agree [Part.regs, Part.queues, Part.jobs, Part.events, Part.out, Part.threads, Part.held] x1 a1 := by
    unfold a1
    exact State_put_agree.mono (by decide)
  clear_value a1
  have ha2 : Agree [Part.regs, Part.queues, Part.jobs, Part.events, Part.out, Part.threads, Part.held] x1 a2 := by
    unfold a2
    refine Agree.step ?_ State_put_agree (by decide)
    assumption
  clear_value a2
  clear_value a3
  have ha4 : Agree [Part.regs, Part.queues, Part.jobs, Part.events, Part.out, Part.threads, Part.held] x1 a4 := by
    unfold a4
    refine Agree.step ?_ State_setQueue_agree (by decide)
    assumption
  clear_value a4
  have ha5 : Agree [Part.regs, Part.queues, Part.jobs, Part.events, Part.out, Part.threads, Part.held] x1 a5 := by
    unfold a5
    refine Agree.ite ?_ ?_
    · assumption
    · refine Agree.step ?_ returnCredit_agree (by decide)
      assumption
  clear_value a5
  have ha6 : Agree [Part.regs, Part.queues, Part.jobs, Part.events, Part.out, Part.threads, Part.held] x1 a6 := by
    unfold a6
    refine Agree.ite ?_ ?_
    · refine Agree.foldUpto ?_ ?_
      · intro y7
        intro y8
        exact dropDesc_agree.mono (by decide)
      · assumption
    · refine Agree.step ?_ orphanPair_agree (by decide)
      refine Agree.step ?_ State_setQueue_agree (by decide)
      assumption
  clear_value a6
  refine Agree.ite ?_ ?_
  · exact Agree.refl _ _
  · refine Agree.step ?_ wakeDeqOff_agree (by decide)
    refine Agree.step ?_ syncQueue_agree (by decide)
    assumption

theorem writeQueueCfg_agree {x0 x1 x2 x3} :
    Agree [.regs] x3 (writeQueueCfg x0 x1 x2 x3) := by
  unfold writeQueueCfg
  extract_lets a0 a1
  clear_value a0
  clear_value a1
  exact State_wr_agree.mono (by decide)

theorem enableQueue_agree {x0 x1} :
    Agree [.regs, .queues] x1 (enableQueue x0 x1) := by
  unfold enableQueue
  extract_lets a0 a1 a2 a3
  clear_value a0
  have ha1 : Agree [Part.regs, Part.queues] x1 a1 := by
    unfold a1
    exact State_put_agree.mono (by decide)
  clear_value a1
  have ha2 : Agree [Part.regs, Part.queues] x1 a2 := by
    unfold a2
    refine Agree.step ?_ State_put_agree (by decide)
    assumption
  clear_value a2
  have ha3 : Agree [Part.regs, Part.queues] x1 a3 := by
    unfold a3
    refine Agree.step ?_ State_put_agree (by decide)
    assumption
  clear_value a3
  refine Agree.step ?_ syncQueue_agree (by decide)
  refine Agree.step ?_ State_setQueue_agree (by decide)
  assumption

theorem queueCfgWrite_agree {x0 x1 x2 x3} :
    Agree [.regs, .queues, .jobs, .events, .out, .threads, .held] x3 (queueCfgWrite x0 x1 x2 x3) := by
  unfold queueCfgWrite
  extract_lets a0
  have ha0 : Agree [Part.regs, Part.queues, Part.jobs, Part.events, Part.out, Part.threads, Part.held] x3 a0 := by
    unfold a0
    exact writeQueueCfg_agree.mono (by decide)
  clear_value a0
  refine Agree.ite ?_ ?_
  · refine Agree.ite ?_ ?_
    · refine Agree.ite ?_ ?_
      · exact refuseEnable_agree.mono (by decide)
      · exact disableQueue_agree.mono (by decide)
    · exact Agree.refl _ _
  · refine Agree.ite ?_ ?_
    · refine Agree.ite ?_ ?_
      · refine Agree.step ?_ enableQueue_agree (by decide)
        assumption
      · refine Agree.step ?_ refuseEnable_agree (by decide)
        assumption
    · assumption

theorem execQueueDisable_agree {x0 x1 x2 x3 x4} :
    AgreeAns [.regs, .queues, .jobs, .events, .out, .threads, .held] x4 (execQueueDisable x0 x1 x2 x3 x4) := by
  unfold execQueueDisable
  refine AgreeAns.ite ?_ ?_
  · refine AgreeAns.of_next ?_
    refine Agree.trans ?_ (filtered_agree (by decide) ?_)
    · exact Agree.refl _ _
    · intro y0
      exact queueCfgWrite_agree.mono (by decide)
  · refine AgreeAns.of_next ?_
    exact Agree.refl _ _

theorem popQueue_agree {x0 x1} :
    Agree [.regs, .queues, .events, .out, .held] x1 (popQueue x0 x1) := by
  unfold popQueue
  extract_lets a0
  clear_value a0
  split
  · refine Agree.trans ?_ (bumpStat_agree (by decide) ?_)
    · exact State_setQueue_agree.mono (by decide)
    · intro y1
      exact fabricOvf_agree.mono (by decide)
  · extract_lets a2
    clear_value a2
    split
    · exact Agree.refl _ _
    · extract_lets a3 a4 a5 a6 a7
      clear_value a3
      clear_value a4
      clear_value a5
      have ha6 : Agree [Part.regs, Part.queues, Part.events, Part.out, Part.held] x1 a6 := by
        unfold a6
        exact State_setQueue_agree.mono (by decide)
      clear_value a6
      have ha7 : Agree [Part.regs, Part.queues, Part.events, Part.out, Part.held] x1 a7 := by
        unfold a7
        refine Agree.ite ?_ ?_
        · refine Agree.step ?_ State_put_agree (by decide)
          assumption
        · assumption
      clear_value a7
      refine Agree.step ?_ syncQueue_agree (by decide)
      assumption

theorem unmaskVector_agree {x0 x1 x2} :
    Agree [.events, .out] x2 (unmaskVector x0 x1 x2) := by
  unfold unmaskVector
  extract_lets a0 a1
  clear_value a0
  have ha1 : Agree [Part.events, Part.out] x2 a1 := by
    unfold a1
    exact setMsix_agree.mono (by decide)
  clear_value a1
  refine Agree.ite ?_ ?_
  · refine Agree.step ?_ State_emit_agree (by decide)
    assumption
  · refine Agree.step ?_ setMsix_agree (by decide)
    assumption

theorem ring_agree {x0 x1} :
    Agree [.regs, .queues, .events, .out, .held] x1 (ring x0 x1) := by
  unfold ring
  extract_lets a0 a1 a2 a3
  clear_value a0
  clear_value a1
  clear_value a2
  have ha3 : Agree [Part.regs, Part.queues, Part.events, Part.out, Part.held] x1 a3 := by
    unfold a3
    exact State_setQueue_agree.mono (by decide)
  clear_value a3
  refine Agree.ite ?_ ?_
  · exact Agree.refl _ _
  · refine Agree.ite ?_ ?_
    · refine Agree.trans ?_ (bumpStat_agree (by decide) ?_)
      · exact Agree.refl _ _
      · intro y4
        exact fabricOvf_agree.mono (by decide)
    · refine Agree.ite ?_ ?_
      · refine Agree.step ?_ syncQueue_agree (by decide)
        refine Agree.step ?_ State_put_agree (by decide)
        assumption
      · refine Agree.step ?_ dropDesc_agree (by decide)
        exact State_put_agree.mono (by decide)

theorem filteredSlot_agree {l : List Part} {x0 x1 x2 x3 x4 x5} (hl : subParts [.regs, .events, .out, .held] l = true)
    (h5 : ∀ y0, Agree l y0 (x5 y0)) :
    Agree l x0 (filteredSlot x0 x1 x2 x3 x4 x5) := by
  unfold filteredSlot
  split
  · refine Agree.trans ?_ (h5 _)
    exact Agree.refl _ _
  · exact Agree.refl _ _
  · refine Agree.step ?_ violation_agree (subParts_trans (by decide) hl)
    exact Agree.refl _ _

theorem execDoorbell_agree {x0 x1 x2 x3} :
    AgreeAns [.regs, .queues, .events, .out, .held] x3 (execDoorbell x0 x1 x2 x3) := by
  unfold execDoorbell
  refine AgreeAns.of_next ?_
  refine Agree.trans ?_ (filteredSlot_agree (by decide) ?_)
  · exact Agree.refl _ _
  · intro y0
    exact ring_agree.mono (by decide)

theorem readPort_agree {x0 x1 x2 x3} :
    Agree [.regs, .queues, .events, .out, .held] x3 (readPort x0 x1 x2 x3) := by
  unfold readPort
  extract_lets a0 a1
  have ha0 : Agree [Part.regs, Part.queues, Part.events, Part.out, Part.held] x3 a0 := by
    unfold a0
    refine Agree.ite ?_ ?_
    · exact popQueue_agree.mono (by decide)
    · exact Agree.refl _ _
  clear_value a0
  have ha1 : Agree [Part.regs, Part.queues, Part.events, Part.out, Part.held] x3 a1 := by
    unfold a1
    refine Agree.ite ?_ ?_
    · refine Agree.step ?_ poisonRead_agree (by decide)
      assumption
    · assumption
  clear_value a1
  refine Agree.step ?_ State_emit_agree (by decide)
  assumption

theorem execQueuePop_agree {x0 x1 x2 x3 x4} :
    AgreeAns [.regs, .queues, .events, .out, .held] x4 (execQueuePop x0 x1 x2 x3 x4) := by
  unfold execQueuePop
  refine AgreeAns.ite ?_ ?_
  · refine AgreeAns.of_next ?_
    exact Agree.refl _ _
  · split
    · refine AgreeAns.of_next ?_
      exact readPort_agree.mono (by decide)
    · refine AgreeAns.of_next ?_
      exact State_emit_agree.mono (by decide)
    · refine AgreeAns.of_next ?_
      refine Agree.step ?_ State_emit_agree (by decide)
      exact violation_agree.mono (by decide)

theorem unreserve_agree {x0 x1} :
    Agree [.queues] x1 (unreserve x0 x1) := by
  unfold unreserve
  extract_lets a0
  clear_value a0
  exact State_setQueue_agree.mono (by decide)

theorem execEvtPendClear_agree {x0 x1 x2 x3 x4} :
    AgreeAns [.regs] x4 (execEvtPendClear x0 x1 x2 x3 x4) := by
  unfold execEvtPendClear
  refine AgreeAns.ite ?_ ?_
  · refine AgreeAns.of_next ?_
    exact Agree.refl _ _
  · refine AgreeAns.of_next ?_
    exact State_wr_agree.mono (by decide)

theorem orphanJobs_agree {x0 x1} :
    Agree [.queues, .jobs] x1 (orphanJobs x0 x1) := by
  unfold orphanJobs
  extract_lets a0 a1
  have ha0 : Agree [Part.queues, Part.jobs] x1 a0 := by
    unfold a0
    refine Agree.foldl ?_ ?_
    · intro y2
      intro y3
      exact unreserve_agree.mono (by decide)
    · exact Agree.refl _ _
  clear_value a0
  refine Agree.mk' ?_ (by
    intro p hp
    cases p <;> first | exact (hp (by decide)).elim | rfl | exact ⟨rfl, rfl⟩ | exact ⟨rfl, rfl, rfl⟩)
  assumption

theorem takeFrom_agree {x0 x1 x2} :
    Agree [.regs, .queues, .jobs, .events, .out, .held] x2 (takeFrom x0 x1 x2) := by
  unfold takeFrom
  extract_lets a0 a1
  clear_value a0
  clear_value a1
  split
  · exact Agree.refl _ _
  · extract_lets a2 a3 a4 a5 a6 a7 a8
    clear_value a2
    clear_value a3
    have ha4 : Agree [Part.regs, Part.queues, Part.jobs, Part.events, Part.out, Part.held] x2 a4 := by
      unfold a4
      refine Agree.step ?_ syncQueue_agree (by decide)
      exact State_setQueue_agree.mono (by decide)
    clear_value a4
    clear_value a5
    have ha6 : Agree [Part.regs, Part.queues, Part.jobs, Part.events, Part.out, Part.held] x2 a6 := by
      unfold a6
      refine Agree.step ?_ State_setQueue_agree (by decide)
      assumption
    clear_value a6
    have ha8 : Agree [Part.regs, Part.queues, Part.jobs, Part.events, Part.out, Part.held] x2 a8 := by
      unfold a8
      refine Agree.mk' ?_ (by
        intro p hp
        cases p <;> first | exact (hp (by decide)).elim | rfl | exact ⟨rfl, rfl⟩ | exact ⟨rfl, rfl, rfl⟩)
      assumption
    clear_value a8
    refine Agree.ite ?_ ?_
    · refine Agree.step ?_ completeJob_agree (by decide)
      refine Agree.step ?_ State_put_agree (by decide)
      assumption
    · assumption

theorem execMsixUnmask_agree {x0 x1 x2} :
    AgreeAns [.events, .out] x2 (execMsixUnmask x0 x1 x2) := by
  unfold execMsixUnmask
  refine AgreeAns.ite ?_ ?_
  · refine AgreeAns.of_next ?_
    exact Agree.refl _ _
  · refine AgreeAns.of_next ?_
    exact unmaskVector_agree.mono (by decide)

theorem execQueueEnable_agree {x0 x1 x2 x3 x4} :
    AgreeAns [.regs, .queues, .jobs, .events, .out, .threads, .held] x4 (execQueueEnable x0 x1 x2 x3 x4) := by
  unfold execQueueEnable
  refine AgreeAns.ite ?_ ?_
  · refine AgreeAns.of_next ?_
    refine Agree.trans ?_ (filtered_agree (by decide) ?_)
    · exact Agree.refl _ _
    · intro y0
      exact queueCfgWrite_agree.mono (by decide)
  · refine AgreeAns.of_next ?_
    exact Agree.refl _ _

theorem execEventTimerExpire_agree {x0 x1} :
    AgreeAns [.regs, .time, .copy, .events, .out] x1 (execEventTimerExpire x0 x1) := by
  unfold execEventTimerExpire
  split
  · refine AgreeAns.of_next ?_
    refine Agree.step ?_ fire_agree (by decide)
    exact State_passTo_agree.mono (by decide)
  · refine AgreeAns.of_next ?_
    exact Agree.refl _ _

end Sys2Proof.Machine
end

