-- ==== Sys2Proof/Laws/Frame/Cipher.lean ====
section
/-!
SUPPORT. Which parts of the state each definition of Machine/Cipher.lean may change.
-/

namespace Sys2Proof.Machine

theorem endJob_agree {x0 x1 x2 x3} :
    Agree [.jobs, .pwr] x3 (endJob x0 x1 x2 x3) := by
  unfold endJob
  refine Agree.step ?_ setJob_agree (by decide)
  refine Agree.step ?_ dropRequest_agree (by decide)
  exact releaseGrant_agree.mono (by decide)

theorem keyExhausted_agree {x0 x1} :
    Agree [.regs, .events, .out, .held] x1 (keyExhausted x0 x1) := by
  unfold keyExhausted
  refine Agree.ite ?_ ?_
  · exact Agree.refl _ _
  · refine Agree.step ?_ occur_agree (by decide)
    exact State_put_agree.mono (by decide)

theorem setUse_agree {x0 x1 x2} :
    Agree [.regs] x2 (setUse x0 x1 x2) := by
  unfold setUse
  extract_lets a0
  clear_value a0
  refine Agree.step ?_ State_put_agree (by decide)
  exact State_wr_agree.mono (by decide)

theorem setLimit_agree {x0 x1 x2} :
    Agree [.regs, .ciph] x2 (setLimit x0 x1 x2) := by
  unfold setLimit
  extract_lets a0 a1
  clear_value a0
  have ha1 : Agree [Part.regs, Part.ciph] x2 a1 := by
    unfold a1
    refine Agree.mk' ?_ (by
      intro p hp
      cases p <;> first | exact (hp (by decide)).elim | rfl | exact ⟨rfl, rfl⟩ | exact ⟨rfl, rfl, rfl⟩)
    exact Agree.refl _ _
  clear_value a1
  refine Agree.step ?_ State_put_agree (by decide)
  refine Agree.step ?_ State_wr_agree (by decide)
  assumption

theorem keyLimitWrite_agree {x0 x1 x2 x3} :
    Agree [.regs, .ciph] x3 (keyLimitWrite x0 x1 x2 x3) := by
  unfold keyLimitWrite
  extract_lets a0
  clear_value a0
  refine Agree.ite ?_ ?_
  · exact Agree.refl _ _
  · exact setLimit_agree.mono (by decide)

theorem execKeyLimitWrite_agree {x0 x1 x2 x3 x4} :
    AgreeAns [.regs, .events, .out, .ciph, .held] x4 (execKeyLimitWrite x0 x1 x2 x3 x4) := by
  unfold execKeyLimitWrite
  refine AgreeAns.of_next ?_
  refine Agree.trans ?_ (filtered_agree (by decide) ?_)
  · exact Agree.refl _ _
  · intro y0
    exact keyLimitWrite_agree.mono (by decide)

theorem completeEnded_agree {x0 x1 x2} :
    Agree [.regs, .queues, .jobs, .events, .out, .held] x2 (completeEnded x0 x1 x2) := by
  unfold completeEnded
  split
  · refine Agree.ite ?_ ?_
    · exact completeJob_agree.mono (by decide)
    · exact Agree.refl _ _
  · exact Agree.refl _ _

theorem ciphAccept_agree {x0 x1} :
    Agree [.regs, .jobs, .events, .out, .pwr, .ncp, .held] x1 (ciphAccept x0 x1) := by
  unfold ciphAccept
  extract_lets a0 a1 a2 a3 a4 a5
  clear_value a0
  have ha1 : Agree [Part.regs, Part.jobs, Part.events, Part.out, Part.pwr, Part.ncp, Part.held] x1 a1 := by
    unfold a1
    refine Agree.ite ?_ ?_
    · exact keyExhausted_agree.mono (by decide)
    · exact Agree.refl _ _
  clear_value a1
  clear_value a2
  have ha3 : Agree [Part.regs, Part.jobs, Part.events, Part.out, Part.pwr, Part.ncp, Part.held] x1 a3 := by
    unfold a3
    refine Agree.ite ?_ ?_
    · exact Agree.refl _ _
    · exact setUse_agree.mono (by decide)
  clear_value a3
  have ha4 : Agree [Part.regs, Part.jobs, Part.events, Part.out, Part.pwr, Part.ncp, Part.held] x1 a4 := by
    unfold a4
    refine Agree.ite ?_ ?_
    · refine Agree.step ?_ requestMiss_agree (by decide)
      assumption
    · assumption
  clear_value a4
  clear_value a5
  refine Agree.ite ?_ ?_
  · refine Agree.step ?_ endJob_agree (by decide)
    assumption
  · refine Agree.ite ?_ ?_
    · refine Agree.ite ?_ ?_
      · refine Agree.step ?_ setJob_agree (by decide)
        refine Agree.step ?_ giveGrant_agree (by decide)
        assumption
      · refine Agree.step ?_ setJob_agree (by decide)
        refine Agree.step ?_ queueGrant_agree (by decide)
        assumption
    · refine Agree.step ?_ setJob_agree (by decide)
      assumption

theorem ciphOvf_agree {x0} :
    Agree [.regs, .events, .out, .held] x0 (ciphOvf x0) := by
  unfold ciphOvf
  exact occur_agree.mono (by decide)

theorem cipherFault_agree {x0} :
    Agree [.regs, .events, .out, .held] x0 (cipherFault x0) := by
  unfold cipherFault
  refine Agree.step ?_ occur_agree (by decide)
  refine Agree.trans ?_ (bumpStat_agree (by decide) ?_)
  · exact Agree.refl _ _
  · intro y0
    exact ciphOvf_agree.mono (by decide)

theorem authFail_agree {x0} :
    Agree [.regs, .events, .out, .held] x0 (authFail x0) := by
  unfold authFail
  refine Agree.step ?_ occur_agree (by decide)
  refine Agree.trans ?_ (bumpStat_agree (by decide) ?_)
  · exact Agree.refl _ _
  · intro y0
    exact ciphOvf_agree.mono (by decide)

theorem aesEnd_agree {x0 x1} :
    Agree [.regs, .jobs, .events, .bulk, .out, .pwr, .held] x1 (aesEnd x0 x1) := by
  unfold aesEnd
  extract_lets a0 a1 a2 a3 a4
  clear_value a0
  clear_value a1
  clear_value a2
  clear_value a3
  clear_value a4
  refine Agree.ite ?_ ?_
  · exact endJob_agree.mono (by decide)
  · split
    · extract_lets a5 a6
      have ha5 : Agree [Part.regs, Part.jobs, Part.events, Part.bulk, Part.out, Part.pwr, Part.held] x1 a5 := by
        unfold a5
        exact wrBulkL_agree.mono (by decide)
      clear_value a5
      have ha6 : Agree [Part.regs, Part.jobs, Part.events, Part.bulk, Part.out, Part.pwr, Part.held] x1 a6 := by
        unfold a6
        refine Agree.ite ?_ ?_
        · refine Agree.step ?_ wrBulkL_agree (by decide)
          assumption
        · assumption
      clear_value a6
      refine Agree.step ?_ endJob_agree (by decide)
      assumption
    · refine Agree.step ?_ endJob_agree (by decide)
      refine Agree.step ?_ authFail_agree (by decide)
      exact wrBulkL_agree.mono (by decide)
    · refine Agree.step ?_ endJob_agree (by decide)
      exact wrBulkL_agree.mono (by decide)

theorem hashEnd_agree {x0 x1} :
    Agree [.jobs, .bulk, .pwr] x1 (hashEnd x0 x1) := by
  unfold hashEnd
  extract_lets a0 a1
  clear_value a0
  clear_value a1
  refine Agree.step ?_ endJob_agree (by decide)
  exact wrBulkL_agree.mono (by decide)

theorem signEnd_agree {x0 x1} :
    Agree [.jobs, .bulk, .pwr] x1 (signEnd x0 x1) := by
  unfold signEnd
  extract_lets a0 a1
  clear_value a0
  clear_value a1
  refine Agree.step ?_ endJob_agree (by decide)
  exact wrBulkL_agree.mono (by decide)

theorem verifyEnd_agree {x0 x1} :
    Agree [.jobs, .pwr] x1 (verifyEnd x0 x1) := by
  unfold verifyEnd
  extract_lets a0 a1
  clear_value a0
  clear_value a1
  exact endJob_agree.mono (by decide)

theorem ecdhEnd_agree {x0 x1} :
    Agree [.free, .jobs, .bulk, .pwr] x1 (ecdhEnd x0 x1) := by
  unfold ecdhEnd
  extract_lets a0
  clear_value a0
  split
  · refine Agree.step ?_ endJob_agree (by decide)
    exact wrBulkL_agree.mono (by decide)
  · refine Agree.step ?_ endJob_agree (by decide)
    exact State_drew_agree.mono (by decide)

theorem randomBytes_agree {x0 x1} :
    AgreeSnd [.free] x1 (randomBytes x0 x1) := by
  induction x0 generalizing x1 with
  | zero => exact Agree.refl _ _
  | succ n ih => exact Agree.step State_drew_agree ih (by decide)

theorem randomEnd_agree {x0 x1} :
    Agree [.free, .jobs, .bulk, .pwr] x1 (randomEnd x0 x1) := by
  unfold randomEnd
  extract_lets a0
  refine Agree.ite ?_ ?_
  · exact endJob_agree.mono (by decide)
  · refine Agree.step ?_ endJob_agree (by decide)
    refine Agree.step ?_ wrBulkL_agree (by decide)
    exact randomBytes_agree.mono (by decide)

theorem importFail_agree {x0 x1 x2} :
    Agree [.regs, .jobs, .events, .out, .pwr, .held] x2 (importFail x0 x1 x2) := by
  unfold importFail
  refine Agree.step ?_ endJob_agree (by decide)
  refine Agree.step ?_ occur_agree (by decide)
  refine Agree.trans ?_ (bumpStat_agree (by decide) ?_)
  · exact Agree.refl _ _
  · intro y0
    exact ciphOvf_agree.mono (by decide)

theorem importNode_agree {x0 x1 x2 x3 x4} :
    Agree [.ncp] x4 (importNode x0 x1 x2 x3 x4) := by
  unfold importNode
  extract_lets a0 a1 a2 a3 a4 a5 a6 a7 a8 a9 a10
  clear_value a0
  clear_value a1
  clear_value a2
  have ha3 : Agree [Part.ncp] x4 a3 := by
    unfold a3
    refine Agree.foldUpto ?_ ?_
    · intro y11
      intro y12
      exact setCtx_agree.mono (by decide)
    · exact Agree.refl _ _
  clear_value a3
  have ha4 : Agree [Part.ncp] x4 a4 := by
    unfold a4
    refine Agree.step ?_ setCtx_agree (by decide)
    assumption
  clear_value a4
  have ha5 : Agree [Part.ncp] x4 a5 := by
    unfold a5
    refine Agree.step ?_ setCtx_agree (by decide)
    assumption
  clear_value a5
  have ha6 : Agree [Part.ncp] x4 a6 := by
    unfold a6
    refine Agree.step ?_ setCtx_agree (by decide)
    assumption
  clear_value a6
  have ha7 : Agree [Part.ncp] x4 a7 := by
    unfold a7
    refine Agree.step ?_ setCtx_agree (by decide)
    assumption
  clear_value a7
  have ha8 : Agree [Part.ncp] x4 a8 := by
    unfold a8
    refine Agree.step ?_ setCtxBits_agree (by decide)
    assumption
  clear_value a8
  have ha9 : Agree [Part.ncp] x4 a9 := by
    unfold a9
    refine Agree.step ?_ setCtxBits_agree (by decide)
    assumption
  clear_value a9
  have ha10 : Agree [Part.ncp] x4 a10 := by
    unfold a10
    refine Agree.step ?_ setCtxBits_agree (by decide)
    assumption
  clear_value a10
  refine Agree.step ?_ journalPos_agree (by decide)
  refine Agree.step ?_ setCtx_agree (by decide)
  refine Agree.step ?_ clearBad_agree (by decide)
  assumption

theorem setKey_agree {x0 x1 x2} :
    Agree [.ciph] x2 (setKey x0 x1 x2) := by
  unfold setKey
  extract_lets a0
  clear_value a0
  refine Agree.mk' ?_ (by
    intro p hp
    cases p <;> first | exact (hp (by decide)).elim | rfl | exact ⟨rfl, rfl⟩ | exact ⟨rfl, rfl, rfl⟩)
  exact Agree.refl _ _

theorem importSlot_agree {x0 x1 x2 x3 x4 x5 x6} :
    Agree [.regs, .ciph] x6 (importSlot x0 x1 x2 x3 x4 x5 x6) := by
  unfold importSlot
  extract_lets a0 a1
  have ha0 : Agree [Part.regs, Part.ciph] x6 a0 := by
    unfold a0
    exact setKey_agree.mono (by decide)
  clear_value a0
  have ha1 : Agree [Part.regs, Part.ciph] x6 a1 := by
    unfold a1
    refine Agree.step ?_ State_put_agree (by decide)
    refine Agree.step ?_ State_put_agree (by decide)
    assumption
  clear_value a1
  refine Agree.step ?_ State_wr_agree (by decide)
  refine Agree.step ?_ setUse_agree (by decide)
  refine Agree.step ?_ setLimit_agree (by decide)
  assumption

theorem importEnd_agree {x0 x1} :
    Agree [.regs, .jobs, .events, .out, .pwr, .ciph, .ncp, .held] x1 (importEnd x0 x1) := by
  unfold importEnd
  extract_lets a0 a1 a2 a3 a4 a5
  clear_value a0
  clear_value a2
  clear_value a3
  refine Agree.ite ?_ ?_
  · exact importFail_agree.mono (by decide)
  · refine Agree.ite ?_ ?_
    · exact importFail_agree.mono (by decide)
    · split
      · exact importFail_agree.mono (by decide)
      · refine Agree.ite ?_ ?_
        · exact importFail_agree.mono (by decide)
        · refine Agree.ite ?_ ?_
          · exact importFail_agree.mono (by decide)
          · refine Agree.ite ?_ ?_
            · exact importFail_agree.mono (by decide)
            · refine Agree.ite ?_ ?_
              · refine Agree.step ?_ endJob_agree (by decide)
                exact importNode_agree.mono (by decide)
              · refine Agree.step ?_ endJob_agree (by decide)
                exact importSlot_agree.mono (by decide)

theorem emptyKey_agree {x0 x1} :
    Agree [.regs, .ciph] x1 (emptyKey x0 x1) := by
  unfold emptyKey
  refine Agree.step ?_ setUse_agree (by decide)
  refine Agree.step ?_ setLimit_agree (by decide)
  refine Agree.step ?_ State_wr_agree (by decide)
  exact setKey_agree.mono (by decide)

theorem eraseEnd_agree {x0 x1} :
    Agree [.regs, .jobs, .pwr, .ciph, .ncp] x1 (eraseEnd x0 x1) := by
  unfold eraseEnd
  extract_lets a0
  clear_value a0
  refine Agree.ite ?_ ?_
  · split
    · exact endJob_agree.mono (by decide)
    · refine Agree.ite ?_ ?_
      · exact endJob_agree.mono (by decide)
      · refine Agree.step ?_ endJob_agree (by decide)
        exact emptyPos_agree.mono (by decide)
  · refine Agree.ite ?_ ?_
    · exact endJob_agree.mono (by decide)
    · refine Agree.step ?_ endJob_agree (by decide)
      exact emptyKey_agree.mono (by decide)

theorem promoteEnd_agree {x0 x1} :
    Agree [.regs, .jobs, .events, .out, .pwr, .ncp, .held] x1 (promoteEnd x0 x1) := by
  unfold promoteEnd
  split
  · exact endJob_agree.mono (by decide)
  · refine Agree.step ?_ endJob_agree (by decide)
    exact promote_agree.mono (by decide)

theorem ciphRun_agree {x0 x1 x2} :
    Agree [.free, .regs, .jobs, .events, .bulk, .out, .pwr, .ciph, .ncp, .held] x2 (ciphRun x0 x1 x2) := by
  unfold ciphRun
  refine Agree.ite ?_ ?_
  · exact Agree.refl _ _
  · refine Agree.ite ?_ ?_
    · exact endJob_agree.mono (by decide)
    · refine Agree.ite ?_ ?_
      · refine Agree.step ?_ endJob_agree (by decide)
        exact cipherFault_agree.mono (by decide)
      · split
        · exact aesEnd_agree.mono (by decide)
        · exact hashEnd_agree.mono (by decide)
        · exact signEnd_agree.mono (by decide)
        · exact verifyEnd_agree.mono (by decide)
        · exact ecdhEnd_agree.mono (by decide)
        · exact randomEnd_agree.mono (by decide)
        · exact importEnd_agree.mono (by decide)
        · exact eraseEnd_agree.mono (by decide)
        · exact promoteEnd_agree.mono (by decide)

theorem ciphCommand_agree {x0 x1 x2 x3} :
    Agree [.free, .regs, .jobs, .events, .bulk, .out, .pwr, .ciph, .ncp, .held] x3 (ciphCommand x0 x1 x2 x3) := by
  unfold ciphCommand
  split
  · exact Agree.refl _ _
  · extract_lets a0
    have ha0 : Agree [Part.free, Part.regs, Part.jobs, Part.events, Part.bulk, Part.out, Part.pwr, Part.ciph, Part.ncp, Part.held] x3 a0 := by
      unfold a0
      refine Agree.ite ?_ ?_
      · exact ciphAccept_agree.mono (by decide)
      · exact Agree.refl _ _
    clear_value a0
    refine Agree.ite ?_ ?_
    · exact Agree.refl _ _
    · split
      · refine Agree.ite ?_ ?_
        · refine Agree.step ?_ ciphRun_agree (by decide)
          assumption
        · assumption
      · assumption

theorem execSign_agree {x0 x1 x2} :
    AgreeAns [.free, .regs, .jobs, .events, .bulk, .out, .pwr, .ciph, .ncp, .held] x2 (execSign x0 x1 x2) := by
  unfold execSign
  refine AgreeAns.of_next ?_
  exact ciphCommand_agree.mono (by decide)

theorem execVerify_agree {x0 x1 x2} :
    AgreeAns [.free, .regs, .jobs, .events, .bulk, .out, .pwr, .ciph, .ncp, .held] x2 (execVerify x0 x1 x2) := by
  unfold execVerify
  refine AgreeAns.of_next ?_
  exact ciphCommand_agree.mono (by decide)

theorem execHash_agree {x0 x1 x2} :
    AgreeAns [.free, .regs, .jobs, .events, .bulk, .out, .pwr, .ciph, .ncp, .held] x2 (execHash x0 x1 x2) := by
  unfold execHash
  refine AgreeAns.of_next ?_
  exact ciphCommand_agree.mono (by decide)

theorem execKeyPromote_agree {x0 x1 x2} :
    AgreeAns [.free, .regs, .jobs, .events, .bulk, .out, .pwr, .ciph, .ncp, .held] x2 (execKeyPromote x0 x1 x2) := by
  unfold execKeyPromote
  refine AgreeAns.of_next ?_
  exact ciphCommand_agree.mono (by decide)

theorem execCipherJobComplete_agree {x0 x1} :
    AgreeAns [.regs, .queues, .jobs, .events, .out, .held] x1 (execCipherJobComplete x0 x1) := by
  unfold execCipherJobComplete
  refine AgreeAns.of_next ?_
  exact completeEnded_agree.mono (by decide)

theorem execRandom_agree {x0 x1 x2} :
    AgreeAns [.free, .regs, .jobs, .events, .bulk, .out, .pwr, .ciph, .ncp, .held] x2 (execRandom x0 x1 x2) := by
  unfold execRandom
  refine AgreeAns.of_next ?_
  exact ciphCommand_agree.mono (by decide)

theorem execKeyImport_agree {x0 x1 x2} :
    AgreeAns [.free, .regs, .jobs, .events, .bulk, .out, .pwr, .ciph, .ncp, .held] x2 (execKeyImport x0 x1 x2) := by
  unfold execKeyImport
  refine AgreeAns.of_next ?_
  exact ciphCommand_agree.mono (by decide)

theorem execAes_agree {x0 x1 x2} :
    AgreeAns [.free, .regs, .jobs, .events, .bulk, .out, .pwr, .ciph, .ncp, .held] x2 (execAes x0 x1 x2) := by
  unfold execAes
  refine AgreeAns.of_next ?_
  exact ciphCommand_agree.mono (by decide)

theorem execKeyErase_agree {x0 x1 x2} :
    AgreeAns [.free, .regs, .jobs, .events, .bulk, .out, .pwr, .ciph, .ncp, .held] x2 (execKeyErase x0 x1 x2) := by
  unfold execKeyErase
  refine AgreeAns.of_next ?_
  exact ciphCommand_agree.mono (by decide)

theorem execEcdh_agree {x0 x1 x2} :
    AgreeAns [.free, .regs, .jobs, .events, .bulk, .out, .pwr, .ciph, .ncp, .held] x2 (execEcdh x0 x1 x2) := by
  unfold execEcdh
  refine AgreeAns.of_next ?_
  exact ciphCommand_agree.mono (by decide)

theorem execRngFail_agree {x0} :
    AgreeAns [.regs, .events, .out, .held] x0 (execRngFail x0) := by
  unfold execRngFail
  refine AgreeAns.of_next ?_
  refine Agree.step ?_ occur_agree (by decide)
  exact State_put_agree.mono (by decide)

end Sys2Proof.Machine
end

