-- ==== Sys2Proof/Laws/Frame/GreuneSys.lean ====
section
/-!
SUPPORT. Which parts of the state each definition of Machine/GreuneSys.lean may change.
-/

namespace Sys2Proof.Machine

theorem evtIssue_agree {x0 x1 x2} :
    Agree [.regs, .events, .out, .threads, .held] x2 (evtIssue x0 x1 x2) := by
  unfold evtIssue
  refine Agree.ite ?_ ?_
  · exact threadFault_agree.mono (by decide)
  · refine Agree.step ?_ done_agree (by decide)
    exact occur_agree.mono (by decide)

theorem execEvt_agree {x0 x1} :
    AgreeAns [.free, .regs, .events, .out, .threads, .held] x1 (execEvt x0 x1) := by
  unfold execEvt
  refine AgreeAns.of_next ?_
  refine Agree.trans ?_ (issue_agree (by decide) ?_)
  · exact Agree.refl _ _
  · intro y0
    intro y1
    intro y2
    split
    · refine AgreeOpt.of_some ?_
      exact evtIssue_agree.mono (by decide)
    · exact AgreeOpt.of_none

theorem takeWake_agree {x0 x1 x2 x3} :
    Agree [.threads] x3 (takeWake x0 x1 x2 x3) := by
  unfold takeWake
  exact modThr_agree.mono (by decide)

theorem markDeadline_agree {x0 x1 x2} :
    Agree [.threads] x2 (markDeadline x0 x1 x2) := by
  unfold markDeadline
  refine Agree.ite ?_ ?_
  · exact modThr_agree.mono (by decide)
  · exact Agree.refl _ _

theorem setWake_agree {x0 x1 x2} :
    Agree [.threads] x2 (setWake x0 x1 x2) := by
  unfold setWake
  exact modThr_agree.mono (by decide)

theorem execYield_agree {x0 x1} :
    AgreeAns [.free, .regs, .events, .out, .threads, .held] x1 (execYield x0 x1) := by
  unfold execYield
  refine AgreeAns.of_next ?_
  refine Agree.trans ?_ (issue_agree (by decide) ?_)
  · exact Agree.refl _ _
  · intro y0
    intro y1
    intro y2
    split
    · refine AgreeOpt.of_some ?_
      refine Agree.step ?_ done_agree (by decide)
      exact modThr_agree.mono (by decide)
    · exact AgreeOpt.of_none

theorem execHalt_agree {x0 x1} :
    AgreeAns [.free, .regs, .events, .out, .threads, .held] x1 (execHalt x0 x1) := by
  unfold execHalt
  refine AgreeAns.of_next ?_
  refine Agree.trans ?_ (issue_agree (by decide) ?_)
  · exact Agree.refl _ _
  · intro y0
    intro y1
    intro y2
    split
    · refine AgreeOpt.of_some ?_
      exact modThr_agree.mono (by decide)
    · exact AgreeOpt.of_none

theorem wsigIssue_agree {x0 x1 x2 x3} :
    Agree [.threads] x3 (wsigIssue x0 x1 x2 x3) := by
  unfold wsigIssue
  extract_lets a0 a1
  clear_value a0
  clear_value a1
  refine Agree.ite ?_ ?_
  · refine Agree.step ?_ done_agree (by decide)
    refine Agree.step ?_ takeWake_agree (by decide)
    exact markDeadline_agree.mono (by decide)
  · exact enterWait_agree.mono (by decide)

theorem execWsig_agree {x0 x1} :
    AgreeAns [.free, .regs, .events, .out, .threads, .held] x1 (execWsig x0 x1) := by
  unfold execWsig
  refine AgreeAns.of_next ?_
  refine Agree.trans ?_ (issue_agree (by decide) ?_)
  · exact Agree.refl _ _
  · intro y0
    intro y1
    intro y2
    split
    · refine AgreeOpt.of_some ?_
      exact wsigIssue_agree.mono (by decide)
    · exact AgreeOpt.of_none

theorem execWsigDeadline_agree {x0 x1} :
    AgreeAns [.time, .copy, .threads] x1 (execWsigDeadline x0 x1) := by
  unfold execWsigDeadline
  split
  · extract_lets a0
    have ha0 : Agree [Part.time, Part.copy, Part.threads] x1 a0 := by
      unfold a0
      exact State_passTo_agree.mono (by decide)
    clear_value a0
    refine AgreeAns.of_next ?_
    refine Agree.step ?_ exitWait_agree (by decide)
    refine Agree.step ?_ takeWake_agree (by decide)
    refine Agree.step ?_ markDeadline_agree (by decide)
    assumption
  · refine AgreeAns.of_next ?_
    exact Agree.refl _ _

theorem sigIssue_agree {x0 x1 x2 x3} :
    Agree [.regs, .events, .out, .threads, .held] x3 (sigIssue x0 x1 x2 x3) := by
  unfold sigIssue
  refine Agree.ite ?_ ?_
  · exact threadFault_agree.mono (by decide)
  · refine Agree.step ?_ done_agree (by decide)
    exact setWake_agree.mono (by decide)

theorem execSig_agree {x0 x1} :
    AgreeAns [.free, .regs, .events, .out, .threads, .held] x1 (execSig x0 x1) := by
  unfold execSig
  refine AgreeAns.of_next ?_
  refine Agree.trans ?_ (issue_agree (by decide) ?_)
  · exact Agree.refl _ _
  · intro y0
    intro y1
    intro y2
    split
    · refine AgreeOpt.of_some ?_
      exact sigIssue_agree.mono (by decide)
    · exact AgreeOpt.of_none

theorem execTrap_agree {x0 x1} :
    AgreeAns [.free, .regs, .events, .out, .threads, .held] x1 (execTrap x0 x1) := by
  unfold execTrap
  refine AgreeAns.of_next ?_
  refine Agree.trans ?_ (issue_agree (by decide) ?_)
  · exact Agree.refl _ _
  · intro y0
    intro y1
    intro y2
    split
    · refine AgreeOpt.of_some ?_
      exact threadFault_agree.mono (by decide)
    · exact AgreeOpt.of_none

end Sys2Proof.Machine
end

