-- ==== Sys2Proof/Laws/Frame/GreuneQueue.lean ====
section
/-!
SUPPORT. Which parts of the state each definition of Machine/GreuneQueue.lean may change.
-/

namespace Sys2Proof.Machine

theorem storeWords_agree {x0 x1 x2 x3} :
    Agree [.mem] x3 (storeWords x0 x1 x2 x3) := by
  induction x2 generalizing x1 x3 with
  | nil => exact Agree.refl _ _
  | cons w ws ih => exact (Agree.step stBytes_agree setDmemPoison_agree (by decide)).step ih (by decide)

theorem readThen_agree {l : List Part} {x0 x1 x2 x3 x4 x5} (hl : subParts [.free, .regs, .events, .out, .threads, .held] l = true)
    (h4 : ∀ y0 y1, Agree l y1 (x4 y0 y1)) :
    Agree l x5 (readThen x0 x1 x2 x3 x4 x5) := by
  unfold readThen
  refine Agree.ite ?_ ?_
  · refine Agree.step ?_ threadFault_agree (subParts_trans (by decide) hl)
    exact Agree.refl _ _
  · refine Agree.ite ?_ ?_
    · refine Agree.step ?_ threadFault_agree (subParts_trans (by decide) hl)
      exact Agree.refl _ _
    · refine Agree.ite ?_ ?_
      · refine Agree.step ?_ threadFaultFree_agree (subParts_trans (by decide) hl)
        exact Agree.refl _ _
      · refine Agree.trans ?_ (h4 _ _)
        exact Agree.refl _ _

theorem descThen_agree {l : List Part} {x0 x1 x2 x3 x4} (hl : subParts [.free, .regs, .events, .out, .threads, .held] l = true)
    (h3 : ∀ y0 y1, Agree l y1 (x3 y0 y1)) :
    Agree l x4 (descThen x0 x1 x2 x3 x4) := by
  unfold descThen
  refine Agree.trans ?_ (readThen_agree (subParts_trans (by decide) hl) ?_)
  · exact Agree.refl _ _
  · intro y0
    intro y1
    refine Agree.trans ?_ (h3 _ _)
    exact Agree.refl _ _

theorem entryThen_agree {l : List Part} {x0 x1 x2 x3 x4} (hl : subParts [.free, .regs, .events, .out, .threads, .held] l = true)
    (h3 : ∀ y0 y1, Agree l y1 (x3 y0 y1)) :
    Agree l x4 (entryThen x0 x1 x2 x3 x4) := by
  unfold entryThen
  refine Agree.trans ?_ (readThen_agree (subParts_trans (by decide) hl) ?_)
  · exact Agree.refl _ _
  · intro y0
    intro y1
    refine Agree.trans ?_ (h3 _ _)
    exact Agree.refl _ _

theorem enqRefuse_agree {x0 x1 x2 x3 x4 x5} :
    Agree [.regs, .events, .out, .threads, .held] x5 (enqRefuse x0 x1 x2 x3 x4 x5) := by
  unfold enqRefuse
  extract_lets a0
  have ha0 : Agree [Part.regs, Part.events, Part.out, Part.threads, Part.held] x5 a0 := by
    unfold a0
    refine Agree.ite ?_ ?_
    · refine Agree.trans ?_ (bumpStat_agree (by decide) ?_)
      · exact Agree.refl _ _
      · intro y1
        exact fabricOvf_agree.mono (by decide)
    · exact Agree.refl _ _
  clear_value a0
  refine Agree.step ?_ done_agree (by decide)
  refine Agree.step ?_ failWith_agree (by decide)
  assumption

theorem enqWrite_agree {x0 x1 x2 x3} :
    Agree [.regs, .queues, .events, .out, .threads, .held] x3 (enqWrite x0 x1 x2 x3) := by
  unfold enqWrite
  extract_lets a0 a1
  clear_value a0
  clear_value a1
  refine Agree.ite ?_ ?_
  · exact enqRefuse_agree.mono (by decide)
  · refine Agree.ite ?_ ?_
    · exact enqRefuse_agree.mono (by decide)
    · refine Agree.ite ?_ ?_
      · exact enqRefuse_agree.mono (by decide)
      · refine Agree.step ?_ done_agree (by decide)
        refine Agree.step ?_ failClear_agree (by decide)
        exact queueWrite_agree.mono (by decide)

theorem deqTake_agree {x0 x1 x2 x3 x4 x5 x6} :
    Agree [.regs, .queues, .events, .out, .threads, .mem, .held] x6 (deqTake x0 x1 x2 x3 x4 x5 x6) := by
  unfold deqTake
  extract_lets a0
  clear_value a0
  split
  · exact Agree.refl _ _
  · extract_lets a1 a2 a3 a4 a5 a6 a7 a8
    clear_value a1
    clear_value a2
    have ha3 : Agree [Part.regs, Part.queues, Part.events, Part.out, Part.threads, Part.mem, Part.held] x6 a3 := by
      unfold a3
      refine Agree.step ?_ syncQueue_agree (by decide)
      exact State_setQueue_agree.mono (by decide)
    clear_value a3
    have ha4 : Agree [Part.regs, Part.queues, Part.events, Part.out, Part.threads, Part.mem, Part.held] x6 a4 := by
      unfold a4
      refine Agree.step ?_ returnCredit_agree (by decide)
      assumption
    clear_value a4
    have ha5 : Agree [Part.regs, Part.queues, Part.events, Part.out, Part.threads, Part.mem, Part.held] x6 a5 := by
      unfold a5
      refine Agree.ite ?_ ?_
      · refine Agree.step ?_ State_put_agree (by decide)
        assumption
      · assumption
    clear_value a5
    have ha6 : Agree [Part.regs, Part.queues, Part.events, Part.out, Part.threads, Part.mem, Part.held] x6 a6 := by
      unfold a6
      refine Agree.step ?_ modThr_agree (by decide)
      assumption
    clear_value a6
    have ha7 : Agree [Part.regs, Part.queues, Part.events, Part.out, Part.threads, Part.mem, Part.held] x6 a7 := by
      unfold a7
      refine Agree.ite ?_ ?_
      · refine Agree.step ?_ storeWords_agree (by decide)
        assumption
      · assumption
    clear_value a7
    have ha8 : Agree [Part.regs, Part.queues, Part.events, Part.out, Part.threads, Part.mem, Part.held] x6 a8 := by
      unfold a8
      refine Agree.ite ?_ ?_
      · refine Agree.step ?_ missSet_agree (by decide)
        assumption
      · assumption
    clear_value a8
    refine Agree.ite ?_ ?_
    · refine Agree.step ?_ failWith_agree (by decide)
      assumption
    · refine Agree.step ?_ failClear_agree (by decide)
      assumption

theorem deqNow_agree {l : List Part} {x0 x1 x2 x3 x4 x5 x6 x7} (hl : subParts [.regs, .queues, .events, .out, .threads, .mem, .held] l = true)
    (h6 : ∀ y0, Agree l y0 (x6 y0)) :
    Agree l x7 (deqNow x0 x1 x2 x3 x4 x5 x6 x7) := by
  unfold deqNow
  split
  · refine Agree.step ?_ threadFault_agree (subParts_trans (by decide) hl)
    exact Agree.refl _ _
  · refine Agree.trans ?_ (h6 _)
    refine Agree.step ?_ deqTake_agree (subParts_trans (by decide) hl)
    exact Agree.refl _ _

theorem deqIssue_agree {x0 x1 x2 x3 x4 x5 x6} :
    Agree [.regs, .queues, .events, .out, .threads, .mem, .held] x6 (deqIssue x0 x1 x2 x3 x4 x5 x6) := by
  unfold deqIssue
  refine Agree.ite ?_ ?_
  · exact threadFault_agree.mono (by decide)
  · refine Agree.ite ?_ ?_
    · refine Agree.step ?_ done_agree (by decide)
      refine Agree.step ?_ failWith_agree (by decide)
      refine Agree.ite ?_ ?_
      · exact missSet_agree.mono (by decide)
      · exact Agree.refl _ _
    · refine Agree.ite ?_ ?_
      · refine Agree.step ?_ done_agree (by decide)
        refine Agree.step ?_ failWith_agree (by decide)
        refine Agree.ite ?_ ?_
        · exact missSet_agree.mono (by decide)
        · exact Agree.refl _ _
      · refine Agree.ite ?_ ?_
        · refine Agree.ite ?_ ?_
          · refine Agree.step ?_ done_agree (by decide)
            refine Agree.step ?_ failClear_agree (by decide)
            exact missSet_agree.mono (by decide)
          · exact enterWait_agree.mono (by decide)
        · refine Agree.trans ?_ (deqNow_agree (by decide) ?_)
          · exact Agree.refl _ _
          · intro y0
            exact done_agree.mono (by decide)

theorem execDeq_agree {x0 x1} :
    AgreeAns [.free, .regs, .queues, .events, .out, .threads, .mem, .held] x1 (execDeq x0 x1) := by
  unfold execDeq
  refine AgreeAns.of_next ?_
  refine Agree.trans ?_ (issue_agree (by decide) ?_)
  · exact Agree.refl _ _
  · intro y0
    intro y1
    intro y2
    extract_lets a3
    clear_value a3
    split
    · refine AgreeOpt.of_some ?_
      exact deqIssue_agree.mono (by decide)
    · exact AgreeOpt.of_none

theorem execEnq_agree {x0 x1} :
    AgreeAns [.free, .regs, .queues, .events, .out, .threads, .held] x1 (execEnq x0 x1) := by
  unfold execEnq
  refine AgreeAns.of_next ?_
  refine Agree.trans ?_ (issue_agree (by decide) ?_)
  · exact Agree.refl _ _
  · intro y0
    intro y1
    intro y2
    extract_lets a3
    clear_value a3
    split
    · extract_lets a4 a5
      clear_value a4
      clear_value a5
      refine AgreeOpt.of_some ?_
      refine Agree.ite ?_ ?_
      · exact threadFault_agree.mono (by decide)
      · refine Agree.trans ?_ (entryThen_agree (by decide) ?_)
        · exact Agree.refl _ _
        · intro y6
          intro y7
          refine Agree.trans ?_ (entryThen_agree (by decide) ?_)
          · exact Agree.refl _ _
          · intro y8
            intro y9
            exact enqWrite_agree.mono (by decide)
    · exact AgreeOpt.of_none

theorem execWakeEvent_agree {x0 x1} :
    AgreeAns [.regs, .queues, .events, .out, .threads, .mem, .held] x1 (execWakeEvent x0 x1) := by
  unfold execWakeEvent
  split
  · extract_lets a0
    clear_value a0
    refine AgreeAns.ite ?_ ?_
    · refine AgreeAns.of_next ?_
      exact Agree.refl _ _
    · refine AgreeAns.of_next ?_
      refine Agree.step ?_ exitWait_agree (by decide)
      exact takeWake_agree.mono (by decide)
  · refine AgreeAns.ite ?_ ?_
    · refine AgreeAns.of_next ?_
      exact Agree.refl _ _
    · refine AgreeAns.of_next ?_
      refine Agree.trans ?_ (deqNow_agree (by decide) ?_)
      · exact Agree.refl _ _
      · intro y1
        exact exitWait_agree.mono (by decide)
  · refine AgreeAns.of_next ?_
    exact Agree.refl _ _

end Sys2Proof.Machine
end

