-- ==== Sys2Proof/Laws/Frame/Line.lean ====
section
/-!
SUPPORT. Which parts of the state each definition of Machine/Line.lean may change.
-/

namespace Sys2Proof.Machine

theorem rungDown_agree {x0 x1} :
    Agree [.regs, .events, .out, .ncp, .held] x1 (rungDown x0 x1) := by
  unfold rungDown
  refine Agree.step ?_ occur_agree (by decide)
  exact setCtxBits_agree.mono (by decide)

theorem setXmit_agree {x0 x1 x2} :
    Agree [.line] x2 (setXmit x0 x1 x2) := by
  unfold setXmit
  extract_lets a0
  clear_value a0
  refine Agree.mk' ?_ (by
    intro p hp
    cases p <;> first | exact (hp (by decide)).elim | rfl | exact ⟨rfl, rfl⟩ | exact ⟨rfl, rfl, rfl⟩)
  exact Agree.refl _ _

theorem setChain_agree {x0 x1 x2} :
    Agree [.line] x2 (setChain x0 x1 x2) := by
  unfold setChain
  extract_lets a0
  clear_value a0
  refine Agree.mk' ?_ (by
    intro p hp
    cases p <;> first | exact (hp (by decide)).elim | rfl | exact ⟨rfl, rfl⟩ | exact ⟨rfl, rfl, rfl⟩)
  exact Agree.refl _ _

theorem rfOvf_agree {x0} :
    Agree [.regs, .events, .out, .held] x0 (rfOvf x0) := by
  unfold rfOvf
  exact occur_agree.mono (by decide)

theorem setTrk_agree {x0 x1 x2} :
    Agree [.line] x2 (setTrk x0 x1 x2) := by
  unfold setTrk
  extract_lets a0
  clear_value a0
  refine Agree.mk' ?_ (by
    intro p hp
    cases p <;> first | exact (hp (by decide)).elim | rfl | exact ⟨rfl, rfl⟩ | exact ⟨rfl, rfl, rfl⟩)
  exact Agree.refl _ _

theorem applyPerturb_agree {x0 x1 x2} :
    Agree [.ncp] x2 (applyPerturb x0 x1 x2) := by
  unfold applyPerturb
  extract_lets a0 a1
  clear_value a0
  have ha1 : Agree [Part.ncp] x2 a1 := by
    unfold a1
    exact setCtxBits_agree.mono (by decide)
  clear_value a1
  refine Agree.ite ?_ ?_
  · exact Agree.refl _ _
  · refine Agree.ite ?_ ?_
    · refine Agree.step ?_ setCtxBits_agree (by decide)
      assumption
    · assumption

theorem applyMark_agree {x0 x1 x2} :
    Agree [.ncp] x2 (applyMark x0 x1 x2) := by
  unfold applyMark
  refine Agree.ite ?_ ?_
  · refine Agree.step ?_ setCtxBits_agree (by decide)
    exact setCtxBits_agree.mono (by decide)
  · exact Agree.refl _ _

theorem linkMeans_agree {x0 x1 x2 x3} :
    Agree [.ncp] x3 (linkMeans x0 x1 x2 x3) := by
  unfold linkMeans
  extract_lets a0 a1
  clear_value a0
  clear_value a1
  refine Agree.ite ?_ ?_
  · exact Agree.refl _ _
  · refine Agree.step ?_ setCtxBits_agree (by decide)
    exact setCtxBits_agree.mono (by decide)

theorem linkEnter_agree {x0 x1 x2 x3 x4 x5} :
    Agree [.ncp, .line] x5 (linkEnter x0 x1 x2 x3 x4 x5) := by
  unfold linkEnter
  extract_lets a0 a1 a2 a3 a4 a5 a6 a7
  clear_value a0
  clear_value a1
  clear_value a2
  clear_value a3
  clear_value a4
  have ha5 : Agree [Part.ncp, Part.line] x5 a5 := by
    unfold a5
    refine Agree.mk' ?_ (by
      intro p hp
      cases p <;> first | exact (hp (by decide)).elim | rfl | exact ⟨rfl, rfl⟩ | exact ⟨rfl, rfl, rfl⟩)
    exact Agree.refl _ _
  clear_value a5
  have ha6 : Agree [Part.ncp, Part.line] x5 a6 := by
    unfold a6
    refine Agree.step ?_ setCtxBits_agree (by decide)
    refine Agree.step ?_ linkMeans_agree (by decide)
    assumption
  clear_value a6
  have ha7 : Agree [Part.ncp, Part.line] x5 a7 := by
    unfold a7
    refine Agree.step ?_ setCtx_agree (by decide)
    assumption
  clear_value a7
  refine Agree.step ?_ setCtx_agree (by decide)
  assumption

theorem linkRx_agree {x0 x1 x2 x3 x4 x5} :
    Agree [.ncp, .line] x5 (linkRx x0 x1 x2 x3 x4 x5) := by
  unfold linkRx
  exact linkEnter_agree.mono (by decide)

theorem linkOutcome_agree {x0 x1 x2 x3 x4} :
    Agree [.ncp, .line] x4 (linkOutcome x0 x1 x2 x3 x4) := by
  unfold linkOutcome
  exact linkEnter_agree.mono (by decide)

theorem applyUnacked_agree {x0 x1 x2} :
    Agree [.regs, .events, .out, .ncp, .held] x2 (applyUnacked x0 x1 x2) := by
  unfold applyUnacked
  extract_lets a0 a1
  clear_value a0
  have ha1 : Agree [Part.regs, Part.events, Part.out, Part.ncp, Part.held] x2 a1 := by
    unfold a1
    refine Agree.step ?_ setCtxBits_agree (by decide)
    exact setCtxBits_agree.mono (by decide)
  clear_value a1
  refine Agree.ite ?_ ?_
  · refine Agree.step ?_ rungDown_agree (by decide)
    assumption
  · assumption

theorem applyAcked_agree {x0 x1 x2 x3} :
    Agree [.regs, .events, .out, .ncp, .held] x3 (applyAcked x0 x1 x2 x3) := by
  unfold applyAcked
  extract_lets a0 a1 a2 a3
  have ha0 : Agree [Part.regs, Part.events, Part.out, Part.ncp, Part.held] x3 a0 := by
    unfold a0
    exact setCtxBits_agree.mono (by decide)
  clear_value a0
  clear_value a1
  clear_value a2
  clear_value a3
  split
  · assumption
  · extract_lets a4 a5
    clear_value a4
    clear_value a5
    refine Agree.ite ?_ ?_
    · refine Agree.step ?_ occur_agree (by decide)
      refine Agree.step ?_ setCtxBits_agree (by decide)
      refine Agree.step ?_ setCtxBits_agree (by decide)
      assumption
    · refine Agree.step ?_ setCtxBits_agree (by decide)
      assumption

theorem tnlCause_agree {x0 x1} :
    Agree [.regs, .events, .out, .held] x1 (tnlCause x0 x1) := by
  unfold tnlCause
  extract_lets a0
  have ha0 : Agree [Part.regs, Part.events, Part.out, Part.held] x1 a0 := by
    unfold a0
    exact State_put_agree.mono (by decide)
  clear_value a0
  refine Agree.ite ?_ ?_
  · refine Agree.step ?_ occur_agree (by decide)
    assumption
  · assumption

theorem tnlOvf_agree {x0} :
    Agree [.regs, .events, .out, .held] x0 (tnlOvf x0) := by
  unfold tnlOvf
  exact tnlCause_agree.mono (by decide)

theorem macOvf_agree {x0} :
    Agree [.regs, .events, .out, .held] x0 (macOvf x0) := by
  unfold macOvf
  exact occur_agree.mono (by decide)

theorem setTnl_agree {x0 x1} :
    Agree [.held, .tnl] x1 (setTnl x0 x1) := by
  unfold setTnl
  refine Agree.mk' ?_ (by
    intro p hp
    cases p <;> first | exact (hp (by decide)).elim | rfl | exact ⟨rfl, rfl⟩ | exact ⟨rfl, rfl, rfl⟩)
  exact Agree.refl _ _

theorem phyOvf_agree {x0} :
    Agree [.regs, .events, .out, .held] x0 (phyOvf x0) := by
  unfold phyOvf
  exact occur_agree.mono (by decide)

theorem lineDieWrite_agree {l : List Part} {x0 x1} (hl : subParts [.regs, .events, .out, .held] l = true)
    (h0 : ∀ y0, Agree l y0 (x0 y0)) :
    Agree l x1 (lineDieWrite x0 x1) := by
  unfold lineDieWrite
  refine Agree.ite ?_ ?_
  · refine Agree.trans ?_ (bumpStat_agree (subParts_trans (by decide) hl) ?_)
    · exact Agree.refl _ _
    · intro y0
      refine Agree.step ?_ tnlOvf_agree (subParts_trans (by decide) hl)
      exact Agree.refl _ _
  · refine Agree.trans ?_ (h0 _)
    exact Agree.refl _ _

theorem deliverHeld_agree {x0} :
    Agree [.regs, .events, .out, .held, .tnl] x0 (deliverHeld x0) := by
  unfold deliverHeld
  extract_lets a0 a1 a2 a3
  clear_value a0
  clear_value a1
  have ha2 : Agree [Part.regs, Part.events, Part.out, Part.held, Part.tnl] x0 a2 := by
    unfold a2
    exact setTnl_agree.mono (by decide)
  clear_value a2
  have ha3 : Agree [Part.regs, Part.events, Part.out, Part.held, Part.tnl] x0 a3 := by
    unfold a3
    refine Agree.foldl ?_ ?_
    · intro y4
      intro y5
      exact occurNow_agree.mono (by decide)
    · assumption
  clear_value a3
  refine Agree.ite ?_ ?_
  · refine Agree.step ?_ tnlCause_agree (by decide)
    assumption
  · assumption

end Sys2Proof.Machine
end

