-- ==== Sys2Proof/Laws/Frame/Radio.lean ====
section
/-!
SUPPORT. Which parts of the state each definition of Machine/Radio.lean may change.
-/

namespace Sys2Proof.Machine

theorem syncDuty_agree {x0} :
    Agree [.regs, .events, .out, .radio, .held] x0 (syncDuty x0) := by
  unfold syncDuty
  refine Agree.foldUpto ?_ ?_
  · intro y0
    intro y1
    extract_lets a2 a3 a4 a5
    clear_value a2
    have ha3 : Agree [Part.regs, Part.events, Part.out, Part.radio, Part.held] y1 a3 := by
      unfold a3
      exact State_put_agree.mono (by decide)
    clear_value a3
    clear_value a5
    refine Agree.ite ?_ ?_
    · refine Agree.ite ?_ ?_
      · assumption
      · refine Agree.step ?_ occur_agree (by decide)
        refine Agree.mk' ?_ (by
          intro p hp
          cases p <;> first | exact (hp (by decide)).elim | rfl | exact ⟨rfl, rfl⟩ | exact ⟨rfl, rfl, rfl⟩)
        assumption
    · refine Agree.ite ?_ ?_
      · refine Agree.mk' ?_ (by
          intro p hp
          cases p <;> first | exact (hp (by decide)).elim | rfl | exact ⟨rfl, rfl⟩ | exact ⟨rfl, rfl, rfl⟩)
        assumption
      · assumption
  · exact Agree.refl _ _

theorem unchargeDuty_agree {x0 x1 x2 x3} :
    Agree [.regs, .events, .out, .radio, .held] x3 (unchargeDuty x0 x1 x2 x3) := by
  unfold unchargeDuty
  refine Agree.ite ?_ ?_
  · refine Agree.step ?_ syncDuty_agree (by decide)
    refine Agree.foldl ?_ ?_
    · intro y0
      intro y1
      extract_lets a2 a3 a4
      clear_value a2
      clear_value a3
      clear_value a4
      refine Agree.mk' ?_ (by
        intro p hp
        cases p <;> first | exact (hp (by decide)).elim | rfl | exact ⟨rfl, rfl⟩ | exact ⟨rfl, rfl, rfl⟩)
      exact Agree.refl _ _
    · exact Agree.refl _ _
  · exact Agree.refl _ _

theorem countDutyDeny_agree {x0 x1} :
    Agree [.regs, .events, .out, .held] x1 (countDutyDeny x0 x1) := by
  unfold countDutyDeny
  extract_lets a0
  have ha0 : Agree [Part.regs, Part.events, Part.out, Part.held] x1 a0 := by
    unfold a0
    refine Agree.trans ?_ (bumpStat_agree (by decide) ?_)
    · exact Agree.refl _ _
    · intro y1
      exact rfOvf_agree.mono (by decide)
  clear_value a0
  refine Agree.step ?_ occur_agree (by decide)
  refine Agree.foldl ?_ ?_
  · intro y2
    intro y3
    refine Agree.trans ?_ (bumpStat_agree (by decide) ?_)
    · exact Agree.refl _ _
    · intro y4
      exact rfOvf_agree.mono (by decide)
  · assumption

theorem chargeDuty_agree {x0 x1 x2} :
    Agree [.regs, .events, .out, .radio, .held] x2 (chargeDuty x0 x1 x2) := by
  unfold chargeDuty
  refine Agree.step ?_ syncDuty_agree (by decide)
  refine Agree.foldl ?_ ?_
  · intro y0
    intro y1
    extract_lets a2 a3 a4
    clear_value a2
    clear_value a3
    clear_value a4
    refine Agree.mk' ?_ (by
      intro p hp
      cases p <;> first | exact (hp (by decide)).elim | rfl | exact ⟨rfl, rfl⟩ | exact ⟨rfl, rfl, rfl⟩)
    exact Agree.refl _ _
  · exact Agree.refl _ _

theorem setConn_agree {x0 x1 x2 x3 x4} :
    Agree [.ncp] x4 (setConn x0 x1 x2 x3 x4) := by
  unfold setConn
  exact setCtx_agree.mono (by decide)

theorem setInstant_agree {x0 x1 x2 x3} :
    Agree [.ncp] x3 (setInstant x0 x1 x2 x3) := by
  unfold setInstant
  exact setCtxPair_agree.mono (by decide)

theorem applyMiss_agree {x0 x1 x2} :
    Agree [.regs, .events, .out, .ncp, .held] x2 (applyMiss x0 x1 x2) := by
  unfold applyMiss
  extract_lets a0 a1 a2
  have ha0 : Agree [Part.regs, Part.events, Part.out, Part.ncp, Part.held] x2 a0 := by
    unfold a0
    refine Agree.step ?_ ctxStat_agree (by decide)
    refine Agree.trans ?_ (bumpStat_agree (by decide) ?_)
    · exact Agree.refl _ _
    · intro y3
      exact rfOvf_agree.mono (by decide)
  clear_value a0
  clear_value a1
  have ha2 : Agree [Part.regs, Part.events, Part.out, Part.ncp, Part.held] x2 a2 := by
    unfold a2
    refine Agree.step ?_ setInstant_agree (by decide)
    refine Agree.step ?_ setConn_agree (by decide)
    assumption
  clear_value a2
  refine Agree.ite ?_ ?_
  · exact Agree.refl _ _
  · refine Agree.ite ?_ ?_
    · refine Agree.step ?_ occur_agree (by decide)
      refine Agree.step ?_ setConn_agree (by decide)
      assumption
    · refine Agree.ite ?_ ?_
      · refine Agree.step ?_ occur_agree (by decide)
        refine Agree.step ?_ setConn_agree (by decide)
        assumption
      · refine Agree.step ?_ occur_agree (by decide)
        refine Agree.trans ?_ (bumpStat_agree (by decide) ?_)
        · assumption
        · intro y4
          exact rfOvf_agree.mono (by decide)

theorem applyEvtNext_agree {x0 x1} :
    Agree [.ncp] x1 (applyEvtNext x0 x1) := by
  unfold applyEvtNext
  extract_lets a0
  have ha0 : Agree [Part.ncp] x1 a0 := by
    unfold a0
    exact setCtx_agree.mono (by decide)
  clear_value a0
  refine Agree.ite ?_ ?_
  · exact Agree.refl _ _
  · refine Agree.step ?_ setInstant_agree (by decide)
    assumption

theorem restartSup_agree {x0 x1} :
    Agree [.radio] x1 (restartSup x0 x1) := by
  unfold restartSup
  extract_lets a0
  clear_value a0
  refine Agree.mk' ?_ (by
    intro p hp
    cases p <;> first | exact (hp (by decide)).elim | rfl | exact ⟨rfl, rfl⟩ | exact ⟨rfl, rfl, rfl⟩)
  exact Agree.refl _ _

theorem applyConnect_agree {x0 x1 x2 x3 x4 x5} :
    Agree [.regs, .events, .out, .ncp, .radio, .held] x5 (applyConnect x0 x1 x2 x3 x4 x5) := by
  unfold applyConnect
  extract_lets a0 a1 a2 a3 a4 a5
  have ha0 : Agree [Part.regs, Part.events, Part.out, Part.ncp, Part.radio, Part.held] x5 a0 := by
    unfold a0
    refine Agree.foldUpto ?_ ?_
    · intro y6
      intro y7
      exact setCtx_agree.mono (by decide)
    · exact Agree.refl _ _
  clear_value a0
  have ha1 : Agree [Part.regs, Part.events, Part.out, Part.ncp, Part.radio, Part.held] x5 a1 := by
    unfold a1
    refine Agree.step ?_ setCtxBits_agree (by decide)
    refine Agree.step ?_ setCtxBits_agree (by decide)
    assumption
  clear_value a1
  clear_value a2
  have ha3 : Agree [Part.regs, Part.events, Part.out, Part.ncp, Part.radio, Part.held] x5 a3 := by
    unfold a3
    refine Agree.step ?_ setInstant_agree (by decide)
    refine Agree.step ?_ setConn_agree (by decide)
    assumption
  clear_value a3
  have ha4 : Agree [Part.regs, Part.events, Part.out, Part.ncp, Part.radio, Part.held] x5 a4 := by
    unfold a4
    refine Agree.step ?_ setCtx_agree (by decide)
    assumption
  clear_value a4
  have ha5 : Agree [Part.regs, Part.events, Part.out, Part.ncp, Part.radio, Part.held] x5 a5 := by
    unfold a5
    refine Agree.step ?_ setInstant_agree (by decide)
    assumption
  clear_value a5
  refine Agree.step ?_ occur_agree (by decide)
  refine Agree.step ?_ restartSup_agree (by decide)
  assumption

theorem stopSup_agree {x0 x1} :
    Agree [.radio] x1 (stopSup x0 x1) := by
  unfold stopSup
  extract_lets a0
  clear_value a0
  refine Agree.mk' ?_ (by
    intro p hp
    cases p <;> first | exact (hp (by decide)).elim | rfl | exact ⟨rfl, rfl⟩ | exact ⟨rfl, rfl, rfl⟩)
  exact Agree.refl _ _

theorem clearConn_agree {x0 x1} :
    Agree [.ncp, .radio] x1 (clearConn x0 x1) := by
  unfold clearConn
  extract_lets a0
  have ha0 : Agree [Part.ncp, Part.radio] x1 a0 := by
    unfold a0
    refine Agree.foldUpto ?_ ?_
    · intro y1
      intro y2
      exact setCtx_agree.mono (by decide)
    · exact Agree.refl _ _
  clear_value a0
  refine Agree.step ?_ stopSup_agree (by decide)
  refine Agree.step ?_ setCtx_agree (by decide)
  refine Agree.step ?_ setInstant_agree (by decide)
  refine Agree.step ?_ setConn_agree (by decide)
  assumption

theorem applyDisconnect_agree {x0 x1} :
    Agree [.regs, .events, .out, .ncp, .radio, .held] x1 (applyDisconnect x0 x1) := by
  unfold applyDisconnect
  refine Agree.ite ?_ ?_
  · exact Agree.refl _ _
  · refine Agree.step ?_ occur_agree (by decide)
    exact clearConn_agree.mono (by decide)

theorem applyConnLost_agree {x0 x1} :
    Agree [.regs, .events, .out, .ncp, .radio, .held] x1 (applyConnLost x0 x1) := by
  unfold applyConnLost
  refine Agree.ite ?_ ?_
  · exact Agree.refl _ _
  · refine Agree.step ?_ occur_agree (by decide)
    refine Agree.trans ?_ (bumpStat_agree (by decide) ?_)
    · exact clearConn_agree.mono (by decide)
    · intro y0
      exact rfOvf_agree.mono (by decide)

theorem applySync_agree {x0 x1 x2} :
    Agree [.ncp, .radio] x2 (applySync x0 x1 x2) := by
  unfold applySync
  refine Agree.ite ?_ ?_
  · exact Agree.refl _ _
  · refine Agree.step ?_ restartSup_agree (by decide)
    refine Agree.step ?_ setConn_agree (by decide)
    exact setInstant_agree.mono (by decide)

theorem applyUpd_agree {x0 x1 x2} :
    Agree [.regs, .events, .out, .ncp, .line, .radio, .held] x2 (applyUpd x0 x1 x2) := by
  unfold applyUpd
  split
  · exact ctxStat_agree.mono (by decide)
  · exact applyPerturb_agree.mono (by decide)
  · exact applyMark_agree.mono (by decide)
  · refine Agree.foldl ?_ ?_
    · intro y0
      intro y1
      exact linkRx_agree.mono (by decide)
    · exact Agree.refl _ _
  · exact linkOutcome_agree.mono (by decide)
  · exact applyUnacked_agree.mono (by decide)
  · exact applyAcked_agree.mono (by decide)
  · exact setCtxBits_agree.mono (by decide)
  · refine Agree.step ?_ setCtx_agree (by decide)
    exact setCtx_agree.mono (by decide)
  · exact applyMiss_agree.mono (by decide)
  · exact applyEvtNext_agree.mono (by decide)
  · exact applyConnect_agree.mono (by decide)
  · exact applyDisconnect_agree.mono (by decide)
  · exact applyConnLost_agree.mono (by decide)
  · exact applySync_agree.mono (by decide)

theorem update_agree {x0 x1 x2} :
    Agree [.regs, .events, .out, .ncp, .line, .radio, .held] x2 (update x0 x1 x2) := by
  unfold update
  extract_lets a0
  clear_value a0
  refine Agree.ite ?_ ?_
  · exact applyUpd_agree.mono (by decide)
  · refine Agree.ite ?_ ?_
    · exact Agree.refl _ _
    · refine Agree.step ?_ requestMiss_agree (by decide)
      refine Agree.mk' ?_ (by
        intro p hp
        cases p <;> first | exact (hp (by decide)).elim | rfl | exact ⟨rfl, rfl⟩ | exact ⟨rfl, rfl, rfl⟩)
      exact Agree.refl _ _

theorem coldLayout_agree {x0 x1} :
    Agree [.radio] x1 (coldLayout x0 x1) := by
  unfold coldLayout
  extract_lets a0 a1
  clear_value a0
  clear_value a1
  refine Agree.ite ?_ ?_
  · exact Agree.refl _ _
  · refine Agree.mk' ?_ (by
      intro p hp
      cases p <;> first | exact (hp (by decide)).elim | rfl | exact ⟨rfl, rfl⟩ | exact ⟨rfl, rfl, rfl⟩)
    exact Agree.refl _ _

end Sys2Proof.Machine
end

