-- ==== Sys2Proof/Laws/Frame/Issue.lean ====
section
/-!
SUPPORT. Which parts of the state each definition of Machine/Issue.lean may change.
-/

namespace Sys2Proof.Machine

theorem clearActFlags_agree {x0 x1} :
    Agree [.threads] x1 (clearActFlags x0 x1) := by
  unfold clearActFlags
  exact modThr_agree.mono (by decide)

theorem actFail_agree {x0 x1 x2 x3 x4} :
    Agree [.threads] x4 (actFail x0 x1 x2 x3 x4) := by
  unfold actFail
  refine Agree.step ?_ done_agree (by decide)
  refine Agree.step ?_ failWith_agree (by decide)
  exact clearActFlags_agree.mono (by decide)

theorem actTooLate_agree {x0 x1 x2 x3 x4} :
    Agree [.regs, .threads] x4 (actTooLate x0 x1 x2 x3 x4) := by
  unfold actTooLate
  refine Agree.step ?_ done_agree (by decide)
  refine Agree.step ?_ failWith_agree (by decide)
  refine Agree.step ?_ setLate_agree (by decide)
  exact clearActFlags_agree.mono (by decide)

theorem returnAirtime_agree {x0 x1} :
    Agree [.regs, .events, .out, .radio, .held] x1 (returnAirtime x0 x1) := by
  unfold returnAirtime
  split
  · refine Agree.ite ?_ ?_
    · exact Agree.refl _ _
    · exact unchargeDuty_agree.mono (by decide)
  · exact Agree.refl _ _

theorem lateUnsent_agree {x0 x1 x2} :
    Agree [.regs, .events, .out, .threads, .pwr, .radio, .held] x2 (lateUnsent x0 x1 x2) := by
  unfold lateUnsent
  refine Agree.step ?_ returnAirtime_agree (by decide)
  exact actLate_agree.mono (by decide)

theorem endUnsent_agree {x0 x1 x2 x3 x4} :
    Agree [.regs, .events, .out, .threads, .pwr, .radio, .held] x4 (endUnsent x0 x1 x2 x3 x4) := by
  unfold endUnsent
  extract_lets a0
  clear_value a0
  refine Agree.step ?_ returnAirtime_agree (by decide)
  exact endAct_agree.mono (by decide)

theorem prepare_agree {x0 x1 x2} :
    Agree [.regs, .events, .out, .threads, .pwr, .ncp, .radio, .held] x2 (prepare x0 x1 x2) := by
  unfold prepare
  extract_lets a0
  clear_value a0
  refine Agree.ite ?_ ?_
  · exact Agree.refl _ _
  · split
    · exact State_setAct_agree.mono (by decide)
    · refine Agree.ite ?_ ?_
      · exact Agree.refl _ _
      · refine Agree.ite ?_ ?_
        · refine Agree.step ?_ State_setAct_agree (by decide)
          exact touch_agree.mono (by decide)
        · split
          · exact endUnsent_agree.mono (by decide)
          · extract_lets a1
            clear_value a1
            refine Agree.ite ?_ ?_
            · refine Agree.step ?_ endUnsent_agree (by decide)
              exact rekeyRefuse_agree.mono (by decide)
            · refine Agree.ite ?_ ?_
              · exact makeDurable_agree.mono (by decide)
              · refine Agree.ite ?_ ?_
                · exact Agree.refl _ _
                · refine Agree.step ?_ State_setAct_agree (by decide)
                  exact takeFc_agree.mono (by decide)

theorem makePending_agree {x0 x1 x2 x3} :
    Agree [.regs, .events, .out, .threads, .pwr, .ncp, .radio, .held] x3 (makePending x0 x1 x2 x3) := by
  unfold makePending
  extract_lets a0 a1 a2
  clear_value a0
  have ha1 : Agree [Part.regs, Part.events, Part.out, Part.threads, Part.pwr, Part.ncp, Part.radio, Part.held] x3 a1 := by
    unfold a1
    exact modThr_agree.mono (by decide)
  clear_value a1
  have ha2 : Agree [Part.regs, Part.events, Part.out, Part.threads, Part.pwr, Part.ncp, Part.radio, Part.held] x3 a2 := by
    unfold a2
    split
    · refine Agree.step ?_ requestMiss_agree (by decide)
      assumption
    · assumption
  clear_value a2
  refine Agree.ite ?_ ?_
  · refine Agree.step ?_ lateUnsent_agree (by decide)
    assumption
  · refine Agree.step ?_ prepare_agree (by decide)
    assumption

theorem countKeyRefusal_agree {x0 x1} :
    Agree [.regs, .events, .out, .held] x1 (countKeyRefusal x0 x1) := by
  unfold countKeyRefusal
  refine Agree.ite ?_ ?_
  · exact rekeyRefuse_agree.mono (by decide)
  · exact Agree.refl _ _

theorem actAccept_agree {l : List Part} {x0 x1 x2 x3 x4 x5} (hl : subParts [.regs, .events, .out, .threads, .pwr, .ncp, .radio, .held] l = true)
    (h4 : ∀ y0, Agree l y0 (x4 y0)) :
    Agree l x5 (actAccept x0 x1 x2 x3 x4 x5) := by
  unfold actAccept
  extract_lets a0
  clear_value a0
  refine Agree.ite ?_ ?_
  · refine Agree.trans ?_ (h4 _)
    refine Agree.step ?_ makePending_agree (subParts_trans (by decide) hl)
    refine Agree.step ?_ clearActFlags_agree (subParts_trans (by decide) hl)
    exact Agree.refl _ _
  · refine Agree.trans ?_ (h4 _)
    refine Agree.step ?_ failWith_agree (subParts_trans (by decide) hl)
    refine Agree.step ?_ clearActFlags_agree (subParts_trans (by decide) hl)
    refine Agree.step ?_ countKeyRefusal_agree (subParts_trans (by decide) hl)
    refine Agree.step ?_ returnAirtime_agree (subParts_trans (by decide) hl)
    refine Agree.step ?_ releaseGrant_agree (subParts_trans (by decide) hl)
    exact Agree.refl _ _

theorem actDeny_agree {x0 x1 x2 x3 x4} :
    Agree [.threads] x4 (actDeny x0 x1 x2 x3 x4) := by
  unfold actDeny
  refine Agree.step ?_ done_agree (by decide)
  refine Agree.step ?_ denyWith_agree (by decide)
  exact clearActFlags_agree.mono (by decide)

theorem actGrant_agree {x0 x1 x2 x3 x4 x5 x6} :
    Agree [.regs, .events, .out, .threads, .pwr, .ncp, .radio, .held] x6 (actGrant x0 x1 x2 x3 x4 x5 x6) := by
  unfold actGrant
  refine Agree.ite ?_ ?_
  · refine Agree.trans ?_ (actAccept_agree (by decide) ?_)
    · exact giveGrant_agree.mono (by decide)
    · intro y0
      exact done_agree.mono (by decide)
  · refine Agree.ite ?_ ?_
    · refine Agree.step ?_ actDeny_agree (by decide)
      refine Agree.step ?_ returnAirtime_agree (by decide)
      exact countDeny_agree.mono (by decide)
    · refine Agree.step ?_ enterWait_agree (by decide)
      exact queueGrant_agree.mono (by decide)

theorem rxGrant_agree {x0 x1 x2 x3 x4 x5 x6 x7} :
    Agree [.regs, .events, .out, .threads, .pwr, .ncp, .radio, .held] x7 (rxGrant x0 x1 x2 x3 x4 x5 x6 x7) := by
  unfold rxGrant
  refine Agree.ite ?_ ?_
  · exact actFail_agree.mono (by decide)
  · exact actGrant_agree.mono (by decide)

theorem txGrant_agree {x0 x1 x2 x3 x4 x5 x6} :
    Agree [.regs, .events, .out, .threads, .pwr, .ncp, .radio, .held] x6 (txGrant x0 x1 x2 x3 x4 x5 x6) := by
  unfold txGrant
  refine Agree.ite ?_ ?_
  · refine Agree.trans ?_ (actAccept_agree (by decide) ?_)
    · exact giveGrant_agree.mono (by decide)
    · intro y0
      exact done_agree.mono (by decide)
  · refine Agree.ite ?_ ?_
    · refine Agree.step ?_ actFail_agree (by decide)
      exact returnAirtime_agree.mono (by decide)
    · exact actGrant_agree.mono (by decide)

theorem endSent_agree {x0 x1 x2 x3 x4} :
    Agree [.threads, .pwr] x4 (endSent x0 x1 x2 x3 x4) := by
  unfold endSent
  exact endAct_agree.mono (by decide)

theorem payloadThen_agree {l : List Part} {x0 x1 x2 x3 x4} (hl : subParts [.free, .regs, .events, .out, .threads, .held] l = true)
    (h3 : ∀ y0 y1, Agree l y1 (x3 y0 y1)) :
    Agree l x4 (payloadThen x0 x1 x2 x3 x4) := by
  unfold payloadThen
  refine Agree.ite ?_ ?_
  · refine Agree.step ?_ threadFault_agree (subParts_trans (by decide) hl)
    exact Agree.refl _ _
  · refine Agree.ite ?_ ?_
    · refine Agree.step ?_ threadFaultFree_agree (subParts_trans (by decide) hl)
      exact Agree.refl _ _
    · refine Agree.trans ?_ (h3 _ _)
      exact Agree.refl _ _

theorem prepareAll_agree {x0} :
    Agree [.regs, .events, .out, .threads, .pwr, .ncp, .radio, .held] x0 (prepareAll x0) := by
  unfold prepareAll
  refine Agree.forActs ?_ ?_
  · intro y0
    intro y1
    intro y2
    exact prepare_agree.mono (by decide)
  · exact Agree.refl _ _

theorem ownThen_agree {l : List Part} {x0 x1 x2 x3 x4} (hl : subParts [.free, .regs, .events, .out, .threads, .held] l = true)
    (h3 : ∀ y0, Agree l y0 (x3 y0)) :
    Agree l x4 (ownThen x0 x1 x2 x3 x4) := by
  unfold ownThen
  refine Agree.ite ?_ ?_
  · refine Agree.step ?_ threadFaultFree_agree (subParts_trans (by decide) hl)
    exact Agree.refl _ _
  · split
    · refine Agree.ite ?_ ?_
      · refine Agree.trans ?_ (h3 _)
        exact Agree.refl _ _
      · refine Agree.step ?_ threadFault_agree (subParts_trans (by decide) hl)
        exact Agree.refl _ _
    · refine Agree.trans ?_ (h3 _)
      exact Agree.refl _ _

end Sys2Proof.Machine
end

