-- ==== Sys2Proof/Laws/Frame/LineIssue.lean ====
section
/-!
SUPPORT. Which parts of the state each definition of Machine/LineIssue.lean may change.
-/

namespace Sys2Proof.Machine

theorem rxwDesc_agree {x0 x1 x2 x3} :
    Agree [.free, .regs, .events, .out, .threads, .pwr, .ncp, .radio, .held] x3 (rxwDesc x0 x1 x2 x3) := by
  unfold rxwDesc
  extract_lets a0 a1 a2 a3 a4 a5
  clear_value a0
  clear_value a1
  clear_value a2
  have ha3 : Agree [Part.free, Part.regs, Part.events, Part.out, Part.threads, Part.pwr, Part.ncp, Part.radio, Part.held] x3 a3 := by
    unfold a3
    refine Agree.ite ?_ ?_
    · exact State_drew_agree.mono (by decide)
    · exact Agree.refl _ _
  clear_value a3
  clear_value a4
  clear_value a5
  refine Agree.ite ?_ ?_
  · refine Agree.step ?_ actFail_agree (by decide)
    assumption
  · refine Agree.ite ?_ ?_
    · refine Agree.step ?_ actFail_agree (by decide)
      assumption
    · refine Agree.ite ?_ ?_
      · refine Agree.step ?_ actFail_agree (by decide)
        assumption
      · refine Agree.ite ?_ ?_
        · refine Agree.step ?_ actFail_agree (by decide)
          assumption
        · refine Agree.ite ?_ ?_
          · refine Agree.step ?_ actTooLate_agree (by decide)
            assumption
          · refine Agree.step ?_ rxGrant_agree (by decide)
            assumption

theorem zxwIssue_agree {x0 x1 x2 x3 x4 x5 x6} :
    Agree [.regs, .threads] x6 (zxwIssue x0 x1 x2 x3 x4 x5 x6) := by
  unfold zxwIssue
  extract_lets a0 a1 a2 a3
  clear_value a0
  clear_value a1
  clear_value a2
  have ha3 : Agree [Part.regs, Part.threads] x6 a3 := by
    unfold a3
    exact modThr_agree.mono (by decide)
  clear_value a3
  refine Agree.ite ?_ ?_
  · refine Agree.step ?_ done_agree (by decide)
    refine Agree.ite ?_ ?_
    · refine Agree.step ?_ setLate_agree (by decide)
      assumption
    · refine Agree.step ?_ clearLate_agree (by decide)
      assumption
  · refine Agree.step ?_ enterWait_agree (by decide)
    refine Agree.step ?_ clearLate_agree (by decide)
    assumption

theorem takeSeq_agree {x0 x1} :
    Agree [.line] x1 (takeSeq x0 x1) := by
  unfold takeSeq
  extract_lets a0
  clear_value a0
  refine Agree.mk' ?_ (by
    intro p hp
    cases p <;> first | exact (hp (by decide)).elim | rfl | exact ⟨rfl, rfl⟩ | exact ⟨rfl, rfl, rfl⟩)
  exact Agree.refl _ _

theorem countQuiet_agree {x0} :
    Agree [.regs, .events, .out, .held] x0 (countQuiet x0) := by
  unfold countQuiet
  refine Agree.step ?_ occur_agree (by decide)
  refine Agree.trans ?_ (bumpStat_agree (by decide) ?_)
  · exact Agree.refl _ _
  · intro y0
    exact macOvf_agree.mono (by decide)

theorem txfPlace_agree {x0 x1 x2 x3 x4 x5 x6} :
    Agree [.regs, .events, .out, .threads, .pwr, .ncp, .line, .radio, .held] x6 (txfPlace x0 x1 x2 x3 x4 x5 x6) := by
  unfold txfPlace
  extract_lets a0 a1 a2 a3 a4 a5 a6 a7 a8
  clear_value a0
  clear_value a2
  clear_value a3
  clear_value a4
  clear_value a5
  clear_value a6
  clear_value a7
  clear_value a8
  refine Agree.ite ?_ ?_
  · refine Agree.step ?_ actFail_agree (by decide)
    refine Agree.ite ?_ ?_
    · exact countQuiet_agree.mono (by decide)
    · exact Agree.refl _ _
  · refine Agree.step ?_ txGrant_agree (by decide)
    refine Agree.ite ?_ ?_
    · exact Agree.refl _ _
    · exact takeSeq_agree.mono (by decide)

theorem txfChecked_agree {x0 x1 x2 x3 x4} :
    Agree [.free, .regs, .events, .out, .threads, .pwr, .ncp, .line, .radio, .held] x4 (txfChecked x0 x1 x2 x3 x4) := by
  unfold txfChecked
  extract_lets a0 a1 a2
  clear_value a0
  clear_value a1
  have ha2 : Agree [Part.free, Part.regs, Part.events, Part.out, Part.threads, Part.pwr, Part.ncp, Part.line, Part.radio, Part.held] x4 a2 := by
    unfold a2
    refine Agree.ite ?_ ?_
    · exact State_drew_agree.mono (by decide)
    · exact Agree.refl _ _
  clear_value a2
  refine Agree.ite ?_ ?_
  · refine Agree.step ?_ actFail_agree (by decide)
    assumption
  · refine Agree.ite ?_ ?_
    · refine Agree.step ?_ actFail_agree (by decide)
      assumption
    · refine Agree.ite ?_ ?_
      · refine Agree.step ?_ actFail_agree (by decide)
        assumption
      · refine Agree.ite ?_ ?_
        · refine Agree.step ?_ actTooLate_agree (by decide)
          assumption
        · refine Agree.step ?_ txfPlace_agree (by decide)
          assumption

theorem txfDesc_agree {x0 x1 x2 x3} :
    Agree [.free, .regs, .events, .out, .threads, .pwr, .ncp, .line, .radio, .held] x3 (txfDesc x0 x1 x2 x3) := by
  unfold txfDesc
  extract_lets a0 a1 a2 a3
  clear_value a0
  clear_value a1
  clear_value a2
  clear_value a3
  refine Agree.ite ?_ ?_
  · exact actFail_agree.mono (by decide)
  · refine Agree.ite ?_ ?_
    · exact actFail_agree.mono (by decide)
    · refine Agree.trans ?_ (payloadThen_agree (by decide) ?_)
      · exact Agree.refl _ _
      · intro y4
        intro y5
        exact txfChecked_agree.mono (by decide)

theorem execZxw_agree {x0 x1} :
    AgreeAns [.free, .regs, .events, .out, .threads, .held] x1 (execZxw x0 x1) := by
  unfold execZxw
  refine AgreeAns.of_next ?_
  refine Agree.trans ?_ (issue_agree (by decide) ?_)
  · exact Agree.refl _ _
  · intro y0
    intro y1
    intro y2
    split
    · refine AgreeOpt.of_some ?_
      exact zxwIssue_agree.mono (by decide)
    · exact AgreeOpt.of_none

theorem reanchor_agree {x0 x1} :
    Agree [.threads] x1 (reanchor x0 x1) := by
  unfold reanchor
  refine Agree.foldl ?_ ?_
  · intro y0
    intro y1
    split
    · extract_lets a2 a3
      clear_value a2
      have ha3 : Agree [Part.threads] y0 a3 := by
        unfold a3
        exact modThr_agree.mono (by decide)
      clear_value a3
      refine Agree.ite ?_ ?_
      · exact Agree.refl _ _
      · refine Agree.ite ?_ ?_
        · refine Agree.step ?_ exitWait_agree (by decide)
          assumption
        · assumption
    · exact Agree.refl _ _
  · exact Agree.refl _ _

theorem execTxf_agree {x0 x1} :
    AgreeAns [.free, .regs, .events, .out, .threads, .pwr, .ncp, .line, .radio, .held] x1 (execTxf x0 x1) := by
  unfold execTxf
  refine AgreeAns.of_next ?_
  refine Agree.trans ?_ (issue_agree (by decide) ?_)
  · exact Agree.refl _ _
  · intro y0
    intro y1
    intro y2
    split
    · refine AgreeOpt.of_some ?_
      refine Agree.trans ?_ (ownThen_agree (by decide) ?_)
      · exact Agree.refl _ _
      · intro y3
        refine Agree.trans ?_ (descThen_agree (by decide) ?_)
        · exact Agree.refl _ _
        · intro y4
          intro y5
          exact txfDesc_agree.mono (by decide)
    · exact AgreeOpt.of_none

theorem execRxw_agree {x0 x1} :
    AgreeAns [.free, .regs, .events, .out, .threads, .pwr, .ncp, .radio, .held] x1 (execRxw x0 x1) := by
  unfold execRxw
  refine AgreeAns.of_next ?_
  refine Agree.trans ?_ (issue_agree (by decide) ?_)
  · exact Agree.refl _ _
  · intro y0
    intro y1
    intro y2
    split
    · refine AgreeOpt.of_some ?_
      refine Agree.trans ?_ (ownThen_agree (by decide) ?_)
      · exact Agree.refl _ _
      · intro y3
        refine Agree.trans ?_ (descThen_agree (by decide) ?_)
        · exact Agree.refl _ _
        · intro y4
          intro y5
          exact rxwDesc_agree.mono (by decide)
    · exact AgreeOpt.of_none

end Sys2Proof.Machine
end

