-- ==== Sys2Proof/Laws/Frame/RadioIssue.lean ====
section
/-!
SUPPORT. Which parts of the state each definition of Machine/RadioIssue.lean may change.
-/

namespace Sys2Proof.Machine

theorem rtxAir_agree {x0 x1 x2 x3 x4 x5 x6 x7} :
    Agree [.regs, .events, .out, .threads, .pwr, .ncp, .line, .radio, .held] x7 (rtxAir x0 x1 x2 x3 x4 x5 x6 x7) := by
  unfold rtxAir
  extract_lets a0 a1 a2 a3
  clear_value a0
  clear_value a1
  clear_value a2
  clear_value a3
  refine Agree.ite ?_ ?_
  · exact actFail_agree.mono (by decide)
  · refine Agree.ite ?_ ?_
    · refine Agree.step ?_ actDeny_agree (by decide)
      exact countDutyDeny_agree.mono (by decide)
    · refine Agree.step ?_ txGrant_agree (by decide)
      refine Agree.step ?_ takeSeq_agree (by decide)
      exact chargeDuty_agree.mono (by decide)

theorem clearCypFlags_agree {x0 x1} :
    Agree [.threads] x1 (clearCypFlags x0 x1) := by
  unfold clearCypFlags
  exact modThr_agree.mono (by decide)

theorem cypFail_agree {x0 x1 x2 x3 x4} :
    Agree [.threads] x4 (cypFail x0 x1 x2 x3 x4) := by
  unfold cypFail
  refine Agree.step ?_ done_agree (by decide)
  refine Agree.step ?_ failWith_agree (by decide)
  exact clearCypFlags_agree.mono (by decide)

theorem countCypKey_agree {x0 x1 x2} :
    Agree [.regs, .events, .out, .held] x2 (countCypKey x0 x1 x2) := by
  unfold countCypKey
  refine Agree.ite ?_ ?_
  · exact keyExhausted_agree.mono (by decide)
  · exact Agree.refl _ _

theorem cypAccept_agree {l : List Part} {x0 x1 x2 x3 x4} (hl : subParts [.free, .regs, .events, .out, .threads, .pwr, .held] l = true)
    (h3 : ∀ y0, Agree l y0 (x3 y0)) :
    Agree l x4 (cypAccept x0 x1 x2 x3 x4) := by
  unfold cypAccept
  split
  · extract_lets a0 a1 a2
    clear_value a0
    clear_value a1
    have ha2 : Agree l x4 a2 := by
      unfold a2
      refine Agree.step ?_ setUse_agree (subParts_trans (by decide) hl)
      refine Agree.step ?_ clearCypFlags_agree (subParts_trans (by decide) hl)
      exact Agree.refl _ _
    clear_value a2
    refine Agree.ite ?_ ?_
    · refine Agree.trans ?_ (h3 _)
      refine Agree.step ?_ failWith_agree (subParts_trans (by decide) hl)
      refine Agree.step ?_ clearCypFlags_agree (subParts_trans (by decide) hl)
      refine Agree.step ?_ countCypKey_agree (subParts_trans (by decide) hl)
      refine Agree.step ?_ releaseGrant_agree (subParts_trans (by decide) hl)
      exact Agree.refl _ _
    · refine Agree.ite ?_ ?_
      · refine Agree.step ?_ threadFaultFree_agree (subParts_trans (by decide) hl)
        refine Agree.step ?_ releaseGrant_agree (subParts_trans (by decide) hl)
        exact Agree.refl _ _
      · refine Agree.trans ?_ (h3 _)
        refine Agree.step ?_ modThr_agree (subParts_trans (by decide) hl)
        assumption
  · exact Agree.refl _ _

theorem cypGrant_agree {x0 x1 x2 x3 x4 x5 x6} :
    Agree [.free, .regs, .events, .out, .threads, .pwr, .held] x6 (cypGrant x0 x1 x2 x3 x4 x5 x6) := by
  unfold cypGrant
  refine Agree.ite ?_ ?_
  · refine Agree.trans ?_ (cypAccept_agree (by decide) ?_)
    · exact giveGrant_agree.mono (by decide)
    · intro y0
      exact done_agree.mono (by decide)
  · refine Agree.ite ?_ ?_
    · refine Agree.step ?_ done_agree (by decide)
      refine Agree.step ?_ denyWith_agree (by decide)
      refine Agree.step ?_ clearCypFlags_agree (by decide)
      exact countDeny_agree.mono (by decide)
    · refine Agree.step ?_ enterWait_agree (by decide)
      exact queueGrant_agree.mono (by decide)

theorem cypDesc_agree {x0 x1 x2 x3 x4} :
    Agree [.free, .regs, .events, .out, .threads, .pwr, .held] x4 (cypDesc x0 x1 x2 x3 x4) := by
  unfold cypDesc
  extract_lets a0 a1 a2 a3 a4
  clear_value a0
  clear_value a1
  clear_value a2
  clear_value a3
  clear_value a4
  refine Agree.ite ?_ ?_
  · exact cypFail_agree.mono (by decide)
  · refine Agree.ite ?_ ?_
    · exact cypFail_agree.mono (by decide)
    · refine Agree.ite ?_ ?_
      · refine Agree.step ?_ cypFail_agree (by decide)
        exact countCypKey_agree.mono (by decide)
      · exact cypGrant_agree.mono (by decide)

theorem grantThread_agree {x0 x1 x2} :
    Agree [.free, .regs, .events, .out, .threads, .pwr, .ncp, .radio, .held] x2 (grantThread x0 x1 x2) := by
  unfold grantThread
  split
  · split
    · refine Agree.trans ?_ (cypAccept_agree (by decide) ?_)
      · exact Agree.refl _ _
      · intro y0
        exact exitWait_agree.mono (by decide)
    · refine Agree.trans ?_ (actAccept_agree (by decide) ?_)
      · exact Agree.refl _ _
      · intro y1
        exact exitWait_agree.mono (by decide)
  · exact releaseGrant_agree.mono (by decide)

theorem grantHolder_agree {x0 x1} :
    Agree [.free, .regs, .jobs, .events, .out, .threads, .pwr, .ncp, .radio, .held] x1 (grantHolder x0 x1) := by
  unfold grantHolder
  extract_lets a0
  have ha0 : Agree [Part.free, Part.regs, Part.jobs, Part.events, Part.out, Part.threads, Part.pwr, Part.ncp, Part.radio, Part.held] x1 a0 := by
    unfold a0
    exact giveGrant_agree.mono (by decide)
  clear_value a0
  split
  · refine Agree.step ?_ grantThread_agree (by decide)
    assumption
  · split
    · refine Agree.step ?_ setJob_agree (by decide)
      assumption
    · refine Agree.step ?_ releaseGrant_agree (by decide)
      assumption
  · assumption

theorem execGrantGiven_agree {x0} :
    AgreeAns [.free, .regs, .jobs, .events, .out, .threads, .pwr, .ncp, .radio, .held] x0 (execGrantGiven x0) := by
  unfold execGrantGiven
  split
  · refine AgreeAns.of_next ?_
    exact grantHolder_agree.mono (by decide)
  · refine AgreeAns.of_next ?_
    exact Agree.refl _ _

theorem cypEnd_agree {x0 x1 x2 x3 x4} :
    Agree [.regs, .events, .out, .threads, .mem, .pwr, .held] x4 (cypEnd x0 x1 x2 x3 x4) := by
  unfold cypEnd
  extract_lets a0 a1
  clear_value a0
  clear_value a1
  refine Agree.ite ?_ ?_
  · refine Agree.step ?_ endAct_agree (by decide)
    exact cipherFault_agree.mono (by decide)
  · split
    · extract_lets a2 a3
      have ha2 : Agree [Part.regs, Part.events, Part.out, Part.threads, Part.mem, Part.pwr, Part.held] x4 a2 := by
        unfold a2
        exact stBytes_agree.mono (by decide)
      clear_value a2
      have ha3 : Agree [Part.regs, Part.events, Part.out, Part.threads, Part.mem, Part.pwr, Part.held] x4 a3 := by
        unfold a3
        refine Agree.ite ?_ ?_
        · refine Agree.step ?_ stBytes_agree (by decide)
          assumption
        · assumption
      clear_value a3
      refine Agree.step ?_ endAct_agree (by decide)
      assumption
    · refine Agree.step ?_ endAct_agree (by decide)
      refine Agree.step ?_ authFail_agree (by decide)
      exact stBytes_agree.mono (by decide)
    · refine Agree.step ?_ endAct_agree (by decide)
      exact stBytes_agree.mono (by decide)

theorem execCyp_agree {x0 x1} :
    AgreeAns [.free, .regs, .events, .out, .threads, .pwr, .held] x1 (execCyp x0 x1) := by
  unfold execCyp
  refine AgreeAns.of_next ?_
  refine Agree.trans ?_ (issue_agree (by decide) ?_)
  · exact Agree.refl _ _
  · intro y0
    intro y1
    intro y2
    split
    · extract_lets a3
      clear_value a3
      refine AgreeOpt.of_some ?_
      refine Agree.ite ?_ ?_
      · exact threadFault_agree.mono (by decide)
      · refine Agree.trans ?_ (descThen_agree (by decide) ?_)
        · exact Agree.refl _ _
        · intro y4
          intro y5
          exact cypDesc_agree.mono (by decide)
    · exact AgreeOpt.of_none

theorem rtxChecked_agree {x0 x1 x2 x3 x4 x5} :
    Agree [.regs, .events, .out, .threads, .pwr, .ncp, .line, .radio, .held] x5 (rtxChecked x0 x1 x2 x3 x4 x5) := by
  unfold rtxChecked
  extract_lets a0 a1 a2 a3 a4 a5 a6 a7
  clear_value a0
  clear_value a1
  clear_value a2
  clear_value a3
  clear_value a4
  clear_value a6
  clear_value a7
  refine Agree.ite ?_ ?_
  · exact actFail_agree.mono (by decide)
  · refine Agree.ite ?_ ?_
    · exact actFail_agree.mono (by decide)
    · refine Agree.ite ?_ ?_
      · exact actFail_agree.mono (by decide)
      · refine Agree.ite ?_ ?_
        · exact actFail_agree.mono (by decide)
        · refine Agree.ite ?_ ?_
          · exact actTooLate_agree.mono (by decide)
          · refine Agree.ite ?_ ?_
            · exact actFail_agree.mono (by decide)
            · exact rtxAir_agree.mono (by decide)

theorem rtxDesc_agree {x0 x1 x2 x3} :
    Agree [.free, .regs, .events, .out, .threads, .pwr, .ncp, .line, .radio, .held] x3 (rtxDesc x0 x1 x2 x3) := by
  unfold rtxDesc
  extract_lets a0 a1 a2 a3 a4 a5
  clear_value a0
  clear_value a1
  clear_value a2
  clear_value a3
  clear_value a4
  have ha5 : Agree [Part.free, Part.regs, Part.events, Part.out, Part.threads, Part.pwr, Part.ncp, Part.line, Part.radio, Part.held] x3 a5 := by
    unfold a5
    refine Agree.ite ?_ ?_
    · exact State_drew_agree.mono (by decide)
    · exact Agree.refl _ _
  clear_value a5
  refine Agree.ite ?_ ?_
  · refine Agree.step ?_ actFail_agree (by decide)
    assumption
  · refine Agree.ite ?_ ?_
    · refine Agree.step ?_ actFail_agree (by decide)
      assumption
    · refine Agree.trans ?_ (payloadThen_agree (by decide) ?_)
      · assumption
      · intro y6
        intro y7
        exact rtxChecked_agree.mono (by decide)

theorem execRtx_agree {x0 x1} :
    AgreeAns [.free, .regs, .events, .out, .threads, .pwr, .ncp, .line, .radio, .held] x1 (execRtx x0 x1) := by
  unfold execRtx
  refine AgreeAns.of_next ?_
  refine Agree.trans ?_ (issue_agree (by decide) ?_)
  · exact Agree.refl _ _
  · intro y0
    intro y1
    intro y2
    split
    · refine AgreeOpt.of_some ?_
      refine Agree.trans ?_ (ownThen_agree (by decide) ?_)
      · exact Agree.refl _ _
      · intro y3
        refine Agree.trans ?_ (descThen_agree (by decide) ?_)
        · exact Agree.refl _ _
        · intro y4
          intro y5
          exact rtxDesc_agree.mono (by decide)
    · exact AgreeOpt.of_none

theorem cancelSlot_agree {x0 x1 x2} :
    Agree [.free, .regs, .events, .out, .threads, .pwr, .radio, .held] x2 (cancelSlot x0 x1 x2) := by
  unfold cancelSlot
  extract_lets a0
  clear_value a0
  split
  · refine Agree.ite ?_ ?_
    · refine Agree.step ?_ done_agree (by decide)
      refine Agree.step ?_ failClear_agree (by decide)
      refine Agree.step ?_ endAct_agree (by decide)
      exact State_drew_agree.mono (by decide)
    · refine Agree.step ?_ done_agree (by decide)
      refine Agree.step ?_ failWith_agree (by decide)
      exact State_drew_agree.mono (by decide)
  · refine Agree.step ?_ done_agree (by decide)
    exact failWith_agree.mono (by decide)
  · refine Agree.step ?_ done_agree (by decide)
    refine Agree.step ?_ failClear_agree (by decide)
    exact endAct_agree.mono (by decide)
  · refine Agree.step ?_ done_agree (by decide)
    refine Agree.step ?_ failClear_agree (by decide)
    exact endAct_agree.mono (by decide)
  · refine Agree.ite ?_ ?_
    · refine Agree.step ?_ done_agree (by decide)
      refine Agree.step ?_ failClear_agree (by decide)
      exact State_setAct_agree.mono (by decide)
    · refine Agree.step ?_ done_agree (by decide)
      refine Agree.step ?_ failClear_agree (by decide)
      exact endAct_agree.mono (by decide)
  · refine Agree.ite ?_ ?_
    · refine Agree.step ?_ done_agree (by decide)
      refine Agree.step ?_ failClear_agree (by decide)
      exact State_setAct_agree.mono (by decide)
    · refine Agree.step ?_ done_agree (by decide)
      refine Agree.step ?_ failClear_agree (by decide)
      exact endAct_agree.mono (by decide)
  · refine Agree.step ?_ done_agree (by decide)
    refine Agree.step ?_ failClear_agree (by decide)
    exact endUnsent_agree.mono (by decide)
  · refine Agree.step ?_ done_agree (by decide)
    refine Agree.step ?_ failClear_agree (by decide)
    exact endSent_agree.mono (by decide)
  · refine Agree.step ?_ done_agree (by decide)
    exact failWith_agree.mono (by decide)

theorem rrxDesc_agree {x0 x1 x2 x3} :
    Agree [.free, .regs, .events, .out, .threads, .pwr, .ncp, .radio, .held] x3 (rrxDesc x0 x1 x2 x3) := by
  unfold rrxDesc
  extract_lets a0 a1 a2 a3 a4 a5 a6 a7 a8 a9 a10
  clear_value a0
  clear_value a1
  clear_value a2
  have ha3 : Agree [Part.free, Part.regs, Part.events, Part.out, Part.threads, Part.pwr, Part.ncp, Part.radio, Part.held] x3 a3 := by
    unfold a3
    refine Agree.ite ?_ ?_
    · exact State_drew_agree.mono (by decide)
    · exact Agree.refl _ _
  clear_value a3
  clear_value a6
  clear_value a7
  clear_value a8
  clear_value a9
  clear_value a10
  refine Agree.ite ?_ ?_
  · refine Agree.step ?_ actFail_agree (by decide)
    assumption
  · refine Agree.ite ?_ ?_
    · refine Agree.step ?_ actFail_agree (by decide)
      assumption
    · refine Agree.ite ?_ ?_
      · refine Agree.step ?_ actFail_agree (by decide)
        assumption
      · refine Agree.ite ?_ ?_
        · refine Agree.step ?_ actFail_agree (by decide)
          assumption
        · refine Agree.ite ?_ ?_
          · refine Agree.step ?_ actTooLate_agree (by decide)
            assumption
          · refine Agree.ite ?_ ?_
            · refine Agree.step ?_ actFail_agree (by decide)
              assumption
            · refine Agree.step ?_ rxGrant_agree (by decide)
              assumption

theorem cancelIssue_agree {x0 x1 x2} :
    Agree [.free, .regs, .events, .out, .threads, .pwr, .radio, .held] x2 (cancelIssue x0 x1 x2) := by
  unfold cancelIssue
  extract_lets a0
  clear_value a0
  refine Agree.ite ?_ ?_
  · refine Agree.step ?_ done_agree (by decide)
    exact failWith_agree.mono (by decide)
  · refine Agree.ite ?_ ?_
    · split
      · exact threadFault_agree.mono (by decide)
      · exact threadFaultFree_agree.mono (by decide)
    · exact cancelSlot_agree.mono (by decide)

theorem execCancel_agree {x0 x1} :
    AgreeAns [.free, .regs, .events, .out, .threads, .pwr, .radio, .held] x1 (execCancel x0 x1) := by
  unfold execCancel
  refine AgreeAns.of_next ?_
  refine Agree.trans ?_ (issue_agree (by decide) ?_)
  · exact Agree.refl _ _
  · intro y0
    intro y1
    intro y2
    split
    · refine AgreeOpt.of_some ?_
      exact cancelIssue_agree.mono (by decide)
    · exact AgreeOpt.of_none

theorem execCypJobEnd_agree {x0 x1 x2 x3} :
    AgreeAns [.regs, .events, .out, .threads, .mem, .pwr, .held] x3 (execCypJobEnd x0 x1 x2 x3) := by
  unfold execCypJobEnd
  extract_lets a0
  clear_value a0
  split
  · refine AgreeAns.ite ?_ ?_
    · refine AgreeAns.of_next ?_
      exact cypEnd_agree.mono (by decide)
    · refine AgreeAns.of_next ?_
      exact Agree.refl _ _
  · refine AgreeAns.of_next ?_
    exact Agree.refl _ _

theorem execRrx_agree {x0 x1} :
    AgreeAns [.free, .regs, .events, .out, .threads, .pwr, .ncp, .radio, .held] x1 (execRrx x0 x1) := by
  unfold execRrx
  refine AgreeAns.of_next ?_
  refine Agree.trans ?_ (issue_agree (by decide) ?_)
  · exact Agree.refl _ _
  · intro y0
    intro y1
    intro y2
    split
    · refine AgreeOpt.of_some ?_
      refine Agree.trans ?_ (ownThen_agree (by decide) ?_)
      · exact Agree.refl _ _
      · intro y3
        refine Agree.trans ?_ (descThen_agree (by decide) ?_)
        · exact Agree.refl _ _
        · intro y4
          intro y5
          exact rrxDesc_agree.mono (by decide)
    · exact AgreeOpt.of_none

end Sys2Proof.Machine
end

