-- ==== Sys2Proof/Laws/Frame/JigCtl.lean ====
section
/-!
SUPPORT. Which parts of the state each definition of Machine/JigCtl.lean may change.
-/

namespace Sys2Proof.Machine

theorem setLoadStatus_agree {x0 x1 x2 x3} :
    Agree [.regs] x3 (setLoadStatus x0 x1 x2 x3) := by
  unfold setLoadStatus
  exact State_wr_agree.mono (by decide)

theorem refuseLoad_agree {x0 x1 x2} :
    Agree [.regs] x2 (refuseLoad x0 x1 x2) := by
  unfold refuseLoad
  exact setLoadStatus_agree.mono (by decide)

theorem loadJudge_agree {x0 x1 x2} :
    Agree [.regs, .mem] x2 (loadJudge x0 x1 x2) := by
  unfold loadJudge
  extract_lets a0
  split
  · exact refuseLoad_agree.mono (by decide)
  · refine Agree.step ?_ setLoadStatus_agree (by decide)
    refine Agree.mk' ?_ (by
      intro p hp
      cases p <;> first | exact (hp (by decide)).elim | rfl | exact ⟨rfl, rfl⟩ | exact ⟨rfl, rfl, rfl⟩)
    exact Agree.refl _ _

theorem setMeas_agree {x0 x1 x2} :
    Agree [.regs] x2 (setMeas x0 x1 x2) := by
  unfold setMeas
  refine Agree.foldUpto ?_ ?_
  · intro y0
    intro y1
    exact State_wr_agree.mono (by decide)
  · exact Agree.refl _ _

theorem extendMeas_agree {x0 x1 x2} :
    Agree [.regs] x2 (extendMeas x0 x1 x2) := by
  unfold extendMeas
  refine Agree.step ?_ bumpStick_agree (by decide)
  exact setMeas_agree.mono (by decide)

theorem loadStart_agree {x0 x1} :
    Agree [.regs, .mem] x1 (loadStart x0 x1) := by
  unfold loadStart
  extract_lets a0 a1
  clear_value a0
  clear_value a1
  refine Agree.ite ?_ ?_
  · exact refuseLoad_agree.mono (by decide)
  · refine Agree.ite ?_ ?_
    · exact refuseLoad_agree.mono (by decide)
    · refine Agree.ite ?_ ?_
      · exact refuseLoad_agree.mono (by decide)
      · refine Agree.ite ?_ ?_
        · exact refuseLoad_agree.mono (by decide)
        · refine Agree.step ?_ loadJudge_agree (by decide)
          exact extendMeas_agree.mono (by decide)

theorem keepFault_agree {x0 x1} :
    Agree [.regs] x1 (keepFault x0 x1) := by
  unfold keepFault
  refine Agree.step ?_ State_wr_agree (by decide)
  exact State_wr_agree.mono (by decide)

theorem clearJt_agree {x0 x1} :
    Agree [.regs] x1 (clearJt x0 x1) := by
  unfold clearJt
  refine Agree.mk' ?_ (by
    intro p hp
    cases p <;> first | exact (hp (by decide)).elim | rfl | exact ⟨rfl, rfl⟩ | exact ⟨rfl, rfl, rfl⟩)
  exact Agree.refl _ _

theorem leaveGrantWait_agree {x0 x1} :
    Agree [.regs, .events, .out, .pwr, .radio, .held] x1 (leaveGrantWait x0 x1) := by
  unfold leaveGrantWait
  split
  · refine Agree.step ?_ returnAirtime_agree (by decide)
    exact dropRequest_agree.mono (by decide)
  · exact Agree.refl _ _

theorem cancelUnstarted_agree {x0 x1 x2} :
    Agree [.free, .regs, .events, .out, .threads, .pwr, .radio, .held] x2 (cancelUnstarted x0 x1 x2) := by
  unfold cancelUnstarted
  extract_lets a0
  clear_value a0
  refine Agree.ite ?_ ?_
  · exact Agree.refl _ _
  · split
    · refine Agree.ite ?_ ?_
      · refine Agree.step ?_ endAct_agree (by decide)
        exact State_drew_agree.mono (by decide)
      · exact State_drew_agree.mono (by decide)
    · exact endAct_agree.mono (by decide)
    · exact endAct_agree.mono (by decide)
    · exact endUnsent_agree.mono (by decide)
    · exact endUnsent_agree.mono (by decide)
    · exact Agree.refl _ _

theorem stopThread_agree {x0 x1} :
    Agree [.free, .regs, .events, .out, .threads, .pwr, .ncp, .radio, .held] x1 (stopThread x0 x1) := by
  unfold stopThread
  extract_lets a0
  have ha0 : Agree [Part.free, Part.regs, Part.events, Part.out, Part.threads, Part.pwr, Part.ncp, Part.radio, Part.held] x1 a0 := by
    unfold a0
    refine Agree.step ?_ dropThreadPins_agree (by decide)
    refine Agree.step ?_ leaveGrantWait_agree (by decide)
    refine Agree.foldUpto ?_ ?_
    · intro y1
      intro y2
      exact cancelUnstarted_agree.mono (by decide)
    · exact Agree.refl _ _
  clear_value a0
  refine Agree.step ?_ modThr_agree (by decide)
  assumption

theorem unloadThread_agree {x0 x1} :
    Agree [.free, .regs, .events, .out, .threads, .pwr, .ncp, .radio, .held] x1 (unloadThread x0 x1) := by
  unfold unloadThread
  extract_lets a0 a1
  have ha0 : Agree [Part.free, Part.regs, Part.events, Part.out, Part.threads, Part.pwr, Part.ncp, Part.radio, Part.held] x1 a0 := by
    unfold a0
    exact stopThread_agree.mono (by decide)
  clear_value a0
  clear_value a1
  refine Agree.step ?_ modThr_agree (by decide)
  assumption

theorem zeroCore_agree {x0 x1} :
    Agree [.mem] x1 (zeroCore x0 x1) := by
  unfold zeroCore
  extract_lets a0
  refine Agree.mk' ?_ (by
    intro p hp
    cases p <;> first | exact (hp (by decide)).elim | rfl | exact ⟨rfl, rfl⟩ | exact ⟨rfl, rfl, rfl⟩)
  exact Agree.refl _ _

theorem resetCore_agree {x0 x1} :
    Agree [.free, .regs, .events, .out, .threads, .mem, .pwr, .ncp, .radio, .held] x1 (resetCore x0 x1) := by
  unfold resetCore
  extract_lets a0 a1
  have ha0 : Agree [Part.free, Part.regs, Part.events, Part.out, Part.threads, Part.mem, Part.pwr, Part.ncp, Part.radio, Part.held] x1 a0 := by
    unfold a0
    refine Agree.foldUpto ?_ ?_
    · intro y2
      intro y3
      exact keepFault_agree.mono (by decide)
    · exact Agree.refl _ _
  clear_value a0
  have ha1 : Agree [Part.free, Part.regs, Part.events, Part.out, Part.threads, Part.mem, Part.pwr, Part.ncp, Part.radio, Part.held] x1 a1 := by
    unfold a1
    refine Agree.foldUpto ?_ ?_
    · intro y4
      intro y5
      refine Agree.step ?_ clearJt_agree (by decide)
      exact unloadThread_agree.mono (by decide)
    · assumption
  clear_value a1
  refine Agree.step ?_ occur_agree (by decide)
  refine Agree.step ?_ zeroCore_agree (by decide)
  assumption

theorem clearProg_agree {x0 x1} :
    Agree [.regs] x1 (clearProg x0 x1) := by
  unfold clearProg
  refine Agree.step ?_ State_resetReg_agree (by decide)
  refine Agree.step ?_ State_resetReg_agree (by decide)
  exact State_resetReg_agree.mono (by decide)

theorem jigLoadWrite_agree {x0 x1 x2 x3} :
    Agree [.regs, .mem] x3 (jigLoadWrite x0 x1 x2 x3) := by
  unfold jigLoadWrite
  refine Agree.ite ?_ ?_
  · exact loadStart_agree.mono (by decide)
  · exact Agree.refl _ _

theorem startThread_agree {x0 x1} :
    Agree [.regs, .threads, .ncp] x1 (startThread x0 x1) := by
  unfold startThread
  extract_lets a0
  have ha0 : Agree [Part.regs, Part.threads, Part.ncp] x1 a0 := by
    unfold a0
    refine Agree.ite ?_ ?_
    · exact dropThreadPins_agree.mono (by decide)
    · exact Agree.refl _ _
  clear_value a0
  refine Agree.step ?_ modThr_agree (by decide)
  assumption

theorem refuseCmd_agree {x0 x1} :
    Agree [.regs] x1 (refuseCmd x0 x1) := by
  unfold refuseCmd
  exact State_put_agree.mono (by decide)

theorem startCmd_agree {x0 x1} :
    Agree [.regs, .threads, .ncp] x1 (startCmd x0 x1) := by
  unfold startCmd
  split
  · refine Agree.ite ?_ ?_
    · exact startThread_agree.mono (by decide)
    · exact refuseCmd_agree.mono (by decide)
  · exact startThread_agree.mono (by decide)
  · exact startThread_agree.mono (by decide)
  · exact refuseCmd_agree.mono (by decide)

theorem stopCmd_agree {x0 x1} :
    Agree [.free, .regs, .events, .out, .threads, .pwr, .ncp, .radio, .held] x1 (stopCmd x0 x1) := by
  unfold stopCmd
  split
  · exact refuseCmd_agree.mono (by decide)
  · exact stopThread_agree.mono (by decide)

theorem resumeCmd_agree {x0 x1} :
    Agree [.regs, .threads] x1 (resumeCmd x0 x1) := by
  unfold resumeCmd
  split
  · exact modThr_agree.mono (by decide)
  · exact refuseCmd_agree.mono (by decide)

theorem jtCtlWrite_agree {x0 x1 x2 x3} :
    Agree [.free, .regs, .events, .out, .threads, .pwr, .ncp, .radio, .held] x3 (jtCtlWrite x0 x1 x2 x3) := by
  unfold jtCtlWrite
  refine Agree.ite ?_ ?_
  · exact Agree.refl _ _
  · split
    · exact startCmd_agree.mono (by decide)
    · exact stopCmd_agree.mono (by decide)
    · exact resumeCmd_agree.mono (by decide)
    · exact Agree.refl _ _

theorem setImemPoison_agree {x0 x1 x2 x3} :
    Agree [.mem] x3 (setImemPoison x0 x1 x2 x3) := by
  unfold setImemPoison
  extract_lets a0
  refine Agree.mk' ?_ (by
    intro p hp
    cases p <;> first | exact (hp (by decide)).elim | rfl | exact ⟨rfl, rfl⟩ | exact ⟨rfl, rfl, rfl⟩)
  exact Agree.refl _ _

theorem storeImem_agree {x0 x1} :
    Agree [.mem] x1 (storeImem x0 x1) := by
  unfold storeImem
  extract_lets a0 a1 a2 a3 a4
  clear_value a0
  clear_value a1
  clear_value a2
  have ha3 : Agree [Part.mem] x1 a3 := by
    unfold a3
    refine Agree.foldUpto ?_ ?_
    · intro y5
      intro y6
      extract_lets a7
      refine Agree.mk' ?_ (by
        intro p hp
        cases p <;> first | exact (hp (by decide)).elim | rfl | exact ⟨rfl, rfl⟩ | exact ⟨rfl, rfl, rfl⟩)
      exact Agree.refl _ _
    · exact Agree.refl _ _
  clear_value a3
  have ha4 : Agree [Part.mem] x1 a4 := by
    unfold a4
    refine Agree.foldUpto ?_ ?_
    · intro y8
      intro y9
      exact setImemPoison_agree.mono (by decide)
    · assumption
  clear_value a4
  refine Agree.foldl ?_ ?_
  · intro y10
    intro y11
    exact setImemPoison_agree.mono (by decide)
  · assumption

theorem loadThread_agree {x0 x1 x2} :
    Agree [.free, .regs, .events, .out, .threads, .pwr, .ncp, .radio, .held] x2 (loadThread x0 x1 x2) := by
  unfold loadThread
  extract_lets a0 a1 a2
  have ha0 : Agree [Part.free, Part.regs, Part.events, Part.out, Part.threads, Part.pwr, Part.ncp, Part.radio, Part.held] x2 a0 := by
    unfold a0
    refine Agree.ite ?_ ?_
    · exact Agree.refl _ _
    · exact stopThread_agree.mono (by decide)
  clear_value a0
  have ha1 : Agree [Part.free, Part.regs, Part.events, Part.out, Part.threads, Part.pwr, Part.ncp, Part.radio, Part.held] x2 a1 := by
    unfold a1
    refine Agree.step ?_ modThr_agree (by decide)
    assumption
  clear_value a1
  have ha2 : Agree [Part.free, Part.regs, Part.events, Part.out, Part.threads, Part.pwr, Part.ncp, Part.radio, Part.held] x2 a2 := by
    unfold a2
    refine Agree.step ?_ State_put_agree (by decide)
    assumption
  clear_value a2
  refine Agree.step ?_ State_wr_agree (by decide)
  refine Agree.step ?_ State_wr_agree (by decide)
  assumption

theorem storeDmem_agree {x0 x1} :
    Agree [.mem] x1 (storeDmem x0 x1) := by
  unfold storeDmem
  extract_lets a0 a1 a2 a3
  clear_value a0
  clear_value a1
  have ha2 : Agree [Part.mem] x1 a2 := by
    unfold a2
    exact stBytes_agree.mono (by decide)
  clear_value a2
  have ha3 : Agree [Part.mem] x1 a3 := by
    unfold a3
    refine Agree.foldUpto ?_ ?_
    · intro y4
      intro y5
      exact setDmemPoison_agree.mono (by decide)
    · assumption
  clear_value a3
  refine Agree.foldl ?_ ?_
  · intro y6
    intro y7
    exact setDmemPoison_agree.mono (by decide)
  · assumption

theorem execStart_agree {x0 x1 x2 x3} :
    AgreeAns [.free, .regs, .events, .out, .threads, .pwr, .ncp, .radio, .held] x3 (execStart x0 x1 x2 x3) := by
  unfold execStart
  refine AgreeAns.ite ?_ ?_
  · refine AgreeAns.of_next ?_
    exact Agree.refl _ _
  · refine AgreeAns.of_next ?_
    refine Agree.trans ?_ (filtered_agree (by decide) ?_)
    · exact Agree.refl _ _
    · intro y0
      exact jtCtlWrite_agree.mono (by decide)

theorem execStop_agree {x0 x1 x2 x3} :
    AgreeAns [.free, .regs, .events, .out, .threads, .pwr, .ncp, .radio, .held] x3 (execStop x0 x1 x2 x3) := by
  unfold execStop
  refine AgreeAns.ite ?_ ?_
  · refine AgreeAns.of_next ?_
    exact Agree.refl _ _
  · refine AgreeAns.of_next ?_
    refine Agree.trans ?_ (filtered_agree (by decide) ?_)
    · exact Agree.refl _ _
    · intro y0
      exact jtCtlWrite_agree.mono (by decide)

theorem execResume_agree {x0 x1 x2 x3} :
    AgreeAns [.free, .regs, .events, .out, .threads, .pwr, .ncp, .radio, .held] x3 (execResume x0 x1 x2 x3) := by
  unfold execResume
  refine AgreeAns.ite ?_ ?_
  · refine AgreeAns.of_next ?_
    exact Agree.refl _ _
  · refine AgreeAns.of_next ?_
    refine Agree.trans ?_ (filtered_agree (by decide) ?_)
    · exact Agree.refl _ _
    · intro y0
      exact jtCtlWrite_agree.mono (by decide)

theorem execJigLoadComplete_agree {x0 x1} :
    AgreeAns [.free, .regs, .events, .out, .threads, .mem, .pwr, .ncp, .radio, .held] x1 (execJigLoadComplete x0 x1) := by
  unfold execJigLoadComplete
  extract_lets a0 a1
  have ha1 : Agree [Part.free, Part.regs, Part.events, Part.out, Part.threads, Part.mem, Part.pwr, Part.ncp, Part.radio, Part.held] x1 a1 := by
    unfold a1
    refine Agree.mk' ?_ (by
      intro p hp
      cases p <;> first | exact (hp (by decide)).elim | rfl | exact ⟨rfl, rfl⟩ | exact ⟨rfl, rfl, rfl⟩)
    exact Agree.refl _ _
  clear_value a1
  split
  · refine AgreeAns.of_next ?_
    exact Agree.refl _ _
  · extract_lets a2
    have ha2 : Agree [Part.free, Part.regs, Part.events, Part.out, Part.threads, Part.mem, Part.pwr, Part.ncp, Part.radio, Part.held] x1 a2 := by
      unfold a2
      refine Agree.foldl ?_ ?_
      · intro y3
        intro y4
        exact loadThread_agree.mono (by decide)
      · refine Agree.step ?_ storeDmem_agree (by decide)
        refine Agree.step ?_ storeImem_agree (by decide)
        assumption
    clear_value a2
    refine AgreeAns.ite ?_ ?_
    · refine AgreeAns.of_next ?_
      exact Agree.refl _ _
    · refine AgreeAns.of_next ?_
      refine Agree.step ?_ setLoadStatus_agree (by decide)
      assumption

theorem execJigLoad_agree {x0 x1 x2} :
    AgreeAns [.regs, .events, .out, .mem, .held] x2 (execJigLoad x0 x1 x2) := by
  unfold execJigLoad
  refine AgreeAns.of_next ?_
  refine Agree.trans ?_ (filtered_agree (by decide) ?_)
  · exact Agree.refl _ _
  · intro y0
    exact jigLoadWrite_agree.mono (by decide)

end Sys2Proof.Machine
end

