-- ==== Sys2Proof/Laws/Frame/Blanker.lean ====
section
/-!
SUPPORT. Which parts of the state each definition of Machine/Blanker.lean may change.
-/

namespace Sys2Proof.Machine

theorem blankInterval_agree {x0 x1 x2 x3} :
    Agree [.regs, .events, .out, .line, .held] x3 (blankInterval x0 x1 x2 x3) := by
  unfold blankInterval
  extract_lets a0
  clear_value a0
  split
  refine Agree.trans ?_ (addStat_agree (by decide) ?_)
  · exact setChain_agree.mono (by decide)
  · intro y1
    exact phyOvf_agree.mono (by decide)

end Sys2Proof.Machine
end

