-- ==== Sys2Proof/Laws/Frame/Chains.lean ====
section
/-!
SUPPORT. Which parts of the state each definition of Machine/Chains.lean may change.
-/

namespace Sys2Proof.Machine

theorem unfreeze_agree {x0 x1} :
    Agree [.regs, .line] x1 (unfreeze x0 x1) := by
  unfold unfreeze
  extract_lets a0
  clear_value a0
  refine Agree.ite ?_ ?_
  · exact Agree.refl _ _
  · refine Agree.step ?_ setChain_agree (by decide)
    exact State_put_agree.mono (by decide)

theorem thaw_agree {x0 x1} :
    Agree [.regs, .line] x1 (thaw x0 x1) := by
  unfold thaw
  extract_lets a0 a1
  have ha0 : Agree [Part.regs, Part.line] x1 a0 := by
    unfold a0
    exact unfreeze_agree.mono (by decide)
  clear_value a0
  clear_value a1
  refine Agree.ite ?_ ?_
  · exact Agree.refl _ _
  · refine Agree.ite ?_ ?_
    · refine Agree.step ?_ setChain_agree (by decide)
      assumption
    · assumption

theorem detSeen_agree {x0 x1 x2} :
    Agree [.threads] x2 (detSeen x0 x1 x2) := by
  unfold detSeen
  refine Agree.forActs ?_ ?_
  · intro y0
    intro y1
    intro y2
    extract_lets a3
    clear_value a3
    exact State_setAct_agree.mono (by decide)
  · exact Agree.refl _ _

theorem syncChain_agree {x0 x1} :
    Agree [.regs, .line] x1 (syncChain x0 x1) := by
  unfold syncChain
  extract_lets a0 a1 a2 a3 a4 a5 a6
  clear_value a0
  clear_value a1
  have ha2 : Agree [Part.regs, Part.line] x1 a2 := by
    unfold a2
    exact State_put_agree.mono (by decide)
  clear_value a2
  have ha3 : Agree [Part.regs, Part.line] x1 a3 := by
    unfold a3
    refine Agree.step ?_ State_put_agree (by decide)
    assumption
  clear_value a3
  have ha4 : Agree [Part.regs, Part.line] x1 a4 := by
    unfold a4
    refine Agree.step ?_ State_put_agree (by decide)
    assumption
  clear_value a4
  clear_value a5
  have ha6 : Agree [Part.regs, Part.line] x1 a6 := by
    unfold a6
    refine Agree.step ?_ setChain_agree (by decide)
    refine Agree.step ?_ State_put_agree (by decide)
    assumption
  clear_value a6
  refine Agree.step ?_ thaw_agree (by decide)
  assumption

theorem stopChain_agree {x0 x1} :
    Agree [.regs, .line] x1 (stopChain x0 x1) := by
  unfold stopChain
  extract_lets a0 a1
  clear_value a0
  clear_value a1
  refine Agree.step ?_ syncChain_agree (by decide)
  exact setChain_agree.mono (by decide)

theorem stopIdle_agree {x0} :
    Agree [.regs, .line] x0 (stopIdle x0) := by
  unfold stopIdle
  refine Agree.foldUpto ?_ ?_
  · intro y0
    intro y1
    refine Agree.ite ?_ ?_
    · exact Agree.refl _ _
    · exact stopChain_agree.mono (by decide)
  · exact Agree.refl _ _

theorem syncRxOpen_agree {x0} :
    Agree [.regs] x0 (syncRxOpen x0) := by
  unfold syncRxOpen
  exact State_put_agree.mono (by decide)

theorem endWindow_agree {x0 x1 x2} :
    Agree [.regs, .events, .out, .threads, .pwr, .ncp, .line, .radio, .held] x2 (endWindow x0 x1 x2) := by
  unfold endWindow
  extract_lets a0 a1
  clear_value a0
  have ha1 : Agree [Part.regs, Part.events, Part.out, Part.threads, Part.pwr, Part.ncp, Part.line, Part.radio, Part.held] x2 a1 := by
    unfold a1
    refine Agree.step ?_ syncRxOpen_agree (by decide)
    exact endAct_agree.mono (by decide)
  clear_value a1
  split
  · split
    · refine Agree.ite ?_ ?_
      · refine Agree.step ?_ update_agree (by decide)
        assumption
      · assumption
    · assumption
  · assumption

theorem settleWindows_agree {x0} :
    Agree [.regs, .events, .out, .threads, .pwr, .ncp, .line, .radio, .held] x0 (settleWindows x0) := by
  unfold settleWindows
  refine Agree.step ?_ stopIdle_agree (by decide)
  refine Agree.forActs ?_ ?_
  · intro y0
    intro y1
    intro y2
    refine Agree.ite ?_ ?_
    · exact Agree.refl _ _
    · exact endWindow_agree.mono (by decide)
  · exact Agree.refl _ _

theorem setDec_agree {x0 x1 x2 x3} :
    Agree [.regs, .line] x3 (setDec x0 x1 x2 x3) := by
  unfold setDec
  refine Agree.step ?_ syncChain_agree (by decide)
  exact setChain_agree.mono (by decide)

theorem takeDet_agree {x0 x1 x2 x3 x4} :
    Agree [.regs, .line] x4 (takeDet x0 x1 x2 x3 x4) := by
  unfold takeDet
  extract_lets a0 a1
  clear_value a0
  clear_value a1
  split
  · exact setDec_agree.mono (by decide)
  · refine Agree.step ?_ setDec_agree (by decide)
    refine Agree.mk' ?_ (by
      intro p hp
      cases p <;> first | exact (hp (by decide)).elim | rfl | exact ⟨rfl, rfl⟩ | exact ⟨rfl, rfl, rfl⟩)
    exact Agree.refl _ _

theorem takeUp_agree {x0 x1 x2} :
    Agree [.regs, .line] x2 (takeUp x0 x1 x2) := by
  unfold takeUp
  extract_lets a0 a1
  clear_value a0
  clear_value a1
  refine Agree.ite ?_ ?_
  · refine Agree.step ?_ syncChain_agree (by decide)
    exact setChain_agree.mono (by decide)
  · refine Agree.ite ?_ ?_
    · exact setDec_agree.mono (by decide)
    · refine Agree.ite ?_ ?_
      · exact setDec_agree.mono (by decide)
      · split
        · exact takeDet_agree.mono (by decide)
        · exact setDec_agree.mono (by decide)

theorem resumeChain_agree {x0 x1} :
    Agree [.regs, .events, .out, .threads, .pwr, .ncp, .line, .radio, .held] x1 (resumeChain x0 x1) := by
  unfold resumeChain
  refine Agree.step ?_ settleWindows_agree (by decide)
  refine Agree.step ?_ takeUp_agree (by decide)
  refine Agree.step ?_ takeUp_agree (by decide)
  refine Agree.step ?_ takeUp_agree (by decide)
  exact State_put_agree.mono (by decide)

theorem mapRecv_agree {x0 x1 x2} :
    Agree [.regs, .line] x2 (mapRecv x0 x1 x2) := by
  unfold mapRecv
  extract_lets a0
  clear_value a0
  split
  · exact setDec_agree.mono (by decide)
  · exact Agree.refl _ _

theorem gatherSteps_agree {x0 x1 x2} :
    Agree [.regs, .line] x2 (gatherSteps x0 x1 x2) := by
  unfold gatherSteps
  refine Agree.foldl ?_ ?_
  · intro y0
    intro y1
    exact mapRecv_agree.mono (by decide)
  · exact Agree.refl _ _

theorem showDet_agree {x0 x1 x2} :
    Agree [.regs] x2 (showDet x0 x1 x2) := by
  unfold showDet
  extract_lets a0 a1 a2
  have ha0 : Agree [Part.regs] x2 a0 := by
    unfold a0
    exact State_put_agree.mono (by decide)
  clear_value a0
  have ha1 : Agree [Part.regs] x2 a1 := by
    unfold a1
    refine Agree.step ?_ State_put_agree (by decide)
    assumption
  clear_value a1
  have ha2 : Agree [Part.regs] x2 a2 := by
    unfold a2
    refine Agree.step ?_ State_put_agree (by decide)
    assumption
  clear_value a2
  refine Agree.step ?_ State_put_agree (by decide)
  assumption

theorem setGain_agree {x0 x1 x2} :
    Agree [.line] x2 (setGain x0 x1 x2) := by
  unfold setGain
  extract_lets a0
  clear_value a0
  exact setChain_agree.mono (by decide)

theorem agcWrite_agree {x0 x1 x2} :
    Agree [.regs, .line] x2 (agcWrite x0 x1 x2) := by
  unfold agcWrite
  extract_lets a0 a1 a2 a3 a4
  clear_value a0
  have ha1 : Agree [Part.regs, Part.line] x2 a1 := by
    unfold a1
    exact unfreeze_agree.mono (by decide)
  clear_value a1
  clear_value a2
  have ha3 : Agree [Part.regs, Part.line] x2 a3 := by
    unfold a3
    exact setGain_agree.mono (by decide)
  clear_value a3
  clear_value a4
  refine Agree.ite ?_ ?_
  · refine Agree.ite ?_ ?_
    · exact Agree.refl _ _
    · exact setChain_agree.mono (by decide)
  · refine Agree.ite ?_ ?_
    · refine Agree.step ?_ setChain_agree (by decide)
      assumption
    · refine Agree.step ?_ setChain_agree (by decide)
      assumption

theorem rxcfgWrite_agree {x0 x1 x2 x3} :
    Agree [.regs, .events, .out, .threads, .pwr, .ncp, .line, .radio, .held] x3 (rxcfgWrite x0 x1 x2 x3) := by
  unfold rxcfgWrite
  extract_lets a0 a1 a2
  clear_value a0
  have ha1 : Agree [Part.regs, Part.events, Part.out, Part.threads, Part.pwr, Part.ncp, Part.line, Part.radio, Part.held] x3 a1 := by
    unfold a1
    exact State_wrTyped_agree.mono (by decide)
  clear_value a1
  have ha2 : Agree [Part.regs, Part.events, Part.out, Part.threads, Part.pwr, Part.ncp, Part.line, Part.radio, Part.held] x3 a2 := by
    unfold a2
    refine Agree.ite ?_ ?_
    · refine Agree.step ?_ agcWrite_agree (by decide)
      assumption
    · assumption
  clear_value a2
  refine Agree.ite ?_ ?_
  · assumption
  · refine Agree.step ?_ settleWindows_agree (by decide)
    refine Agree.step ?_ stopChain_agree (by decide)
    assumption

theorem setRes_agree {x0 x1 x2 x3 x4} :
    Agree [.regs, .line] x4 (setRes x0 x1 x2 x3 x4) := by
  unfold setRes
  refine Agree.foldl ?_ ?_
  · intro y0
    intro y1
    exact mapRecv_agree.mono (by decide)
  · exact Agree.refl _ _

theorem ctxLate_agree {x0 x1} :
    Agree [.regs, .events, .out, .ncp, .line, .radio, .held] x1 (ctxLate x0 x1) := by
  unfold ctxLate
  refine Agree.step ?_ update_agree (by decide)
  refine Agree.step ?_ occur_agree (by decide)
  refine Agree.trans ?_ (bumpStat_agree (by decide) ?_)
  · exact Agree.refl _ _
  · intro y0
    exact ncpOvf_agree.mono (by decide)

theorem resolveSet_agree {x0 x1 x2 x3} :
    Agree [.regs, .events, .out, .ncp, .line, .radio, .held] x2 (resolveSet x0 x1 x2 x3) := by
  unfold resolveSet
  split
  · exact Agree.refl _ _
  · refine Agree.ite ?_ ?_
    · exact Agree.refl _ _
    · split
      · exact Agree.refl _ _
      · refine Agree.ite ?_ ?_
        · exact setRes_agree.mono (by decide)
        · refine Agree.ite ?_ ?_
          · refine Agree.step ?_ setRes_agree (by decide)
            refine Agree.step ?_ ctxLate_agree (by decide)
            refine Agree.trans ?_ (bumpStat_agree (by decide) ?_)
            · exact Agree.refl _ _
            · intro y0
              exact ncpOvf_agree.mono (by decide)
          · refine Agree.step ?_ requestMissAt_agree (by decide)
            exact setRes_agree.mono (by decide)

theorem execChannelStep_agree {x0 x1} :
    AgreeAns [.regs, .events, .out, .line, .held] x1 (execChannelStep x0 x1) := by
  unfold execChannelStep
  extract_lets a0 a1
  clear_value a0
  have ha1 : Agree [Part.regs, Part.events, Part.out, Part.line, Part.held] x1 a1 := by
    unfold a1
    exact mapRecv_agree.mono (by decide)
  clear_value a1
  split
  · refine AgreeAns.of_next ?_
    exact Agree.refl _ _
  · extract_lets a2
    have ha2 : Agree [Part.regs, Part.events, Part.out, Part.line, Part.held] x1 a2 := by
      unfold a2
      refine Agree.foldl ?_ ?_
      · intro y3
        intro y4
        exact mapRecv_agree.mono (by decide)
      · assumption
    clear_value a2
    refine AgreeAns.ite ?_ ?_
    · refine AgreeAns.of_next ?_
      exact Agree.refl _ _
    · refine AgreeAns.of_next ?_
      refine Agree.step ?_ occur_agree (by decide)
      refine Agree.trans ?_ (bumpStat_agree (by decide) ?_)
      · assumption
      · intro y5
        exact phyOvf_agree.mono (by decide)

theorem dropSelf_agree {x0 x1 x2} :
    Agree [.regs, .events, .out, .line, .held] x2 (dropSelf x0 x1 x2) := by
  unfold dropSelf
  extract_lets a0
  clear_value a0
  split
  · exact Agree.refl _ _
  · refine Agree.trans ?_ (bumpStat_agree (by decide) ?_)
    · exact setDec_agree.mono (by decide)
    · intro y1
      exact phyOvf_agree.mono (by decide)

theorem suspendChain_agree {x0 x1} :
    Agree [.regs, .events, .out, .threads, .pwr, .ncp, .line, .radio, .held] x1 (suspendChain x0 x1) := by
  unfold suspendChain
  refine Agree.step ?_ settleWindows_agree (by decide)
  refine Agree.step ?_ dropSelf_agree (by decide)
  refine Agree.step ?_ dropSelf_agree (by decide)
  refine Agree.step ?_ dropSelf_agree (by decide)
  refine Agree.step ?_ dropSelf_agree (by decide)
  exact State_put_agree.mono (by decide)

theorem falseSync_agree {x0 x1} :
    Agree [.regs, .events, .out, .line, .held] x1 (falseSync x0 x1) := by
  unfold falseSync
  refine Agree.step ?_ takeUp_agree (by decide)
  refine Agree.step ?_ occur_agree (by decide)
  refine Agree.trans ?_ (bumpStat_agree (by decide) ?_)
  · exact Agree.refl _ _
  · intro y0
    exact phyOvf_agree.mono (by decide)

theorem headerOn_agree {x0 x1 x2 x3} :
    Agree [.regs, .events, .out, .line, .held] x3 (headerOn x0 x1 x2 x3) := by
  unfold headerOn
  refine Agree.ite ?_ ?_
  · refine Agree.step ?_ takeUp_agree (by decide)
    refine Agree.trans ?_ (bumpStat_agree (by decide) ?_)
    · exact Agree.refl _ _
    · intro y0
      exact phyOvf_agree.mono (by decide)
  · refine Agree.ite ?_ ?_
    · exact takeUp_agree.mono (by decide)
    · exact mapRecv_agree.mono (by decide)

theorem splitSet_agree {x0 x1 x2 x3} :
    Agree [.regs, .events, .out, .line, .held] x3 (splitSet x0 x1 x2 x3) := by
  induction x1 generalizing x2 x3 with
  | nil => exact Agree.refl _ _
  | cons c rest ih =>
    unfold splitSet
    split
    · exact (falseSync_agree.mono (by decide)).trans ih
    · split
      · exact (headerOn_agree.mono (by decide)).trans ih
      · refine Agree.trans (Agree.step ?_ headerOn_agree (by decide)) ih
        exact Agree.mk' (Agree.refl _ _) (by intro p hp; cases p <;> first | exact (hp (by decide)).elim | rfl | exact ⟨rfl, rfl⟩ | exact ⟨rfl, rfl, rfl⟩)

theorem track_agree {x0 x1 x2} :
    Agree [.line] x2 (track x0 x1 x2) := by
  unfold track
  extract_lets a0 a1 a2 a3
  clear_value a1
  clear_value a2
  have ha3 : Agree [Part.line] x2 a3 := by
    unfold a3
    exact setChain_agree.mono (by decide)
  clear_value a3
  refine Agree.ite ?_ ?_
  · refine Agree.step ?_ setGain_agree (by decide)
    exact setChain_agree.mono (by decide)
  · refine Agree.ite ?_ ?_
    · refine Agree.ite ?_ ?_
      · exact setChain_agree.mono (by decide)
      · refine Agree.ite ?_ ?_
        · refine Agree.step ?_ setGain_agree (by decide)
          assumption
        · assumption
    · exact setChain_agree.mono (by decide)

theorem applyGain_agree {x0 x1} :
    Agree [.regs, .line] x1 (applyGain x0 x1) := by
  unfold applyGain
  extract_lets a0
  clear_value a0
  split
  · exact Agree.refl _ _
  · refine Agree.step ?_ setChain_agree (by decide)
    exact State_put_agree.mono (by decide)

theorem execAgcIntervalEnd_agree {x0 x1 x2 x3} :
    AgreeAns [.regs, .time, .copy, .events, .out, .line, .held] x3 (execAgcIntervalEnd x0 x1 x2 x3) := by
  unfold execAgcIntervalEnd
  extract_lets a0 a1 a2 a3
  have ha0 : Agree [Part.regs, Part.time, Part.copy, Part.events, Part.out, Part.line, Part.held] x3 a0 := by
    unfold a0
    exact State_passTo_agree.mono (by decide)
  clear_value a0
  have ha1 : Agree [Part.regs, Part.time, Part.copy, Part.events, Part.out, Part.line, Part.held] x3 a1 := by
    unfold a1
    refine Agree.ite ?_ ?_
    · refine Agree.step ?_ occur_agree (by decide)
      refine Agree.trans ?_ (bumpStat_agree (by decide) ?_)
      · refine Agree.step ?_ State_put_agree (by decide)
        assumption
      · intro y4
        exact phyOvf_agree.mono (by decide)
    · assumption
  clear_value a1
  have ha2 : Agree [Part.regs, Part.time, Part.copy, Part.events, Part.out, Part.line, Part.held] x3 a2 := by
    unfold a2
    refine Agree.step ?_ blankInterval_agree (by decide)
    assumption
  clear_value a2
  have ha3 : Agree [Part.regs, Part.time, Part.copy, Part.events, Part.out, Part.line, Part.held] x3 a3 := by
    unfold a3
    refine Agree.ite ?_ ?_
    · refine Agree.step ?_ track_agree (by decide)
      assumption
    · assumption
  clear_value a3
  refine AgreeAns.ite ?_ ?_
  · refine AgreeAns.of_next ?_
    exact Agree.refl _ _
  · refine AgreeAns.of_next ?_
    refine Agree.step ?_ applyGain_agree (by decide)
    assumption

theorem freeze_agree {x0 x1} :
    Agree [.regs, .line] x1 (freeze x0 x1) := by
  unfold freeze
  extract_lets a0
  clear_value a0
  refine Agree.ite ?_ ?_
  · exact Agree.refl _ _
  · refine Agree.step ?_ setChain_agree (by decide)
    exact State_put_agree.mono (by decide)

theorem keepCand_agree {x0 x1 x2 x3} :
    Agree [.regs, .line] x3 (keepCand x0 x1 x2 x3) := by
  unfold keepCand
  extract_lets a0
  clear_value a0
  refine Agree.ite ?_ ?_
  · refine Agree.ite ?_ ?_
    · exact Agree.refl _ _
    · split
      · exact takeDet_agree.mono (by decide)
      · refine Agree.ite ?_ ?_
        · exact takeDet_agree.mono (by decide)
        · exact Agree.refl _ _
  · exact setDec_agree.mono (by decide)

theorem detect_agree {x0 x1 x2} :
    Agree [.regs, .events, .out, .line, .held] x2 (detect x0 x1 x2) := by
  unfold detect
  extract_lets a0
  clear_value a0
  refine Agree.ite ?_ ?_
  · exact keepCand_agree.mono (by decide)
  · split
    · exact takeDet_agree.mono (by decide)
    · refine Agree.ite ?_ ?_
      · refine Agree.ite ?_ ?_
        · refine Agree.step ?_ takeDet_agree (by decide)
          refine Agree.step ?_ occur_agree (by decide)
          refine Agree.trans ?_ (bumpStat_agree (by decide) ?_)
          · exact Agree.refl _ _
          · intro y1
            exact phyOvf_agree.mono (by decide)
        · exact keepCand_agree.mono (by decide)
      · refine Agree.ite ?_ ?_
        · refine Agree.step ?_ takeDet_agree (by decide)
          refine Agree.step ?_ occur_agree (by decide)
          refine Agree.trans ?_ (bumpStat_agree (by decide) ?_)
          · exact Agree.refl _ _
          · intro y2
            exact phyOvf_agree.mono (by decide)
        · exact keepCand_agree.mono (by decide)

theorem headerCheck_agree {x0 x1 x2 x3} :
    Agree [.regs, .events, .out, .line, .held] x3 (headerCheck x0 x1 x2 x3) := by
  unfold headerCheck
  extract_lets a0
  clear_value a0
  split
  · exact Agree.refl _ _
  · extract_lets a1
    clear_value a1
    refine Agree.ite ?_ ?_
    · exact Agree.refl _ _
    · split
      · refine Agree.foldl ?_ ?_
        · intro y2
          intro y3
          exact headerOn_agree.mono (by decide)
        · exact Agree.refl _ _
      · refine Agree.ite ?_ ?_
        · exact falseSync_agree.mono (by decide)
        · refine Agree.step ?_ gatherSteps_agree (by decide)
          refine Agree.step ?_ splitSet_agree (by decide)
          refine Agree.step ?_ occur_agree (by decide)
          refine Agree.trans ?_ (bumpStat_agree (by decide) ?_)
          · exact Agree.refl _ _
          · intro y4
            exact phyOvf_agree.mono (by decide)

theorem execPreambleDetection_agree {x0 x1 x2} :
    AgreeAns [.regs, .time, .copy, .events, .out, .threads, .pwr, .ncp, .line, .radio, .held] x2 (execPreambleDetection x0 x1 x2) := by
  unfold execPreambleDetection
  extract_lets a0
  have ha0 : Agree [Part.regs, Part.time, Part.copy, Part.events, Part.out, Part.threads, Part.pwr, Part.ncp, Part.line, Part.radio,
  Part.held] x2 a0 := by
    unfold a0
    exact State_passTo_agree.mono (by decide)
  clear_value a0
  refine AgreeAns.ite ?_ ?_
  · refine AgreeAns.of_next ?_
    assumption
  · refine AgreeAns.of_next ?_
    refine Agree.step ?_ settleWindows_agree (by decide)
    refine Agree.step ?_ detSeen_agree (by decide)
    refine Agree.step ?_ thaw_agree (by decide)
    refine Agree.step ?_ detect_agree (by decide)
    refine Agree.step ?_ freeze_agree (by decide)
    refine Agree.step ?_ showDet_agree (by decide)
    assumption

theorem execAgcAutoWrite_agree {x0 x1 x2 x3 x4} :
    AgreeAns [.regs, .events, .out, .threads, .pwr, .ncp, .line, .radio, .held] x4 (execAgcAutoWrite x0 x1 x2 x3 x4) := by
  unfold execAgcAutoWrite
  refine AgreeAns.of_next ?_
  refine Agree.trans ?_ (filtered_agree (by decide) ?_)
  · exact Agree.refl _ _
  · intro y0
    exact rxcfgWrite_agree.mono (by decide)

theorem execHeaderCheck_agree {x0 x1 x2 x3 x4 x5 x6} :
    AgreeAns [.regs, .time, .copy, .events, .out, .threads, .pwr, .ncp, .line, .radio, .held] x6 (execHeaderCheck x0 x1 x2 x3 x4 x5 x6) := by
  unfold execHeaderCheck
  extract_lets a0 a1
  have ha0 : Agree [Part.regs, Part.time, Part.copy, Part.events, Part.out, Part.threads, Part.pwr, Part.ncp, Part.line, Part.radio,
  Part.held] x6 a0 := by
    unfold a0
    refine Agree.step ?_ stopIdle_agree (by decide)
    exact State_passTo_agree.mono (by decide)
  clear_value a0
  refine AgreeAns.of_next ?_
  refine Agree.step ?_ settleWindows_agree (by decide)
  refine Agree.foldl ?_ ?_
  · intro y2
    intro y3
    exact resolveSet_agree.mono (by decide)
  · refine Agree.step ?_ headerCheck_agree (by decide)
    assumption

end Sys2Proof.Machine
end

