-- ==== Sys2Proof/Laws/Frame/Air.lean ====
section
/-!
SUPPORT. Which parts of the state each definition of Machine/Air.lean may change.
-/

namespace Sys2Proof.Machine

theorem firSwap_agree {x0 x1} :
    Agree [.regs, .line] x1 (firSwap x0 x1) := by
  unfold firSwap
  extract_lets a0
  have ha0 : Agree [Part.regs, Part.line] x1 a0 := by
    unfold a0
    refine Agree.foldUpto ?_ ?_
    · intro y1
      intro y2
      extract_lets a3 a4 a5
      clear_value a3
      clear_value a4
      have ha5 : Agree [Part.regs, Part.line] y2 a5 := by
        unfold a5
        exact setXmit_agree.mono (by decide)
      clear_value a5
      refine Agree.step ?_ State_wr_agree (by decide)
      assumption
    · exact Agree.refl _ _
  clear_value a0
  refine Agree.ite ?_ ?_
  · exact Agree.refl _ _
  · refine Agree.step ?_ State_put_agree (by decide)
    refine Agree.step ?_ State_put_agree (by decide)
    assumption

theorem txStop_agree {x0 x1} :
    Agree [.regs, .events, .out, .threads, .pwr, .ncp, .line, .radio, .held] x1 (txStop x0 x1) := by
  unfold txStop
  extract_lets a0 a1 a2
  clear_value a0
  have ha1 : Agree [Part.regs, Part.events, Part.out, Part.threads, Part.pwr, Part.ncp, Part.line, Part.radio, Part.held] x1 a1 := by
    unfold a1
    refine Agree.step ?_ State_put_agree (by decide)
    exact State_put_agree.mono (by decide)
  clear_value a1
  clear_value a2
  refine Agree.ite ?_ ?_
  · exact Agree.refl _ _
  · refine Agree.step ?_ resumeChain_agree (by decide)
    refine Agree.step ?_ setXmit_agree (by decide)
    assumption

theorem startRrx_agree {x0 x1 x2} :
    Agree [.regs, .threads] x2 (startRrx x0 x1 x2) := by
  unfold startRrx
  extract_lets a0 a1
  clear_value a0
  clear_value a1
  refine Agree.ite ?_ ?_
  · exact State_setAct_agree.mono (by decide)
  · refine Agree.step ?_ syncRxOpen_agree (by decide)
    exact State_setAct_agree.mono (by decide)

theorem limitCheck_agree {x0 x1 x2 x3 x4} :
    Agree [.free, .regs, .events, .out, .held] x4 (limitCheck x0 x1 x2 x3 x4) := by
  unfold limitCheck
  extract_lets a0 a1
  clear_value a0
  have ha1 : Agree [Part.free, Part.regs, Part.events, Part.out, Part.held] x4 a1 := by
    unfold a1
    refine Agree.ite ?_ ?_
    · exact State_drew_agree.mono (by decide)
    · exact Agree.refl _ _
  clear_value a1
  refine Agree.ite ?_ ?_
  · refine Agree.step ?_ occur_agree (by decide)
    refine Agree.step ?_ State_put_agree (by decide)
    assumption
  · assumption

theorem lowerOutput_agree {x0 x1 x2} :
    Agree [.regs, .events, .out, .line, .held] x2 (lowerOutput x0 x1 x2) := by
  unfold lowerOutput
  extract_lets a0 a1
  clear_value a0
  have ha1 : Agree [Part.regs, Part.events, Part.out, Part.line, Part.held] x2 a1 := by
    unfold a1
    exact setXmit_agree.mono (by decide)
  clear_value a1
  refine Agree.step ?_ occur_agree (by decide)
  refine Agree.step ?_ State_put_agree (by decide)
  refine Agree.step ?_ State_put_agree (by decide)
  assumption

theorem txStart_agree {x0 x1 x2 x3 x4 x5} :
    Agree [.free, .regs, .events, .out, .threads, .pwr, .ncp, .line, .radio, .held] x5 (txStart x0 x1 x2 x3 x4 x5) := by
  unfold txStart
  extract_lets a0 a1 a2 a3 a4 a5
  have ha0 : Agree [Part.free, Part.regs, Part.events, Part.out, Part.threads, Part.pwr, Part.ncp, Part.line, Part.radio, Part.held] x5 a0 := by
    unfold a0
    split
    · exact State_wr_agree.mono (by decide)
    · exact Agree.refl _ _
  clear_value a0
  have ha1 : Agree [Part.free, Part.regs, Part.events, Part.out, Part.threads, Part.pwr, Part.ncp, Part.line, Part.radio, Part.held] x5 a1 := by
    unfold a1
    refine Agree.step ?_ firSwap_agree (by decide)
    assumption
  clear_value a1
  clear_value a2
  have ha3 : Agree [Part.free, Part.regs, Part.events, Part.out, Part.threads, Part.pwr, Part.ncp, Part.line, Part.radio, Part.held] x5 a3 := by
    unfold a3
    refine Agree.step ?_ setXmit_agree (by decide)
    assumption
  clear_value a3
  have ha4 : Agree [Part.free, Part.regs, Part.events, Part.out, Part.threads, Part.pwr, Part.ncp, Part.line, Part.radio, Part.held] x5 a4 := by
    unfold a4
    refine Agree.step ?_ limitCheck_agree (by decide)
    refine Agree.step ?_ State_put_agree (by decide)
    assumption
  clear_value a4
  have ha5 : Agree [Part.free, Part.regs, Part.events, Part.out, Part.threads, Part.pwr, Part.ncp, Part.line, Part.radio, Part.held] x5 a5 := by
    unfold a5
    refine Agree.ite ?_ ?_
    · refine Agree.step ?_ lowerOutput_agree (by decide)
      assumption
    · assumption
  clear_value a5
  refine Agree.step ?_ suspendChain_agree (by decide)
  assumption

theorem emitLine_agree {x0 x1 x2 x3 x4} :
    Agree [.free, .regs, .events, .out, .threads, .pwr, .ncp, .line, .radio, .held] x4 (emitLine x0 x1 x2 x3 x4) := by
  unfold emitLine
  extract_lets a0 a1 a2 a3 a4 a5 a6 a7 a8
  clear_value a0
  clear_value a2
  have ha3 : Agree [Part.free, Part.regs, Part.events, Part.out, Part.threads, Part.pwr, Part.ncp, Part.line, Part.radio, Part.held] x4 a3 := by
    unfold a3
    refine Agree.ite ?_ ?_
    · exact State_drew_agree.mono (by decide)
    · exact Agree.refl _ _
  clear_value a3
  clear_value a4
  clear_value a5
  have ha6 : Agree [Part.free, Part.regs, Part.events, Part.out, Part.threads, Part.pwr, Part.ncp, Part.line, Part.radio, Part.held] x4 a6 := by
    unfold a6
    split
    · refine Agree.ite ?_ ?_
      · refine Agree.step ?_ update_agree (by decide)
        assumption
      · assumption
    · assumption
  clear_value a6
  have ha7 : Agree [Part.free, Part.regs, Part.events, Part.out, Part.threads, Part.pwr, Part.ncp, Part.line, Part.radio, Part.held] x4 a7 := by
    unfold a7
    refine Agree.foldl ?_ ?_
    · intro y9
      intro y10
      refine Agree.step ?_ State_emit_agree (by decide)
      exact txStart_agree.mono (by decide)
    · assumption
  clear_value a7
  clear_value a8
  refine Agree.step ?_ State_setAct_agree (by decide)
  assumption

theorem execCompatCsmaAccess_agree {x0 x1 x2 x3 x4} :
    AgreeAns [.free, .regs, .time, .copy, .events, .out, .threads, .pwr, .ncp, .line, .radio, .held] x4 (execCompatCsmaAccess x0 x1 x2 x3 x4) := by
  unfold execCompatCsmaAccess
  extract_lets a0 a1 a2 a3 a4
  clear_value a0
  clear_value a1
  clear_value a2
  have ha3 : Agree [Part.free, Part.regs, Part.time, Part.copy, Part.events, Part.out, Part.threads, Part.pwr, Part.ncp, Part.line,
  Part.radio, Part.held] x4 a3 := by
    unfold a3
    exact State_passTo_agree.mono (by decide)
  clear_value a3
  clear_value a4
  split
  · refine AgreeAns.ite ?_ ?_
    · refine AgreeAns.of_next ?_
      exact Agree.refl _ _
    · refine AgreeAns.ite ?_ ?_
      · refine AgreeAns.of_next ?_
        refine Agree.step ?_ endUnsent_agree (by decide)
        assumption
      · refine AgreeAns.ite ?_ ?_
        · refine AgreeAns.of_next ?_
          refine Agree.step ?_ endUnsent_agree (by decide)
          refine Agree.step ?_ occur_agree (by decide)
          assumption
        · refine AgreeAns.ite ?_ ?_
          · refine AgreeAns.of_next ?_
            refine Agree.step ?_ endUnsent_agree (by decide)
            assumption
          · refine AgreeAns.ite ?_ ?_
            · refine AgreeAns.of_next ?_
              refine Agree.step ?_ endUnsent_agree (by decide)
              assumption
            · refine AgreeAns.of_next ?_
              refine Agree.step ?_ emitLine_agree (by decide)
              assumption
  · refine AgreeAns.of_next ?_
    exact Agree.refl _ _

theorem startTxf_agree {x0 x1 x2 x3} :
    Agree [.free, .regs, .events, .out, .threads, .pwr, .ncp, .line, .radio, .held] x3 (startTxf x0 x1 x2 x3) := by
  unfold startTxf
  extract_lets a0
  clear_value a0
  refine Agree.ite ?_ ?_
  · exact endUnsent_agree.mono (by decide)
  · refine Agree.ite ?_ ?_
    · exact endUnsent_agree.mono (by decide)
    · refine Agree.ite ?_ ?_
      · exact State_setAct_agree.mono (by decide)
      · refine Agree.ite ?_ ?_
        · exact endUnsent_agree.mono (by decide)
        · exact emitLine_agree.mono (by decide)

theorem emitRadio_agree {x0 x1 x2 x3 x4} :
    Agree [.regs, .out, .threads, .radio] x4 (emitRadio x0 x1 x2 x3 x4) := by
  unfold emitRadio
  extract_lets a0 a1 a2 a3 a4 a5
  clear_value a0
  clear_value a1
  clear_value a2
  clear_value a3
  have ha4 : Agree [Part.regs, Part.out, Part.threads, Part.radio] x4 a4 := by
    unfold a4
    refine Agree.mk' ?_ (by
      intro p hp
      cases p <;> first | exact (hp (by decide)).elim | rfl | exact ⟨rfl, rfl⟩ | exact ⟨rfl, rfl, rfl⟩)
    exact Agree.refl _ _
  clear_value a4
  have ha5 : Agree [Part.regs, Part.out, Part.threads, Part.radio] x4 a5 := by
    unfold a5
    refine Agree.step ?_ State_emit_agree (by decide)
    refine Agree.step ?_ State_put_agree (by decide)
    assumption
  clear_value a5
  refine Agree.step ?_ State_setAct_agree (by decide)
  assumption

theorem startRtx_agree {x0 x1 x2 x3} :
    Agree [.regs, .events, .out, .threads, .pwr, .radio, .held] x3 (startRtx x0 x1 x2 x3) := by
  unfold startRtx
  extract_lets a0
  clear_value a0
  refine Agree.ite ?_ ?_
  · exact endUnsent_agree.mono (by decide)
  · exact emitRadio_agree.mono (by decide)

theorem startAct_agree {x0 x1 x2 x3} :
    Agree [.free, .regs, .time, .copy, .events, .out, .threads, .pwr, .ncp, .line, .radio, .held] x3 (startAct x0 x1 x2 x3) := by
  unfold startAct
  extract_lets a0 a1 a2 a3
  clear_value a0
  clear_value a1
  clear_value a2
  have ha3 : Agree [Part.free, Part.regs, Part.time, Part.copy, Part.events, Part.out, Part.threads, Part.pwr, Part.ncp, Part.line,
  Part.radio, Part.held] x3 a3 := by
    unfold a3
    refine Agree.step ?_ State_passTo_agree (by decide)
    exact State_setAct_agree.mono (by decide)
  clear_value a3
  refine Agree.ite ?_ ?_
  · exact Agree.refl _ _
  · refine Agree.ite ?_ ?_
    · refine Agree.step ?_ lateUnsent_agree (by decide)
      assumption
    · refine Agree.ite ?_ ?_
      · refine Agree.step ?_ endUnsent_agree (by decide)
        assumption
      · split
        · refine Agree.step ?_ startTxf_agree (by decide)
          assumption
        · refine Agree.step ?_ startRtx_agree (by decide)
          assumption
        · refine Agree.step ?_ State_setAct_agree (by decide)
          assumption
        · refine Agree.step ?_ startRrx_agree (by decide)
          assumption
        · assumption

theorem execActionStart_agree {x0 x1 x2 x3} :
    AgreeAns [.free, .regs, .time, .copy, .events, .out, .threads, .pwr, .ncp, .line, .radio, .held] x3 (execActionStart x0 x1 x2 x3) := by
  unfold execActionStart
  extract_lets a0
  clear_value a0
  refine AgreeAns.ite ?_ ?_
  · refine AgreeAns.of_next ?_
    exact startAct_agree.mono (by decide)
  · refine AgreeAns.of_next ?_
    exact Agree.refl _ _

theorem execRxWindowClose_agree {x0 x1 x2 x3} :
    AgreeAns [.regs, .time, .copy, .events, .out, .threads, .pwr, .ncp, .line, .radio, .held] x3 (execRxWindowClose x0 x1 x2 x3) := by
  unfold execRxWindowClose
  extract_lets a0 a1 a2 a3
  clear_value a0
  clear_value a1
  clear_value a2
  have ha3 : Agree [Part.regs, Part.time, Part.copy, Part.events, Part.out, Part.threads, Part.pwr, Part.ncp, Part.line, Part.radio,
  Part.held] x3 a3 := by
    unfold a3
    exact State_passTo_agree.mono (by decide)
  clear_value a3
  refine AgreeAns.ite ?_ ?_
  · refine AgreeAns.of_next ?_
    exact Agree.refl _ _
  · refine AgreeAns.ite ?_ ?_
    · refine AgreeAns.ite ?_ ?_
      · refine AgreeAns.of_next ?_
        refine Agree.step ?_ syncRxOpen_agree (by decide)
        refine Agree.step ?_ State_setAct_agree (by decide)
        assumption
      · refine AgreeAns.of_next ?_
        refine Agree.step ?_ settleWindows_agree (by decide)
        refine Agree.step ?_ endWindow_agree (by decide)
        assumption
    · refine AgreeAns.ite ?_ ?_
      · refine AgreeAns.of_next ?_
        refine Agree.step ?_ settleWindows_agree (by decide)
        exact State_setAct_agree.mono (by decide)
      · refine AgreeAns.of_next ?_
        exact Agree.refl _ _

theorem countClips_agree {x0 x1} :
    Agree [.regs, .events, .out, .held] x1 (countClips x0 x1) := by
  unfold countClips
  refine Agree.foldUpto ?_ ?_
  · intro y0
    intro y1
    extract_lets a2
    clear_value a2
    refine Agree.ite ?_ ?_
    · exact Agree.refl _ _
    · refine Agree.foldUpto ?_ ?_
      · intro y3
        intro y4
        exact occur_agree.mono (by decide)
      · refine Agree.trans ?_ (addStat_agree (by decide) ?_)
        · exact State_put_agree.mono (by decide)
        · intro y5
          exact phyOvf_agree.mono (by decide)
  · exact Agree.refl _ _

theorem lineEnded_agree {x0 x1 x2 x3} :
    Agree [.threads, .pwr] x3 (lineEnded x0 x1 x2 x3) := by
  unfold lineEnded
  extract_lets a0 a1
  clear_value a0
  clear_value a1
  split
  · exact State_setAct_agree.mono (by decide)
  · exact endSent_agree.mono (by decide)

theorem radioEnded_agree {x0 x1 x2 x3} :
    Agree [.regs, .threads, .pwr] x3 (radioEnded x0 x1 x2 x3) := by
  unfold radioEnded
  extract_lets a0 a1
  clear_value a0
  have ha1 : Agree [Part.regs, Part.threads, Part.pwr] x3 a1 := by
    unfold a1
    exact State_put_agree.mono (by decide)
  clear_value a1
  refine Agree.ite ?_ ?_
  · refine Agree.step ?_ State_setAct_agree (by decide)
    assumption
  · refine Agree.step ?_ endSent_agree (by decide)
    assumption

theorem actEnded_agree {x0 x1 x2 x3 x4} :
    Agree [.regs, .time, .copy, .events, .out, .threads, .pwr, .ncp, .line, .radio, .held] x4 (actEnded x0 x1 x2 x3 x4) := by
  unfold actEnded
  extract_lets a0 a1 a2 a3
  clear_value a0
  clear_value a1
  have ha2 : Agree [Part.regs, Part.time, Part.copy, Part.events, Part.out, Part.threads, Part.pwr, Part.ncp, Part.line, Part.radio,
  Part.held] x4 a2 := by
    unfold a2
    exact State_passTo_agree.mono (by decide)
  clear_value a2
  have ha3 : Agree [Part.regs, Part.time, Part.copy, Part.events, Part.out, Part.threads, Part.pwr, Part.ncp, Part.line, Part.radio,
  Part.held] x4 a3 := by
    unfold a3
    refine Agree.foldl ?_ ?_
    · intro y4
      intro y5
      exact txStop_agree.mono (by decide)
    · refine Agree.step ?_ countClips_agree (by decide)
      assumption
  clear_value a3
  split
  · refine Agree.ite ?_ ?_
    · refine Agree.step ?_ endSent_agree (by decide)
      refine Agree.step ?_ cipherFault_agree (by decide)
      assumption
    · refine Agree.step ?_ lineEnded_agree (by decide)
      assumption
  · refine Agree.ite ?_ ?_
    · refine Agree.step ?_ endSent_agree (by decide)
      refine Agree.step ?_ cipherFault_agree (by decide)
      refine Agree.step ?_ State_put_agree (by decide)
      assumption
    · refine Agree.step ?_ radioEnded_agree (by decide)
      assumption
  · assumption

theorem ackEnded_agree {x0 x1 x2} :
    Agree [.regs, .time, .copy, .events, .out, .threads, .pwr, .ncp, .line, .radio, .held] x2 (ackEnded x0 x1 x2) := by
  unfold ackEnded
  split
  · exact Agree.refl _ _
  · extract_lets a0 a1 a2 a3
    have ha0 : Agree [Part.regs, Part.time, Part.copy, Part.events, Part.out, Part.threads, Part.pwr, Part.ncp, Part.line, Part.radio,
  Part.held] x2 a0 := by
      unfold a0
      exact State_passTo_agree.mono (by decide)
    clear_value a0
    clear_value a1
    have ha2 : Agree [Part.regs, Part.time, Part.copy, Part.events, Part.out, Part.threads, Part.pwr, Part.ncp, Part.line, Part.radio,
  Part.held] x2 a2 := by
      unfold a2
      refine Agree.mk' ?_ (by
        intro p hp
        cases p <;> first | exact (hp (by decide)).elim | rfl | exact ⟨rfl, rfl⟩ | exact ⟨rfl, rfl, rfl⟩)
      assumption
    clear_value a2
    have ha3 : Agree [Part.regs, Part.time, Part.copy, Part.events, Part.out, Part.threads, Part.pwr, Part.ncp, Part.line, Part.radio,
  Part.held] x2 a3 := by
      unfold a3
      split
      · refine Agree.step ?_ unhold_agree (by decide)
        assumption
      · assumption
    clear_value a3
    split
    · exact Agree.refl _ _
    · refine Agree.ite ?_ ?_
      · refine Agree.step ?_ txStop_agree (by decide)
        refine Agree.step ?_ countClips_agree (by decide)
        assumption
      · refine Agree.step ?_ State_put_agree (by decide)
        assumption

theorem execEmissionEnd_agree {x0 x1 x2 x3} :
    AgreeAns [.regs, .time, .copy, .events, .out, .threads, .pwr, .ncp, .line, .radio, .held] x3 (execEmissionEnd x0 x1 x2 x3) := by
  unfold execEmissionEnd
  split
  · extract_lets a0
    clear_value a0
    refine AgreeAns.ite ?_ ?_
    · refine AgreeAns.of_next ?_
      exact actEnded_agree.mono (by decide)
    · refine AgreeAns.of_next ?_
      exact Agree.refl _ _
  · refine AgreeAns.of_next ?_
    exact ackEnded_agree.mono (by decide)

end Sys2Proof.Machine
end

