-- ==== Sys2Proof/Laws/Frame/Deliver.lean ====
section
/-!
SUPPORT. Which parts of the state each definition of Machine/Deliver.lean may change.
-/

namespace Sys2Proof.Machine

theorem ringPut_agree {x0 x1 x2} :
    AgreeFst [.regs, .bulk] x2 (ringPut x0 x1 x2) := by
  unfold ringPut
  refine AgreeFst.ite ?_ ?_
  · refine AgreeFst.mk ?_
    exact Agree.refl _ _
  · split
    extract_lets a0 a1
    clear_value a0
    have ha1 : Agree [Part.regs, Part.bulk] x2 a1 := by
      unfold a1
      exact wrBulkL_agree.mono (by decide)
    clear_value a1
    refine AgreeFst.mk ?_
    refine Agree.step ?_ State_put_agree (by decide)
    assumption

theorem deliver_agree {x0 x1 x2 x3 x4 x5 x6 x7} :
    Agree [.free, .regs, .queues, .events, .bulk, .out, .held] x7 (deliver x0 x1 x2 x3 x4 x5 x6 x7) := by
  unfold deliver
  extract_lets a0 a1
  clear_value a0
  have ha1 : Agree [Part.free, Part.regs, Part.queues, Part.events, Part.bulk, Part.out, Part.held] x7 a1 := by
    unfold a1
    refine Agree.ite ?_ ?_
    · exact State_drew_agree.mono (by decide)
    · exact Agree.refl _ _
  clear_value a1
  split
  split
  refine Agree.step ?_ queueWrite_agree (by decide)
  refine Agree.step ?_ (AgreeFst.of_eq ringPut_agree (by assumption)) (by decide)
  assumption

theorem countRefused_agree {x0 x1 x2} :
    Agree [.regs, .events, .out, .held] x2 (countRefused x0 x1 x2) := by
  unfold countRefused
  extract_lets a0
  have ha0 : Agree [Part.regs, Part.events, Part.out, Part.held] x2 a0 := by
    unfold a0
    refine Agree.step ?_ occur_agree (by decide)
    refine Agree.trans ?_ (bumpStat_agree (by decide) ?_)
    · exact Agree.refl _ _
    · intro y1
      exact ncpOvf_agree.mono (by decide)
  clear_value a0
  split
  · exact Agree.refl _ _
  · refine Agree.step ?_ occur_agree (by decide)
    refine Agree.trans ?_ (bumpStat_agree (by decide) ?_)
    · exact Agree.refl _ _
    · intro y2
      exact ncpOvf_agree.mono (by decide)
  · refine Agree.ite ?_ ?_
    · refine Agree.step ?_ occur_agree (by decide)
      assumption
    · assumption

end Sys2Proof.Machine
end

