-- ==== Sys2Proof/Laws/Frame/Judge.lean ====
section
/-!
SUPPORT. Which parts of the state each definition of Machine/Judge.lean may change.
-/

namespace Sys2Proof.Machine

theorem markStep_agree {x0 x1 x2} :
    Agree [.regs, .events, .out, .ncp, .line, .radio, .held] x2 (markStep x0 x1 x2) := by
  unfold markStep
  split
  · refine Agree.ite ?_ ?_
    · exact update_agree.mono (by decide)
    · exact Agree.refl _ _
  · exact Agree.refl _ _

theorem countSecLow_agree {x0} :
    Agree [.regs, .events, .out, .held] x0 (countSecLow x0) := by
  unfold countSecLow
  refine Agree.step ?_ occur_agree (by decide)
  refine Agree.trans ?_ (bumpStat_agree (by decide) ?_)
  · exact Agree.refl _ _
  · intro y0
    exact macOvf_agree.mono (by decide)

theorem linkUpdate_agree {x0 x1 x2} :
    Agree [.regs, .events, .out, .ncp, .line, .radio, .held] x2 (linkUpdate x0 x1 x2) := by
  unfold linkUpdate
  split
  · exact Agree.refl _ _
  · exact update_agree.mono (by decide)

theorem commitAck_agree {x0 x1 x2} :
    Agree [.ncp, .line] x2 (commitAck x0 x1 x2) := by
  unfold commitAck
  extract_lets a0 a1 a2 a3 a4 a5
  clear_value a0
  clear_value a1
  clear_value a2
  clear_value a3
  clear_value a4
  have ha5 : Agree [Part.ncp, Part.line] x2 a5 := by
    unfold a5
    refine Agree.mk' ?_ (by
      intro p hp
      cases p <;> first | exact (hp (by decide)).elim | rfl | exact ⟨rfl, rfl⟩ | exact ⟨rfl, rfl, rfl⟩)
    exact Agree.refl _ _
  clear_value a5
  split
  · refine Agree.step ?_ hold_agree (by decide)
    assumption
  · assumption

theorem judgeDup_agree {x0 x1 x2} :
    Agree [.regs, .events, .out, .ncp, .line, .radio, .held] x2 (judgeDup x0 x1 x2) := by
  unfold judgeDup
  extract_lets a0 a1 a2
  clear_value a0
  have ha1 : Agree [Part.regs, Part.events, Part.out, Part.ncp, Part.line, Part.radio, Part.held] x2 a1 := by
    unfold a1
    refine Agree.ite ?_ ?_
    · refine Agree.step ?_ occur_agree (by decide)
      refine Agree.trans ?_ (bumpStat_agree (by decide) ?_)
      · exact Agree.refl _ _
      · intro y3
        exact macOvf_agree.mono (by decide)
    · refine Agree.step ?_ occur_agree (by decide)
      refine Agree.trans ?_ (bumpStat_agree (by decide) ?_)
      · exact Agree.refl _ _
      · intro y4
        exact rfOvf_agree.mono (by decide)
  clear_value a1
  have ha2 : Agree [Part.regs, Part.events, Part.out, Part.ncp, Part.line, Part.radio, Part.held] x2 a2 := by
    unfold a2
    refine Agree.step ?_ linkUpdate_agree (by decide)
    refine Agree.step ?_ ctxStat_agree (by decide)
    assumption
  clear_value a2
  refine Agree.ite ?_ ?_
  · refine Agree.step ?_ commitAck_agree (by decide)
    assumption
  · assumption

theorem radioMarks_agree {x0 x1 x2 x3} :
    Agree [.regs, .events, .out, .held] x3 (radioMarks x0 x1 x2 x3) := by
  unfold radioMarks
  split
  · exact Agree.refl _ _
  · extract_lets a0
    have ha0 : Agree [Part.regs, Part.events, Part.out, Part.held] x3 a0 := by
      unfold a0
      refine Agree.ite ?_ ?_
      · refine Agree.step ?_ occur_agree (by decide)
        refine Agree.trans ?_ (bumpStat_agree (by decide) ?_)
        · exact Agree.refl _ _
        · intro y1
          exact rfOvf_agree.mono (by decide)
      · exact Agree.refl _ _
    clear_value a0
    refine Agree.ite ?_ ?_
    · exact Agree.refl _ _
    · refine Agree.ite ?_ ?_
      · refine Agree.step ?_ occur_agree (by decide)
        assumption
      · assumption

theorem acceptKey_agree {x0 x1 x2 x3} :
    Agree [.regs, .events, .out, .ncp, .held] x3 (acceptKey x0 x1 x2 x3) := by
  unfold acceptKey
  split
  · extract_lets a0 a1 a2
    have ha0 : Agree [Part.regs, Part.events, Part.out, Part.ncp, Part.held] x3 a0 := by
      unfold a0
      refine Agree.step ?_ setRxSeen_agree (by decide)
      exact setCtxJ_agree.mono (by decide)
    clear_value a0
    have ha1 : Agree [Part.regs, Part.events, Part.out, Part.ncp, Part.held] x3 a1 := by
      unfold a1
      refine Agree.step ?_ journal_agree (by decide)
      refine Agree.step ?_ journal_agree (by decide)
      assumption
    clear_value a1
    have ha2 : Agree [Part.regs, Part.events, Part.out, Part.ncp, Part.held] x3 a2 := by
      unfold a2
      refine Agree.step ?_ rekeyWarn_agree (by decide)
      assumption
    clear_value a2
    refine Agree.ite ?_ ?_
    · refine Agree.step ?_ promote_agree (by decide)
      assumption
    · assumption
  · refine Agree.step ?_ setCtx_agree (by decide)
    exact setCtx_agree.mono (by decide)

theorem markCapable_agree {x0 x1 x2} :
    Agree [.regs, .ncp] x2 (markCapable x0 x1 x2) := by
  unfold markCapable
  refine Agree.ite ?_ ?_
  · exact Agree.refl _ _
  · refine Agree.ite ?_ ?_
    · exact setCtxBits_agree.mono (by decide)
    · exact State_put_agree.mono (by decide)

theorem neighbours_agree {x0 x1 x2} :
    Agree [.ncp] x2 (neighbours x0 x1 x2) := by
  unfold neighbours
  extract_lets a0 a1
  clear_value a0
  have ha1 : Agree [Part.ncp] x2 a1 := by
    unfold a1
    refine Agree.step ?_ setCtx_agree (by decide)
    exact setCtx_agree.mono (by decide)
  clear_value a1
  refine Agree.ite ?_ ?_
  · exact Agree.refl _ _
  · refine Agree.foldUpto ?_ ?_
    · intro y2
      intro y3
      exact setCtx_agree.mono (by decide)
    · assumption

theorem phaseVote_agree {x0 x1 x2 x3} :
    AgreeFst [.regs, .events, .out, .ncp, .held] x3 (phaseVote x0 x1 x2 x3) := by
  unfold phaseVote
  extract_lets a0 a1 a2 a3 a4
  clear_value a1
  have ha2 : Agree [Part.regs, Part.events, Part.out, Part.ncp, Part.held] x3 a2 := by
    unfold a2
    refine Agree.step ?_ setCtxBits_agree (by decide)
    refine Agree.step ?_ setCtxBits_agree (by decide)
    exact setCtxBits_agree.mono (by decide)
  clear_value a2
  clear_value a3
  have ha4 : Agree [Part.regs, Part.events, Part.out, Part.ncp, Part.held] x3 a4 := by
    unfold a4
    refine Agree.step ?_ setCtxBits_agree (by decide)
    refine Agree.step ?_ setCtxBits_agree (by decide)
    assumption
  clear_value a4
  refine AgreeFst.ite ?_ ?_
  · refine AgreeFst.mk ?_
    assumption
  · refine AgreeFst.mk ?_
    refine Agree.ite ?_ ?_
    · refine Agree.step ?_ occur_agree (by decide)
      assumption
    · assumption

theorem identify_agree {x0 x1 x2 x3} :
    AgreeFst [.regs, .events, .out, .ncp, .held] x3 (identify x0 x1 x2 x3) := by
  unfold identify
  extract_lets a0 a1 a2
  clear_value a0
  have ha2 : Agree [Part.regs, Part.events, Part.out, Part.ncp, Part.held] x3 a2 := by
    unfold a2
    exact setCtxBits_agree.mono (by decide)
  clear_value a2
  refine AgreeFst.ite ?_ ?_
  · refine AgreeFst.mk ?_
    refine Agree.step ?_ occur_agree (by decide)
    refine Agree.trans ?_ (bumpStat_agree (by decide) ?_)
    · refine Agree.step ?_ setCtxBits_agree (by decide)
      exact setCtxBits_agree.mono (by decide)
    · intro y3
      exact macOvf_agree.mono (by decide)
  · refine AgreeFst.ite ?_ ?_
    · refine AgreeFst.mk ?_
      refine Agree.step ?_ setCtxBits_agree (by decide)
      assumption
    · refine AgreeFst.step ?_ phaseVote_agree (by decide)
      assumption

theorem acceptUpdate_agree {x0 x1 x2 x3} :
    AgreeFst [.regs, .events, .out, .ncp, .radio, .held] x3 (acceptUpdate x0 x1 x2 x3) := by
  unfold acceptUpdate
  extract_lets a0 a1 a2 a3 a4 a5
  have ha0 : Agree [Part.regs, Part.events, Part.out, Part.ncp, Part.radio, Part.held] x3 a0 := by
    unfold a0
    exact acceptKey_agree.mono (by decide)
  clear_value a0
  have ha1 : Agree [Part.regs, Part.events, Part.out, Part.ncp, Part.radio, Part.held] x3 a1 := by
    unfold a1
    refine Agree.step ?_ setCtx_agree (by decide)
    assumption
  clear_value a1
  have ha2 : Agree [Part.regs, Part.events, Part.out, Part.ncp, Part.radio, Part.held] x3 a2 := by
    unfold a2
    refine Agree.step ?_ setCtx_agree (by decide)
    assumption
  clear_value a2
  have ha3 : Agree [Part.regs, Part.events, Part.out, Part.ncp, Part.radio, Part.held] x3 a3 := by
    unfold a3
    refine Agree.step ?_ setCtxPair_agree (by decide)
    assumption
  clear_value a3
  have ha4 : Agree [Part.regs, Part.events, Part.out, Part.ncp, Part.radio, Part.held] x3 a4 := by
    unfold a4
    refine Agree.ite ?_ ?_
    · assumption
    · refine Agree.step ?_ applySync_agree (by decide)
      assumption
  clear_value a4
  have ha5 : Agree [Part.regs, Part.events, Part.out, Part.ncp, Part.radio, Part.held] x3 a5 := by
    unfold a5
    refine Agree.step ?_ ctxStat_agree (by decide)
    refine Agree.step ?_ markCapable_agree (by decide)
    refine Agree.step ?_ neighbours_agree (by decide)
    assumption
  clear_value a5
  refine AgreeFst.ite ?_ ?_
  · refine AgreeFst.mk ?_
    assumption
  · split
    · refine AgreeFst.step ?_ identify_agree (by decide)
      assumption
    · refine AgreeFst.mk ?_
      assumption

theorem takeTmap_agree {x0 x1 x2} :
    Agree [.regs, .events, .out, .ncp, .held] x2 (takeTmap x0 x1 x2) := by
  unfold takeTmap
  extract_lets a0 a1 a2 a3 a4
  clear_value a0
  clear_value a1
  have ha2 : Agree [Part.regs, Part.events, Part.out, Part.ncp, Part.held] x2 a2 := by
    unfold a2
    exact setCtx_agree.mono (by decide)
  clear_value a2
  have ha3 : Agree [Part.regs, Part.events, Part.out, Part.ncp, Part.held] x2 a3 := by
    unfold a3
    refine Agree.step ?_ setCtx_agree (by decide)
    assumption
  clear_value a3
  have ha4 : Agree [Part.regs, Part.events, Part.out, Part.ncp, Part.held] x2 a4 := by
    unfold a4
    refine Agree.foldUpto ?_ ?_
    · intro y5
      intro y6
      exact setCtx_agree.mono (by decide)
    · assumption
  clear_value a4
  refine Agree.ite ?_ ?_
  · refine Agree.step ?_ occur_agree (by decide)
    refine Agree.trans ?_ (bumpStat_agree (by decide) ?_)
    · exact Agree.refl _ _
    · intro y7
      exact macOvf_agree.mono (by decide)
  · refine Agree.step ?_ occur_agree (by decide)
    refine Agree.step ?_ setCtxBits_agree (by decide)
    refine Agree.step ?_ setCtxBits_agree (by decide)
    refine Agree.step ?_ clearBad_agree (by decide)
    assumption

theorem windowsDone_agree {x0 x1 x2} :
    Agree [.regs, .threads, .pwr] x2 (windowsDone x0 x1 x2) := by
  unfold windowsDone
  refine Agree.step ?_ syncRxOpen_agree (by decide)
  refine Agree.forActs ?_ ?_
  · intro y0
    intro y1
    intro y2
    exact endAct_agree.mono (by decide)
  · exact Agree.refl _ _

theorem pollRefused_agree {x0 x1 x2 x3} :
    Agree [.regs, .events, .out, .threads, .pwr, .held] x3 (pollRefused x0 x1 x2 x3) := by
  unfold pollRefused
  split
  · exact Agree.refl _ _
  · refine Agree.ite ?_ ?_
    · refine Agree.step ?_ windowsDone_agree (by decide)
      exact occur_agree.mono (by decide)
    · exact Agree.refl _ _

theorem judgeDeliver_agree {x0 x1 x2 x3} :
    Agree [.free, .regs, .queues, .events, .bulk, .out, .threads, .pwr, .ncp, .line, .radio, .held] x3 (judgeDeliver x0 x1 x2 x3) := by
  unfold judgeDeliver
  extract_lets a0 a1 a2 a3 a4 a5 a6
  clear_value a0
  clear_value a1
  clear_value a2
  clear_value a3
  have ha4 : Agree [Part.free, Part.regs, Part.queues, Part.events, Part.bulk, Part.out, Part.threads, Part.pwr, Part.ncp, Part.line,
  Part.radio, Part.held] x3 a4 := by
    unfold a4
    exact linkUpdate_agree.mono (by decide)
  clear_value a4
  have ha5 : Agree [Part.free, Part.regs, Part.queues, Part.events, Part.bulk, Part.out, Part.threads, Part.pwr, Part.ncp, Part.line,
  Part.radio, Part.held] x3 a5 := by
    unfold a5
    refine Agree.step ?_ radioMarks_agree (by decide)
    assumption
  clear_value a5
  have ha6 : Agree [Part.free, Part.regs, Part.queues, Part.events, Part.bulk, Part.out, Part.threads, Part.pwr, Part.ncp, Part.line,
  Part.radio, Part.held] x3 a6 := by
    unfold a6
    refine Agree.step ?_ pollRefused_agree (by decide)
    refine Agree.step ?_ countRefused_agree (by decide)
    assumption
  clear_value a6
  split
  · split
    extract_lets a7 a8
    have ha7 : Agree [Part.free, Part.regs, Part.queues, Part.events, Part.bulk, Part.out, Part.threads, Part.pwr, Part.ncp, Part.line,
  Part.radio, Part.held] x3 a7 := by
      unfold a7
      refine Agree.ite ?_ ?_
      · refine Agree.step ?_ takeTmap_agree (by decide)
        refine Agree.step ?_ (AgreeFst.of_eq acceptUpdate_agree (by assumption)) (by decide)
        assumption
      · refine Agree.ite ?_ ?_
        · refine Agree.step ?_ (AgreeFst.of_eq acceptUpdate_agree (by assumption)) (by decide)
          assumption
        · refine Agree.step ?_ deliver_agree (by decide)
          refine Agree.step ?_ (AgreeFst.of_eq acceptUpdate_agree (by assumption)) (by decide)
          assumption
    clear_value a7
    have ha8 : Agree [Part.free, Part.regs, Part.queues, Part.events, Part.bulk, Part.out, Part.threads, Part.pwr, Part.ncp, Part.line,
  Part.radio, Part.held] x3 a8 := by
      unfold a8
      refine Agree.step ?_ windowsDone_agree (by decide)
      assumption
    clear_value a8
    refine Agree.ite ?_ ?_
    · refine Agree.step ?_ commitAck_agree (by decide)
      assumption
    · assumption
  · refine Agree.ite ?_ ?_
    · refine Agree.step ?_ commitAck_agree (by decide)
      assumption
    · assumption
  · refine Agree.step ?_ countRefused_agree (by decide)
    assumption

theorem windowsHeard_agree {x0 x1 x2} :
    Agree [.threads] x2 (windowsHeard x0 x1 x2) := by
  unfold windowsHeard
  split
  · exact Agree.refl _ _
  · refine Agree.forActs ?_ ?_
    · intro y0
      intro y1
      intro y2
      extract_lets a3
      clear_value a3
      exact State_setAct_agree.mono (by decide)
    · exact Agree.refl _ _

theorem judgeCtx_agree {x0 x1 x2} :
    Agree [.free, .regs, .queues, .events, .bulk, .out, .threads, .pwr, .ncp, .line, .radio, .held] x2 (judgeCtx x0 x1 x2) := by
  unfold judgeCtx
  extract_lets a0 a1 a2
  clear_value a0
  have ha1 : Agree [Part.free, Part.regs, Part.queues, Part.events, Part.bulk, Part.out, Part.threads, Part.pwr, Part.ncp, Part.line,
  Part.radio, Part.held] x2 a1 := by
    unfold a1
    exact touch_agree.mono (by decide)
  clear_value a1
  have ha2 : Agree [Part.free, Part.regs, Part.queues, Part.events, Part.bulk, Part.out, Part.threads, Part.pwr, Part.ncp, Part.line,
  Part.radio, Part.held] x2 a2 := by
    unfold a2
    refine Agree.ite ?_ ?_
    · refine Agree.step ?_ occur_agree (by decide)
      refine Agree.trans ?_ (bumpStat_agree (by decide) ?_)
      · assumption
      · intro y3
        exact macOvf_agree.mono (by decide)
    · refine Agree.step ?_ occur_agree (by decide)
      refine Agree.trans ?_ (bumpStat_agree (by decide) ?_)
      · assumption
      · intro y4
        exact rfOvf_agree.mono (by decide)
  clear_value a2
  refine Agree.ite ?_ ?_
  · assumption
  · refine Agree.ite ?_ ?_
    · refine Agree.trans ?_ (bumpStat_agree (by decide) ?_)
      · assumption
      · intro y5
        exact tnlOvf_agree.mono (by decide)
    · refine Agree.ite ?_ ?_
      · refine Agree.step ?_ ctxStat_agree (by decide)
        refine Agree.step ?_ countSecLow_agree (by decide)
        assumption
      · refine Agree.ite ?_ ?_
        · refine Agree.step ?_ countSecLow_agree (by decide)
          assumption
        · refine Agree.ite ?_ ?_
          · refine Agree.ite ?_ ?_
            · refine Agree.step ?_ judgeDup_agree (by decide)
              assumption
            · refine Agree.step ?_ judgeDeliver_agree (by decide)
              assumption
          · refine Agree.ite ?_ ?_
            · assumption
            · refine Agree.ite ?_ ?_
              · refine Agree.step ?_ cipherFault_agree (by decide)
                assumption
              · split
                · refine Agree.step ?_ ctxStat_agree (by decide)
                  assumption
                · extract_lets a6 a7
                  clear_value a6
                  have ha7 : Agree [Part.free, Part.regs, Part.queues, Part.events, Part.bulk, Part.out, Part.threads, Part.pwr, Part.ncp, Part.line,
  Part.radio, Part.held] x2 a7 := by
                    unfold a7
                    refine Agree.step ?_ windowsHeard_agree (by decide)
                    assumption
                  clear_value a7
                  refine Agree.ite ?_ ?_
                  · refine Agree.trans ?_ (bumpStat_agree (by decide) ?_)
                    · assumption
                    · intro y8
                      exact tnlOvf_agree.mono (by decide)
                  · refine Agree.ite ?_ ?_
                    · refine Agree.step ?_ occur_agree (by decide)
                      refine Agree.step ?_ occur_agree (by decide)
                      refine Agree.trans ?_ (bumpStat_agree (by decide) ?_)
                      · assumption
                      · intro y9
                        exact ciphOvf_agree.mono (by decide)
                    · refine Agree.ite ?_ ?_
                      · refine Agree.step ?_ judgeDup_agree (by decide)
                        assumption
                      · refine Agree.step ?_ judgeDeliver_agree (by decide)
                        assumption

theorem compatAnswer_agree {x0 x1 x2} :
    Agree [.free, .line] x2 (compatAnswer x0 x1 x2) := by
  unfold compatAnswer
  extract_lets a0 a1 a2
  clear_value a0
  have ha1 : Agree [Part.free, Part.line] x2 a1 := by
    unfold a1
    exact State_drew_agree.mono (by decide)
  clear_value a1
  clear_value a2
  refine Agree.mk' ?_ (by
    intro p hp
    cases p <;> first | exact (hp (by decide)).elim | rfl | exact ⟨rfl, rfl⟩ | exact ⟨rfl, rfl, rfl⟩)
  assumption

theorem compatDeliver_agree {x0 x1 x2} :
    Agree [.regs, .queues, .events, .bulk, .out, .held] x2 (compatDeliver x0 x1 x2) := by
  unfold compatDeliver
  extract_lets a0 a1 a2
  clear_value a0
  clear_value a1
  clear_value a2
  split
  · split
    extract_lets a3
    clear_value a3
    refine Agree.step ?_ queueWrite_agree (by decide)
    refine Agree.step ?_ (AgreeFst.of_eq ringPut_agree (by assumption)) (by decide)
    exact Agree.refl _ _
  · refine Agree.trans ?_ (bumpStat_agree (by decide) ?_)
    · exact Agree.refl _ _
    · intro y4
      exact phyOvf_agree.mono (by decide)

theorem countUnknown_agree {x0} :
    Agree [.regs, .events, .out, .held] x0 (countUnknown x0) := by
  unfold countUnknown
  refine Agree.step ?_ occur_agree (by decide)
  refine Agree.trans ?_ (bumpStat_agree (by decide) ?_)
  · exact Agree.refl _ _
  · intro y0
    exact macOvf_agree.mono (by decide)

theorem judgeOn_agree {x0 x1 x2} :
    Agree [.free, .regs, .queues, .events, .bulk, .out, .threads, .pwr, .ncp, .line, .radio, .held] x2 (judgeOn x0 x1 x2) := by
  unfold judgeOn
  extract_lets a0 a1
  clear_value a0
  have ha1 : Agree [Part.free, Part.regs, Part.queues, Part.events, Part.bulk, Part.out, Part.threads, Part.pwr, Part.ncp, Part.line,
  Part.radio, Part.held] x2 a1 := by
    unfold a1
    refine Agree.mk' ?_ (by
      intro p hp
      cases p <;> first | exact (hp (by decide)).elim | rfl | exact ⟨rfl, rfl⟩ | exact ⟨rfl, rfl, rfl⟩)
    exact Agree.refl _ _
  clear_value a1
  refine Agree.ite ?_ ?_
  · exact judgeCtx_agree.mono (by decide)
  · refine Agree.ite ?_ ?_
    · refine Agree.step ?_ ctxLate_agree (by decide)
      refine Agree.trans ?_ (bumpStat_agree (by decide) ?_)
      · exact Agree.refl _ _
      · intro y2
        exact ncpOvf_agree.mono (by decide)
    · refine Agree.step ?_ requestMissAt_agree (by decide)
      refine Agree.step ?_ hold_agree (by decide)
      assumption

theorem judgeUnknown_agree {x0 x1} :
    Agree [.free, .regs, .queues, .events, .bulk, .out, .threads, .pwr, .ncp, .line, .held] x1 (judgeUnknown x0 x1) := by
  unfold judgeUnknown
  extract_lets a0 a1 a2 a3 a4
  clear_value a0
  clear_value a1
  clear_value a2
  have ha3 : Agree [Part.free, Part.regs, Part.queues, Part.events, Part.bulk, Part.out, Part.threads, Part.pwr, Part.ncp, Part.line,
  Part.held] x1 a3 := by
    unfold a3
    refine Agree.step ?_ windowsDone_agree (by decide)
    exact deliver_agree.mono (by decide)
  clear_value a3
  have ha4 : Agree [Part.free, Part.regs, Part.queues, Part.events, Part.bulk, Part.out, Part.threads, Part.pwr, Part.ncp, Part.line,
  Part.held] x1 a4 := by
    unfold a4
    exact countRefused_agree.mono (by decide)
  clear_value a4
  refine Agree.ite ?_ ?_
  · exact countUnknown_agree.mono (by decide)
  · refine Agree.ite ?_ ?_
    · exact Agree.refl _ _
    · refine Agree.ite ?_ ?_
      · exact countSecLow_agree.mono (by decide)
      · split
        · refine Agree.ite ?_ ?_
          · refine Agree.step ?_ commitAck_agree (by decide)
            assumption
          · assumption
        · refine Agree.ite ?_ ?_
          · refine Agree.step ?_ commitAck_agree (by decide)
            assumption
          · assumption
        · exact countRefused_agree.mono (by decide)

theorem judge_agree {x0 x1 x2} :
    Agree [.free, .regs, .queues, .events, .bulk, .out, .threads, .pwr, .ncp, .line, .radio, .held] x2 (judge x0 x1 x2) := by
  unfold judge
  extract_lets a0
  clear_value a0
  refine Agree.ite ?_ ?_
  · split
    · exact linkUpdate_agree.mono (by decide)
    · exact Agree.refl _ _
  · split
    · exact judgeOn_agree.mono (by decide)
    · split
      · exact judgeOn_agree.mono (by decide)
      · exact judgeUnknown_agree.mono (by decide)
    · split
      · exact judgeOn_agree.mono (by decide)
      · exact countUnknown_agree.mono (by decide)

theorem judgeRadio_agree {x0 x1 x2} :
    Agree [.free, .regs, .queues, .events, .bulk, .out, .threads, .pwr, .ncp, .line, .radio, .held] x2 (judgeRadio x0 x1 x2) := by
  unfold judgeRadio
  refine Agree.ite ?_ ?_
  · exact Agree.refl _ _
  · exact judge_agree.mono (by decide)

theorem execRfFrameRx_agree {x0 x1} :
    AgreeAns [.free, .regs, .time, .copy, .queues, .events, .bulk, .out, .threads, .pwr, .ncp, .line, .radio, .held] x1 (execRfFrameRx x0 x1) := by
  unfold execRfFrameRx
  extract_lets a0 a1 a2 a3
  have ha0 : Agree [Part.free, Part.regs, Part.time, Part.copy, Part.queues, Part.events, Part.bulk, Part.out, Part.threads, Part.pwr,
  Part.ncp, Part.line, Part.radio, Part.held] x1 a0 := by
    unfold a0
    exact State_passTo_agree.mono (by decide)
  clear_value a0
  clear_value a1
  clear_value a2
  have ha3 : Agree [Part.free, Part.regs, Part.time, Part.copy, Part.queues, Part.events, Part.bulk, Part.out, Part.threads, Part.pwr,
  Part.ncp, Part.line, Part.radio, Part.held] x1 a3 := by
    unfold a3
    refine Agree.mk' ?_ (by
      intro p hp
      cases p <;> first | exact (hp (by decide)).elim | rfl | exact ⟨rfl, rfl⟩ | exact ⟨rfl, rfl, rfl⟩)
    assumption
  clear_value a3
  split
  · refine AgreeAns.of_next ?_
    exact Agree.refl _ _
  · extract_lets a4 a5
    have ha5 : Agree [Part.free, Part.regs, Part.time, Part.copy, Part.queues, Part.events, Part.bulk, Part.out, Part.threads, Part.pwr,
  Part.ncp, Part.line, Part.radio, Part.held] x1 a5 := by
      unfold a5
      refine Agree.ite ?_ ?_
      · assumption
      · refine Agree.ite ?_ ?_
        · refine Agree.step ?_ occur_agree (by decide)
          refine Agree.trans ?_ (bumpStat_agree (by decide) ?_)
          · assumption
          · intro y6
            exact rfOvf_agree.mono (by decide)
        · refine Agree.step ?_ judgeRadio_agree (by decide)
          assumption
    clear_value a5
    refine AgreeAns.ite ?_ ?_
    · refine AgreeAns.of_next ?_
      exact Agree.refl _ _
    · refine AgreeAns.of_next ?_
      refine Agree.step ?_ settleWindows_agree (by decide)
      assumption

theorem execSfdDetected_agree {x0 x1} :
    AgreeAns [.time, .copy, .threads, .radio] x1 (execSfdDetected x0 x1) := by
  unfold execSfdDetected
  extract_lets a0 a1 a2 a3
  clear_value a0
  have ha1 : Agree [Part.time, Part.copy, Part.threads, Part.radio] x1 a1 := by
    unfold a1
    exact State_passTo_agree.mono (by decide)
  clear_value a1
  have ha2 : Agree [Part.time, Part.copy, Part.threads, Part.radio] x1 a2 := by
    unfold a2
    refine Agree.forActs ?_ ?_
    · intro y4
      intro y5
      intro y6
      extract_lets a7
      clear_value a7
      exact State_setAct_agree.mono (by decide)
    · assumption
  clear_value a2
  clear_value a3
  refine AgreeAns.ite ?_ ?_
  · refine AgreeAns.of_next ?_
    exact Agree.refl _ _
  · refine AgreeAns.of_next ?_
    refine Agree.mk' ?_ (by
      intro p hp
      cases p <;> first | exact (hp (by decide)).elim | rfl | exact ⟨rfl, rfl⟩ | exact ⟨rfl, rfl, rfl⟩)
    assumption

theorem compatResponse_agree {x0 x1 x2} :
    Agree [.free, .line] x2 (compatResponse x0 x1 x2) := by
  unfold compatResponse
  extract_lets a0
  exact compatAnswer_agree.mono (by decide)

theorem compatAck_agree {x0 x1 x2} :
    Agree [.free, .line] x2 (compatAck x0 x1 x2) := by
  unfold compatAck
  exact compatAnswer_agree.mono (by decide)

theorem judgeCompat_agree {x0 x1 x2} :
    Agree [.free, .regs, .queues, .events, .bulk, .out, .threads, .pwr, .line, .held] x2 (judgeCompat x0 x1 x2) := by
  unfold judgeCompat
  extract_lets a0 a1 a2 a3
  clear_value a0
  have ha1 : Agree [Part.free, Part.regs, Part.queues, Part.events, Part.bulk, Part.out, Part.threads, Part.pwr, Part.line, Part.held] x2 a1 := by
    unfold a1
    exact compatDeliver_agree.mono (by decide)
  clear_value a1
  have ha2 : Agree [Part.free, Part.regs, Part.queues, Part.events, Part.bulk, Part.out, Part.threads, Part.pwr, Part.line, Part.held] x2 a2 := by
    unfold a2
    refine Agree.step ?_ windowsDone_agree (by decide)
    assumption
  clear_value a2
  have ha3 : Agree [Part.free, Part.regs, Part.queues, Part.events, Part.bulk, Part.out, Part.threads, Part.pwr, Part.line, Part.held] x2 a3 := by
    unfold a3
    refine Agree.ite ?_ ?_
    · refine Agree.step ?_ compatAck_agree (by decide)
      assumption
    · assumption
  clear_value a3
  refine Agree.ite ?_ ?_
  · exact Agree.refl _ _
  · refine Agree.ite ?_ ?_
    · exact countRefused_agree.mono (by decide)
    · refine Agree.ite ?_ ?_
      · refine Agree.step ?_ compatResponse_agree (by decide)
        assumption
      · assumption

theorem freeSet_agree {x0 x1} :
    Agree [.regs, .line] x1 (freeSet x0 x1) := by
  unfold freeSet
  refine Agree.foldl ?_ ?_
  · intro y0
    intro y1
    exact takeUp_agree.mono (by decide)
  · exact Agree.refl _ _

theorem countEnd_agree {x0 x1 x2 x3} :
    Agree [.regs, .events, .out, .held] x3 (countEnd x0 x1 x2 x3) := by
  unfold countEnd
  extract_lets a0
  have ha0 : Agree [Part.regs, Part.events, Part.out, Part.held] x3 a0 := by
    unfold a0
    refine Agree.ite ?_ ?_
    · refine Agree.trans ?_ (bumpStat_agree (by decide) ?_)
      · exact Agree.refl _ _
      · intro y1
        exact phyOvf_agree.mono (by decide)
    · exact Agree.refl _ _
  clear_value a0
  refine Agree.ite ?_ ?_
  · refine Agree.trans ?_ (bumpStat_agree (by decide) ?_)
    · assumption
    · intro y2
      exact phyOvf_agree.mono (by decide)
  · assumption

theorem endCompat_agree {x0 x1 x2} :
    Agree [.free, .regs, .queues, .events, .bulk, .out, .threads, .pwr, .ncp, .line, .radio, .held] x2 (endCompat x0 x1 x2) := by
  unfold endCompat
  extract_lets a0 a1
  clear_value a0
  clear_value a1
  refine Agree.step ?_ settleWindows_agree (by decide)
  refine Agree.step ?_ judgeCompat_agree (by decide)
  refine Agree.step ?_ freeSet_agree (by decide)
  exact countEnd_agree.mono (by decide)

theorem execCompatFrameRx_agree {x0 x1 x2} :
    AgreeAns [.free, .regs, .time, .copy, .queues, .events, .bulk, .out, .threads, .pwr, .ncp, .line, .radio, .held] x2 (execCompatFrameRx x0 x1 x2) := by
  unfold execCompatFrameRx
  dsimp only
  have h : Agree [.free, .regs, .time, .copy, .queues, .events, .bulk, .out, .threads, .pwr, .ncp, .line, .radio, .held] x2 (stopIdle x2) := stopIdle_agree.mono (by decide)
  generalize stopIdle x2 = a at h
  split
  · exact AgreeAns.of_next h
  · exact AgreeAns.ite (AgreeAns.of_next ((h.step State_passTo_agree (by decide)).step endCompat_agree (by decide)))
      (AgreeAns.of_next h)

theorem judgeLine_agree {x0 x1 x2} :
    Agree [.free, .regs, .queues, .events, .bulk, .out, .threads, .pwr, .ncp, .line, .radio, .held] x2 (judgeLine x0 x1 x2) := by
  unfold judgeLine
  extract_lets a0 a1
  clear_value a0
  have ha1 : Agree [Part.free, Part.regs, Part.queues, Part.events, Part.bulk, Part.out, Part.threads, Part.pwr, Part.ncp, Part.line,
  Part.radio, Part.held] x2 a1 := by
    unfold a1
    exact markStep_agree.mono (by decide)
  clear_value a1
  refine Agree.ite ?_ ?_
  · exact Agree.refl _ _
  · refine Agree.ite ?_ ?_
    · assumption
    · refine Agree.step ?_ judge_agree (by decide)
      assumption

theorem execFrameEnd_agree {x0 x1 x2 x3} :
    AgreeAns [.free, .regs, .time, .copy, .queues, .events, .bulk, .out, .threads, .pwr, .ncp, .line, .radio, .held] x3 (execFrameEnd x0 x1 x2 x3) := by
  unfold execFrameEnd
  extract_lets a0 a1 a2
  have ha0 : Agree [Part.free, Part.regs, Part.time, Part.copy, Part.queues, Part.events, Part.bulk, Part.out, Part.threads, Part.pwr,
  Part.ncp, Part.line, Part.radio, Part.held] x3 a0 := by
    unfold a0
    exact stopIdle_agree.mono (by decide)
  clear_value a0
  have ha1 : Agree [Part.free, Part.regs, Part.time, Part.copy, Part.queues, Part.events, Part.bulk, Part.out, Part.threads, Part.pwr,
  Part.ncp, Part.line, Part.radio, Part.held] x3 a1 := by
    unfold a1
    refine Agree.step ?_ State_passTo_agree (by decide)
    assumption
  clear_value a1
  clear_value a2
  split
  · refine AgreeAns.of_next ?_
    assumption
  · extract_lets a3 a4
    clear_value a3
    clear_value a4
    refine AgreeAns.ite ?_ ?_
    · refine AgreeAns.of_next ?_
      assumption
    · refine AgreeAns.of_next ?_
      refine Agree.step ?_ settleWindows_agree (by decide)
      refine Agree.step ?_ judgeLine_agree (by decide)
      refine Agree.step ?_ freeSet_agree (by decide)
      refine Agree.step ?_ countEnd_agree (by decide)
      assumption

end Sys2Proof.Machine
end

