-- ==== Sys2Proof/Laws/Frame/CheckUnit.lean ====
section
/-!
SUPPORT. Which parts of the state each definition of Machine/CheckUnit.lean may change.
-/

namespace Sys2Proof.Machine

theorem setChk_agree {x0 x1 x2} :
    Agree [.ser] x2 (setChk x0 x1 x2) := by
  unfold setChk
  extract_lets a0
  clear_value a0
  refine Agree.mk' ?_ (by
    intro p hp
    cases p <;> first | exact (hp (by decide)).elim | rfl | exact ⟨rfl, rfl⟩ | exact ⟨rfl, rfl, rfl⟩)
  exact Agree.refl _ _

theorem chkRestart_agree {x0 x1} :
    Agree [.ser] x1 (chkRestart x0 x1) := by
  unfold chkRestart
  extract_lets a0
  clear_value a0
  exact setChk_agree.mono (by decide)

theorem serOvf_agree {x0} :
    Agree [.regs, .events, .out, .held] x0 (serOvf x0) := by
  unfold serOvf
  exact occur_agree.mono (by decide)

theorem chkCtlWrite_agree {x0 x1 x2 x3} :
    Agree [.ser] x3 (chkCtlWrite x0 x1 x2 x3) := by
  unfold chkCtlWrite
  refine Agree.ite ?_ ?_
  · exact chkRestart_agree.mono (by decide)
  · exact Agree.refl _ _

theorem chkCause_agree {x0 x1 x2} :
    Agree [.regs, .events, .out, .held] x2 (chkCause x0 x1 x2) := by
  unfold chkCause
  extract_lets a0
  have ha0 : Agree [Part.regs, Part.events, Part.out, Part.held] x2 a0 := by
    unfold a0
    exact State_put_agree.mono (by decide)
  clear_value a0
  refine Agree.ite ?_ ?_
  · refine Agree.step ?_ occur_agree (by decide)
    assumption
  · assumption

theorem feedByte_agree {x0 x1 x2} :
    Agree [.ser] x1 (feedByte x0 x1 x2) := by
  unfold feedByte
  extract_lets a0
  clear_value a0
  split
  extract_lets a1
  clear_value a1
  exact setChk_agree.mono (by decide)

theorem feed_agree {x0 x1 x2 x3 x4} :
    Agree [.regs, .time, .copy, .events, .out, .ser, .held] x4 (feed x0 x1 x2 x3 x4) := by
  unfold feed
  extract_lets a0 a1 a2 a3 a4 a5
  have ha0 : Agree [Part.regs, Part.time, Part.copy, Part.events, Part.out, Part.ser, Part.held] x4 a0 := by
    unfold a0
    exact State_passTo_agree.mono (by decide)
  clear_value a0
  clear_value a1
  clear_value a2
  clear_value a3
  have ha4 : Agree [Part.regs, Part.time, Part.copy, Part.events, Part.out, Part.ser, Part.held] x4 a4 := by
    unfold a4
    refine Agree.step ?_ setChk_agree (by decide)
    assumption
  clear_value a4
  clear_value a5
  refine Agree.ite ?_ ?_
  · refine Agree.step ?_ chkCause_agree (by decide)
    refine Agree.step ?_ setChk_agree (by decide)
    assumption
  · refine Agree.foldl ?_ ?_
    · intro y6
      intro y7
      exact feedByte_agree.mono (by decide)
    · assumption

theorem feedWrite_agree {x0 x1 x2 x3 x4 x5} :
    Agree [.regs, .time, .copy, .events, .out, .ser, .held] x5 (feedWrite x0 x1 x2 x3 x4 x5) := by
  unfold feedWrite
  refine Agree.ite ?_ ?_
  · exact Agree.refl _ _
  · exact feed_agree.mono (by decide)

theorem chkClear_agree {x0 x1} :
    Agree [.ser] x1 (chkClear x0 x1) := by
  unfold chkClear
  exact setChk_agree.mono (by decide)

theorem chkCfgRegWrite_agree {x0 x1 x2 x3} :
    Agree [.regs, .ser] x3 (chkCfgRegWrite x0 x1 x2 x3) := by
  unfold chkCfgRegWrite
  refine Agree.step ?_ chkRestart_agree (by decide)
  exact State_wrTyped_agree.mono (by decide)

theorem judgeAlive_agree {x0 x1} :
    Agree [.regs, .events, .out, .held] x1 (judgeAlive x0 x1) := by
  unfold judgeAlive
  extract_lets a0 a1 a2
  clear_value a0
  clear_value a1
  have ha2 : Agree [Part.regs, Part.events, Part.out, Part.held] x1 a2 := by
    unfold a2
    refine Agree.ite ?_ ?_
    · exact Agree.refl _ _
    · refine Agree.ite ?_ ?_
      · exact chkCause_agree.mono (by decide)
      · refine Agree.ite ?_ ?_
        · exact chkCause_agree.mono (by decide)
        · exact Agree.refl _ _
  clear_value a2
  refine Agree.ite ?_ ?_
  · exact Agree.refl _ _
  · refine Agree.step ?_ State_put_agree (by decide)
    refine Agree.step ?_ State_put_agree (by decide)
    assumption

theorem expectedWrite_agree {x0 x1 x2 x3} :
    Agree [.regs, .events, .out, .held] x3 (expectedWrite x0 x1 x2 x3) := by
  unfold expectedWrite
  extract_lets a0 a1
  have ha0 : Agree [Part.regs, Part.events, Part.out, Part.held] x3 a0 := by
    unfold a0
    exact State_wrTyped_agree.mono (by decide)
  clear_value a0
  have ha1 : Agree [Part.regs, Part.events, Part.out, Part.held] x3 a1 := by
    unfold a1
    refine Agree.ite ?_ ?_
    · refine Agree.step ?_ State_put_agree (by decide)
      assumption
    · refine Agree.step ?_ chkCause_agree (by decide)
      refine Agree.trans ?_ (bumpStat_agree (by decide) ?_)
      · refine Agree.step ?_ State_put_agree (by decide)
        assumption
      · intro y2
        exact serOvf_agree.mono (by decide)
  clear_value a1
  refine Agree.step ?_ judgeAlive_agree (by decide)
  assumption

theorem chkAliveWrite_agree {x0 x1 x2 x3} :
    Agree [.regs] x3 (chkAliveWrite x0 x1 x2 x3) := by
  unfold chkAliveWrite
  extract_lets a0
  have ha0 : Agree [Part.regs] x3 a0 := by
    unfold a0
    exact State_wrTyped_agree.mono (by decide)
  clear_value a0
  refine Agree.ite ?_ ?_
  · refine Agree.step ?_ State_put_agree (by decide)
    assumption
  · assumption

theorem execChkFeed16_agree {x0 x1 x2 x3 x4 x5} :
    AgreeAns [.regs, .time, .copy, .events, .out, .ser, .held] x5 (execChkFeed16 x0 x1 x2 x3 x4 x5) := by
  unfold execChkFeed16
  refine AgreeAns.of_next ?_
  refine Agree.trans ?_ (filtered_agree (by decide) ?_)
  · exact Agree.refl _ _
  · intro y0
    exact feedWrite_agree.mono (by decide)

theorem execChkFeed32_agree {x0 x1 x2 x3 x4 x5} :
    AgreeAns [.regs, .time, .copy, .events, .out, .ser, .held] x5 (execChkFeed32 x0 x1 x2 x3 x4 x5) := by
  unfold execChkFeed32
  refine AgreeAns.of_next ?_
  refine Agree.trans ?_ (filtered_agree (by decide) ?_)
  · exact Agree.refl _ _
  · intro y0
    exact feedWrite_agree.mono (by decide)

theorem execChkCfgWrite_agree {x0 x1 x2 x3 x4} :
    AgreeAns [.regs, .events, .out, .ser, .held] x4 (execChkCfgWrite x0 x1 x2 x3 x4) := by
  unfold execChkCfgWrite
  refine AgreeAns.of_next ?_
  refine Agree.trans ?_ (filtered_agree (by decide) ?_)
  · exact Agree.refl _ _
  · intro y0
    exact chkCfgRegWrite_agree.mono (by decide)

theorem filteredRead_agree {l : List Part} {x0 x1 x2 x3 x4} (hl : subParts [.regs, .events, .out, .held] l = true)
    (h4 : ∀ y0, Agree l y0 (x4 y0)) :
    Agree l x0 (filteredRead x0 x1 x2 x3 x4) := by
  unfold filteredRead
  split
  · refine Agree.step ?_ State_emit_agree (subParts_trans (by decide) hl)
    exact Agree.refl _ _
  · split
    · refine Agree.step ?_ State_emit_agree (subParts_trans (by decide) hl)
      refine Agree.trans ?_ (h4 _)
      exact Agree.refl _ _
    · refine Agree.step ?_ State_emit_agree (subParts_trans (by decide) hl)
      exact Agree.refl _ _
    · refine Agree.step ?_ State_emit_agree (subParts_trans (by decide) hl)
      refine Agree.step ?_ violation_agree (subParts_trans (by decide) hl)
      exact Agree.refl _ _

theorem execChkResult_agree {x0 x1 x2} :
    AgreeAns [.regs, .events, .out, .held] x2 (execChkResult x0 x1 x2) := by
  unfold execChkResult
  refine AgreeAns.of_next ?_
  refine Agree.trans ?_ (filteredRead_agree (by decide) ?_)
  · exact Agree.refl _ _
  · intro y0
    unfold id
    exact Agree.refl _ _

theorem execChkFeed8_agree {x0 x1 x2 x3 x4 x5} :
    AgreeAns [.regs, .time, .copy, .events, .out, .ser, .held] x5 (execChkFeed8 x0 x1 x2 x3 x4 x5) := by
  unfold execChkFeed8
  refine AgreeAns.of_next ?_
  refine Agree.trans ?_ (filtered_agree (by decide) ?_)
  · exact Agree.refl _ _
  · intro y0
    exact feedWrite_agree.mono (by decide)

theorem execChkExpected_agree {x0 x1 x2 x3 x4} :
    AgreeAns [.regs, .events, .out, .held] x4 (execChkExpected x0 x1 x2 x3 x4) := by
  unfold execChkExpected
  refine AgreeAns.of_next ?_
  refine Agree.trans ?_ (filtered_agree (by decide) ?_)
  · exact Agree.refl _ _
  · intro y0
    exact expectedWrite_agree.mono (by decide)

theorem execRestart_agree {x0 x1 x2 x3 x4} :
    AgreeAns [.regs, .events, .out, .ser, .held] x4 (execRestart x0 x1 x2 x3 x4) := by
  unfold execRestart
  refine AgreeAns.of_next ?_
  refine Agree.trans ?_ (filtered_agree (by decide) ?_)
  · exact Agree.refl _ _
  · intro y0
    exact chkCtlWrite_agree.mono (by decide)

end Sys2Proof.Machine
end

