-- ==== Sys2Proof/Laws/Frame/Ack.lean ====
section
/-!
SUPPORT. Which parts of the state each definition of Machine/Ack.lean may change.
-/

namespace Sys2Proof.Machine

theorem execHoldOffEnd_agree {x0 x1} :
    AgreeAns [.regs, .time, .copy, .line] x1 (execHoldOffEnd x0 x1) := by
  unfold execHoldOffEnd
  split
  · refine AgreeAns.of_next ?_
    exact Agree.refl _ _
  · extract_lets a0 a1
    have ha0 : Agree [Part.regs, Part.time, Part.copy, Part.line] x1 a0 := by
      unfold a0
      refine Agree.step ?_ State_put_agree (by decide)
      exact State_passTo_agree.mono (by decide)
    clear_value a0
    clear_value a1
    refine AgreeAns.of_next ?_
    refine Agree.step ?_ setXmit_agree (by decide)
    assumption

theorem dropAck_agree {x0 x1} :
    Agree [.ncp, .line] x1 (dropAck x0 x1) := by
  unfold dropAck
  extract_lets a0 a1
  clear_value a0
  have ha1 : Agree [Part.ncp, Part.line] x1 a1 := by
    unfold a1
    refine Agree.mk' ?_ (by
      intro p hp
      cases p <;> first | exact (hp (by decide)).elim | rfl | exact ⟨rfl, rfl⟩ | exact ⟨rfl, rfl, rfl⟩)
    exact Agree.refl _ _
  clear_value a1
  split
  · exact Agree.refl _ _
  · split
    · refine Agree.step ?_ unhold_agree (by decide)
      assumption
    · assumption

theorem abortFrame_agree {x0 x1 x2} :
    Agree [.regs, .events, .out, .threads, .pwr, .ncp, .line, .radio, .held] x2 (abortFrame x0 x1 x2) := by
  unfold abortFrame
  extract_lets a0 a1
  clear_value a0
  have ha1 : Agree [Part.regs, Part.events, Part.out, Part.threads, Part.pwr, Part.ncp, Part.line, Part.radio, Part.held] x2 a1 := by
    unfold a1
    split
    · exact update_agree.mono (by decide)
    · exact Agree.refl _ _
  clear_value a1
  refine Agree.ite ?_ ?_
  · exact Agree.refl _ _
  · refine Agree.step ?_ endSent_agree (by decide)
    assumption

theorem abort_agree {x0 x1} :
    Agree [.regs, .events, .out, .threads, .pwr, .ncp, .line, .radio, .held] x1 (abort x0 x1) := by
  unfold abort
  extract_lets a0 a1 a2 a3 a4 a5 a6
  have ha0 : Agree [Part.regs, Part.events, Part.out, Part.threads, Part.pwr, Part.ncp, Part.line, Part.radio, Part.held] x1 a0 := by
    unfold a0
    refine Agree.step ?_ occur_agree (by decide)
    refine Agree.trans ?_ (bumpStat_agree (by decide) ?_)
    · exact Agree.refl _ _
    · intro y7
      exact phyOvf_agree.mono (by decide)
  clear_value a0
  have ha1 : Agree [Part.regs, Part.events, Part.out, Part.threads, Part.pwr, Part.ncp, Part.line, Part.radio, Part.held] x1 a1 := by
    unfold a1
    refine Agree.step ?_ State_put_agree (by decide)
    assumption
  clear_value a1
  clear_value a2
  have ha3 : Agree [Part.regs, Part.events, Part.out, Part.threads, Part.pwr, Part.ncp, Part.line, Part.radio, Part.held] x1 a3 := by
    unfold a3
    refine Agree.step ?_ setXmit_agree (by decide)
    assumption
  clear_value a3
  clear_value a4
  have ha5 : Agree [Part.regs, Part.events, Part.out, Part.threads, Part.pwr, Part.ncp, Part.line, Part.radio, Part.held] x1 a5 := by
    unfold a5
    refine Agree.step ?_ txStop_agree (by decide)
    assumption
  clear_value a5
  have ha6 : Agree [Part.regs, Part.events, Part.out, Part.threads, Part.pwr, Part.ncp, Part.line, Part.radio, Part.held] x1 a6 := by
    unfold a6
    refine Agree.forActs ?_ ?_
    · intro y8
      intro y9
      intro y10
      exact abortFrame_agree.mono (by decide)
    · assumption
  clear_value a6
  split
  · refine Agree.step ?_ dropAck_agree (by decide)
    assumption
  · assumption

theorem execTxAbort_agree {x0 x1} :
    AgreeAns [.regs, .time, .copy, .events, .out, .threads, .pwr, .ncp, .line, .radio, .held] x1 (execTxAbort x0 x1) := by
  unfold execTxAbort
  split
  · refine AgreeAns.of_next ?_
    exact Agree.refl _ _
  · refine AgreeAns.ite ?_ ?_
    · refine AgreeAns.of_next ?_
      exact Agree.refl _ _
    · refine AgreeAns.of_next ?_
      refine Agree.step ?_ abort_agree (by decide)
      exact State_passTo_agree.mono (by decide)

theorem lineOutcome_agree {x0 x1 x2 x3} :
    Agree [.regs, .events, .out, .ncp, .line, .radio, .held] x3 (lineOutcome x0 x1 x2 x3) := by
  unfold lineOutcome
  split
  · exact Agree.refl _ _
  · refine Agree.ite ?_ ?_
    · exact Agree.refl _ _
    · refine Agree.foldl ?_ ?_
      · intro y0
        intro y1
        exact update_agree.mono (by decide)
      · exact Agree.refl _ _

theorem radioUnacked_agree {x0 x1 x2 x3} :
    Agree [.regs, .events, .out, .threads, .pwr, .ncp, .line, .radio, .held] x3 (radioUnacked x0 x1 x2 x3) := by
  unfold radioUnacked
  extract_lets a0 a1 a2 a3 a4
  clear_value a0
  have ha1 : Agree [Part.regs, Part.events, Part.out, Part.threads, Part.pwr, Part.ncp, Part.line, Part.radio, Part.held] x3 a1 := by
    unfold a1
    exact releaseGrant_agree.mono (by decide)
  clear_value a1
  have ha2 : Agree [Part.regs, Part.events, Part.out, Part.threads, Part.pwr, Part.ncp, Part.line, Part.radio, Part.held] x3 a2 := by
    unfold a2
    split
    · refine Agree.step ?_ update_agree (by decide)
      assumption
    · assumption
  clear_value a2
  have ha3 : Agree [Part.regs, Part.events, Part.out, Part.threads, Part.pwr, Part.ncp, Part.line, Part.radio, Part.held] x3 a3 := by
    unfold a3
    refine Agree.step ?_ occur_agree (by decide)
    refine Agree.trans ?_ (bumpStat_agree (by decide) ?_)
    · assumption
    · intro y5
      exact rfOvf_agree.mono (by decide)
  clear_value a3
  have ha4 : Agree [Part.regs, Part.events, Part.out, Part.threads, Part.pwr, Part.ncp, Part.line, Part.radio, Part.held] x3 a4 := by
    unfold a4
    split
    · extract_lets a6
      have ha6 : Agree [Part.regs, Part.events, Part.out, Part.threads, Part.pwr, Part.ncp, Part.line, Part.radio, Part.held] x3 a6 := by
        unfold a6
        refine Agree.step ?_ update_agree (by decide)
        assumption
      clear_value a6
      refine Agree.ite ?_ ?_
      · refine Agree.step ?_ update_agree (by decide)
        assumption
      · assumption
    · assumption
  clear_value a4
  refine Agree.ite ?_ ?_
  · refine Agree.step ?_ State_setAct_agree (by decide)
    assumption
  · refine Agree.step ?_ endSent_agree (by decide)
    assumption

theorem execLdFltDeassert_agree {x0 x1} :
    AgreeAns [.regs, .line] x1 (execLdFltDeassert x0 x1) := by
  unfold execLdFltDeassert
  extract_lets a0
  clear_value a0
  refine AgreeAns.of_next ?_
  refine Agree.step ?_ setXmit_agree (by decide)
  exact State_put_agree.mono (by decide)

theorem preempt_agree {x0 x1 x2 x3} :
    Agree [.regs, .events, .out, .threads, .pwr, .radio, .held] x3 (preempt x0 x1 x2 x3) := by
  unfold preempt
  refine Agree.forActs ?_ ?_
  · intro y0
    intro y1
    intro y2
    exact endUnsent_agree.mono (by decide)
  · exact Agree.refl _ _

theorem startListen_agree {x0 x1 x2 x3 x4 x5} :
    Agree [.radio] x5 (startListen x0 x1 x2 x3 x4 x5) := by
  unfold startListen
  extract_lets a0
  clear_value a0
  split
  · exact Agree.refl _ _
  · extract_lets a1
    clear_value a1
    refine Agree.ite ?_ ?_
    · exact Agree.refl _ _
    · refine Agree.mk' ?_ (by
        intro p hp
        cases p <;> first | exact (hp (by decide)).elim | rfl | exact ⟨rfl, rfl⟩ | exact ⟨rfl, rfl, rfl⟩)
      exact Agree.refl _ _

theorem radioUntil_agree {x0 x1} :
    Agree [.radio] x1 (radioUntil x0 x1) := by
  unfold radioUntil
  extract_lets a0
  clear_value a0
  refine Agree.mk' ?_ (by
    intro p hp
    cases p <;> first | exact (hp (by decide)).elim | rfl | exact ⟨rfl, rfl⟩ | exact ⟨rfl, rfl, rfl⟩)
  exact Agree.refl _ _

theorem putAck_agree {x0 x1 x2} :
    Agree [.line] x2 (putAck x0 x1 x2) := by
  unfold putAck
  extract_lets a0
  clear_value a0
  refine Agree.mk' ?_ (by
    intro p hp
    cases p <;> first | exact (hp (by decide)).elim | rfl | exact ⟨rfl, rfl⟩ | exact ⟨rfl, rfl, rfl⟩)
  exact Agree.refl _ _

theorem emitRadioAck_agree {x0 x1 x2 x3 x4 x5 x6 x7 x8 x9} :
    Agree [.regs, .events, .out, .threads, .pwr, .line, .radio, .held] x9 (emitRadioAck x0 x1 x2 x3 x4 x5 x6 x7 x8 x9) := by
  unfold emitRadioAck
  extract_lets a0 a1 a2 a3 a4 a5
  clear_value a0
  clear_value a1
  have ha2 : Agree [Part.regs, Part.events, Part.out, Part.threads, Part.pwr, Part.line, Part.radio, Part.held] x9 a2 := by
    unfold a2
    refine Agree.mk' ?_ (by
      intro p hp
      cases p <;> first | exact (hp (by decide)).elim | rfl | exact ⟨rfl, rfl⟩ | exact ⟨rfl, rfl, rfl⟩)
    exact Agree.refl _ _
  clear_value a2
  have ha3 : Agree [Part.regs, Part.events, Part.out, Part.threads, Part.pwr, Part.line, Part.radio, Part.held] x9 a3 := by
    unfold a3
    refine Agree.step ?_ preempt_agree (by decide)
    refine Agree.step ?_ chargeDuty_agree (by decide)
    assumption
  clear_value a3
  clear_value a4
  have ha5 : Agree [Part.regs, Part.events, Part.out, Part.threads, Part.pwr, Part.line, Part.radio, Part.held] x9 a5 := by
    unfold a5
    refine Agree.step ?_ startListen_agree (by decide)
    refine Agree.step ?_ State_emit_agree (by decide)
    refine Agree.step ?_ State_put_agree (by decide)
    refine Agree.step ?_ radioUntil_agree (by decide)
    assumption
  clear_value a5
  refine Agree.step ?_ putAck_agree (by decide)
  assumption

theorem lineAcked_agree {x0 x1 x2 x3 x4} :
    Agree [.regs, .events, .out, .threads, .pwr, .ncp, .line, .radio, .held] x4 (lineAcked x0 x1 x2 x3 x4) := by
  unfold lineAcked
  extract_lets a0 a1
  clear_value a0
  have ha1 : Agree [Part.regs, Part.events, Part.out, Part.threads, Part.pwr, Part.ncp, Part.line, Part.radio, Part.held] x4 a1 := by
    unfold a1
    split
    · refine Agree.ite ?_ ?_
      · exact Agree.refl _ _
      · refine Agree.step ?_ update_agree (by decide)
        exact update_agree.mono (by decide)
    · exact Agree.refl _ _
  clear_value a1
  refine Agree.step ?_ endSent_agree (by decide)
  refine Agree.step ?_ lineOutcome_agree (by decide)
  assumption

theorem radioAcked_agree {x0 x1 x2 x3 x4} :
    Agree [.regs, .events, .out, .threads, .pwr, .ncp, .line, .radio, .held] x4 (radioAcked x0 x1 x2 x3 x4) := by
  unfold radioAcked
  extract_lets a0
  have ha0 : Agree [Part.regs, Part.events, Part.out, Part.threads, Part.pwr, Part.ncp, Part.line, Part.radio, Part.held] x4 a0 := by
    unfold a0
    split
    · extract_lets a1
      have ha1 : Agree [Part.regs, Part.events, Part.out, Part.threads, Part.pwr, Part.ncp, Part.line, Part.radio, Part.held] x4 a1 := by
        unfold a1
        exact update_agree.mono (by decide)
      clear_value a1
      refine Agree.ite ?_ ?_
      · refine Agree.step ?_ update_agree (by decide)
        assumption
      · refine Agree.ite ?_ ?_
        · refine Agree.step ?_ update_agree (by decide)
          assumption
        · assumption
    · exact Agree.refl _ _
  clear_value a0
  refine Agree.step ?_ endSent_agree (by decide)
  assumption

theorem execAckRx_agree {x0 x1 x2 x3 x4 x5 x6 x7} :
    AgreeAns [.regs, .time, .copy, .events, .out, .threads, .pwr, .ncp, .line, .radio, .held] x7 (execAckRx x0 x1 x2 x3 x4 x5 x6 x7) := by
  unfold execAckRx
  extract_lets a0 a1 a2 a3
  clear_value a0
  clear_value a1
  clear_value a2
  have ha3 : Agree [Part.regs, Part.time, Part.copy, Part.events, Part.out, Part.threads, Part.pwr, Part.ncp, Part.line, Part.radio,
  Part.held] x7 a3 := by
    unfold a3
    exact State_passTo_agree.mono (by decide)
  clear_value a3
  refine AgreeAns.ite ?_ ?_
  · refine AgreeAns.of_next ?_
    exact Agree.refl _ _
  · split
    · refine AgreeAns.of_next ?_
      refine Agree.step ?_ lineAcked_agree (by decide)
      assumption
    · refine AgreeAns.of_next ?_
      refine Agree.step ?_ radioAcked_agree (by decide)
      assumption
    · refine AgreeAns.of_next ?_
      assumption

theorem sendLineAck_agree {x0 x1 x2 x3 x4 x5 x6 x7 x8} :
    Agree [.free, .regs, .events, .out, .threads, .pwr, .ncp, .line, .radio, .held] x8 (sendLineAck x0 x1 x2 x3 x4 x5 x6 x7 x8) := by
  unfold sendLineAck
  extract_lets a0
  clear_value a0
  split
  · refine Agree.step ?_ dropAck_agree (by decide)
    refine Agree.trans ?_ (bumpStat_agree (by decide) ?_)
    · exact Agree.refl _ _
    · intro y1
      exact macOvf_agree.mono (by decide)
  · extract_lets a2 a3 a4
    have ha2 : Agree [Part.free, Part.regs, Part.events, Part.out, Part.threads, Part.pwr, Part.ncp, Part.line, Part.radio, Part.held] x8 a2 := by
      unfold a2
      exact preempt_agree.mono (by decide)
    clear_value a2
    have ha3 : Agree [Part.free, Part.regs, Part.events, Part.out, Part.threads, Part.pwr, Part.ncp, Part.line, Part.radio, Part.held] x8 a3 := by
      unfold a3
      refine Agree.step ?_ txStart_agree (by decide)
      assumption
    clear_value a3
    have ha4 : Agree [Part.free, Part.regs, Part.events, Part.out, Part.threads, Part.pwr, Part.ncp, Part.line, Part.radio, Part.held] x8 a4 := by
      unfold a4
      refine Agree.step ?_ State_emit_agree (by decide)
      assumption
    clear_value a4
    refine Agree.ite ?_ ?_
    · refine Agree.step ?_ dropAck_agree (by decide)
      refine Agree.step ?_ occur_agree (by decide)
      refine Agree.trans ?_ (bumpStat_agree (by decide) ?_)
      · exact Agree.refl _ _
      · intro y5
        exact phyOvf_agree.mono (by decide)
    · refine Agree.step ?_ putAck_agree (by decide)
      assumption

theorem sendRadioAck_agree {x0 x1 x2 x3 x4 x5 x6 x7 x8 x9} :
    Agree [.regs, .events, .out, .threads, .pwr, .ncp, .line, .radio, .held] x9 (sendRadioAck x0 x1 x2 x3 x4 x5 x6 x7 x8 x9) := by
  unfold sendRadioAck
  extract_lets a0
  clear_value a0
  refine Agree.ite ?_ ?_
  · exact dropAck_agree.mono (by decide)
  · refine Agree.ite ?_ ?_
    · refine Agree.step ?_ dropAck_agree (by decide)
      refine Agree.step ?_ occur_agree (by decide)
      refine Agree.trans ?_ (bumpStat_agree (by decide) ?_)
      · exact Agree.refl _ _
      · intro y1
        exact rfOvf_agree.mono (by decide)
    · exact emitRadioAck_agree.mono (by decide)

theorem sendAck_agree {x0 x1 x2} :
    Agree [.free, .regs, .events, .out, .threads, .pwr, .ncp, .line, .radio, .held] x2 (sendAck x0 x1 x2) := by
  unfold sendAck
  refine Agree.ite ?_ ?_
  · exact dropAck_agree.mono (by decide)
  · split
    · exact sendLineAck_agree.mono (by decide)
    · exact sendLineAck_agree.mono (by decide)
    · exact sendRadioAck_agree.mono (by decide)

theorem placeRadio_agree {x0 x1 x2 x3} :
    Agree [.regs, .time, .copy, .events, .out, .threads, .pwr, .radio, .held] x3 (placeRadio x0 x1 x2 x3) := by
  unfold placeRadio
  extract_lets a0 a1 a2 a3 a4 a5 a6 a7 a8
  clear_value a0
  have ha1 : Agree [Part.regs, Part.time, Part.copy, Part.events, Part.out, Part.threads, Part.pwr, Part.radio, Part.held] x3 a1 := by
    unfold a1
    exact State_passTo_agree.mono (by decide)
  clear_value a1
  clear_value a2
  clear_value a3
  clear_value a4
  clear_value a5
  clear_value a6
  clear_value a7
  clear_value a8
  refine Agree.ite ?_ ?_
  · refine Agree.step ?_ endSent_agree (by decide)
    assumption
  · refine Agree.ite ?_ ?_
    · refine Agree.step ?_ endSent_agree (by decide)
      assumption
    · refine Agree.ite ?_ ?_
      · refine Agree.step ?_ endSent_agree (by decide)
        refine Agree.step ?_ countDutyDeny_agree (by decide)
        assumption
      · refine Agree.ite ?_ ?_
        · refine Agree.step ?_ endSent_agree (by decide)
          refine Agree.step ?_ countDeny_agree (by decide)
          assumption
        · refine Agree.step ?_ emitRadio_agree (by decide)
          refine Agree.step ?_ giveGrant_agree (by decide)
          refine Agree.step ?_ chargeDuty_agree (by decide)
          assumption

theorem execRfRetxPlace_agree {x0 x1 x2} :
    AgreeAns [.regs, .time, .copy, .events, .out, .threads, .pwr, .radio, .held] x2 (execRfRetxPlace x0 x1 x2) := by
  unfold execRfRetxPlace
  extract_lets a0
  clear_value a0
  split
  · refine AgreeAns.ite ?_ ?_
    · refine AgreeAns.of_next ?_
      exact placeRadio_agree.mono (by decide)
    · refine AgreeAns.of_next ?_
      exact Agree.refl _ _
  · refine AgreeAns.of_next ?_
    exact Agree.refl _ _

theorem lineUnacked_agree {x0 x1 x2 x3} :
    Agree [.regs, .events, .out, .threads, .pwr, .ncp, .line, .radio, .held] x3 (lineUnacked x0 x1 x2 x3) := by
  unfold lineUnacked
  extract_lets a0 a1 a2 a3 a4 a5 a6 a7 a8 a9
  clear_value a0
  have ha1 : Agree [Part.regs, Part.events, Part.out, Part.threads, Part.pwr, Part.ncp, Part.line, Part.radio, Part.held] x3 a1 := by
    unfold a1
    exact releaseGrant_agree.mono (by decide)
  clear_value a1
  clear_value a2
  have ha3 : Agree [Part.regs, Part.events, Part.out, Part.threads, Part.pwr, Part.ncp, Part.line, Part.radio, Part.held] x3 a3 := by
    unfold a3
    split
    · refine Agree.ite ?_ ?_
      · assumption
      · refine Agree.step ?_ update_agree (by decide)
        assumption
    · assumption
  clear_value a3
  have ha4 : Agree [Part.regs, Part.events, Part.out, Part.threads, Part.pwr, Part.ncp, Part.line, Part.radio, Part.held] x3 a4 := by
    unfold a4
    refine Agree.step ?_ lineOutcome_agree (by decide)
    assumption
  clear_value a4
  clear_value a5
  have ha6 : Agree [Part.regs, Part.events, Part.out, Part.threads, Part.pwr, Part.ncp, Part.line, Part.radio, Part.held] x3 a6 := by
    unfold a6
    refine Agree.ite ?_ ?_
    · refine Agree.trans ?_ (bumpStat_agree (by decide) ?_)
      · assumption
      · intro y10
        exact macOvf_agree.mono (by decide)
    · assumption
  clear_value a6
  have ha7 : Agree [Part.regs, Part.events, Part.out, Part.threads, Part.pwr, Part.ncp, Part.line, Part.radio, Part.held] x3 a7 := by
    unfold a7
    split
    · refine Agree.step ?_ update_agree (by decide)
      assumption
    · assumption
  clear_value a7
  have ha8 : Agree [Part.regs, Part.events, Part.out, Part.threads, Part.pwr, Part.ncp, Part.line, Part.radio, Part.held] x3 a8 := by
    unfold a8
    refine Agree.ite ?_ ?_
    · refine Agree.step ?_ occur_agree (by decide)
      refine Agree.trans ?_ (bumpStat_agree (by decide) ?_)
      · assumption
      · intro y11
        exact macOvf_agree.mono (by decide)
    · assumption
  clear_value a8
  have ha9 : Agree [Part.regs, Part.events, Part.out, Part.threads, Part.pwr, Part.ncp, Part.line, Part.radio, Part.held] x3 a9 := by
    unfold a9
    split
    · extract_lets a12
      have ha12 : Agree [Part.regs, Part.events, Part.out, Part.threads, Part.pwr, Part.ncp, Part.line, Part.radio, Part.held] x3 a12 := by
        unfold a12
        refine Agree.step ?_ update_agree (by decide)
        assumption
      clear_value a12
      refine Agree.ite ?_ ?_
      · refine Agree.step ?_ update_agree (by decide)
        assumption
      · assumption
    · assumption
  clear_value a9
  refine Agree.ite ?_ ?_
  · refine Agree.step ?_ State_setAct_agree (by decide)
    assumption
  · refine Agree.step ?_ endSent_agree (by decide)
    assumption

theorem heldLate_agree {x0 x1 x2} :
    Agree [.regs, .events, .out, .threads, .pwr, .ncp, .line, .radio, .held] x2 (heldLate x0 x1 x2) := by
  unfold heldLate
  extract_lets a0 a1
  clear_value a0
  have ha1 : Agree [Part.regs, Part.events, Part.out, Part.threads, Part.pwr, Part.ncp, Part.line, Part.radio, Part.held] x2 a1 := by
    unfold a1
    refine Agree.mk' ?_ (by
      intro p hp
      cases p <;> first | exact (hp (by decide)).elim | rfl | exact ⟨rfl, rfl⟩ | exact ⟨rfl, rfl, rfl⟩)
    exact Agree.refl _ _
  clear_value a1
  refine Agree.step ?_ settleWindows_agree (by decide)
  refine Agree.step ?_ ctxLate_agree (by decide)
  refine Agree.step ?_ unhold_agree (by decide)
  assumption

theorem passOver_agree {x0 x1 x2 x3} :
    Agree [.threads, .pwr] x3 (passOver x0 x1 x2 x3) := by
  unfold passOver
  extract_lets a0
  clear_value a0
  refine Agree.ite ?_ ?_
  · exact endSent_agree.mono (by decide)
  · exact State_setAct_agree.mono (by decide)

theorem placeLine_agree {x0 x1 x2 x3} :
    Agree [.free, .regs, .time, .copy, .events, .out, .threads, .pwr, .ncp, .line, .radio, .held] x3 (placeLine x0 x1 x2 x3) := by
  unfold placeLine
  extract_lets a0 a1 a2 a3 a4 a5 a6
  clear_value a0
  clear_value a1
  clear_value a3
  have ha4 : Agree [Part.free, Part.regs, Part.time, Part.copy, Part.events, Part.out, Part.threads, Part.pwr, Part.ncp, Part.line,
  Part.radio, Part.held] x3 a4 := by
    unfold a4
    exact State_passTo_agree.mono (by decide)
  clear_value a4
  clear_value a5
  clear_value a6
  refine Agree.ite ?_ ?_
  · refine Agree.step ?_ endSent_agree (by decide)
    assumption
  · refine Agree.ite ?_ ?_
    · refine Agree.step ?_ passOver_agree (by decide)
      assumption
    · refine Agree.ite ?_ ?_
      · refine Agree.step ?_ passOver_agree (by decide)
        assumption
      · refine Agree.ite ?_ ?_
        · refine Agree.step ?_ passOver_agree (by decide)
          refine Agree.step ?_ countDeny_agree (by decide)
          assumption
        · refine Agree.step ?_ emitLine_agree (by decide)
          refine Agree.step ?_ giveGrant_agree (by decide)
          assumption

theorem execRetxPlace_agree {x0 x1 x2} :
    AgreeAns [.free, .regs, .time, .copy, .events, .out, .threads, .pwr, .ncp, .line, .radio, .held] x2 (execRetxPlace x0 x1 x2) := by
  unfold execRetxPlace
  extract_lets a0
  clear_value a0
  split
  · refine AgreeAns.ite ?_ ?_
    · refine AgreeAns.of_next ?_
      exact placeLine_agree.mono (by decide)
    · refine AgreeAns.of_next ?_
      exact Agree.refl _ _
  · refine AgreeAns.of_next ?_
    exact Agree.refl _ _

theorem execLdFaultAssert_agree {x0 x1 x2} :
    AgreeAns [.regs, .time, .copy, .events, .out, .line, .held] x2 (execLdFaultAssert x0 x1 x2) := by
  unfold execLdFaultAssert
  extract_lets a0
  have ha0 : Agree [Part.regs, Part.time, Part.copy, Part.events, Part.out, Part.line, Part.held] x2 a0 := by
    unfold a0
    refine Agree.step ?_ State_put_agree (by decide)
    exact State_passTo_agree.mono (by decide)
  clear_value a0
  refine AgreeAns.ite ?_ ?_
  · refine AgreeAns.of_next ?_
    refine Agree.step ?_ lowerOutput_agree (by decide)
    assumption
  · refine AgreeAns.of_next ?_
    refine Agree.step ?_ State_put_agree (by decide)
    assumption

theorem execAckWaitEnd_agree {x0 x1 x2} :
    AgreeAns [.regs, .time, .copy, .events, .out, .threads, .pwr, .ncp, .line, .radio, .held] x2 (execAckWaitEnd x0 x1 x2) := by
  unfold execAckWaitEnd
  extract_lets a0 a1 a2 a3
  clear_value a0
  clear_value a1
  clear_value a2
  have ha3 : Agree [Part.regs, Part.time, Part.copy, Part.events, Part.out, Part.threads, Part.pwr, Part.ncp, Part.line, Part.radio,
  Part.held] x2 a3 := by
    unfold a3
    exact State_passTo_agree.mono (by decide)
  clear_value a3
  refine AgreeAns.ite ?_ ?_
  · refine AgreeAns.of_next ?_
    exact Agree.refl _ _
  · split
    · refine AgreeAns.of_next ?_
      refine Agree.step ?_ lineUnacked_agree (by decide)
      assumption
    · refine AgreeAns.of_next ?_
      refine Agree.step ?_ radioUnacked_agree (by decide)
      assumption
    · refine AgreeAns.of_next ?_
      assumption

theorem execAckDeadline_agree {x0 x1} :
    AgreeAns [.free, .regs, .time, .copy, .events, .out, .threads, .pwr, .ncp, .line, .radio, .held] x1 (execAckDeadline x0 x1) := by
  unfold execAckDeadline
  split
  · split
    · refine AgreeAns.ite ?_ ?_
      · refine AgreeAns.of_next ?_
        exact Agree.refl _ _
      · refine AgreeAns.of_next ?_
        refine Agree.step ?_ settleWindows_agree (by decide)
        refine Agree.step ?_ sendAck_agree (by decide)
        exact State_passTo_agree.mono (by decide)
    · refine AgreeAns.of_next ?_
      exact Agree.refl _ _
  · split
    · refine AgreeAns.of_next ?_
      refine Agree.step ?_ heldLate_agree (by decide)
      exact State_passTo_agree.mono (by decide)
    · refine AgreeAns.of_next ?_
      exact Agree.refl _ _

end Sys2Proof.Machine
end

