-- ==== Sys2Proof/Laws/Frame/LineCtl.lean ====
section
/-!
SUPPORT. Which parts of the state each definition of Machine/LineCtl.lean may change.
-/

namespace Sys2Proof.Machine

theorem clearNmap_agree {x0 x1} :
    Agree [.regs, .line] x1 (clearNmap x0 x1) := by
  unfold clearNmap
  extract_lets a0 a1 a2
  clear_value a0
  have ha1 : Agree [Part.regs, Part.line] x1 a1 := by
    unfold a1
    refine Agree.mk' ?_ (by
      intro p hp
      cases p <;> first | exact (hp (by decide)).elim | rfl | exact ⟨rfl, rfl⟩ | exact ⟨rfl, rfl, rfl⟩)
    exact Agree.refl _ _
  clear_value a1
  have ha2 : Agree [Part.regs, Part.line] x1 a2 := by
    unfold a2
    refine Agree.foldUpto ?_ ?_
    · intro y3
      intro y4
      exact State_wr_agree.mono (by decide)
    · assumption
  clear_value a2
  refine Agree.step ?_ State_put_agree (by decide)
  refine Agree.step ?_ State_put_agree (by decide)
  assumption

theorem execNmapRestart_agree {x0 x1 x2 x3 x4} :
    AgreeAns [.regs, .events, .out, .line, .held] x4 (execNmapRestart x0 x1 x2 x3 x4) := by
  unfold execNmapRestart
  refine AgreeAns.of_next ?_
  refine Agree.trans ?_ (filtered_agree (by decide) ?_)
  · exact Agree.refl _ _
  · intro y0
    refine Agree.ite ?_ ?_
    · exact clearNmap_agree.mono (by decide)
    · exact Agree.refl _ _

theorem showBin_agree {x0 x1 x2 x3 x4} :
    Agree [.regs] x4 (showBin x0 x1 x2 x3 x4) := by
  unfold showBin
  extract_lets a0 a1
  have ha0 : Agree [Part.regs] x4 a0 := by
    unfold a0
    exact State_put_agree.mono (by decide)
  clear_value a0
  have ha1 : Agree [Part.regs] x4 a1 := by
    unfold a1
    refine Agree.step ?_ State_put_agree (by decide)
    assumption
  clear_value a1
  refine Agree.step ?_ State_put_agree (by decide)
  refine Agree.step ?_ State_put_agree (by decide)
  assumption

theorem nmapUpdate_agree {x0 x1} :
    Agree [.regs, .events, .out, .line, .held] x1 (nmapUpdate x0 x1) := by
  unfold nmapUpdate
  extract_lets a0 a1 a2 a3 a4 a5 a6 a7 a8
  clear_value a0
  clear_value a1
  clear_value a2
  clear_value a3
  clear_value a4
  clear_value a5
  clear_value a6
  have ha7 : Agree [Part.regs, Part.events, Part.out, Part.line, Part.held] x1 a7 := by
    unfold a7
    refine Agree.mk' ?_ (by
      intro p hp
      cases p <;> first | exact (hp (by decide)).elim | rfl | exact ⟨rfl, rfl⟩ | exact ⟨rfl, rfl, rfl⟩)
    exact Agree.refl _ _
  clear_value a7
  have ha8 : Agree [Part.regs, Part.events, Part.out, Part.line, Part.held] x1 a8 := by
    unfold a8
    refine Agree.step ?_ showBin_agree (by decide)
    assumption
  clear_value a8
  refine Agree.ite ?_ ?_
  · exact Agree.refl _ _
  · refine Agree.ite ?_ ?_
    · refine Agree.step ?_ occur_agree (by decide)
      refine Agree.step ?_ State_put_agree (by decide)
      assumption
    · assumption

theorem silence_agree {x0 x1 x2} :
    Agree [.regs, .events, .out, .threads, .pwr, .ncp, .line, .radio, .held] x2 (silence x0 x1 x2) := by
  unfold silence
  refine Agree.step ?_ settleWindows_agree (by decide)
  refine Agree.foldl ?_ ?_
  · intro y0
    intro y1
    refine Agree.foldl ?_ ?_
    · intro y2
      intro y3
      exact setDec_agree.mono (by decide)
    · exact Agree.refl _ _
  · exact Agree.refl _ _

theorem bandRefused_agree {x0 x1} :
    Agree [.regs, .events, .out, .held] x1 (bandRefused x0 x1) := by
  unfold bandRefused
  refine Agree.step ?_ occur_agree (by decide)
  exact State_put_agree.mono (by decide)

theorem judgeSweep_agree {x0 x1} :
    Agree [.regs, .events, .out, .threads, .pwr, .ncp, .line, .radio, .held] x1 (judgeSweep x0 x1) := by
  unfold judgeSweep
  refine Agree.ite ?_ ?_
  · refine Agree.ite ?_ ?_
    · refine Agree.step ?_ silence_agree (by decide)
      exact State_put_agree.mono (by decide)
    · exact Agree.refl _ _
  · refine Agree.ite ?_ ?_
    · refine Agree.step ?_ bandRefused_agree (by decide)
      refine Agree.step ?_ State_put_agree (by decide)
      exact State_put_agree.mono (by decide)
    · refine Agree.ite ?_ ?_
      · refine Agree.step ?_ bandRefused_agree (by decide)
        refine Agree.step ?_ State_put_agree (by decide)
        exact State_put_agree.mono (by decide)
      · exact State_put_agree.mono (by decide)

theorem execSweepEnable_agree {x0 x1 x2 x3} :
    AgreeAns [.regs, .events, .out, .threads, .pwr, .ncp, .line, .radio, .held] x3 (execSweepEnable x0 x1 x2 x3) := by
  unfold execSweepEnable
  refine AgreeAns.of_next ?_
  refine Agree.trans ?_ (filtered_agree (by decide) ?_)
  · exact Agree.refl _ _
  · intro y0
    refine Agree.step ?_ judgeSweep_agree (by decide)
    refine Agree.step ?_ judgeSweep_agree (by decide)
    exact State_wrTyped_agree.mono (by decide)

theorem setOut_agree {x0 x1 x2} :
    Agree [.plmb] x2 (setOut x0 x1 x2) := by
  unfold setOut
  extract_lets a0
  clear_value a0
  refine Agree.mk' ?_ (by
    intro p hp
    cases p <;> first | exact (hp (by decide)).elim | rfl | exact ⟨rfl, rfl⟩ | exact ⟨rfl, rfl, rfl⟩)
  exact Agree.refl _ _

theorem plmbOvf_agree {x0} :
    Agree [.regs, .events, .out, .held] x0 (plmbOvf x0) := by
  unfold plmbOvf
  exact occur_agree.mono (by decide)

theorem compatWrite_agree {x0 x1 x2} :
    Agree [.regs, .events, .out, .threads, .pwr, .ncp, .line, .radio, .held] x2 (compatWrite x0 x1 x2) := by
  unfold compatWrite
  extract_lets a0 a1 a2 a3
  clear_value a0
  clear_value a1
  have ha2 : Agree [Part.regs, Part.events, Part.out, Part.threads, Part.pwr, Part.ncp, Part.line, Part.radio, Part.held] x2 a2 := by
    unfold a2
    exact State_wrTyped_agree.mono (by decide)
  clear_value a2
  have ha3 : Agree [Part.regs, Part.events, Part.out, Part.threads, Part.pwr, Part.ncp, Part.line, Part.radio, Part.held] x2 a3 := by
    unfold a3
    refine Agree.ite ?_ ?_
    · refine Agree.step ?_ silence_agree (by decide)
      assumption
    · assumption
  clear_value a3
  refine Agree.ite ?_ ?_
  · refine Agree.step ?_ bandRefused_agree (by decide)
    refine Agree.step ?_ State_put_agree (by decide)
    assumption
  · assumption

theorem execCompatEnable_agree {x0 x1 x2 x3} :
    AgreeAns [.regs, .events, .out, .threads, .pwr, .ncp, .line, .radio, .held] x3 (execCompatEnable x0 x1 x2 x3) := by
  unfold execCompatEnable
  refine AgreeAns.of_next ?_
  refine Agree.trans ?_ (filtered_agree (by decide) ?_)
  · exact Agree.refl _ _
  · intro y0
    exact compatWrite_agree.mono (by decide)

theorem applyBand_agree {x0 x1} :
    Agree [.regs, .events, .out, .line, .held] x1 (applyBand x0 x1) := by
  unfold applyBand
  extract_lets a0 a1 a2 a3
  clear_value a0
  clear_value a1
  clear_value a2
  have ha3 : Agree [Part.regs, Part.events, Part.out, Part.line, Part.held] x1 a3 := by
    unfold a3
    refine Agree.mk' ?_ (by
      intro p hp
      cases p <;> first | exact (hp (by decide)).elim | rfl | exact ⟨rfl, rfl⟩ | exact ⟨rfl, rfl, rfl⟩)
    exact Agree.refl _ _
  clear_value a3
  refine Agree.ite ?_ ?_
  · exact bandRefused_agree.mono (by decide)
  · refine Agree.ite ?_ ?_
    · exact bandRefused_agree.mono (by decide)
    · refine Agree.ite ?_ ?_
      · exact bandRefused_agree.mono (by decide)
      · refine Agree.ite ?_ ?_
        · exact bandRefused_agree.mono (by decide)
        · refine Agree.step ?_ State_put_agree (by decide)
          refine Agree.step ?_ State_put_agree (by decide)
          assumption

theorem ringCfgWrite_agree {x0 x1 x2 x3} :
    Agree [.regs] x3 (ringCfgWrite x0 x1 x2 x3) := by
  unfold ringCfgWrite
  extract_lets a0
  have ha0 : Agree [Part.regs] x3 a0 := by
    unfold a0
    exact State_wrTyped_agree.mono (by decide)
  clear_value a0
  refine Agree.ite ?_ ?_
  · refine Agree.step ?_ State_put_agree (by decide)
    assumption
  · assumption

theorem superPulse_agree {x0 x1 x2} :
    Agree [.plmb] x2 (superPulse x0 x1 x2) := by
  unfold superPulse
  extract_lets a0
  clear_value a0
  refine Agree.ite ?_ ?_
  · exact setOut_agree.mono (by decide)
  · exact Agree.refl _ _

theorem countSkips_agree {x0 x1 x2} :
    Agree [.regs, .events, .out, .held] x2 (countSkips x0 x1 x2) := by
  unfold countSkips
  extract_lets a0
  clear_value a0
  refine Agree.ite ?_ ?_
  · exact Agree.refl _ _
  · refine Agree.foldUpto ?_ ?_
    · intro y1
      intro y2
      refine Agree.step ?_ occur_agree (by decide)
      refine Agree.trans ?_ (bumpStat_agree (by decide) ?_)
      · exact Agree.refl _ _
      · intro y3
        exact macOvf_agree.mono (by decide)
    · exact Agree.refl _ _

theorem nmapCycle_agree {x0 x1 x2} :
    Agree [.regs, .events, .out, .line, .held] x2 (nmapCycle x0 x1 x2) := by
  unfold nmapCycle
  refine Agree.foldl ?_ ?_
  · intro y0
    intro y1
    exact nmapUpdate_agree.mono (by decide)
  · exact Agree.refl _ _

theorem openSf_agree {x0 x1 x2} :
    Agree [.regs, .events, .out, .line, .plmb, .held] x2 (openSf x0 x1 x2) := by
  unfold openSf
  extract_lets a0 a1 a2 a3 a4
  clear_value a0
  clear_value a1
  clear_value a2
  have ha3 : Agree [Part.regs, Part.events, Part.out, Part.line, Part.plmb, Part.held] x2 a3 := by
    unfold a3
    refine Agree.mk' ?_ (by
      intro p hp
      cases p <;> first | exact (hp (by decide)).elim | rfl | exact ⟨rfl, rfl⟩ | exact ⟨rfl, rfl, rfl⟩)
    exact Agree.refl _ _
  clear_value a3
  have ha4 : Agree [Part.regs, Part.events, Part.out, Part.line, Part.plmb, Part.held] x2 a4 := by
    unfold a4
    refine Agree.step ?_ superPulse_agree (by decide)
    refine Agree.step ?_ State_put_agree (by decide)
    assumption
  clear_value a4
  refine Agree.step ?_ occur_agree (by decide)
  refine Agree.step ?_ State_put_agree (by decide)
  assumption

theorem sfCrossing_agree {x0 x1 x2 x3} :
    Agree [.regs, .events, .out, .line, .plmb, .held] x3 (sfCrossing x0 x1 x2 x3) := by
  unfold sfCrossing
  extract_lets a0 a1
  clear_value a0
  clear_value a1
  refine Agree.ite ?_ ?_
  · exact Agree.refl _ _
  · refine Agree.ite ?_ ?_
    · refine Agree.ite ?_ ?_
      · exact openSf_agree.mono (by decide)
      · exact Agree.refl _ _
    · split
      · refine Agree.ite ?_ ?_
        · exact openSf_agree.mono (by decide)
        · exact Agree.refl _ _
      · refine Agree.ite ?_ ?_
        · refine Agree.ite ?_ ?_
          · exact openSf_agree.mono (by decide)
          · refine Agree.mk' ?_ (by
              intro p hp
              cases p <;> first | exact (hp (by decide)).elim | rfl | exact ⟨rfl, rfl⟩ | exact ⟨rfl, rfl, rfl⟩)
            exact Agree.refl _ _
        · refine Agree.ite ?_ ?_
          · refine Agree.mk' ?_ (by
              intro p hp
              cases p <;> first | exact (hp (by decide)).elim | rfl | exact ⟨rfl, rfl⟩ | exact ⟨rfl, rfl, rfl⟩)
            exact Agree.refl _ _
          · exact Agree.refl _ _

theorem numberCrossing_agree {x0 x1 x2 x3 x4} :
    Agree [.regs, .events, .out, .line, .plmb, .held] x4 (numberCrossing x0 x1 x2 x3 x4) := by
  unfold numberCrossing
  extract_lets a0 a1 a2 a3 a4 a5 a6
  clear_value a0
  have ha1 : Agree [Part.regs, Part.events, Part.out, Part.line, Part.plmb, Part.held] x4 a1 := by
    unfold a1
    exact countSkips_agree.mono (by decide)
  clear_value a1
  clear_value a2
  clear_value a3
  clear_value a4
  have ha5 : Agree [Part.regs, Part.events, Part.out, Part.line, Part.plmb, Part.held] x4 a5 := by
    unfold a5
    refine Agree.step ?_ setTrk_agree (by decide)
    assumption
  clear_value a5
  have ha6 : Agree [Part.regs, Part.events, Part.out, Part.line, Part.plmb, Part.held] x4 a6 := by
    unfold a6
    refine Agree.step ?_ State_put_agree (by decide)
    assumption
  clear_value a6
  refine Agree.step ?_ nmapCycle_agree (by decide)
  refine Agree.step ?_ sfCrossing_agree (by decide)
  assumption

theorem lockedEdge_agree {x0 x1 x2 x3 x4} :
    Agree [.regs, .events, .out, .line, .plmb, .held] x4 (lockedEdge x0 x1 x2 x3 x4) := by
  unfold lockedEdge
  extract_lets a0 a1
  have ha0 : Agree [Part.regs, Part.events, Part.out, Part.line, Part.plmb, Part.held] x4 a0 := by
    unfold a0
    exact numberCrossing_agree.mono (by decide)
  clear_value a0
  clear_value a1
  refine Agree.step ?_ setTrk_agree (by decide)
  assumption

theorem execZxEdgeRejected_agree {x0 x1 x2} :
    AgreeAns [.regs, .time, .copy, .events, .out, .line, .held] x2 (execZxEdgeRejected x0 x1 x2) := by
  unfold execZxEdgeRejected
  extract_lets a0 a1
  have ha0 : Agree [Part.regs, Part.time, Part.copy, Part.events, Part.out, Part.line, Part.held] x2 a0 := by
    unfold a0
    refine Agree.trans ?_ (bumpStat_agree (by decide) ?_)
    · exact State_passTo_agree.mono (by decide)
    · intro y2
      exact plmbOvf_agree.mono (by decide)
  clear_value a0
  clear_value a1
  refine AgreeAns.ite ?_ ?_
  · refine AgreeAns.of_next ?_
    exact Agree.refl _ _
  · refine AgreeAns.of_next ?_
    refine Agree.step ?_ setTrk_agree (by decide)
    assumption

theorem setZxState_agree {x0 x1 x2} :
    Agree [.regs, .events, .out, .held] x2 (setZxState x0 x1 x2) := by
  unfold setZxState
  refine Agree.step ?_ occur_agree (by decide)
  exact State_put_agree.mono (by decide)

theorem execMainsHoldTimeout_agree {x0 x1} :
    AgreeAns [.regs, .time, .copy, .events, .out, .line, .held] x1 (execMainsHoldTimeout x0 x1) := by
  unfold execMainsHoldTimeout
  extract_lets a0 a1
  have ha0 : Agree [Part.regs, Part.time, Part.copy, Part.events, Part.out, Part.line, Part.held] x1 a0 := by
    unfold a0
    exact State_passTo_agree.mono (by decide)
  clear_value a0
  clear_value a1
  refine AgreeAns.ite ?_ ?_
  · refine AgreeAns.of_next ?_
    exact Agree.refl _ _
  · refine AgreeAns.of_next ?_
    refine Agree.step ?_ setZxState_agree (by decide)
    refine Agree.step ?_ setTrk_agree (by decide)
    assumption

theorem execDlvRingEnable_agree {x0 x1 x2 x3} :
    AgreeAns [.regs, .events, .out, .held] x3 (execDlvRingEnable x0 x1 x2 x3) := by
  unfold execDlvRingEnable
  refine AgreeAns.of_next ?_
  refine Agree.trans ?_ (filtered_agree (by decide) ?_)
  · exact Agree.refl _ _
  · intro y0
    exact ringCfgWrite_agree.mono (by decide)

theorem execLphyApply_agree {x0 x1 x2 x3} :
    AgreeAns [.regs, .events, .out, .line, .held] x3 (execLphyApply x0 x1 x2 x3) := by
  unfold execLphyApply
  extract_lets a0
  clear_value a0
  refine AgreeAns.of_next ?_
  refine Agree.trans ?_ (filtered_agree (by decide) ?_)
  · exact Agree.refl _ _
  · intro y1
    extract_lets a2
    have ha2 : Agree [Part.regs, Part.events, Part.out, Part.line, Part.held] y1 a2 := by
      unfold a2
      refine Agree.ite ?_ ?_
      · exact applyBand_agree.mono (by decide)
      · exact Agree.refl _ _
    clear_value a2
    refine Agree.ite ?_ ?_
    · refine Agree.step ?_ applyBand_agree (by decide)
      assumption
    · assumption

theorem execFirSwap_agree {x0 x1 x2 x3 x4} :
    AgreeAns [.regs, .events, .out, .held] x4 (execFirSwap x0 x1 x2 x3 x4) := by
  unfold execFirSwap
  refine AgreeAns.of_next ?_
  refine Agree.trans ?_ (filtered_agree (by decide) ?_)
  · exact Agree.refl _ _
  · intro y0
    exact State_wrTyped_agree.mono (by decide)

theorem mainsMissed_agree {x0 x1 x2} :
    Agree [.regs, .time, .copy, .events, .out, .line, .plmb, .held] x2 (mainsMissed x0 x1 x2) := by
  unfold mainsMissed
  extract_lets a0 a1 a2 a3 a4 a5
  clear_value a0
  have ha1 : Agree [Part.regs, Part.time, Part.copy, Part.events, Part.out, Part.line, Part.plmb, Part.held] x2 a1 := by
    unfold a1
    exact State_passTo_agree.mono (by decide)
  clear_value a1
  clear_value a2
  have ha3 : Agree [Part.regs, Part.time, Part.copy, Part.events, Part.out, Part.line, Part.plmb, Part.held] x2 a3 := by
    unfold a3
    refine Agree.step ?_ numberCrossing_agree (by decide)
    assumption
  clear_value a3
  clear_value a4
  clear_value a5
  refine Agree.ite ?_ ?_
  · assumption
  · refine Agree.ite ?_ ?_
    · refine Agree.step ?_ setTrk_agree (by decide)
      assumption
    · refine Agree.ite ?_ ?_
      · refine Agree.step ?_ setTrk_agree (by decide)
        assumption
      · refine Agree.step ?_ setZxState_agree (by decide)
        refine Agree.step ?_ setTrk_agree (by decide)
        assumption

theorem lostEdge_agree {x0 x1 x2 x3} :
    Agree [.regs, .events, .out, .line, .plmb, .held] x3 (lostEdge x0 x1 x2 x3) := by
  unfold lostEdge
  extract_lets a0 a1 a2
  clear_value a0
  have ha1 : Agree [Part.regs, Part.events, Part.out, Part.line, Part.plmb, Part.held] x3 a1 := by
    unfold a1
    exact setTrk_agree.mono (by decide)
  clear_value a1
  clear_value a2
  split
  · extract_lets a3 a4 a5
    clear_value a3
    clear_value a4
    have ha5 : Agree [Part.regs, Part.events, Part.out, Part.line, Part.plmb, Part.held] x3 a5 := by
      unfold a5
      refine Agree.ite ?_ ?_
      · refine Agree.step ?_ numberCrossing_agree (by decide)
        assumption
      · refine Agree.step ?_ setTrk_agree (by decide)
        assumption
    clear_value a5
    refine Agree.ite ?_ ?_
    · exact setTrk_agree.mono (by decide)
    · refine Agree.step ?_ setZxState_agree (by decide)
      assumption
  · exact setTrk_agree.mono (by decide)

theorem takeBand_agree {x0 x1} :
    Agree [.regs, .events, .out, .line, .held] x1 (takeBand x0 x1) := by
  unfold takeBand
  extract_lets a0 a1 a2 a3 a4 a5 a6 a7 a8 a9
  clear_value a0
  clear_value a2
  have ha3 : Agree [Part.regs, Part.events, Part.out, Part.line, Part.held] x1 a3 := by
    unfold a3
    refine Agree.mk' ?_ (by
      intro p hp
      cases p <;> first | exact (hp (by decide)).elim | rfl | exact ⟨rfl, rfl⟩ | exact ⟨rfl, rfl, rfl⟩)
    exact Agree.refl _ _
  clear_value a3
  have ha4 : Agree [Part.regs, Part.events, Part.out, Part.line, Part.held] x1 a4 := by
    unfold a4
    refine Agree.step ?_ State_put_agree (by decide)
    assumption
  clear_value a4
  have ha5 : Agree [Part.regs, Part.events, Part.out, Part.line, Part.held] x1 a5 := by
    unfold a5
    refine Agree.step ?_ State_put_agree (by decide)
    assumption
  clear_value a5
  have ha6 : Agree [Part.regs, Part.events, Part.out, Part.line, Part.held] x1 a6 := by
    unfold a6
    refine Agree.step ?_ State_put_agree (by decide)
    refine Agree.step ?_ State_put_agree (by decide)
    assumption
  clear_value a6
  clear_value a7
  have ha8 : Agree [Part.regs, Part.events, Part.out, Part.line, Part.held] x1 a8 := by
    unfold a8
    refine Agree.step ?_ State_put_agree (by decide)
    assumption
  clear_value a8
  have ha9 : Agree [Part.regs, Part.events, Part.out, Part.line, Part.held] x1 a9 := by
    unfold a9
    refine Agree.ite ?_ ?_
    · refine Agree.step ?_ clearNmap_agree (by decide)
      refine Agree.step ?_ clearNmap_agree (by decide)
      refine Agree.step ?_ clearNmap_agree (by decide)
      assumption
    · assumption
  clear_value a9
  refine Agree.step ?_ occur_agree (by decide)
  assumption

theorem holdEdge_agree {x0 x1 x2 x3 x4 x5} :
    Agree [.regs, .events, .out, .line, .plmb, .held] x5 (holdEdge x0 x1 x2 x3 x4 x5) := by
  unfold holdEdge
  extract_lets a0 a1 a2
  clear_value a0
  have ha1 : Agree [Part.regs, Part.events, Part.out, Part.line, Part.plmb, Part.held] x5 a1 := by
    unfold a1
    exact numberCrossing_agree.mono (by decide)
  clear_value a1
  clear_value a2
  refine Agree.ite ?_ ?_
  · refine Agree.step ?_ setZxState_agree (by decide)
    exact lockedEdge_agree.mono (by decide)
  · refine Agree.step ?_ setTrk_agree (by decide)
    assumption

theorem mainsEdge_agree {x0 x1 x2 x3 x4 x5} :
    Agree [.regs, .events, .out, .line, .plmb, .held] x5 (mainsEdge x0 x1 x2 x3 x4 x5) := by
  unfold mainsEdge
  refine Agree.ite ?_ ?_
  · exact lostEdge_agree.mono (by decide)
  · refine Agree.ite ?_ ?_
    · exact Agree.refl _ _
    · refine Agree.ite ?_ ?_
      · exact lockedEdge_agree.mono (by decide)
      · exact holdEdge_agree.mono (by decide)

theorem execBandApplied_agree {x0 x1} :
    AgreeAns [.regs, .events, .out, .line, .held] x1 (execBandApplied x0 x1) := by
  unfold execBandApplied
  refine AgreeAns.ite ?_ ?_
  · refine AgreeAns.of_next ?_
    exact takeBand_agree.mono (by decide)
  · refine AgreeAns.of_next ?_
    exact Agree.refl _ _

end Sys2Proof.Machine
end

