-- ==== Sys2Proof/Laws/Frame/RadioCtl.lean ====
section
/-!
SUPPORT. Which parts of the state each definition of Machine/RadioCtl.lean may change.
-/

namespace Sys2Proof.Machine

theorem execConnEventAdvance_agree {x0 x1} :
    AgreeAns [.regs, .time, .copy, .events, .out, .ncp, .line, .radio, .held] x1 (execConnEventAdvance x0 x1) := by
  unfold execConnEventAdvance
  refine AgreeAns.ite ?_ ?_
  · refine AgreeAns.of_next ?_
    exact Agree.refl _ _
  · refine AgreeAns.of_next ?_
    refine Agree.step ?_ update_agree (by decide)
    exact State_passTo_agree.mono (by decide)

theorem checkpoint_agree {x0 x1 x2} :
    Agree [.regs, .events, .out, .nand, .held] x2 (checkpoint x0 x1 x2) := by
  unfold checkpoint
  extract_lets a0 a1 a2
  clear_value a0
  clear_value a1
  have ha2 : Agree [Part.regs, Part.events, Part.out, Part.nand, Part.held] x2 a2 := by
    unfold a2
    refine Agree.mk' ?_ (by
      intro p hp
      cases p <;> first | exact (hp (by decide)).elim | rfl | exact ⟨rfl, rfl⟩ | exact ⟨rfl, rfl, rfl⟩)
    exact Agree.refl _ _
  clear_value a2
  refine Agree.ite ?_ ?_
  · refine Agree.step ?_ occur_agree (by decide)
    refine Agree.step ?_ State_put_agree (by decide)
    refine Agree.step ?_ State_put_agree (by decide)
    assumption
  · refine Agree.step ?_ occur_agree (by decide)
    exact State_put_agree.mono (by decide)

theorem radioCfgWrite_agree {x0 x1 x2} :
    Agree [.regs, .events, .out, .radio, .held] x2 (radioCfgWrite x0 x1 x2) := by
  unfold radioCfgWrite
  extract_lets a0 a1 a2 a3
  clear_value a0
  have ha1 : Agree [Part.regs, Part.events, Part.out, Part.radio, Part.held] x2 a1 := by
    unfold a1
    exact State_wrTyped_agree.mono (by decide)
  clear_value a1
  have ha2 : Agree [Part.regs, Part.events, Part.out, Part.radio, Part.held] x2 a2 := by
    unfold a2
    refine Agree.step ?_ State_put_agree (by decide)
    assumption
  clear_value a2
  clear_value a3
  refine Agree.ite ?_ ?_
  · refine Agree.step ?_ occur_agree (by decide)
    refine Agree.step ?_ State_put_agree (by decide)
    refine Agree.step ?_ State_put_agree (by decide)
    assumption
  · refine Agree.ite ?_ ?_
    · assumption
    · refine Agree.mk' ?_ (by
        intro p hp
        cases p <;> first | exact (hp (by decide)).elim | rfl | exact ⟨rfl, rfl⟩ | exact ⟨rfl, rfl, rfl⟩)
      assumption

theorem execRfSfStart_agree {x0} :
    AgreeAns [.regs, .time, .copy, .events, .out, .plmb, .held] x0 (execRfSfStart x0) := by
  unfold execRfSfStart
  extract_lets a0 a1
  clear_value a0
  have ha1 : Agree [Part.regs, Part.time, Part.copy, Part.events, Part.out, Part.plmb, Part.held] x0 a1 := by
    unfold a1
    exact State_passTo_agree.mono (by decide)
  clear_value a1
  refine AgreeAns.ite ?_ ?_
  · refine AgreeAns.of_next ?_
    exact Agree.refl _ _
  · refine AgreeAns.of_next ?_
    refine Agree.step ?_ superPulse_agree (by decide)
    refine Agree.step ?_ occur_agree (by decide)
    refine Agree.step ?_ State_put_agree (by decide)
    refine Agree.step ?_ State_put_agree (by decide)
    assumption

theorem execDcCheckpoint_agree {x0 x1} :
    AgreeAns [.regs, .events, .out, .nand, .held] x1 (execDcCheckpoint x0 x1) := by
  unfold execDcCheckpoint
  refine AgreeAns.of_next ?_
  exact checkpoint_agree.mono (by decide)

theorem execDcSecondTick_agree {x0} :
    AgreeAns [.regs, .time, .copy, .events, .out, .radio, .held] x0 (execDcSecondTick x0) := by
  unfold execDcSecondTick
  extract_lets a0 a1 a2
  have ha0 : Agree [Part.regs, Part.time, Part.copy, Part.events, Part.out, Part.radio, Part.held] x0 a0 := by
    unfold a0
    exact State_passTo_agree.mono (by decide)
  clear_value a0
  clear_value a1
  clear_value a2
  refine AgreeAns.of_next ?_
  refine Agree.step ?_ syncDuty_agree (by decide)
  refine Agree.mk' ?_ (by
    intro p hp
    cases p <;> first | exact (hp (by decide)).elim | rfl | exact ⟨rfl, rfl⟩ | exact ⟨rfl, rfl, rfl⟩)
  assumption

theorem execRadioEnable_agree {x0 x1 x2 x3} :
    AgreeAns [.regs, .events, .out, .radio, .held] x3 (execRadioEnable x0 x1 x2 x3) := by
  unfold execRadioEnable
  refine AgreeAns.of_next ?_
  refine Agree.trans ?_ (filtered_agree (by decide) ?_)
  · exact Agree.refl _ _
  · intro y0
    exact radioCfgWrite_agree.mono (by decide)

theorem execSupervisionExpire_agree {x0 x1} :
    AgreeAns [.regs, .time, .copy, .events, .out, .ncp, .line, .radio, .held] x1 (execSupervisionExpire x0 x1) := by
  unfold execSupervisionExpire
  split
  · refine AgreeAns.of_next ?_
    exact Agree.refl _ _
  · refine AgreeAns.ite ?_ ?_
    · refine AgreeAns.of_next ?_
      exact Agree.refl _ _
    · refine AgreeAns.of_next ?_
      refine Agree.step ?_ update_agree (by decide)
      exact State_passTo_agree.mono (by decide)

end Sys2Proof.Machine
end

