-- ==== Sys2Proof/Laws/Frame/TimeStep.lean ====
section
/-!
SUPPORT. Which parts of the state each definition of Machine/TimeStep.lean may change.
-/

namespace Sys2Proof.Machine

theorem failNear_agree {x0} :
    Agree [.regs, .events, .out, .threads, .pwr, .radio, .held] x0 (failNear x0) := by
  unfold failNear
  refine Agree.forActs ?_ ?_
  · intro y0
    intro y1
    intro y2
    exact lateUnsent_agree.mono (by decide)
  · exact Agree.refl _ _

theorem wakeReached_agree {x0} :
    Agree [.threads] x0 (wakeReached x0) := by
  unfold wakeReached
  refine Agree.foldl ?_ ?_
  · intro y0
    intro y1
    split
    · refine Agree.ite ?_ ?_
      · exact exitWait_agree.mono (by decide)
      · exact Agree.refl _ _
    · refine Agree.ite ?_ ?_
      · exact exitWait_agree.mono (by decide)
      · exact Agree.refl _ _
    · refine Agree.ite ?_ ?_
      · refine Agree.step ?_ exitWait_agree (by decide)
        refine Agree.step ?_ takeWake_agree (by decide)
        exact markDeadline_agree.mono (by decide)
      · exact Agree.refl _ _
    · exact Agree.refl _ _
  · exact Agree.refl _ _

theorem renumberRf_agree {x0} :
    Agree [.regs] x0 (renumberRf x0) := by
  unfold renumberRf
  refine Agree.ite ?_ ?_
  · exact State_put_agree.mono (by decide)
  · exact Agree.refl _ _

theorem misalign_agree {x0} :
    Agree [.regs] x0 (misalign x0) := by
  unfold misalign
  refine Agree.foldUpto ?_ ?_
  · intro y0
    intro y1
    exact State_put_agree.mono (by decide)
  · exact Agree.refl _ _

theorem moveElapsed_agree {x0 x1} :
    Agree [.queues, .events, .threads, .ncp, .line, .radio, .plmb, .ser, .tnl] x1 (moveElapsed x0 x1) := by
  unfold moveElapsed
  exact Agree.mk' (Agree.refl _ _) (by
    intro p hp
    cases p <;> first | exact (hp (by decide)).elim | rfl | exact ⟨rfl, rfl⟩ | exact ⟨rfl, rfl, rfl⟩)

theorem stepTime_agree {x0 x1} :
    Agree [.regs, .time, .copy, .queues, .events, .out, .threads, .pwr, .ncp, .line, .radio, .plmb, .ser, .held, .tnl] x1 (stepTime x0 x1) := by
  unfold stepTime
  refine Agree.ite ?_ ?_
  · exact Agree.refl _ _
  · refine Agree.step ?_ failNear_agree (by decide)
    refine Agree.step ?_ wakeReached_agree (by decide)
    refine Agree.step ?_ renumberRf_agree (by decide)
    refine Agree.step ?_ misalign_agree (by decide)
    refine Agree.step ?_ moveElapsed_agree (by decide)
    refine Agree.mk' ?_ (by
      intro p hp
      cases p <;> first | exact (hp (by decide)).elim | rfl | exact ⟨rfl, rfl⟩ | exact ⟨rfl, rfl, rfl⟩)
    exact Agree.refl _ _

end Sys2Proof.Machine
end

