-- ==== Sys2Proof/Laws/Frame/Plumb.lean ====
section
/-!
SUPPORT. Which parts of the state each definition of Machine/Plumb.lean may change.
-/

namespace Sys2Proof.Machine

theorem startTrk_agree {x0 x1} :
    Agree [.line] x1 (startTrk x0 x1) := by
  unfold startTrk
  extract_lets a0 a1
  clear_value a0
  clear_value a1
  exact setTrk_agree.mono (by decide)

theorem setSlew_agree {x0 x1} :
    Agree [.regs, .plmb] x1 (setSlew x0 x1) := by
  unfold setSlew
  extract_lets a0 a1
  clear_value a0
  have ha1 : Agree [Part.regs, Part.plmb] x1 a1 := by
    unfold a1
    refine Agree.mk' ?_ (by
      intro p hp
      cases p <;> first | exact (hp (by decide)).elim | rfl | exact ⟨rfl, rfl⟩ | exact ⟨rfl, rfl, rfl⟩)
    exact Agree.refl _ _
  clear_value a1
  refine Agree.step ?_ State_put_agree (by decide)
  assumption

theorem plumbStart_agree {x0} :
    Agree [.time, .copy, .line, .plmb] x0 (plumbStart x0) := by
  unfold plumbStart
  extract_lets a0 a1
  clear_value a0
  have ha1 : Agree [Part.time, Part.copy, Part.line, Part.plmb] x0 a1 := by
    unfold a1
    refine Agree.mk' ?_ (by
      intro p hp
      cases p <;> first | exact (hp (by decide)).elim | rfl | exact ⟨rfl, rfl⟩ | exact ⟨rfl, rfl, rfl⟩)
    exact Agree.refl _ _
  clear_value a1
  refine Agree.foldUpto ?_ ?_
  · intro y2
    intro y3
    exact startTrk_agree.mono (by decide)
  · assumption

theorem askAlign_agree {x0 x1} :
    Agree [.plmb] x1 (askAlign x0 x1) := by
  unfold askAlign
  extract_lets a0
  clear_value a0
  refine Agree.ite ?_ ?_
  · exact Agree.refl _ _
  · exact setOut_agree.mono (by decide)

theorem outCfgWrite_agree {x0 x1 x2 x3} :
    Agree [.regs, .plmb] x3 (outCfgWrite x0 x1 x2 x3) := by
  unfold outCfgWrite
  extract_lets a0
  have ha0 : Agree [Part.regs, Part.plmb] x3 a0 := by
    unfold a0
    exact State_wrTyped_agree.mono (by decide)
  clear_value a0
  refine Agree.ite ?_ ?_
  · assumption
  · refine Agree.ite ?_ ?_
    · refine Agree.step ?_ askAlign_agree (by decide)
      assumption
    · refine Agree.step ?_ setOut_agree (by decide)
      refine Agree.step ?_ State_put_agree (by decide)
      assumption

theorem setRefState_agree {x0 x1 x2} :
    Agree [.regs] x2 (setRefState x0 x1 x2) := by
  unfold setRefState
  exact State_put_agree.mono (by decide)

theorem setRef_agree {x0 x1 x2} :
    Agree [.plmb] x2 (setRef x0 x1 x2) := by
  unfold setRef
  extract_lets a0
  clear_value a0
  refine Agree.mk' ?_ (by
    intro p hp
    cases p <;> first | exact (hp (by decide)).elim | rfl | exact ⟨rfl, rfl⟩ | exact ⟨rfl, rfl, rfl⟩)
  exact Agree.refl _ _

theorem restartRef_agree {x0 x1 x2 x3 x4} :
    Agree [.regs, .plmb] x4 (restartRef x0 x1 x2 x3 x4) := by
  unfold restartRef
  extract_lets a0
  clear_value a0
  refine Agree.step ?_ setRefState_agree (by decide)
  exact setRef_agree.mono (by decide)

theorem markHist_agree {x0} :
    Agree [.plmb] x0 (markHist x0) := by
  unfold markHist
  extract_lets a0
  clear_value a0
  refine Agree.mk' ?_ (by
    intro p hp
    cases p <;> first | exact (hp (by decide)).elim | rfl | exact ⟨rfl, rfl⟩ | exact ⟨rfl, rfl, rfl⟩)
  exact Agree.refl _ _

theorem toState_agree {x0 x1} :
    Agree [.regs, .events, .out, .plmb, .held] x1 (toState x0 x1) := by
  unfold toState
  extract_lets a0 a1 a2 a3 a4
  clear_value a0
  have ha1 : Agree [Part.regs, Part.events, Part.out, Part.plmb, Part.held] x1 a1 := by
    unfold a1
    exact markHist_agree.mono (by decide)
  clear_value a1
  clear_value a2
  have ha3 : Agree [Part.regs, Part.events, Part.out, Part.plmb, Part.held] x1 a3 := by
    unfold a3
    refine Agree.mk' ?_ (by
      intro p hp
      cases p <;> first | exact (hp (by decide)).elim | rfl | exact ⟨rfl, rfl⟩ | exact ⟨rfl, rfl, rfl⟩)
    assumption
  clear_value a3
  have ha4 : Agree [Part.regs, Part.events, Part.out, Part.plmb, Part.held] x1 a4 := by
    unfold a4
    refine Agree.step ?_ State_put_agree (by decide)
    assumption
  clear_value a4
  refine Agree.ite ?_ ?_
  · exact Agree.refl _ _
  · refine Agree.step ?_ occur_agree (by decide)
    refine Agree.ite ?_ ?_
    · refine Agree.step ?_ State_put_agree (by decide)
      assumption
    · assumption

theorem checkClamp_agree {x0} :
    Agree [.regs] x0 (checkClamp x0) := by
  unfold checkClamp
  refine Agree.ite ?_ ?_
  · exact Agree.refl _ _
  · exact State_put_agree.mono (by decide)

theorem setLoop_agree {x0 x1} :
    Agree [.regs, .plmb] x1 (setLoop x0 x1) := by
  unfold setLoop
  extract_lets a0 a1
  have ha0 : Agree [Part.regs, Part.plmb] x1 a0 := by
    unfold a0
    exact markHist_agree.mono (by decide)
  clear_value a0
  clear_value a1
  refine Agree.step ?_ checkClamp_agree (by decide)
  refine Agree.mk' ?_ (by
    intro p hp
    cases p <;> first | exact (hp (by decide)).elim | rfl | exact ⟨rfl, rfl⟩ | exact ⟨rfl, rfl, rfl⟩)
  assumption

theorem lockOn_agree {x0 x1} :
    Agree [.regs, .events, .out, .plmb, .held] x1 (lockOn x0 x1) := by
  unfold lockOn
  refine Agree.step ?_ toState_agree (by decide)
  refine Agree.step ?_ setLoop_agree (by decide)
  exact setSlew_agree.mono (by decide)

theorem setPhaseErr_agree {x0 x1} :
    Agree [.regs] x1 (setPhaseErr x0 x1) := by
  unfold setPhaseErr
  exact State_wr_agree.mono (by decide)

theorem retarget_agree {x0 x1} :
    Agree [.regs, .time, .copy, .queues, .events, .out, .threads, .pwr, .ncp, .line, .radio, .plmb, .ser, .held, .tnl] x1 (retarget x0 x1) := by
  unfold retarget
  extract_lets a0 a1 a2 a3 a4 a5
  have ha0 : Agree [Part.regs, Part.time, Part.copy, Part.queues, Part.events, Part.out, Part.threads, Part.pwr, Part.ncp, Part.line,
  Part.radio, Part.plmb, Part.ser, Part.held, Part.tnl] x1 a0 := by
    unfold a0
    exact toState_agree.mono (by decide)
  clear_value a0
  clear_value a1
  clear_value a2
  have ha3 : Agree [Part.regs, Part.time, Part.copy, Part.queues, Part.events, Part.out, Part.threads, Part.pwr, Part.ncp, Part.line,
  Part.radio, Part.plmb, Part.ser, Part.held, Part.tnl] x1 a3 := by
    unfold a3
    refine Agree.step ?_ stepTime_agree (by decide)
    refine Agree.mk' ?_ (by
      intro p hp
      cases p <;> first | exact (hp (by decide)).elim | rfl | exact ⟨rfl, rfl⟩ | exact ⟨rfl, rfl, rfl⟩)
    assumption
  clear_value a3
  clear_value a4
  have ha5 : Agree [Part.regs, Part.time, Part.copy, Part.queues, Part.events, Part.out, Part.threads, Part.pwr, Part.ncp, Part.line,
  Part.radio, Part.plmb, Part.ser, Part.held, Part.tnl] x1 a5 := by
    unfold a5
    refine Agree.step ?_ setPhaseErr_agree (by decide)
    assumption
  clear_value a5
  refine Agree.ite ?_ ?_
  · refine Agree.step ?_ lockOn_agree (by decide)
    assumption
  · refine Agree.ite ?_ ?_
    · refine Agree.step ?_ lockOn_agree (by decide)
      refine Agree.step ?_ setPhaseErr_agree (by decide)
      assumption
    · refine Agree.ite ?_ ?_
      · refine Agree.step ?_ lockOn_agree (by decide)
        assumption
      · refine Agree.step ?_ setLoop_agree (by decide)
        refine Agree.step ?_ setSlew_agree (by decide)
        assumption

theorem countSwitch_agree {x0} :
    Agree [.regs, .events, .out, .held] x0 (countSwitch x0) := by
  unfold countSwitch
  refine Agree.step ?_ occur_agree (by decide)
  refine Agree.trans ?_ (bumpStat_agree (by decide) ?_)
  · exact Agree.refl _ _
  · intro y0
    exact plmbOvf_agree.mono (by decide)

theorem selectRef_agree {x0 x1} :
    Agree [.regs, .time, .copy, .queues, .events, .out, .threads, .pwr, .ncp, .line, .radio, .plmb, .ser, .held, .tnl] x1 (selectRef x0 x1) := by
  unfold selectRef
  extract_lets a0
  have ha0 : Agree [Part.regs, Part.time, Part.copy, Part.queues, Part.events, Part.out, Part.threads, Part.pwr, Part.ncp, Part.line,
  Part.radio, Part.plmb, Part.ser, Part.held, Part.tnl] x1 a0 := by
    unfold a0
    split
    · refine Agree.ite ?_ ?_
      · exact setRefState_agree.mono (by decide)
      · exact Agree.refl _ _
    · exact Agree.refl _ _
  clear_value a0
  refine Agree.step ?_ retarget_agree (by decide)
  refine Agree.step ?_ countSwitch_agree (by decide)
  refine Agree.step ?_ setRefState_agree (by decide)
  refine Agree.step ?_ State_put_agree (by decide)
  assumption

theorem noRef_agree {x0} :
    Agree [.regs, .events, .out, .plmb, .held] x0 (noRef x0) := by
  unfold noRef
  extract_lets a0 a1 a2
  have ha0 : Agree [Part.regs, Part.events, Part.out, Part.plmb, Part.held] x0 a0 := by
    unfold a0
    refine Agree.step ?_ countSwitch_agree (by decide)
    exact State_put_agree.mono (by decide)
  clear_value a0
  clear_value a1
  have ha2 : Agree [Part.regs, Part.events, Part.out, Part.plmb, Part.held] x0 a2 := by
    unfold a2
    refine Agree.step ?_ setLoop_agree (by decide)
    refine Agree.step ?_ setSlew_agree (by decide)
    assumption
  clear_value a2
  refine Agree.step ?_ toState_agree (by decide)
  assumption

theorem reselect_agree {x0} :
    Agree [.regs, .time, .copy, .queues, .events, .out, .threads, .pwr, .ncp, .line, .radio, .plmb, .ser, .held, .tnl] x0 (reselect x0) := by
  unfold reselect
  split
  · exact selectRef_agree.mono (by decide)
  · exact noRef_agree.mono (by decide)

theorem refSwitch_agree {x0 x1} :
    Agree [.regs, .time, .copy, .queues, .events, .out, .threads, .pwr, .ncp, .line, .radio, .plmb, .ser, .held, .tnl] x1 (refSwitch x0 x1) := by
  unfold refSwitch
  extract_lets a0 a1
  clear_value a0
  have ha1 : Agree [Part.regs, Part.time, Part.copy, Part.queues, Part.events, Part.out, Part.threads, Part.pwr, Part.ncp, Part.line,
  Part.radio, Part.plmb, Part.ser, Part.held, Part.tnl] x1 a1 := by
    unfold a1
    refine Agree.step ?_ setRefState_agree (by decide)
    exact restartRef_agree.mono (by decide)
  clear_value a1
  refine Agree.ite ?_ ?_
  · refine Agree.ite ?_ ?_
    · exact setRefState_agree.mono (by decide)
    · exact Agree.refl _ _
  · refine Agree.ite ?_ ?_
    · exact Agree.refl _ _
    · refine Agree.ite ?_ ?_
      · refine Agree.step ?_ reselect_agree (by decide)
        refine Agree.step ?_ occur_agree (by decide)
        assumption
      · assumption

theorem plmbCfgWrite_agree {x0 x1 x2} :
    Agree [.regs, .time, .copy, .queues, .events, .out, .threads, .pwr, .ncp, .line, .radio, .plmb, .ser, .held, .tnl] x2 (plmbCfgWrite x0 x1 x2) := by
  unfold plmbCfgWrite
  refine Agree.foldUpto ?_ ?_
  · intro y0
    intro y1
    exact refSwitch_agree.mono (by decide)
  · exact State_wrTyped_agree.mono (by decide)

theorem follow_agree {x0 x1} :
    Agree [.regs, .plmb] x1 (follow x0 x1) := by
  unfold follow
  extract_lets a0
  have ha0 : Agree [Part.regs, Part.plmb] x1 a0 := by
    unfold a0
    refine Agree.ite ?_ ?_
    · exact Agree.refl _ _
    · exact setPhaseErr_agree.mono (by decide)
  clear_value a0
  refine Agree.ite ?_ ?_
  · exact Agree.refl _ _
  · refine Agree.ite ?_ ?_
    · refine Agree.step ?_ setLoop_agree (by decide)
      assumption
    · assumption

theorem eligible_agree {x0 x1} :
    Agree [.regs, .time, .copy, .queues, .events, .out, .threads, .pwr, .ncp, .line, .radio, .plmb, .ser, .held, .tnl] x1 (eligible x0 x1) := by
  unfold eligible
  extract_lets a0 a1 a2
  clear_value a0
  have ha1 : Agree [Part.regs, Part.time, Part.copy, Part.queues, Part.events, Part.out, Part.threads, Part.pwr, Part.ncp, Part.line,
  Part.radio, Part.plmb, Part.ser, Part.held, Part.tnl] x1 a1 := by
    unfold a1
    exact setRef_agree.mono (by decide)
  clear_value a1
  have ha2 : Agree [Part.regs, Part.time, Part.copy, Part.queues, Part.events, Part.out, Part.threads, Part.pwr, Part.ncp, Part.line,
  Part.radio, Part.plmb, Part.ser, Part.held, Part.tnl] x1 a2 := by
    unfold a2
    refine Agree.step ?_ occur_agree (by decide)
    refine Agree.step ?_ setRefState_agree (by decide)
    assumption
  clear_value a2
  split
  · refine Agree.step ?_ selectRef_agree (by decide)
    assumption
  · refine Agree.ite ?_ ?_
    · refine Agree.step ?_ selectRef_agree (by decide)
      assumption
    · assumption

theorem qualified_agree {x0 x1} :
    Agree [.regs, .time, .copy, .queues, .events, .out, .threads, .pwr, .ncp, .line, .radio, .plmb, .ser, .held, .tnl] x1 (qualified x0 x1) := by
  unfold qualified
  extract_lets a0 a1
  clear_value a0
  clear_value a1
  refine Agree.ite ?_ ?_
  · exact eligible_agree.mono (by decide)
  · refine Agree.step ?_ setRefState_agree (by decide)
    exact setRef_agree.mono (by decide)

theorem steerRegWrite_agree {x0 x1 x2} :
    Agree [.regs] x2 (steerRegWrite x0 x1 x2) := by
  unfold steerRegWrite
  refine Agree.step ?_ checkClamp_agree (by decide)
  exact State_wrTyped_agree.mono (by decide)

theorem refGood_agree {x0 x1 x2 x3} :
    Agree [.regs, .time, .copy, .queues, .events, .out, .threads, .pwr, .ncp, .line, .radio, .plmb, .ser, .held, .tnl] x3 (refGood x0 x1 x2 x3) := by
  unfold refGood
  extract_lets a0 a1
  clear_value a0
  have ha1 : Agree [Part.regs, Part.time, Part.copy, Part.queues, Part.events, Part.out, Part.threads, Part.pwr, Part.ncp, Part.line,
  Part.radio, Part.plmb, Part.ser, Part.held, Part.tnl] x3 a1 := by
    unfold a1
    exact setRef_agree.mono (by decide)
  clear_value a1
  refine Agree.ite ?_ ?_
  · refine Agree.ite ?_ ?_
    · refine Agree.step ?_ qualified_agree (by decide)
      assumption
    · assumption
  · refine Agree.step ?_ follow_agree (by decide)
    assumption

theorem plmbSwitchWrite_agree {x0 x1 x2} :
    Agree [.regs, .plmb] x2 (plmbSwitchWrite x0 x1 x2) := by
  unfold plmbSwitchWrite
  extract_lets a0 a1 a2
  clear_value a0
  have ha1 : Agree [Part.regs, Part.plmb] x2 a1 := by
    unfold a1
    exact State_wrTyped_agree.mono (by decide)
  clear_value a1
  clear_value a2
  refine Agree.ite ?_ ?_
  · assumption
  · refine Agree.mk' ?_ (by
      intro p hp
      cases p <;> first | exact (hp (by decide)).elim | rfl | exact ⟨rfl, rfl⟩ | exact ⟨rfl, rfl, rfl⟩)
    assumption

theorem todWrite_agree {x0 x1 x2} :
    Agree [.plmb] x2 (todWrite x0 x1 x2) := by
  unfold todWrite
  extract_lets a0
  clear_value a0
  refine Agree.ite ?_ ?_
  · exact Agree.refl _ _
  · refine Agree.mk' ?_ (by
      intro p hp
      cases p <;> first | exact (hp (by decide)).elim | rfl | exact ⟨rfl, rfl⟩ | exact ⟨rfl, rfl, rfl⟩)
    exact Agree.refl _ _

theorem refLost_agree {x0 x1 x2 x3 x4} :
    Agree [.regs, .time, .copy, .queues, .events, .out, .threads, .pwr, .ncp, .line, .radio, .plmb, .ser, .held, .tnl] x4 (refLost x0 x1 x2 x3 x4) := by
  unfold refLost
  extract_lets a0 a1 a2
  clear_value a0
  have ha1 : Agree [Part.regs, Part.time, Part.copy, Part.queues, Part.events, Part.out, Part.threads, Part.pwr, Part.ncp, Part.line,
  Part.radio, Part.plmb, Part.ser, Part.held, Part.tnl] x4 a1 := by
    unfold a1
    exact restartRef_agree.mono (by decide)
  clear_value a1
  have ha2 : Agree [Part.regs, Part.time, Part.copy, Part.queues, Part.events, Part.out, Part.threads, Part.pwr, Part.ncp, Part.line,
  Part.radio, Part.plmb, Part.ser, Part.held, Part.tnl] x4 a2 := by
    unfold a2
    refine Agree.ite ?_ ?_
    · refine Agree.step ?_ occur_agree (by decide)
      assumption
    · assumption
  clear_value a2
  refine Agree.ite ?_ ?_
  · refine Agree.step ?_ reselect_agree (by decide)
    assumption
  · assumption

theorem judgeSample_agree {x0 x1} :
    Agree [.regs, .time, .copy, .queues, .events, .out, .threads, .pwr, .ncp, .line, .radio, .plmb, .ser, .held, .tnl] x1 (judgeSample x0 x1) := by
  unfold judgeSample
  extract_lets a0 a1 a2 a3 a4
  clear_value a0
  clear_value a1
  have ha2 : Agree [Part.regs, Part.time, Part.copy, Part.queues, Part.events, Part.out, Part.threads, Part.pwr, Part.ncp, Part.line,
  Part.radio, Part.plmb, Part.ser, Part.held, Part.tnl] x1 a2 := by
    unfold a2
    exact setRef_agree.mono (by decide)
  clear_value a2
  clear_value a3
  clear_value a4
  refine Agree.ite ?_ ?_
  · refine Agree.step ?_ restartRef_agree (by decide)
    assumption
  · split
    · extract_lets a5
      clear_value a5
      refine Agree.ite ?_ ?_
      · refine Agree.step ?_ refGood_agree (by decide)
        assumption
      · refine Agree.ite ?_ ?_
        · refine Agree.step ?_ refLost_agree (by decide)
          assumption
        · refine Agree.step ?_ follow_agree (by decide)
          refine Agree.step ?_ setRef_agree (by decide)
          assumption
    · refine Agree.step ?_ setRef_agree (by decide)
      assumption

theorem hostWrite_agree {x0 x1 x2} :
    Agree [.regs, .time, .copy, .queues, .events, .out, .threads, .pwr, .ncp, .line, .radio, .plmb, .ser, .held, .tnl] x2 (hostWrite x0 x1 x2) := by
  unfold hostWrite
  extract_lets a0
  clear_value a0
  refine Agree.ite ?_ ?_
  · refine Agree.trans ?_ (bumpStat_agree (by decide) ?_)
    · exact Agree.refl _ _
    · intro y1
      exact plmbOvf_agree.mono (by decide)
  · refine Agree.ite ?_ ?_
    · exact Agree.refl _ _
    · refine Agree.step ?_ judgeSample_agree (by decide)
      exact setRef_agree.mono (by decide)

theorem alignWrite_agree {x0 x1 x2} :
    Agree [.regs, .plmb] x2 (alignWrite x0 x1 x2) := by
  unfold alignWrite
  extract_lets a0
  have ha0 : Agree [Part.regs, Part.plmb] x2 a0 := by
    unfold a0
    exact State_wrTyped_agree.mono (by decide)
  clear_value a0
  refine Agree.foldUpto ?_ ?_
  · intro y1
    intro y2
    refine Agree.ite ?_ ?_
    · exact askAlign_agree.mono (by decide)
    · exact Agree.refl _ _
  · assumption

theorem refUnseen_agree {x0 x1} :
    Agree [.regs, .events, .out, .plmb, .held] x1 (refUnseen x0 x1) := by
  unfold refUnseen
  extract_lets a0 a1
  clear_value a0
  have ha1 : Agree [Part.regs, Part.events, Part.out, Part.plmb, Part.held] x1 a1 := by
    unfold a1
    exact restartRef_agree.mono (by decide)
  clear_value a1
  refine Agree.ite ?_ ?_
  · exact Agree.refl _ _
  · refine Agree.ite ?_ ?_
    · refine Agree.step ?_ occur_agree (by decide)
      assumption
    · assumption

theorem plumbWake_agree {x0} :
    Agree [.regs, .events, .out, .plmb, .held] x0 (plumbWake x0) := by
  unfold plumbWake
  extract_lets a0 a1
  clear_value a0
  have ha1 : Agree [Part.regs, Part.events, Part.out, Part.plmb, Part.held] x0 a1 := by
    unfold a1
    refine Agree.step ?_ State_put_agree (by decide)
    refine Agree.foldUpto ?_ ?_
    · intro y2
      intro y3
      exact refUnseen_agree.mono (by decide)
    · exact Agree.refl _ _
  clear_value a1
  refine Agree.step ?_ toState_agree (by decide)
  refine Agree.ite ?_ ?_
  · refine Agree.step ?_ noRef_agree (by decide)
    assumption
  · assumption

theorem execSteerWrite_agree {x0 x1 x2 x3} :
    AgreeAns [.regs, .events, .out, .held] x3 (execSteerWrite x0 x1 x2 x3) := by
  unfold execSteerWrite
  refine AgreeAns.of_next ?_
  refine Agree.trans ?_ (filtered_agree (by decide) ?_)
  · exact Agree.refl _ _
  · intro y0
    refine Agree.trans ?_ (lineDieWrite_agree (by decide) ?_)
    · exact Agree.refl _ _
    · intro y1
      exact steerRegWrite_agree.mono (by decide)

theorem judgePulse_agree {x0 x1} :
    Agree [.regs, .time, .copy, .queues, .events, .out, .threads, .pwr, .ncp, .line, .radio, .plmb, .ser, .held, .tnl] x1 (judgePulse x0 x1) := by
  unfold judgePulse
  extract_lets a0 a1 a2
  have ha0 : Agree [Part.regs, Part.time, Part.copy, Part.queues, Part.events, Part.out, Part.threads, Part.pwr, Part.ncp, Part.line,
  Part.radio, Part.plmb, Part.ser, Part.held, Part.tnl] x1 a0 := by
    unfold a0
    refine Agree.trans ?_ (bumpStat_agree (by decide) ?_)
    · exact Agree.refl _ _
    · intro y3
      exact plmbOvf_agree.mono (by decide)
  clear_value a0
  clear_value a1
  clear_value a2
  split
  · extract_lets a4 a5
    clear_value a4
    clear_value a5
    refine Agree.ite ?_ ?_
    · exact Agree.refl _ _
    · refine Agree.ite ?_ ?_
      · exact refGood_agree.mono (by decide)
      · refine Agree.ite ?_ ?_
        · refine Agree.step ?_ refLost_agree (by decide)
          assumption
        · refine Agree.step ?_ setRef_agree (by decide)
          assumption
  · exact setRef_agree.mono (by decide)

theorem execPpsPulse_agree {x0 x1 x2} :
    AgreeAns [.regs, .time, .copy, .queues, .events, .out, .threads, .pwr, .ncp, .line, .radio, .plmb, .ser, .held, .tnl] x2 (execPpsPulse x0 x1 x2) := by
  unfold execPpsPulse
  extract_lets a0 a1 a2
  have ha0 : Agree [Part.regs, Part.time, Part.copy, Part.queues, Part.events, Part.out, Part.threads, Part.pwr, Part.ncp, Part.line,
  Part.radio, Part.plmb, Part.ser, Part.held, Part.tnl] x2 a0 := by
    unfold a0
    exact State_passTo_agree.mono (by decide)
  clear_value a0
  clear_value a1
  have ha2 : Agree [Part.regs, Part.time, Part.copy, Part.queues, Part.events, Part.out, Part.threads, Part.pwr, Part.ncp, Part.line,
  Part.radio, Part.plmb, Part.ser, Part.held, Part.tnl] x2 a2 := by
    unfold a2
    refine Agree.step ?_ setRef_agree (by decide)
    assumption
  clear_value a2
  refine AgreeAns.ite ?_ ?_
  · refine AgreeAns.of_next ?_
    exact Agree.refl _ _
  · refine AgreeAns.ite ?_ ?_
    · refine AgreeAns.of_next ?_
      refine Agree.step ?_ restartRef_agree (by decide)
      assumption
    · refine AgreeAns.of_next ?_
      refine Agree.step ?_ judgePulse_agree (by decide)
      assumption

theorem execHostSample_agree {x0 x1 x2 x3 x4} :
    AgreeAns [.regs, .time, .copy, .queues, .events, .out, .threads, .pwr, .ncp, .line, .radio, .plmb, .ser, .held, .tnl] x4 (execHostSample x0 x1 x2 x3 x4) := by
  unfold execHostSample
  refine AgreeAns.of_next ?_
  refine Agree.trans ?_ (filtered_agree (by decide) ?_)
  · exact Agree.refl _ _
  · intro y0
    refine Agree.trans ?_ (lineDieWrite_agree (by decide) ?_)
    · exact Agree.refl _ _
    · intro y1
      exact hostWrite_agree.mono (by decide)

theorem execPpsMiss_agree {x0} :
    AgreeAns [.regs, .time, .copy, .queues, .events, .out, .threads, .pwr, .ncp, .line, .radio, .plmb, .ser, .held, .tnl] x0 (execPpsMiss x0) := by
  unfold execPpsMiss
  split
  · extract_lets a0 a1 a2
    clear_value a0
    have ha1 : Agree [Part.regs, Part.time, Part.copy, Part.queues, Part.events, Part.out, Part.threads, Part.pwr, Part.ncp, Part.line,
  Part.radio, Part.plmb, Part.ser, Part.held, Part.tnl] x0 a1 := by
      unfold a1
      exact State_passTo_agree.mono (by decide)
    clear_value a1
    clear_value a2
    refine AgreeAns.ite ?_ ?_
    · refine AgreeAns.of_next ?_
      exact Agree.refl _ _
    · refine AgreeAns.ite ?_ ?_
      · refine AgreeAns.of_next ?_
        refine Agree.step ?_ refLost_agree (by decide)
        assumption
      · refine AgreeAns.of_next ?_
        refine Agree.step ?_ setRef_agree (by decide)
        assumption
  · refine AgreeAns.of_next ?_
    exact Agree.refl _ _

theorem alignOut_agree {x0 x1 x2} :
    Agree [.regs, .plmb] x2 (alignOut x0 x1 x2) := by
  unfold alignOut
  extract_lets a0 a1
  have ha0 : Agree [Part.regs, Part.plmb] x2 a0 := by
    unfold a0
    refine Agree.step ?_ State_put_agree (by decide)
    exact State_put_agree.mono (by decide)
  clear_value a0
  clear_value a1
  refine Agree.ite ?_ ?_
  · refine Agree.step ?_ setOut_agree (by decide)
    assumption
  · exact Agree.refl _ _

theorem execOutputAlign_agree {x0} :
    AgreeAns [.regs, .time, .copy, .plmb] x0 (execOutputAlign x0) := by
  unfold execOutputAlign
  split
  · refine AgreeAns.of_next ?_
    exact Agree.refl _ _
  · refine AgreeAns.of_next ?_
    refine Agree.foldUpto ?_ ?_
    · intro y0
      intro y1
      exact alignOut_agree.mono (by decide)
    · exact State_passTo_agree.mono (by decide)

theorem execTenQualify_agree {x0 x1} :
    AgreeAns [.regs, .time, .copy, .queues, .events, .out, .threads, .pwr, .ncp, .line, .radio, .plmb, .ser, .held, .tnl] x1 (execTenQualify x0 x1) := by
  unfold execTenQualify
  extract_lets a0 a1 a2
  have ha0 : Agree [Part.regs, Part.time, Part.copy, Part.queues, Part.events, Part.out, Part.threads, Part.pwr, Part.ncp, Part.line,
  Part.radio, Part.plmb, Part.ser, Part.held, Part.tnl] x1 a0 := by
    unfold a0
    refine Agree.ite ?_ ?_
    · exact State_passTo_agree.mono (by decide)
    · exact Agree.refl _ _
  clear_value a0
  clear_value a1
  have ha2 : Agree [Part.regs, Part.time, Part.copy, Part.queues, Part.events, Part.out, Part.threads, Part.pwr, Part.ncp, Part.line,
  Part.radio, Part.plmb, Part.ser, Part.held, Part.tnl] x1 a2 := by
    unfold a2
    refine Agree.step ?_ setRef_agree (by decide)
    assumption
  clear_value a2
  refine AgreeAns.ite ?_ ?_
  · refine AgreeAns.of_next ?_
    exact Agree.refl _ _
  · refine AgreeAns.ite ?_ ?_
    · refine AgreeAns.of_next ?_
      refine Agree.step ?_ qualified_agree (by decide)
      assumption
    · refine AgreeAns.of_next ?_
      refine Agree.step ?_ follow_agree (by decide)
      assumption

theorem execTimeMessage_agree {x0 x1 x2} :
    AgreeAns [.regs, .time, .copy, .events, .out, .threads, .pwr, .radio, .plmb, .held] x2 (execTimeMessage x0 x1 x2) := by
  unfold execTimeMessage
  extract_lets a0 a1 a2 a3 a4 a5 a6 a7 a8
  clear_value a0
  clear_value a1
  clear_value a2
  clear_value a3
  clear_value a4
  clear_value a5
  clear_value a6
  have ha7 : Agree [Part.regs, Part.time, Part.copy, Part.events, Part.out, Part.threads, Part.pwr, Part.radio, Part.plmb, Part.held] x2 a7 := by
    unfold a7
    refine Agree.mk' ?_ (by
      intro p hp
      cases p <;> first | exact (hp (by decide)).elim | rfl | exact ⟨rfl, rfl⟩ | exact ⟨rfl, rfl, rfl⟩)
    exact Agree.refl _ _
  clear_value a7
  have ha8 : Agree [Part.regs, Part.time, Part.copy, Part.events, Part.out, Part.threads, Part.pwr, Part.radio, Part.plmb, Part.held] x2 a8 := by
    unfold a8
    refine Agree.ite ?_ ?_
    · assumption
    · refine Agree.step ?_ failNear_agree (by decide)
      refine Agree.step ?_ wakeReached_agree (by decide)
      assumption
  clear_value a8
  refine AgreeAns.ite ?_ ?_
  · refine AgreeAns.of_next ?_
    exact Agree.refl _ _
  · refine AgreeAns.of_next ?_
    refine Agree.step ?_ State_put_agree (by decide)
    assumption

theorem execSlewDone_agree {x0 x1} :
    AgreeAns [.regs, .time, .copy, .events, .out, .plmb, .held] x1 (execSlewDone x0 x1) := by
  unfold execSlewDone
  split
  · refine AgreeAns.of_next ?_
    exact Agree.refl _ _
  · refine AgreeAns.ite ?_ ?_
    · refine AgreeAns.of_next ?_
      exact Agree.refl _ _
    · refine AgreeAns.of_next ?_
      refine Agree.step ?_ lockOn_agree (by decide)
      refine Agree.step ?_ occur_agree (by decide)
      refine Agree.step ?_ setPhaseErr_agree (by decide)
      refine Agree.step ?_ setSlew_agree (by decide)
      exact State_passTo_agree.mono (by decide)

theorem execTodSet_agree {x0 x1 x2 x3} :
    AgreeAns [.regs, .events, .out, .plmb, .held] x3 (execTodSet x0 x1 x2 x3) := by
  unfold execTodSet
  refine AgreeAns.of_next ?_
  refine Agree.trans ?_ (filtered_agree (by decide) ?_)
  · exact Agree.refl _ _
  · intro y0
    refine Agree.trans ?_ (lineDieWrite_agree (by decide) ?_)
    · exact Agree.refl _ _
    · intro y1
      exact todWrite_agree.mono (by decide)

theorem tenLost_agree {x0 x1} :
    Agree [.regs, .time, .copy, .queues, .events, .out, .threads, .pwr, .ncp, .line, .radio, .plmb, .ser, .held, .tnl] x1 (tenLost x0 x1) := by
  unfold tenLost
  refine Agree.ite ?_ ?_
  · exact Agree.refl _ _
  · exact refLost_agree.mono (by decide)

theorem execHostSampleTimeout_agree {x0} :
    AgreeAns [.regs, .time, .copy, .queues, .events, .out, .threads, .pwr, .ncp, .line, .radio, .plmb, .ser, .held, .tnl] x0 (execHostSampleTimeout x0) := by
  unfold execHostSampleTimeout
  refine AgreeAns.ite ?_ ?_
  · refine AgreeAns.of_next ?_
    exact Agree.refl _ _
  · refine AgreeAns.of_next ?_
    refine Agree.step ?_ refLost_agree (by decide)
    exact State_passTo_agree.mono (by decide)

theorem execPlmbAlign_agree {x0 x1 x2 x3 x4} :
    AgreeAns [.regs, .events, .out, .plmb, .held] x4 (execPlmbAlign x0 x1 x2 x3 x4) := by
  unfold execPlmbAlign
  split
  · refine AgreeAns.of_next ?_
    refine Agree.trans ?_ (filtered_agree (by decide) ?_)
    · exact Agree.refl _ _
    · intro y0
      refine Agree.trans ?_ (lineDieWrite_agree (by decide) ?_)
      · exact Agree.refl _ _
      · intro y1
        exact alignWrite_agree.mono (by decide)
  · refine AgreeAns.of_next ?_
    refine Agree.trans ?_ (filtered_agree (by decide) ?_)
    · exact Agree.refl _ _
    · intro y2
      refine Agree.trans ?_ (lineDieWrite_agree (by decide) ?_)
      · exact Agree.refl _ _
      · intro y3
        exact outCfgWrite_agree.mono (by decide)

theorem dcRestore_agree {x0} :
    Agree [.regs, .events, .out, .radio, .held] x0 (dcRestore x0) := by
  unfold dcRestore
  extract_lets a0 a1 a2 a3
  have ha0 : Agree [Part.regs, Part.events, Part.out, Part.radio, Part.held] x0 a0 := by
    unfold a0
    exact State_put_agree.mono (by decide)
  clear_value a0
  clear_value a1
  clear_value a2
  have ha3 : Agree [Part.regs, Part.events, Part.out, Part.radio, Part.held] x0 a3 := by
    unfold a3
    refine Agree.mk' ?_ (by
      intro p hp
      cases p <;> first | exact (hp (by decide)).elim | rfl | exact ⟨rfl, rfl⟩ | exact ⟨rfl, rfl, rfl⟩)
    assumption
  clear_value a3
  refine Agree.ite ?_ ?_
  · exact Agree.refl _ _
  · refine Agree.ite ?_ ?_
    · assumption
    · refine Agree.step ?_ occur_agree (by decide)
      refine Agree.step ?_ syncDuty_agree (by decide)
      refine Agree.step ?_ State_put_agree (by decide)
      assumption

theorem execTodApply_agree {x0} :
    AgreeAns [.regs, .time, .copy, .queues, .events, .out, .threads, .pwr, .ncp, .line, .radio, .plmb, .ser, .held, .tnl] x0 (execTodApply x0) := by
  unfold execTodApply
  split
  · refine AgreeAns.of_next ?_
    exact Agree.refl _ _
  · extract_lets a0 a1 a2 a3
    have ha0 : Agree [Part.regs, Part.time, Part.copy, Part.queues, Part.events, Part.out, Part.threads, Part.pwr, Part.ncp, Part.line,
  Part.radio, Part.plmb, Part.ser, Part.held, Part.tnl] x0 a0 := by
      unfold a0
      exact State_passTo_agree.mono (by decide)
    clear_value a0
    clear_value a1
    have ha2 : Agree [Part.regs, Part.time, Part.copy, Part.queues, Part.events, Part.out, Part.threads, Part.pwr, Part.ncp, Part.line,
  Part.radio, Part.plmb, Part.ser, Part.held, Part.tnl] x0 a2 := by
      unfold a2
      refine Agree.step ?_ stepTime_agree (by decide)
      refine Agree.mk' ?_ (by
        intro p hp
        cases p <;> first | exact (hp (by decide)).elim | rfl | exact ⟨rfl, rfl⟩ | exact ⟨rfl, rfl, rfl⟩)
      assumption
    clear_value a2
    have ha3 : Agree [Part.regs, Part.time, Part.copy, Part.queues, Part.events, Part.out, Part.threads, Part.pwr, Part.ncp, Part.line,
  Part.radio, Part.plmb, Part.ser, Part.held, Part.tnl] x0 a3 := by
      unfold a3
      refine Agree.step ?_ occur_agree (by decide)
      refine Agree.step ?_ State_put_agree (by decide)
      assumption
    clear_value a3
    refine AgreeAns.of_next ?_
    refine Agree.step ?_ dcRestore_agree (by decide)
    refine Agree.step ?_ State_wr_agree (by decide)
    assumption

theorem startPulse_agree {x0 x1 x2} :
    Agree [.time, .copy, .plmb] x2 (startPulse x0 x1 x2) := by
  unfold startPulse
  extract_lets a0
  clear_value a0
  refine Agree.step ?_ setOut_agree (by decide)
  exact State_passTo_agree.mono (by decide)

theorem execPulseOutputEdge_agree {x0 x1} :
    AgreeAns [.time, .copy, .plmb] x1 (execPulseOutputEdge x0 x1) := by
  unfold execPulseOutputEdge
  extract_lets a0 a1 a2
  clear_value a0
  clear_value a1
  clear_value a2
  refine AgreeAns.ite ?_ ?_
  · refine AgreeAns.of_next ?_
    exact Agree.refl _ _
  · split
    · refine AgreeAns.of_next ?_
      refine Agree.step ?_ setOut_agree (by decide)
      exact State_passTo_agree.mono (by decide)
    · refine AgreeAns.ite ?_ ?_
      · split
        · refine AgreeAns.of_next ?_
          exact startPulse_agree.mono (by decide)
        · refine AgreeAns.of_next ?_
          exact Agree.refl _ _
      · split
        · refine AgreeAns.of_next ?_
          exact startPulse_agree.mono (by decide)
        · refine AgreeAns.of_next ?_
          exact Agree.refl _ _

theorem execHoldoverReady_agree {x0} :
    AgreeAns [.regs, .time, .copy, .events, .out, .held] x0 (execHoldoverReady x0) := by
  unfold execHoldoverReady
  refine AgreeAns.ite ?_ ?_
  · refine AgreeAns.of_next ?_
    exact Agree.refl _ _
  · refine AgreeAns.of_next ?_
    refine Agree.step ?_ occur_agree (by decide)
    refine Agree.step ?_ State_put_agree (by decide)
    exact State_passTo_agree.mono (by decide)

theorem execWtrExpire_agree {x0 x1} :
    AgreeAns [.regs, .time, .copy, .queues, .events, .out, .threads, .pwr, .ncp, .line, .radio, .plmb, .ser, .held, .tnl] x1 (execWtrExpire x0 x1) := by
  unfold execWtrExpire
  split
  · refine AgreeAns.ite ?_ ?_
    · refine AgreeAns.of_next ?_
      refine Agree.step ?_ eligible_agree (by decide)
      exact State_passTo_agree.mono (by decide)
    · refine AgreeAns.of_next ?_
      exact Agree.refl _ _
  · refine AgreeAns.of_next ?_
    exact Agree.refl _ _

theorem execRef10mEdgeReturn_agree {x0} :
    AgreeAns [.regs, .plmb] x0 (execRef10mEdgeReturn x0) := by
  unfold execRef10mEdgeReturn
  refine AgreeAns.ite ?_ ?_
  · refine AgreeAns.of_next ?_
    exact restartRef_agree.mono (by decide)
  · refine AgreeAns.of_next ?_
    exact Agree.refl _ _

end Sys2Proof.Machine
end

