-- ==== Sys2Proof/Laws/Frame/GreuneCtx.lean ====
section
/-!
SUPPORT. Which parts of the state each definition of Machine/GreuneCtx.lean may change.
-/

namespace Sys2Proof.Machine

theorem progWrite_agree {x0 x1 x2 x3} :
    Agree [.ncp] x3 (progWrite x0 x1 x2 x3) := by
  unfold progWrite
  refine Agree.ite ?_ ?_
  · exact setCtx_agree.mono (by decide)
  · refine Agree.ite ?_ ?_
    · exact setCtx_agree.mono (by decide)
    · refine Agree.ite ?_ ?_
      · refine Agree.step ?_ setCtxBits_agree (by decide)
        exact setCtx_agree.mono (by decide)
      · refine Agree.ite ?_ ?_
        · exact setCtx_agree.mono (by decide)
        · refine Agree.ite ?_ ?_
          · refine Agree.ite ?_ ?_
            · exact Agree.refl _ _
            · exact setCtxBits_agree.mono (by decide)
          · refine Agree.ite ?_ ?_
            · exact setCtx_agree.mono (by decide)
            · exact setCtx_agree.mono (by decide)

theorem ldnResident_agree {l : List Part} {x0 x1 x2 x3 x4 x5 x6 x7} (hl : subParts [.threads, .ncp] l = true)
    (h6 : ∀ y0, Agree l y0 (x6 y0)) :
    Agree l x7 (ldnResident x0 x1 x2 x3 x4 x5 x6 x7) := by
  unfold ldnResident
  extract_lets a0 a1
  have ha0 : Agree l x7 a0 := by
    unfold a0
    refine Agree.step ?_ touch_agree (subParts_trans (by decide) hl)
    exact Agree.refl _ _
  clear_value a0
  have ha1 : Agree l x7 a1 := by
    unfold a1
    refine Agree.ite ?_ ?_
    · refine Agree.step ?_ missSet_agree (subParts_trans (by decide) hl)
      assumption
    · assumption
  clear_value a1
  refine Agree.ite ?_ ?_
  · refine Agree.trans ?_ (h6 _)
    refine Agree.step ?_ failWith_agree (subParts_trans (by decide) hl)
    assumption
  · refine Agree.ite ?_ ?_
    · refine Agree.trans ?_ (h6 _)
      refine Agree.step ?_ failClear_agree (subParts_trans (by decide) hl)
      refine Agree.step ?_ modThr_agree (subParts_trans (by decide) hl)
      assumption
    · refine Agree.trans ?_ (h6 _)
      refine Agree.step ?_ failClear_agree (subParts_trans (by decide) hl)
      refine Agree.step ?_ modThr_agree (subParts_trans (by decide) hl)
      assumption

theorem stnResident_agree {l : List Part} {x0 x1 x2 x3 x4 x5 x6} (hl : subParts [.threads, .ncp] l = true)
    (h5 : ∀ y0, Agree l y0 (x5 y0)) :
    Agree l x6 (stnResident x0 x1 x2 x3 x4 x5 x6) := by
  unfold stnResident
  extract_lets a0 a1 a2
  clear_value a0
  clear_value a1
  have ha2 : Agree l x6 a2 := by
    unfold a2
    refine Agree.ite ?_ ?_
    · refine Agree.step ?_ progWrite_agree (subParts_trans (by decide) hl)
      refine Agree.step ?_ progWrite_agree (subParts_trans (by decide) hl)
      exact Agree.refl _ _
    · refine Agree.step ?_ progWrite_agree (subParts_trans (by decide) hl)
      exact Agree.refl _ _
  clear_value a2
  refine Agree.trans ?_ (h5 _)
  refine Agree.step ?_ failClear_agree (subParts_trans (by decide) hl)
  assumption

theorem pinResident_agree {l : List Part} {x0 x1 x2 x3 x4} (hl : subParts [.regs, .threads, .ncp] l = true)
    (h3 : ∀ y0, Agree l y0 (x3 y0)) :
    Agree l x4 (pinResident x0 x1 x2 x3 x4) := by
  unfold pinResident
  extract_lets a0 a1
  have ha0 : Agree l x4 a0 := by
    unfold a0
    refine Agree.step ?_ touch_agree (subParts_trans (by decide) hl)
    exact Agree.refl _ _
  clear_value a0
  have ha1 : Agree l x4 a1 := by
    unfold a1
    refine Agree.ite ?_ ?_
    · refine Agree.step ?_ missSet_agree (subParts_trans (by decide) hl)
      assumption
    · assumption
  clear_value a1
  refine Agree.ite ?_ ?_
  · refine Agree.trans ?_ (h3 _)
    refine Agree.step ?_ failClear_agree (subParts_trans (by decide) hl)
    assumption
  · refine Agree.ite ?_ ?_
    · refine Agree.trans ?_ (h3 _)
      refine Agree.step ?_ failWith_agree (subParts_trans (by decide) hl)
      assumption
    · refine Agree.trans ?_ (h3 _)
      refine Agree.step ?_ failClear_agree (subParts_trans (by decide) hl)
      refine Agree.step ?_ setPins_agree (subParts_trans (by decide) hl)
      assumption

theorem ctxResident_agree {l : List Part} {x0 x1 x2 x3} (hl : subParts [.regs, .threads, .ncp] l = true)
    (h2 : ∀ y0, Agree l y0 (x2 y0)) :
    Agree l x3 (ctxResident x0 x1 x2 x3) := by
  unfold ctxResident
  extract_lets a0
  clear_value a0
  split
  · refine Agree.trans ?_ (ldnResident_agree (subParts_trans (by decide) hl) ?_)
    · exact Agree.refl _ _
    · intro y1
      refine Agree.trans ?_ (h2 _)
      exact Agree.refl _ _
  · refine Agree.trans ?_ (stnResident_agree (subParts_trans (by decide) hl) ?_)
    · exact Agree.refl _ _
    · intro y2
      refine Agree.trans ?_ (h2 _)
      exact Agree.refl _ _
  · refine Agree.trans ?_ (pinResident_agree (subParts_trans (by decide) hl) ?_)
    · exact Agree.refl _ _
    · intro y3
      refine Agree.trans ?_ (h2 _)
      exact Agree.refl _ _
  · exact Agree.refl _ _

theorem pageResume_agree {x0 x1 x2} :
    Agree [.regs, .threads, .ncp] x2 (pageResume x0 x1 x2) := by
  unfold pageResume
  split
  · refine Agree.ite ?_ ?_
    · split
      · refine Agree.trans ?_ (ctxResident_agree (by decide) ?_)
        · exact Agree.refl _ _
        · intro y0
          exact exitWait_agree.mono (by decide)
      · exact exitWait_agree.mono (by decide)
    · refine Agree.step ?_ exitWait_agree (by decide)
      exact failWith_agree.mono (by decide)
  · exact Agree.refl _ _

theorem prefIssue_agree {x0 x1 x2} :
    Agree [.regs, .events, .out, .threads, .ncp, .held] x2 (prefIssue x0 x1 x2) := by
  unfold prefIssue
  refine Agree.ite ?_ ?_
  · exact threadFault_agree.mono (by decide)
  · refine Agree.ite ?_ ?_
    · refine Agree.step ?_ done_agree (by decide)
      refine Agree.step ?_ missSet_agree (by decide)
      exact touch_agree.mono (by decide)
    · refine Agree.step ?_ done_agree (by decide)
      refine Agree.step ?_ missSet_agree (by decide)
      exact requestMiss_agree.mono (by decide)

theorem ctxMiss_agree {x0 x1 x2 x3 x4 x5} :
    Agree [.regs, .events, .out, .threads, .ncp, .held] x5 (ctxMiss x0 x1 x2 x3 x4 x5) := by
  unfold ctxMiss
  extract_lets a0 a1
  have ha0 : Agree [Part.regs, Part.events, Part.out, Part.threads, Part.ncp, Part.held] x5 a0 := by
    unfold a0
    exact requestMiss_agree.mono (by decide)
  clear_value a0
  clear_value a1
  refine Agree.ite ?_ ?_
  · refine Agree.step ?_ done_agree (by decide)
    refine Agree.step ?_ failWith_agree (by decide)
    refine Agree.ite ?_ ?_
    · exact missSet_agree.mono (by decide)
    · exact Agree.refl _ _
  · refine Agree.ite ?_ ?_
    · refine Agree.step ?_ done_agree (by decide)
      refine Agree.step ?_ missSet_agree (by decide)
      refine Agree.step ?_ failClear_agree (by decide)
      assumption
    · refine Agree.step ?_ enterWait_agree (by decide)
      assumption

theorem ctxIssue_agree {x0 x1 x2 x3 x4 x5} :
    Agree [.regs, .events, .out, .threads, .ncp, .held] x5 (ctxIssue x0 x1 x2 x3 x4 x5) := by
  unfold ctxIssue
  refine Agree.ite ?_ ?_
  · exact threadFault_agree.mono (by decide)
  · refine Agree.ite ?_ ?_
    · refine Agree.step ?_ done_agree (by decide)
      refine Agree.step ?_ failWith_agree (by decide)
      refine Agree.ite ?_ ?_
      · exact missSet_agree.mono (by decide)
      · exact Agree.refl _ _
    · refine Agree.ite ?_ ?_
      · refine Agree.trans ?_ (ctxResident_agree (by decide) ?_)
        · exact Agree.refl _ _
        · intro y0
          exact done_agree.mono (by decide)
      · exact ctxMiss_agree.mono (by decide)

theorem execLdn_agree {x0 x1} :
    AgreeAns [.free, .regs, .events, .out, .threads, .ncp, .held] x1 (execLdn x0 x1) := by
  unfold execLdn
  refine AgreeAns.of_next ?_
  refine Agree.trans ?_ (issue_agree (by decide) ?_)
  · exact Agree.refl _ _
  · intro y0
    intro y1
    intro y2
    split
    · refine AgreeOpt.of_some ?_
      exact ctxIssue_agree.mono (by decide)
    · exact AgreeOpt.of_none

theorem execPref_agree {x0 x1} :
    AgreeAns [.free, .regs, .events, .out, .threads, .ncp, .held] x1 (execPref x0 x1) := by
  unfold execPref
  refine AgreeAns.of_next ?_
  refine Agree.trans ?_ (issue_agree (by decide) ?_)
  · exact Agree.refl _ _
  · intro y0
    intro y1
    intro y2
    split
    · refine AgreeOpt.of_some ?_
      exact prefIssue_agree.mono (by decide)
    · exact AgreeOpt.of_none

theorem execPageTimeout_agree {x0 x1} :
    AgreeAns [.time, .copy, .threads] x1 (execPageTimeout x0 x1) := by
  unfold execPageTimeout
  split
  · refine AgreeAns.of_next ?_
    refine Agree.step ?_ exitWait_agree (by decide)
    refine Agree.step ?_ failWith_agree (by decide)
    exact State_passTo_agree.mono (by decide)
  · refine AgreeAns.of_next ?_
    exact Agree.refl _ _

theorem execPin_agree {x0 x1} :
    AgreeAns [.free, .regs, .events, .out, .threads, .ncp, .held] x1 (execPin x0 x1) := by
  unfold execPin
  refine AgreeAns.of_next ?_
  refine Agree.trans ?_ (issue_agree (by decide) ?_)
  · exact Agree.refl _ _
  · intro y0
    intro y1
    intro y2
    split
    · refine AgreeOpt.of_some ?_
      exact ctxIssue_agree.mono (by decide)
    · exact AgreeOpt.of_none

theorem unpinIssue_agree {x0 x1 x2} :
    Agree [.regs, .events, .out, .threads, .ncp, .held] x2 (unpinIssue x0 x1 x2) := by
  unfold unpinIssue
  refine Agree.ite ?_ ?_
  · exact threadFault_agree.mono (by decide)
  · refine Agree.step ?_ done_agree (by decide)
    exact setPins_agree.mono (by decide)

theorem execUnpin_agree {x0 x1} :
    AgreeAns [.free, .regs, .events, .out, .threads, .ncp, .held] x1 (execUnpin x0 x1) := by
  unfold execUnpin
  refine AgreeAns.of_next ?_
  refine Agree.trans ?_ (issue_agree (by decide) ?_)
  · exact Agree.refl _ _
  · intro y0
    intro y1
    intro y2
    split
    · refine AgreeOpt.of_some ?_
      exact unpinIssue_agree.mono (by decide)
    · exact AgreeOpt.of_none

theorem execStn_agree {x0 x1} :
    AgreeAns [.free, .regs, .events, .out, .threads, .ncp, .held] x1 (execStn x0 x1) := by
  unfold execStn
  refine AgreeAns.of_next ?_
  refine Agree.trans ?_ (issue_agree (by decide) ?_)
  · exact Agree.refl _ _
  · intro y0
    intro y1
    intro y2
    split
    · refine AgreeOpt.of_some ?_
      exact ctxIssue_agree.mono (by decide)
    · exact AgreeOpt.of_none

end Sys2Proof.Machine
end

