-- ==== Sys2Proof/Laws/Frame/Pager.lean ====
section
/-!
SUPPORT. Which parts of the state each definition of Machine/Pager.lean may change.
-/

namespace Sys2Proof.Machine

theorem pagerEnd_agree {x0 x1 x2} :
    Agree [.free, .jobs, .pwr] x2 (pagerEnd x0 x1 x2) := by
  unfold pagerEnd
  refine Agree.step ?_ endJob_agree (by decide)
  exact State_drew_agree.mono (by decide)

theorem pagerAccept_agree {x0 x1} :
    Agree [.free, .regs, .jobs, .events, .out, .pwr, .ncp, .held] x1 (pagerAccept x0 x1) := by
  unfold pagerAccept
  refine Agree.ite ?_ ?_
  · exact pagerEnd_agree.mono (by decide)
  · refine Agree.ite ?_ ?_
    · exact pagerEnd_agree.mono (by decide)
    · refine Agree.step ?_ setJob_agree (by decide)
      exact requestMiss_agree.mono (by decide)

theorem ctxReadRun_agree {x0 x1} :
    Agree [.free, .jobs, .bulk, .pwr, .ncp] x1 (ctxReadRun x0 x1) := by
  unfold ctxReadRun
  extract_lets a0 a1 a2 a3
  clear_value a0
  clear_value a2
  have ha3 : Agree [Part.free, Part.jobs, Part.bulk, Part.pwr, Part.ncp] x1 a3 := by
    unfold a3
    refine Agree.step ?_ wrBulkL_agree (by decide)
    exact touch_agree.mono (by decide)
  clear_value a3
  refine Agree.step ?_ pagerEnd_agree (by decide)
  assumption

theorem ctxWriteRun_agree {x0 x1} :
    Agree [.free, .jobs, .pwr, .ncp] x1 (ctxWriteRun x0 x1) := by
  unfold ctxWriteRun
  extract_lets a0 a1 a2
  clear_value a0
  clear_value a1
  have ha2 : Agree [Part.free, Part.jobs, Part.pwr, Part.ncp] x1 a2 := by
    unfold a2
    exact Agree.refl _ _
  clear_value a2
  refine Agree.ite ?_ ?_
  · exact pagerEnd_agree.mono (by decide)
  · refine Agree.ite ?_ ?_
    · exact pagerEnd_agree.mono (by decide)
    · refine Agree.step ?_ pagerEnd_agree (by decide)
      refine Agree.step ?_ clearBad_agree (by decide)
      refine Agree.foldl ?_ ?_
      · intro y3
        intro y4
        exact progWrite_agree.mono (by decide)
      · exact Agree.refl _ _

theorem zeroRecord_agree {x0 x1} :
    Agree [.ncp] x1 (zeroRecord x0 x1) := by
  unfold zeroRecord
  extract_lets a0 a1 a2
  clear_value a0
  clear_value a1
  have ha2 : Agree [Part.ncp] x1 a2 := by
    unfold a2
    refine Agree.mk' ?_ (by
      intro p hp
      cases p <;> first | exact (hp (by decide)).elim | rfl | exact ⟨rfl, rfl⟩ | exact ⟨rfl, rfl, rfl⟩)
    exact Agree.refl _ _
  clear_value a2
  refine Agree.step ?_ journalPos_agree (by decide)
  refine Agree.step ?_ journalPos_agree (by decide)
  refine Agree.step ?_ setCtx_agree (by decide)
  assumption

theorem ctxInitRun_agree {x0 x1} :
    Agree [.free, .regs, .jobs, .events, .out, .pwr, .ncp, .held] x1 (ctxInitRun x0 x1) := by
  unfold ctxInitRun
  extract_lets a0 a1 a2 a3 a4 a5 a6 a7 a8 a9 a10 a11
  clear_value a0
  clear_value a1
  clear_value a2
  clear_value a3
  clear_value a4
  have ha5 : Agree [Part.free, Part.regs, Part.jobs, Part.events, Part.out, Part.pwr, Part.ncp, Part.held] x1 a5 := by
    unfold a5
    exact zeroRecord_agree.mono (by decide)
  clear_value a5
  have ha6 : Agree [Part.free, Part.regs, Part.jobs, Part.events, Part.out, Part.pwr, Part.ncp, Part.held] x1 a6 := by
    unfold a6
    refine Agree.step ?_ setCtx_agree (by decide)
    assumption
  clear_value a6
  have ha7 : Agree [Part.free, Part.regs, Part.jobs, Part.events, Part.out, Part.pwr, Part.ncp, Part.held] x1 a7 := by
    unfold a7
    refine Agree.step ?_ setCtx_agree (by decide)
    assumption
  clear_value a7
  have ha8 : Agree [Part.free, Part.regs, Part.jobs, Part.events, Part.out, Part.pwr, Part.ncp, Part.held] x1 a8 := by
    unfold a8
    refine Agree.step ?_ setCtx_agree (by decide)
    assumption
  clear_value a8
  have ha9 : Agree [Part.free, Part.regs, Part.jobs, Part.events, Part.out, Part.pwr, Part.ncp, Part.held] x1 a9 := by
    unfold a9
    refine Agree.step ?_ setCtx_agree (by decide)
    assumption
  clear_value a9
  have ha10 : Agree [Part.free, Part.regs, Part.jobs, Part.events, Part.out, Part.pwr, Part.ncp, Part.held] x1 a10 := by
    unfold a10
    refine Agree.step ?_ setCtx_agree (by decide)
    assumption
  clear_value a10
  have ha11 : Agree [Part.free, Part.regs, Part.jobs, Part.events, Part.out, Part.pwr, Part.ncp, Part.held] x1 a11 := by
    unfold a11
    refine Agree.step ?_ setCtx_agree (by decide)
    refine Agree.step ?_ setCtx_agree (by decide)
    assumption
  clear_value a11
  refine Agree.ite ?_ ?_
  · exact pagerEnd_agree.mono (by decide)
  · refine Agree.ite ?_ ?_
    · exact pagerEnd_agree.mono (by decide)
    · refine Agree.ite ?_ ?_
      · exact pagerEnd_agree.mono (by decide)
      · refine Agree.ite ?_ ?_
        · exact pagerEnd_agree.mono (by decide)
        · split
          · refine Agree.step ?_ pagerEnd_agree (by decide)
            exact occur_agree.mono (by decide)
          · refine Agree.step ?_ pagerEnd_agree (by decide)
            refine Agree.step ?_ autoRebuild_agree (by decide)
            refine Agree.step ?_ setIdx_agree (by decide)
            assumption

theorem countChange_agree {x0} :
    Agree [.regs, .ncp] x0 (countChange x0) := by
  unfold countChange
  extract_lets a0
  clear_value a0
  refine Agree.step ?_ autoRebuild_agree (by decide)
  refine Agree.mk' ?_ (by
    intro p hp
    cases p <;> first | exact (hp (by decide)).elim | rfl | exact ⟨rfl, rfl⟩ | exact ⟨rfl, rfl, rfl⟩)
  exact Agree.refl _ _

theorem ctxFreeRun_agree {x0 x1} :
    Agree [.free, .regs, .jobs, .pwr, .ncp] x1 (ctxFreeRun x0 x1) := by
  unfold ctxFreeRun
  extract_lets a0 a1
  clear_value a0
  have ha1 : Agree [Part.free, Part.regs, Part.jobs, Part.pwr, Part.ncp] x1 a1 := by
    unfold a1
    exact idxRemove_agree.mono (by decide)
  clear_value a1
  refine Agree.ite ?_ ?_
  · exact pagerEnd_agree.mono (by decide)
  · refine Agree.ite ?_ ?_
    · assumption
    · refine Agree.step ?_ pagerEnd_agree (by decide)
      refine Agree.step ?_ countChange_agree (by decide)
      refine Agree.step ?_ dropCtxPins_agree (by decide)
      refine Agree.step ?_ zeroRecord_agree (by decide)
      assumption

theorem ctxShortRun_agree {x0 x1} :
    Agree [.free, .regs, .jobs, .events, .out, .pwr, .ncp, .held] x1 (ctxShortRun x0 x1) := by
  unfold ctxShortRun
  extract_lets a0 a1
  clear_value a0
  clear_value a1
  refine Agree.ite ?_ ?_
  · exact pagerEnd_agree.mono (by decide)
  · refine Agree.ite ?_ ?_
    · refine Agree.step ?_ pagerEnd_agree (by decide)
      exact countChange_agree.mono (by decide)
    · refine Agree.ite ?_ ?_
      · exact pagerEnd_agree.mono (by decide)
      · refine Agree.ite ?_ ?_
        · exact pagerEnd_agree.mono (by decide)
        · split
          · refine Agree.step ?_ pagerEnd_agree (by decide)
            exact occur_agree.mono (by decide)
          · refine Agree.step ?_ pagerEnd_agree (by decide)
            refine Agree.step ?_ countChange_agree (by decide)
            refine Agree.step ?_ setIdx_agree (by decide)
            exact setCtxBits_agree.mono (by decide)

theorem pagerRun_agree {x0 x1} :
    Agree [.free, .regs, .jobs, .events, .bulk, .out, .pwr, .ncp, .held] x1 (pagerRun x0 x1) := by
  unfold pagerRun
  extract_lets a0
  clear_value a0
  refine Agree.ite ?_ ?_
  · split
    · exact ctxReadRun_agree.mono (by decide)
    · exact ctxWriteRun_agree.mono (by decide)
    · exact ctxInitRun_agree.mono (by decide)
    · exact ctxFreeRun_agree.mono (by decide)
    · exact ctxShortRun_agree.mono (by decide)
  · refine Agree.ite ?_ ?_
    · exact pagerEnd_agree.mono (by decide)
    · exact Agree.refl _ _

theorem pagerCommand_agree {x0 x1 x2} :
    Agree [.free, .regs, .jobs, .events, .bulk, .out, .pwr, .ncp, .held] x2 (pagerCommand x0 x1 x2) := by
  unfold pagerCommand
  split
  · exact Agree.refl _ _
  · extract_lets a0
    have ha0 : Agree [Part.free, Part.regs, Part.jobs, Part.events, Part.bulk, Part.out, Part.pwr, Part.ncp, Part.held] x2 a0 := by
      unfold a0
      refine Agree.ite ?_ ?_
      · exact pagerAccept_agree.mono (by decide)
      · exact Agree.refl _ _
    clear_value a0
    refine Agree.ite ?_ ?_
    · exact Agree.refl _ _
    · split
      · refine Agree.ite ?_ ?_
        · refine Agree.step ?_ pagerRun_agree (by decide)
          assumption
        · assumption
      · assumption

theorem commitJournal_agree {x0 x1} :
    Agree [.regs, .ncp, .nand] x1 (commitJournal x0 x1) := by
  unfold commitJournal
  extract_lets a0 a1 a2 a3 a4 a5
  clear_value a0
  clear_value a1
  clear_value a2
  clear_value a3
  clear_value a4
  have ha5 : Agree [Part.regs, Part.ncp, Part.nand] x1 a5 := by
    unfold a5
    refine Agree.mk' ?_ (by
      intro p hp
      cases p <;> first | exact (hp (by decide)).elim | rfl | exact ⟨rfl, rfl⟩ | exact ⟨rfl, rfl, rfl⟩)
    exact Agree.refl _ _
  clear_value a5
  refine Agree.step ?_ State_wr_agree (by decide)
  assumption

theorem execIdxRebuilt_agree {x0} :
    AgreeAns [.regs, .events, .out, .ncp, .held] x0 (execIdxRebuilt x0) := by
  unfold execIdxRebuilt
  extract_lets a0 a1 a2 a3 a4 a5 a6
  clear_value a0
  clear_value a1
  have ha2 : Agree [Part.regs, Part.events, Part.out, Part.ncp, Part.held] x0 a2 := by
    unfold a2
    refine Agree.step ?_ State_put_agree (by decide)
    exact State_put_agree.mono (by decide)
  clear_value a2
  have ha3 : Agree [Part.regs, Part.events, Part.out, Part.ncp, Part.held] x0 a3 := by
    unfold a3
    refine Agree.step ?_ setIdx_agree (by decide)
    assumption
  clear_value a3
  clear_value a4
  have ha5 : Agree [Part.regs, Part.events, Part.out, Part.ncp, Part.held] x0 a5 := by
    unfold a5
    refine Agree.mk' ?_ (by
      intro p hp
      cases p <;> first | exact (hp (by decide)).elim | rfl | exact ⟨rfl, rfl⟩ | exact ⟨rfl, rfl, rfl⟩)
    assumption
  clear_value a5
  have ha6 : Agree [Part.regs, Part.events, Part.out, Part.ncp, Part.held] x0 a6 := by
    unfold a6
    refine Agree.ite ?_ ?_
    · refine Agree.step ?_ startRebuild_agree (by decide)
      assumption
    · refine Agree.step ?_ State_put_agree (by decide)
      assumption
  clear_value a6
  refine AgreeAns.ite ?_ ?_
  · refine AgreeAns.of_next ?_
    exact Agree.refl _ _
  · refine AgreeAns.of_next ?_
    refine Agree.step ?_ autoRebuild_agree (by decide)
    refine Agree.step ?_ occur_agree (by decide)
    assumption

theorem execRebuild_agree {x0 x1 x2 x3} :
    AgreeAns [.regs, .events, .out, .ncp, .held] x3 (execRebuild x0 x1 x2 x3) := by
  unfold execRebuild
  refine AgreeAns.ite ?_ ?_
  · refine AgreeAns.of_next ?_
    refine Agree.trans ?_ (filtered_agree (by decide) ?_)
    · exact Agree.refl _ _
    · intro y0
      refine Agree.step ?_ startRebuild_agree (by decide)
      exact State_wrTyped_agree.mono (by decide)
  · refine AgreeAns.of_next ?_
    exact Agree.refl _ _

theorem execContextWriteback_agree {x0 x1} :
    AgreeAns [.ncp, .nand] x1 (execContextWriteback x0 x1) := by
  unfold execContextWriteback
  refine AgreeAns.ite ?_ ?_
  · refine AgreeAns.of_next ?_
    refine Agree.step ?_ issueReads_agree (by decide)
    exact writeBack_agree.mono (by decide)
  · refine AgreeAns.of_next ?_
    exact Agree.refl _ _

theorem execPagerJobComplete_agree {x0 x1} :
    AgreeAns [.regs, .queues, .jobs, .events, .out, .held] x1 (execPagerJobComplete x0 x1) := by
  unfold execPagerJobComplete
  refine AgreeAns.of_next ?_
  exact completeEnded_agree.mono (by decide)

theorem execCtxFree_agree {x0 x1} :
    AgreeAns [.free, .regs, .jobs, .events, .bulk, .out, .pwr, .ncp, .held] x1 (execCtxFree x0 x1) := by
  unfold execCtxFree
  refine AgreeAns.of_next ?_
  exact pagerCommand_agree.mono (by decide)

theorem execCtxShort_agree {x0 x1} :
    AgreeAns [.free, .regs, .jobs, .events, .bulk, .out, .pwr, .ncp, .held] x1 (execCtxShort x0 x1) := by
  unfold execCtxShort
  refine AgreeAns.of_next ?_
  exact pagerCommand_agree.mono (by decide)

theorem execCtxRead_agree {x0 x1} :
    AgreeAns [.free, .regs, .jobs, .events, .bulk, .out, .pwr, .ncp, .held] x1 (execCtxRead x0 x1) := by
  unfold execCtxRead
  refine AgreeAns.of_next ?_
  exact pagerCommand_agree.mono (by decide)

theorem execCtxWrite_agree {x0 x1} :
    AgreeAns [.free, .regs, .jobs, .events, .bulk, .out, .pwr, .ncp, .held] x1 (execCtxWrite x0 x1) := by
  unfold execCtxWrite
  refine AgreeAns.of_next ?_
  exact pagerCommand_agree.mono (by decide)

theorem execCtxInit_agree {x0 x1} :
    AgreeAns [.free, .regs, .jobs, .events, .bulk, .out, .pwr, .ncp, .held] x1 (execCtxInit x0 x1) := by
  unfold execCtxInit
  refine AgreeAns.of_next ?_
  exact pagerCommand_agree.mono (by decide)

end Sys2Proof.Machine
end

