-- ==== Sys2Proof/Laws/Frame/Storage.lean ====
section
/-!
SUPPORT. Which parts of the state each definition of Machine/Storage.lean may change.
-/

namespace Sys2Proof.Machine

theorem trimGranule_agree {x0 x1 x2} :
    Agree [.stor] x2 (trimGranule x0 x1 x2) := by
  unfold trimGranule
  extract_lets a0 a1
  clear_value a0
  clear_value a1
  refine Agree.mk' ?_ (by
    intro p hp
    cases p <;> first | exact (hp (by decide)).elim | rfl | exact ⟨rfl, rfl⟩ | exact ⟨rfl, rfl, rfl⟩)
  exact Agree.refl _ _

theorem storEnd_agree {x0 x1 x2 x3 x4} :
    Agree [.free, .jobs, .pwr] x4 (storEnd x0 x1 x2 x3 x4) := by
  unfold storEnd
  split
  · exact endJob_agree.mono (by decide)
  · refine Agree.step ?_ endJob_agree (by decide)
    exact State_drew_agree.mono (by decide)

theorem execReadRetryExit_agree {x0 x1} :
    AgreeAns [.regs, .stor] x1 (execReadRetryExit x0 x1) := by
  unfold execReadRetryExit
  extract_lets a0 a1
  clear_value a0
  have ha1 : Agree [Part.regs, Part.stor] x1 a1 := by
    unfold a1
    refine Agree.mk' ?_ (by
      intro p hp
      cases p <;> first | exact (hp (by decide)).elim | rfl | exact ⟨rfl, rfl⟩ | exact ⟨rfl, rfl, rfl⟩)
    exact Agree.refl _ _
  refine AgreeAns.ite ?_ ?_
  · refine AgreeAns.of_next ?_
    exact Agree.refl _ _
  · refine AgreeAns.of_next ?_
    refine Agree.ite ?_ ?_
    · refine Agree.step ?_ State_put_agree (by decide)
      unfold a1
      refine Agree.mk' ?_ (by
        intro p hp
        cases p <;> first | exact (hp (by decide)).elim | rfl | exact ⟨rfl, rfl⟩ | exact ⟨rfl, rfl, rfl⟩)
      exact Agree.refl _ _
    · unfold a1
      refine Agree.mk' ?_ (by
        intro p hp
        cases p <;> first | exact (hp (by decide)).elim | rfl | exact ⟨rfl, rfl⟩ | exact ⟨rfl, rfl, rfl⟩)
      exact Agree.refl _ _

theorem granBytes_agree {x0 x1 x2} :
    AgreeSnd [.free] x2 (granBytes x0 x1 x2) := by
  unfold granBytes
  refine AgreeSnd.ite ?_ ?_
  · refine AgreeSnd.mk ?_
    exact Agree.refl _ _
  · refine AgreeSnd.ite ?_ ?_
    · refine AgreeSnd.mk ?_
      exact Agree.refl _ _
    · refine AgreeSnd.step ?_ randomBytes_agree (by decide)
      exact Agree.refl _ _

theorem storAccept_agree {x0 x1} :
    Agree [.free, .jobs, .pwr] x1 (storAccept x0 x1) := by
  unfold storAccept
  refine Agree.ite ?_ ?_
  · exact endJob_agree.mono (by decide)
  · refine Agree.ite ?_ ?_
    · exact storEnd_agree.mono (by decide)
    · refine Agree.ite ?_ ?_
      · refine Agree.step ?_ setJob_agree (by decide)
        exact giveGrant_agree.mono (by decide)
      · refine Agree.step ?_ setJob_agree (by decide)
        exact queueGrant_agree.mono (by decide)

theorem storOvf_agree {x0} :
    Agree [.regs, .events, .out, .held] x0 (storOvf x0) := by
  unfold storOvf
  exact occur_agree.mono (by decide)

theorem readLoop_agree {x0 x1 x2 x3 x4} :
    Agree [.free, .regs, .jobs, .events, .bulk, .out, .pwr, .held] x4 (readLoop x0 x1 x2 x3 x4) := by
  induction x2 generalizing x3 x4 with
  | zero => exact storEnd_agree.mono (by decide)
  | succ k ih =>
    unfold readLoop
    dsimp only
    refine Agree.ite (storEnd_agree.mono (by decide)) (Agree.ite ?_ (Agree.ite ?_ ?_))
    · refine Agree.step (Agree.step (Agree.step ?_ occur_agree (by decide)) wrBulkL_agree (by decide)) storEnd_agree (by decide)
      exact bumpStat_agree (by decide) fun _ => storOvf_agree.mono (by decide)
    · exact Agree.step (cipherFault_agree.mono (by decide)) storEnd_agree (by decide)
    · exact (Agree.step (Agree.mono (show Agree _ _ _ from granBytes_agree) (by decide)) wrBulkL_agree (by decide)).trans ih

theorem enterRetry_agree {x0 x1} :
    Agree [.regs, .events, .out, .stor, .held] x1 (enterRetry x0 x1) := by
  unfold enterRetry
  extract_lets a0 a1 a2
  clear_value a0
  have ha1 : Agree [Part.regs, Part.events, Part.out, Part.stor, Part.held] x1 a1 := by
    unfold a1
    refine Agree.mk' ?_ (by
      intro p hp
      cases p <;> first | exact (hp (by decide)).elim | rfl | exact ⟨rfl, rfl⟩ | exact ⟨rfl, rfl, rfl⟩)
    exact Agree.refl _ _
  clear_value a1
  have ha2 : Agree [Part.regs, Part.events, Part.out, Part.stor, Part.held] x1 a2 := by
    unfold a2
    refine Agree.trans ?_ (bumpStat_agree (by decide) ?_)
    · assumption
    · intro y3
      exact storOvf_agree.mono (by decide)
  clear_value a2
  refine Agree.ite ?_ ?_
  · exact Agree.refl _ _
  · refine Agree.ite ?_ ?_
    · refine Agree.step ?_ occur_agree (by decide)
      refine Agree.step ?_ State_put_agree (by decide)
      assumption
    · assumption

theorem nandRead_agree {x0 x1} :
    Agree [.regs, .events, .out, .stor, .held] x1 (nandRead x0 x1) := by
  unfold nandRead
  extract_lets a0
  have ha0 : Agree [Part.regs, Part.events, Part.out, Part.stor, Part.held] x1 a0 := by
    unfold a0
    refine Agree.trans ?_ (addStat_agree (by decide) ?_)
    · exact Agree.refl _ _
    · intro y1
      exact storOvf_agree.mono (by decide)
  clear_value a0
  split
  · refine Agree.step ?_ enterRetry_agree (by decide)
    assumption
  · assumption

theorem syncNs_agree {x0 x1} :
    Agree [.regs] x1 (syncNs x0 x1) := by
  unfold syncNs
  extract_lets a0 a1 a2 a3
  clear_value a0
  have ha1 : Agree [Part.regs] x1 a1 := by
    unfold a1
    exact State_wr_agree.mono (by decide)
  clear_value a1
  have ha2 : Agree [Part.regs] x1 a2 := by
    unfold a2
    refine Agree.step ?_ State_put_agree (by decide)
    assumption
  clear_value a2
  have ha3 : Agree [Part.regs] x1 a3 := by
    unfold a3
    refine Agree.step ?_ State_wr_agree (by decide)
    assumption
  clear_value a3
  refine Agree.step ?_ State_wr_agree (by decide)
  assumption

theorem writeEnd_agree {x0 x1 x2 x3 x4} :
    Agree [.free, .regs, .jobs, .pwr, .ncp, .nand] x4 (writeEnd x0 x1 x2 x3 x4) := by
  unfold writeEnd
  refine Agree.step ?_ storEnd_agree (by decide)
  refine Agree.ite ?_ ?_
  · exact commitJournal_agree.mono (by decide)
  · exact Agree.refl _ _

theorem writeGranule_agree {x0 x1 x2 x3} :
    Agree [.stor] x3 (writeGranule x0 x1 x2 x3) := by
  unfold writeGranule
  extract_lets a0 a1
  clear_value a0
  clear_value a1
  refine Agree.mk' ?_ (by
    intro p hp
    cases p <;> first | exact (hp (by decide)).elim | rfl | exact ⟨rfl, rfl⟩ | exact ⟨rfl, rfl, rfl⟩)
  exact Agree.refl _ _

theorem writeLoop_agree {x0 x1 x2 x3 x4} :
    Agree [.free, .regs, .jobs, .events, .out, .pwr, .ncp, .nand, .stor, .held] x4 (writeLoop x0 x1 x2 x3 x4) := by
  induction x2 generalizing x3 x4 with
  | zero => exact writeEnd_agree.mono (by decide)
  | succ k ih =>
    unfold writeLoop
    dsimp only
    refine Agree.ite (writeEnd_agree.mono (by decide)) (Agree.ite (writeEnd_agree.mono (by decide)) (Agree.ite ?_ ?_))
    · exact Agree.step (cipherFault_agree.mono (by decide)) writeEnd_agree (by decide)
    · exact (writeGranule_agree.mono (by decide)).trans ih

theorem startNandOp_agree {x0 x1 x2 x3 x4 x5} :
    Agree [.pwr, .stor] x5 (startNandOp x0 x1 x2 x3 x4 x5) := by
  unfold startNandOp
  extract_lets a0 a1 a2
  clear_value a0
  have ha1 : Agree [Part.pwr, Part.stor] x5 a1 := by
    unfold a1
    refine Agree.mk' ?_ (by
      intro p hp
      cases p <;> first | exact (hp (by decide)).elim | rfl | exact ⟨rfl, rfl⟩ | exact ⟨rfl, rfl, rfl⟩)
    exact Agree.refl _ _
  clear_value a2
  refine Agree.ite ?_ ?_
  · unfold a1
    refine Agree.mk' ?_ (by
      intro p hp
      cases p <;> first | exact (hp (by decide)).elim | rfl | exact ⟨rfl, rfl⟩ | exact ⟨rfl, rfl, rfl⟩)
    exact Agree.refl _ _
  · refine Agree.ite ?_ ?_
    · refine Agree.step ?_ giveGrant_agree (by decide)
      unfold a1
      refine Agree.mk' ?_ (by
        intro p hp
        cases p <;> first | exact (hp (by decide)).elim | rfl | exact ⟨rfl, rfl⟩ | exact ⟨rfl, rfl, rfl⟩)
      exact Agree.refl _ _
    · refine Agree.step ?_ queueGrant_agree (by decide)
      unfold a1
      refine Agree.mk' ?_ (by
        intro p hp
        cases p <;> first | exact (hp (by decide)).elim | rfl | exact ⟨rfl, rfl⟩ | exact ⟨rfl, rfl, rfl⟩)
      exact Agree.refl _ _

theorem startPrograms_agree {x0 x1 x2} :
    Agree [.pwr, .stor] x2 (startPrograms x0 x1 x2) := by
  unfold startPrograms
  refine Agree.foldl ?_ ?_
  · intro y0
    intro y1
    exact startNandOp_agree.mono (by decide)
  · exact Agree.refl _ _

theorem trimLoop_agree {x0 x1 x2 x3} :
    Agree [.free, .jobs, .pwr, .stor] x3 (trimLoop x0 x1 x2 x3) := by
  induction x1 generalizing x2 x3 with
  | zero => exact storEnd_agree.mono (by decide)
  | succ k ih =>
    unfold trimLoop
    dsimp only
    exact Agree.ite (storEnd_agree.mono (by decide)) ((trimGranule_agree.mono (by decide)).trans ih)

theorem setNs_agree {x0 x1 x2} :
    Agree [.stor] x2 (setNs x0 x1 x2) := by
  unfold setNs
  extract_lets a0
  clear_value a0
  refine Agree.mk' ?_ (by
    intro p hp
    cases p <;> first | exact (hp (by decide)).elim | rfl | exact ⟨rfl, rfl⟩ | exact ⟨rfl, rfl, rfl⟩)
  exact Agree.refl _ _

theorem nsCreate_agree {x0 x1 x2} :
    Agree [.free, .regs, .jobs, .events, .out, .pwr, .stor, .held] x2 (nsCreate x0 x1 x2) := by
  unfold nsCreate
  extract_lets a0 a1 a2 a3 a4
  clear_value a0
  have ha1 : Agree [Part.free, Part.regs, Part.jobs, Part.events, Part.out, Part.pwr, Part.stor, Part.held] x2 a1 := by
    unfold a1
    exact State_put_agree.mono (by decide)
  clear_value a1
  have ha2 : Agree [Part.free, Part.regs, Part.jobs, Part.events, Part.out, Part.pwr, Part.stor, Part.held] x2 a2 := by
    unfold a2
    refine Agree.step ?_ setNs_agree (by decide)
    assumption
  clear_value a2
  clear_value a3
  have ha4 : Agree [Part.free, Part.regs, Part.jobs, Part.events, Part.out, Part.pwr, Part.stor, Part.held] x2 a4 := by
    unfold a4
    refine Agree.mk' ?_ (by
      intro p hp
      cases p <;> first | exact (hp (by decide)).elim | rfl | exact ⟨rfl, rfl⟩ | exact ⟨rfl, rfl, rfl⟩)
    assumption
  clear_value a4
  refine Agree.ite ?_ ?_
  · exact storEnd_agree.mono (by decide)
  · refine Agree.ite ?_ ?_
    · refine Agree.step ?_ storEnd_agree (by decide)
      exact State_drew_agree.mono (by decide)
    · refine Agree.ite ?_ ?_
      · exact storEnd_agree.mono (by decide)
      · refine Agree.ite ?_ ?_
        · refine Agree.step ?_ storEnd_agree (by decide)
          exact cipherFault_agree.mono (by decide)
        · refine Agree.step ?_ storEnd_agree (by decide)
          refine Agree.step ?_ syncNs_agree (by decide)
          assumption

theorem nextKey_agree {x0} :
    Agree [.stor] x0 (nextKey x0) := by
  unfold nextKey
  extract_lets a0
  clear_value a0
  refine Agree.mk' ?_ (by
    intro p hp
    cases p <;> first | exact (hp (by decide)).elim | rfl | exact ⟨rfl, rfl⟩ | exact ⟨rfl, rfl, rfl⟩)
  exact Agree.refl _ _

theorem dropNsData_agree {x0 x1} :
    Agree [.stor] x1 (dropNsData x0 x1) := by
  unfold dropNsData
  extract_lets a0
  clear_value a0
  refine Agree.mk' ?_ (by
    intro p hp
    cases p <;> first | exact (hp (by decide)).elim | rfl | exact ⟨rfl, rfl⟩ | exact ⟨rfl, rfl, rfl⟩)
  exact Agree.refl _ _

theorem forgetStoredKey_agree {x0 x1} :
    Agree [.nand] x1 (forgetStoredKey x0 x1) := by
  unfold forgetStoredKey
  extract_lets a0 a1
  clear_value a0
  clear_value a1
  refine Agree.ite ?_ ?_
  · exact Agree.refl _ _
  · refine Agree.mk' ?_ (by
      intro p hp
      cases p <;> first | exact (hp (by decide)).elim | rfl | exact ⟨rfl, rfl⟩ | exact ⟨rfl, rfl, rfl⟩)
    exact Agree.refl _ _

theorem nsDelete_agree {x0 x1} :
    Agree [.free, .regs, .jobs, .pwr, .nand, .stor] x1 (nsDelete x0 x1) := by
  unfold nsDelete
  extract_lets a0 a1
  clear_value a0
  have ha1 : Agree [Part.free, Part.regs, Part.jobs, Part.pwr, Part.nand, Part.stor] x1 a1 := by
    unfold a1
    refine Agree.step ?_ nextKey_agree (by decide)
    refine Agree.step ?_ syncNs_agree (by decide)
    refine Agree.step ?_ setNs_agree (by decide)
    refine Agree.step ?_ dropNsData_agree (by decide)
    exact forgetStoredKey_agree.mono (by decide)
  clear_value a1
  refine Agree.ite ?_ ?_
  · exact storEnd_agree.mono (by decide)
  · refine Agree.step ?_ storEnd_agree (by decide)
    refine Agree.step ?_ State_put_agree (by decide)
    assumption

theorem storRun_agree {x0 x1 x2 x3} :
    Agree [.free, .regs, .jobs, .events, .bulk, .out, .pwr, .ncp, .nand, .stor, .held] x3 (storRun x0 x1 x2 x3) := by
  unfold storRun
  extract_lets a0
  clear_value a0
  refine Agree.ite ?_ ?_
  · exact storEnd_agree.mono (by decide)
  · split
    · refine Agree.ite ?_ ?_
      · exact storEnd_agree.mono (by decide)
      · refine Agree.step ?_ readLoop_agree (by decide)
        exact nandRead_agree.mono (by decide)
    · refine Agree.ite ?_ ?_
      · exact storEnd_agree.mono (by decide)
      · refine Agree.ite ?_ ?_
        · exact storEnd_agree.mono (by decide)
        · refine Agree.step ?_ syncNs_agree (by decide)
          refine Agree.step ?_ writeLoop_agree (by decide)
          refine Agree.step ?_ startPrograms_agree (by decide)
          exact nandRead_agree.mono (by decide)
    · refine Agree.ite ?_ ?_
      · exact storEnd_agree.mono (by decide)
      · refine Agree.ite ?_ ?_
        · exact storEnd_agree.mono (by decide)
        · refine Agree.step ?_ syncNs_agree (by decide)
          exact trimLoop_agree.mono (by decide)
    · refine Agree.step ?_ storEnd_agree (by decide)
      exact commitJournal_agree.mono (by decide)
    · exact nsCreate_agree.mono (by decide)
    · exact nsDelete_agree.mono (by decide)

theorem storCommand_agree {x0 x1 x2 x3 x4} :
    Agree [.free, .regs, .jobs, .events, .bulk, .out, .pwr, .ncp, .nand, .stor, .held] x4 (storCommand x0 x1 x2 x3 x4) := by
  unfold storCommand
  split
  · exact Agree.refl _ _
  · extract_lets a0
    have ha0 : Agree [Part.free, Part.regs, Part.jobs, Part.events, Part.bulk, Part.out, Part.pwr, Part.ncp, Part.nand, Part.stor, Part.held] x4 a0 := by
      unfold a0
      refine Agree.ite ?_ ?_
      · exact storAccept_agree.mono (by decide)
      · exact Agree.refl _ _
    clear_value a0
    refine Agree.ite ?_ ?_
    · exact Agree.refl _ _
    · split
      · refine Agree.ite ?_ ?_
        · refine Agree.step ?_ storRun_agree (by decide)
          assumption
        · assumption
      · assumption

theorem execRead_agree {x0 x1 x2} :
    AgreeAns [.free, .regs, .jobs, .events, .bulk, .out, .pwr, .ncp, .nand, .stor, .held] x2 (execRead x0 x1 x2) := by
  unfold execRead
  refine AgreeAns.of_next ?_
  exact storCommand_agree.mono (by decide)

theorem discardNsKey_agree {x0 x1} :
    Agree [.regs, .nand, .stor] x1 (discardNsKey x0 x1) := by
  unfold discardNsKey
  extract_lets a0 a1
  have ha0 : Agree [Part.regs, Part.nand, Part.stor] x1 a0 := by
    unfold a0
    exact forgetStoredKey_agree.mono (by decide)
  clear_value a0
  clear_value a1
  refine Agree.ite ?_ ?_
  · refine Agree.step ?_ nextKey_agree (by decide)
    refine Agree.step ?_ syncNs_agree (by decide)
    refine Agree.step ?_ setNs_agree (by decide)
    refine Agree.step ?_ dropNsData_agree (by decide)
    assumption
  · refine Agree.step ?_ nextKey_agree (by decide)
    assumption

theorem showTargets_agree {x0 x1} :
    Agree [.regs] x1 (showTargets x0 x1) := by
  unfold showTargets
  refine Agree.step ?_ State_put_agree (by decide)
  exact State_put_agree.mono (by decide)

theorem wornOut_agree {x0} :
    Agree [.regs, .events, .out, .held] x0 (wornOut x0) := by
  unfold wornOut
  refine Agree.ite ?_ ?_
  · refine Agree.step ?_ occur_agree (by decide)
    exact State_put_agree.mono (by decide)
  · exact Agree.refl _ _

theorem mountStorage_agree {x0 x1} :
    Agree [.regs, .events, .out, .ncp, .nand, .stor, .held] x1 (mountStorage x0 x1) := by
  unfold mountStorage
  extract_lets a0 a1 a2 a3 a4 a5 a6 a7 a8 a9 a10 a11 a12 a13
  clear_value a0
  clear_value a1
  clear_value a2
  have ha3 : Agree [Part.regs, Part.events, Part.out, Part.ncp, Part.nand, Part.stor, Part.held] x1 a3 := by
    unfold a3
    refine Agree.mk' ?_ (by
      intro p hp
      cases p <;> first | exact (hp (by decide)).elim | rfl | exact ⟨rfl, rfl⟩ | exact ⟨rfl, rfl, rfl⟩)
    exact Agree.refl _ _
  clear_value a3
  have ha4 : Agree [Part.regs, Part.events, Part.out, Part.ncp, Part.nand, Part.stor, Part.held] x1 a4 := by
    unfold a4
    refine Agree.step ?_ State_wr_agree (by decide)
    assumption
  clear_value a4
  have ha5 : Agree [Part.regs, Part.events, Part.out, Part.ncp, Part.nand, Part.stor, Part.held] x1 a5 := by
    unfold a5
    refine Agree.foldl ?_ ?_
    · intro y14
      intro y15
      exact syncNs_agree.mono (by decide)
    · assumption
  clear_value a5
  have ha6 : Agree [Part.regs, Part.events, Part.out, Part.ncp, Part.nand, Part.stor, Part.held] x1 a6 := by
    unfold a6
    refine Agree.step ?_ State_put_agree (by decide)
    refine Agree.step ?_ State_wr_agree (by decide)
    assumption
  clear_value a6
  have ha7 : Agree [Part.regs, Part.events, Part.out, Part.ncp, Part.nand, Part.stor, Part.held] x1 a7 := by
    unfold a7
    refine Agree.step ?_ State_put_agree (by decide)
    refine Agree.step ?_ State_put_agree (by decide)
    assumption
  clear_value a7
  have ha8 : Agree [Part.regs, Part.events, Part.out, Part.ncp, Part.nand, Part.stor, Part.held] x1 a8 := by
    unfold a8
    refine Agree.step ?_ State_put_agree (by decide)
    refine Agree.step ?_ State_put_agree (by decide)
    assumption
  clear_value a8
  have ha9 : Agree [Part.regs, Part.events, Part.out, Part.ncp, Part.nand, Part.stor, Part.held] x1 a9 := by
    unfold a9
    refine Agree.step ?_ State_wr_agree (by decide)
    assumption
  clear_value a9
  have ha10 : Agree [Part.regs, Part.events, Part.out, Part.ncp, Part.nand, Part.stor, Part.held] x1 a10 := by
    unfold a10
    refine Agree.step ?_ State_put_agree (by decide)
    refine Agree.step ?_ State_put_agree (by decide)
    assumption
  clear_value a10
  have ha11 : Agree [Part.regs, Part.events, Part.out, Part.ncp, Part.nand, Part.stor, Part.held] x1 a11 := by
    unfold a11
    refine Agree.step ?_ State_put_agree (by decide)
    refine Agree.step ?_ State_put_agree (by decide)
    assumption
  clear_value a11
  have ha12 : Agree [Part.regs, Part.events, Part.out, Part.ncp, Part.nand, Part.stor, Part.held] x1 a12 := by
    unfold a12
    refine Agree.step ?_ State_put_agree (by decide)
    assumption
  clear_value a12
  have ha13 : Agree [Part.regs, Part.events, Part.out, Part.ncp, Part.nand, Part.stor, Part.held] x1 a13 := by
    unfold a13
    refine Agree.step ?_ autoRebuild_agree (by decide)
    refine Agree.step ?_ setIdx_agree (by decide)
    assumption
  clear_value a13
  refine Agree.step ?_ issueReads_agree (by decide)
  refine Agree.step ?_ wornOut_agree (by decide)
  refine Agree.step ?_ occur_agree (by decide)
  refine Agree.step ?_ State_put_agree (by decide)
  assumption

theorem retireBlock_agree {x0} :
    Agree [.regs, .events, .out, .stor, .held] x0 (retireBlock x0) := by
  unfold retireBlock
  extract_lets a0 a1 a2 a3 a4
  clear_value a0
  clear_value a1
  have ha2 : Agree [Part.regs, Part.events, Part.out, Part.stor, Part.held] x0 a2 := by
    unfold a2
    refine Agree.step ?_ State_put_agree (by decide)
    exact State_put_agree.mono (by decide)
  clear_value a2
  clear_value a3
  have ha4 : Agree [Part.regs, Part.events, Part.out, Part.stor, Part.held] x0 a4 := by
    unfold a4
    refine Agree.mk' ?_ (by
      intro p hp
      cases p <;> first | exact (hp (by decide)).elim | rfl | exact ⟨rfl, rfl⟩ | exact ⟨rfl, rfl, rfl⟩)
    assumption
  clear_value a4
  refine Agree.step ?_ wornOut_agree (by decide)
  refine Agree.step ?_ occur_agree (by decide)
  assumption

theorem execStorageJobComplete_agree {x0 x1} :
    AgreeAns [.regs, .queues, .jobs, .events, .out, .held] x1 (execStorageJobComplete x0 x1) := by
  unfold execStorageJobComplete
  refine AgreeAns.of_next ?_
  exact completeEnded_agree.mono (by decide)

theorem execNsCreate_agree {x0 x1} :
    AgreeAns [.free, .regs, .jobs, .events, .bulk, .out, .pwr, .ncp, .nand, .stor, .held] x1 (execNsCreate x0 x1) := by
  unfold execNsCreate
  extract_lets a0
  clear_value a0
  refine AgreeAns.of_next ?_
  exact storCommand_agree.mono (by decide)

theorem execWrite_agree {x0 x1 x2 x3} :
    AgreeAns [.free, .regs, .jobs, .events, .bulk, .out, .pwr, .ncp, .nand, .stor, .held] x3 (execWrite x0 x1 x2 x3) := by
  unfold execWrite
  refine AgreeAns.of_next ?_
  exact storCommand_agree.mono (by decide)

theorem execNsDelete_agree {x0 x1} :
    AgreeAns [.free, .regs, .jobs, .events, .bulk, .out, .pwr, .ncp, .nand, .stor, .held] x1 (execNsDelete x0 x1) := by
  unfold execNsDelete
  refine AgreeAns.of_next ?_
  exact storCommand_agree.mono (by decide)

theorem execFlush_agree {x0 x1} :
    AgreeAns [.free, .regs, .jobs, .events, .bulk, .out, .pwr, .ncp, .nand, .stor, .held] x1 (execFlush x0 x1) := by
  unfold execFlush
  refine AgreeAns.of_next ?_
  exact storCommand_agree.mono (by decide)

theorem wear_agree {x0 x1 x2} :
    Agree [.regs, .events, .out, .nand, .stor, .held] x2 (wear x0 x1 x2) := by
  unfold wear
  extract_lets a0 a1 a2 a3
  have ha0 : Agree [Part.regs, Part.events, Part.out, Part.nand, Part.stor, Part.held] x2 a0 := by
    unfold a0
    refine Agree.step ?_ State_put_agree (by decide)
    exact State_put_agree.mono (by decide)
  clear_value a1
  have ha2 : Agree [Part.regs, Part.events, Part.out, Part.nand, Part.stor, Part.held] x2 a2 := by
    unfold a2
    refine Agree.mk' ?_ (by
      intro p hp
      cases p <;> first | exact (hp (by decide)).elim | rfl | exact ⟨rfl, rfl⟩ | exact ⟨rfl, rfl, rfl⟩)
    unfold a0
    refine Agree.step ?_ State_put_agree (by decide)
    exact State_put_agree.mono (by decide)
  clear_value a3
  refine Agree.ite ?_ ?_
  · refine Agree.step ?_ occur_agree (by decide)
    refine Agree.mk' ?_ (by
      intro p hp
      cases p <;> first | exact (hp (by decide)).elim | rfl | exact ⟨rfl, rfl⟩ | exact ⟨rfl, rfl, rfl⟩)
    unfold a2
    refine Agree.mk' ?_ (by
      intro p hp
      cases p <;> first | exact (hp (by decide)).elim | rfl | exact ⟨rfl, rfl⟩ | exact ⟨rfl, rfl, rfl⟩)
    unfold a0
    refine Agree.step ?_ State_put_agree (by decide)
    exact State_put_agree.mono (by decide)
  · unfold a2
    refine Agree.mk' ?_ (by
      intro p hp
      cases p <;> first | exact (hp (by decide)).elim | rfl | exact ⟨rfl, rfl⟩ | exact ⟨rfl, rfl, rfl⟩)
    unfold a0
    refine Agree.step ?_ State_put_agree (by decide)
    exact State_put_agree.mono (by decide)

theorem execNsErased_agree {x0 x1} :
    AgreeAns [.regs, .events, .out, .held] x1 (execNsErased x0 x1) := by
  unfold execNsErased
  refine AgreeAns.ite ?_ ?_
  · refine AgreeAns.of_next ?_
    refine Agree.step ?_ occur_agree (by decide)
    exact State_put_agree.mono (by decide)
  · refine AgreeAns.of_next ?_
    exact Agree.refl _ _

theorem execNandOpComplete_agree {x0 x1 x2 x3 x4 x5} :
    AgreeAns [.regs, .events, .out, .pwr, .nand, .stor, .held] x5 (execNandOpComplete x0 x1 x2 x3 x4 x5) := by
  unfold execNandOpComplete
  extract_lets a0 a1 a2 a3 a4
  clear_value a1
  have ha2 : Agree [Part.regs, Part.events, Part.out, Part.pwr, Part.nand, Part.stor, Part.held] x5 a2 := by
    unfold a2
    refine Agree.mk' ?_ (by
      intro p hp
      cases p <;> first | exact (hp (by decide)).elim | rfl | exact ⟨rfl, rfl⟩ | exact ⟨rfl, rfl, rfl⟩)
    exact Agree.refl _ _
  clear_value a2
  have ha3 : Agree [Part.regs, Part.events, Part.out, Part.pwr, Part.nand, Part.stor, Part.held] x5 a3 := by
    unfold a3
    refine Agree.ite ?_ ?_
    · assumption
    · refine Agree.step ?_ dropRequest_agree (by decide)
      refine Agree.step ?_ releaseGrant_agree (by decide)
      assumption
  clear_value a3
  have ha4 : Agree [Part.regs, Part.events, Part.out, Part.pwr, Part.nand, Part.stor, Part.held] x5 a4 := by
    unfold a4
    refine Agree.ite ?_ ?_
    · assumption
    · refine Agree.step ?_ retireBlock_agree (by decide)
      assumption
  clear_value a4
  refine AgreeAns.ite ?_ ?_
  · refine AgreeAns.of_next ?_
    exact Agree.refl _ _
  · refine AgreeAns.of_next ?_
    refine Agree.step ?_ wear_agree (by decide)
    assumption

theorem execTrim_agree {x0 x1} :
    AgreeAns [.free, .regs, .jobs, .events, .bulk, .out, .pwr, .ncp, .nand, .stor, .held] x1 (execTrim x0 x1) := by
  unfold execTrim
  refine AgreeAns.of_next ?_
  exact storCommand_agree.mono (by decide)

end Sys2Proof.Machine
end

