-- ==== Sys2Proof/Laws/Frame/PowerCtl.lean ====
section
/-!
SUPPORT. Which parts of the state each definition of Machine/PowerCtl.lean may change.
-/

namespace Sys2Proof.Machine

theorem stopChains_agree {x0} :
    Agree [.regs, .events, .out, .threads, .pwr, .ncp, .line, .radio, .held] x0 (stopChains x0) := by
  unfold stopChains
  refine Agree.step ?_ settleWindows_agree (by decide)
  refine Agree.foldUpto ?_ ?_
  · intro y0
    intro y1
    refine Agree.ite ?_ ?_
    · exact stopChain_agree.mono (by decide)
    · exact Agree.refl _ _
  · exact Agree.refl _ _

theorem armLg_agree {x0} :
    Agree [.pwr] x0 (armLg x0) := by
  unfold armLg
  extract_lets a0
  clear_value a0
  refine Agree.ite ?_ ?_
  · refine Agree.mk' ?_ (by
      intro p hp
      cases p <;> first | exact (hp (by decide)).elim | rfl | exact ⟨rfl, rfl⟩ | exact ⟨rfl, rfl, rfl⟩)
    exact Agree.refl _ _
  · exact Agree.refl _ _

theorem lgExit_agree {x0} :
    Agree [.regs, .events, .out, .stor, .held] x0 (lgExit x0) := by
  unfold lgExit
  extract_lets a0 a1 a2
  have ha0 : Agree [Part.regs, Part.events, Part.out, Part.stor, Part.held] x0 a0 := by
    unfold a0
    refine Agree.step ?_ State_put_agree (by decide)
    exact State_put_agree.mono (by decide)
  clear_value a0
  clear_value a1
  have ha2 : Agree [Part.regs, Part.events, Part.out, Part.stor, Part.held] x0 a2 := by
    unfold a2
    refine Agree.mk' ?_ (by
      intro p hp
      cases p <;> first | exact (hp (by decide)).elim | rfl | exact ⟨rfl, rfl⟩ | exact ⟨rfl, rfl, rfl⟩)
    assumption
  clear_value a2
  refine Agree.ite ?_ ?_
  · exact Agree.refl _ _
  · refine Agree.step ?_ occur_agree (by decide)
    refine Agree.step ?_ State_put_agree (by decide)
    assumption

theorem endStorageJobs_agree {x0} :
    Agree [.free, .jobs, .pwr] x0 (endStorageJobs x0) := by
  unfold endStorageJobs
  refine Agree.foldl ?_ ?_
  · intro y0
    intro y1
    exact storEnd_agree.mono (by decide)
  · exact Agree.refl _ _

theorem failWaiting_agree {x0} :
    Agree [.regs, .events, .out, .threads, .pwr, .radio, .held] x0 (failWaiting x0) := by
  unfold failWaiting
  refine Agree.foldl ?_ ?_
  · intro y0
    intro y1
    split
    · refine Agree.ite ?_ ?_
      · refine Agree.step ?_ exitWait_agree (by decide)
        refine Agree.step ?_ failWith_agree (by decide)
        refine Agree.step ?_ dropRequest_agree (by decide)
        exact returnAirtime_agree.mono (by decide)
      · exact Agree.refl _ _
    · exact Agree.refl _ _
  · exact Agree.refl _ _

theorem failUnsent_agree {x0} :
    Agree [.regs, .events, .out, .threads, .pwr, .radio, .held] x0 (failUnsent x0) := by
  unfold failUnsent
  refine Agree.forActs ?_ ?_
  · intro y0
    intro y1
    intro y2
    exact endUnsent_agree.mono (by decide)
  · exact Agree.refl _ _

theorem lgEnter_agree {x0 x1} :
    Agree [.free, .regs, .jobs, .events, .out, .threads, .pwr, .ncp, .nand, .stor, .line, .radio, .held] x1 (lgEnter x0 x1) := by
  unfold lgEnter
  extract_lets a0 a1 a2 a3 a4 a5 a6 a7
  have ha0 : Agree [Part.free, Part.regs, Part.jobs, Part.events, Part.out, Part.threads, Part.pwr, Part.ncp, Part.nand, Part.stor,
  Part.line, Part.radio, Part.held] x1 a0 := by
    unfold a0
    refine Agree.step ?_ State_put_agree (by decide)
    exact State_put_agree.mono (by decide)
  clear_value a0
  have ha1 : Agree [Part.free, Part.regs, Part.jobs, Part.events, Part.out, Part.threads, Part.pwr, Part.ncp, Part.nand, Part.stor,
  Part.line, Part.radio, Part.held] x1 a1 := by
    unfold a1
    refine Agree.step ?_ State_put_agree (by decide)
    assumption
  clear_value a1
  clear_value a2
  have ha3 : Agree [Part.free, Part.regs, Part.jobs, Part.events, Part.out, Part.threads, Part.pwr, Part.ncp, Part.nand, Part.stor,
  Part.line, Part.radio, Part.held] x1 a3 := by
    unfold a3
    refine Agree.mk' ?_ (by
      intro p hp
      cases p <;> first | exact (hp (by decide)).elim | rfl | exact ⟨rfl, rfl⟩ | exact ⟨rfl, rfl, rfl⟩)
    assumption
  clear_value a3
  have ha4 : Agree [Part.free, Part.regs, Part.jobs, Part.events, Part.out, Part.threads, Part.pwr, Part.ncp, Part.nand, Part.stor,
  Part.line, Part.radio, Part.held] x1 a4 := by
    unfold a4
    refine Agree.step ?_ endStorageJobs_agree (by decide)
    refine Agree.step ?_ failWaiting_agree (by decide)
    refine Agree.step ?_ failUnsent_agree (by decide)
    refine Agree.step ?_ stopChains_agree (by decide)
    assumption
  clear_value a4
  have ha5 : Agree [Part.free, Part.regs, Part.jobs, Part.events, Part.out, Part.threads, Part.pwr, Part.ncp, Part.nand, Part.stor,
  Part.line, Part.radio, Part.held] x1 a5 := by
    unfold a5
    refine Agree.step ?_ checkpoint_agree (by decide)
    refine Agree.step ?_ State_drew_agree (by decide)
    assumption
  clear_value a5
  clear_value a6
  have ha7 : Agree [Part.free, Part.regs, Part.jobs, Part.events, Part.out, Part.threads, Part.pwr, Part.ncp, Part.nand, Part.stor,
  Part.line, Part.radio, Part.held] x1 a7 := by
    unfold a7
    refine Agree.mk' ?_ (by
      intro p hp
      cases p <;> first | exact (hp (by decide)).elim | rfl | exact ⟨rfl, rfl⟩ | exact ⟨rfl, rfl, rfl⟩)
    assumption
  clear_value a7
  refine Agree.ite ?_ ?_
  · exact Agree.refl _ _
  · refine Agree.step ?_ occur_agree (by decide)
    refine Agree.step ?_ State_put_agree (by decide)
    assumption

theorem judgeLg_agree {x0} :
    Agree [.free, .regs, .jobs, .events, .out, .threads, .pwr, .ncp, .nand, .stor, .line, .radio, .held] x0 (judgeLg x0) := by
  unfold judgeLg
  extract_lets a0
  have ha0 : Agree [Part.free, Part.regs, Part.jobs, Part.events, Part.out, Part.threads, Part.pwr, Part.ncp, Part.nand, Part.stor,
  Part.line, Part.radio, Part.held] x0 a0 := by
    unfold a0
    exact armLg_agree.mono (by decide)
  clear_value a0
  refine Agree.ite ?_ ?_
  · assumption
  · refine Agree.ite ?_ ?_
    · refine Agree.ite ?_ ?_
      · refine Agree.step ?_ lgExit_agree (by decide)
        assumption
      · assumption
    · refine Agree.ite ?_ ?_
      · refine Agree.step ?_ lgEnter_agree (by decide)
        assumption
      · assumption

theorem execVinMonFall_agree {x0} :
    AgreeAns [.free, .regs, .jobs, .events, .out, .threads, .pwr, .ncp, .nand, .stor, .line, .radio, .held] x0 (execVinMonFall x0) := by
  unfold execVinMonFall
  extract_lets a0
  clear_value a0
  refine AgreeAns.of_next ?_
  refine Agree.step ?_ judgeLg_agree (by decide)
  refine Agree.mk' ?_ (by
    intro p hp
    cases p <;> first | exact (hp (by decide)).elim | rfl | exact ⟨rfl, rfl⟩ | exact ⟨rfl, rfl, rfl⟩)
  exact Agree.refl _ _

theorem shareWrite_agree {x0 x1 x2} :
    Agree [.regs] x2 (shareWrite x0 x1 x2) := by
  unfold shareWrite
  extract_lets a0
  have ha0 : Agree [Part.regs] x2 a0 := by
    unfold a0
    exact State_wrTyped_agree.mono (by decide)
  clear_value a0
  refine Agree.ite ?_ ?_
  · exact State_put_agree.mono (by decide)
  · assumption

theorem execPwrShareWrite_agree {x0 x1 x2 x3} :
    AgreeAns [.regs, .events, .out, .held] x3 (execPwrShareWrite x0 x1 x2 x3) := by
  unfold execPwrShareWrite
  refine AgreeAns.of_next ?_
  refine Agree.trans ?_ (filtered_agree (by decide) ?_)
  · exact Agree.refl _ _
  · intro y0
    exact shareWrite_agree.mono (by decide)

theorem execPcieLinkChange_agree {x0 x1} :
    AgreeAns [.pwr] x1 (execPcieLinkChange x0 x1) := by
  unfold execPcieLinkChange
  extract_lets a0
  clear_value a0
  refine AgreeAns.of_next ?_
  refine Agree.mk' ?_ (by
    intro p hp
    cases p <;> first | exact (hp (by decide)).elim | rfl | exact ⟨rfl, rfl⟩ | exact ⟨rfl, rfl, rfl⟩)
  exact Agree.refl _ _

theorem execPwrLtrWrite_agree {x0 x1 x2 x3 x4} :
    AgreeAns [.regs, .events, .out, .held] x4 (execPwrLtrWrite x0 x1 x2 x3 x4) := by
  unfold execPwrLtrWrite
  extract_lets a0
  clear_value a0
  refine AgreeAns.of_next ?_
  refine Agree.trans ?_ (filtered_agree (by decide) ?_)
  · exact Agree.refl _ _
  · intro y1
    exact State_wrTyped_agree.mono (by decide)

theorem execLinkLossLastGasp_agree {x0} :
    AgreeAns [.free, .regs, .time, .copy, .jobs, .events, .out, .threads, .pwr, .ncp, .nand, .stor, .line, .radio, .held] x0 (execLinkLossLastGasp x0) := by
  unfold execLinkLossLastGasp
  split
  · refine AgreeAns.ite ?_ ?_
    · refine AgreeAns.of_next ?_
      refine Agree.step ?_ lgEnter_agree (by decide)
      exact State_passTo_agree.mono (by decide)
    · refine AgreeAns.of_next ?_
      exact Agree.refl _ _
  · refine AgreeAns.of_next ?_
    exact Agree.refl _ _

theorem execVinMonRise_agree {x0} :
    AgreeAns [.free, .regs, .jobs, .events, .out, .threads, .pwr, .ncp, .nand, .stor, .line, .radio, .held] x0 (execVinMonRise x0) := by
  unfold execVinMonRise
  extract_lets a0
  clear_value a0
  refine AgreeAns.of_next ?_
  refine Agree.step ?_ judgeLg_agree (by decide)
  refine Agree.mk' ?_ (by
    intro p hp
    cases p <;> first | exact (hp (by decide)).elim | rfl | exact ⟨rfl, rfl⟩ | exact ⟨rfl, rfl, rfl⟩)
  exact Agree.refl _ _

theorem execIslandWake_agree {x0 x1} :
    AgreeAns [.time, .copy] x1 (execIslandWake x0 x1) := by
  unfold execIslandWake
  refine AgreeAns.of_next ?_
  exact State_pass_agree.mono (by decide)

theorem execMainsCrossingMissed_agree {x0 x1 x2} :
    AgreeAns [.free, .regs, .time, .copy, .jobs, .events, .out, .threads, .pwr, .ncp, .nand, .stor, .line, .radio, .plmb, .held] x2 (execMainsCrossingMissed x0 x1 x2) := by
  unfold execMainsCrossingMissed
  refine AgreeAns.ite ?_ ?_
  · refine AgreeAns.of_next ?_
    exact Agree.refl _ _
  · refine AgreeAns.of_next ?_
    refine Agree.step ?_ judgeLg_agree (by decide)
    refine Agree.step ?_ reanchor_agree (by decide)
    exact mainsMissed_agree.mono (by decide)

theorem execMainsCrossing_agree {x0 x1 x2 x3 x4 x5} :
    AgreeAns [.free, .regs, .time, .copy, .jobs, .events, .out, .threads, .pwr, .ncp, .nand, .stor, .line, .radio, .plmb, .held] x5 (execMainsCrossing x0 x1 x2 x3 x4 x5) := by
  unfold execMainsCrossing
  refine AgreeAns.ite ?_ ?_
  · refine AgreeAns.of_next ?_
    exact Agree.refl _ _
  · refine AgreeAns.of_next ?_
    refine Agree.step ?_ judgeLg_agree (by decide)
    refine Agree.step ?_ reanchor_agree (by decide)
    refine Agree.step ?_ mainsEdge_agree (by decide)
    exact State_passTo_agree.mono (by decide)

end Sys2Proof.Machine
end

