-- ==== Sys2Proof/Laws/Frame/Uart.lean ====
section
/-!
SUPPORT. Which parts of the state each definition of Machine/Uart.lean may change.
-/

namespace Sys2Proof.Machine

theorem setPort_agree {x0 x1 x2} :
    Agree [.regs, .ser] x2 (setPort x0 x1 x2) := by
  unfold setPort
  extract_lets a0 a1 a2
  clear_value a0
  have ha1 : Agree [Part.regs, Part.ser] x2 a1 := by
    unfold a1
    refine Agree.mk' ?_ (by
      intro p hp
      cases p <;> first | exact (hp (by decide)).elim | rfl | exact ⟨rfl, rfl⟩ | exact ⟨rfl, rfl, rfl⟩)
    exact Agree.refl _ _
  clear_value a1
  have ha2 : Agree [Part.regs, Part.ser] x2 a2 := by
    unfold a2
    refine Agree.step ?_ State_put_agree (by decide)
    refine Agree.step ?_ State_put_agree (by decide)
    assumption
  clear_value a2
  refine Agree.step ?_ State_put_agree (by decide)
  assumption

theorem uartCause_agree {x0 x1 x2} :
    Agree [.regs, .events, .out, .held] x2 (uartCause x0 x1 x2) := by
  unfold uartCause
  extract_lets a0
  have ha0 : Agree [Part.regs, Part.events, Part.out, Part.held] x2 a0 := by
    unfold a0
    exact State_put_agree.mono (by decide)
  clear_value a0
  refine Agree.ite ?_ ?_
  · refine Agree.step ?_ occur_agree (by decide)
    assumption
  · assumption

theorem txAfter_agree {x0 x1 x2} :
    Agree [.regs, .events, .out, .ser, .held] x2 (txAfter x0 x1 x2) := by
  unfold txAfter
  extract_lets a0 a1 a2
  clear_value a0
  clear_value a1
  clear_value a2
  split
  · extract_lets a3 a4 a5
    clear_value a3
    clear_value a4
    have ha5 : Agree [Part.regs, Part.events, Part.out, Part.ser, Part.held] x2 a5 := by
      unfold a5
      refine Agree.step ?_ State_emit_agree (by decide)
      refine Agree.step ?_ setPort_agree (by decide)
      exact State_put_agree.mono (by decide)
    clear_value a5
    refine Agree.ite ?_ ?_
    · refine Agree.step ?_ uartCause_agree (by decide)
      assumption
    · assumption
  · exact setPort_agree.mono (by decide)

theorem txNext_agree {x0 x1} :
    Agree [.regs, .events, .out, .ser, .held] x1 (txNext x0 x1) := by
  unfold txNext
  exact txAfter_agree.mono (by decide)

theorem serEnd_agree {x0 x1 x2} :
    Agree [.free, .jobs, .pwr] x2 (serEnd x0 x1 x2) := by
  unfold serEnd
  split
  · refine Agree.ite ?_ ?_
    · refine Agree.step ?_ endJob_agree (by decide)
      exact State_drew_agree.mono (by decide)
    · exact Agree.refl _ _
  · exact Agree.refl _ _

theorem endPortJob_agree {x0 x1 x2} :
    Agree [.free, .regs, .jobs, .pwr, .ser] x2 (endPortJob x0 x1 x2) := by
  unfold endPortJob
  extract_lets a0
  clear_value a0
  split
  · refine Agree.step ?_ serEnd_agree (by decide)
    exact setPort_agree.mono (by decide)
  · exact Agree.refl _ _

theorem sentAll_agree {x0 x1} :
    Agree [.free, .regs, .jobs, .pwr, .ser] x1 (sentAll x0 x1) := by
  unfold sentAll
  extract_lets a0
  clear_value a0
  split
  · exact Agree.refl _ _
  · split
    · exact Agree.refl _ _
    · extract_lets a1
      clear_value a1
      refine Agree.ite ?_ ?_
      · exact setPort_agree.mono (by decide)
      · exact endPortJob_agree.mono (by decide)

theorem itemSent_agree {x0 x1} :
    Agree [.free, .regs, .jobs, .events, .out, .pwr, .ser, .held] x1 (itemSent x0 x1) := by
  unfold itemSent
  extract_lets a0 a1 a2 a3
  clear_value a0
  have ha1 : Agree [Part.free, Part.regs, Part.jobs, Part.events, Part.out, Part.pwr, Part.ser, Part.held] x1 a1 := by
    unfold a1
    exact setPort_agree.mono (by decide)
  clear_value a1
  clear_value a2
  clear_value a3
  refine Agree.ite ?_ ?_
  · refine Agree.step ?_ txNext_agree (by decide)
    assumption
  · refine Agree.step ?_ sentAll_agree (by decide)
    refine Agree.step ?_ setPort_agree (by decide)
    assumption

theorem execUartCharTxEnd_agree {x0 x1 x2} :
    AgreeAns [.free, .regs, .time, .copy, .jobs, .events, .out, .pwr, .ser, .held] x2 (execUartCharTxEnd x0 x1 x2) := by
  unfold execUartCharTxEnd
  extract_lets a0 a1
  have ha0 : Agree [Part.free, Part.regs, Part.time, Part.copy, Part.jobs, Part.events, Part.out, Part.pwr, Part.ser, Part.held] x2 a0 := by
    unfold a0
    exact State_passTo_agree.mono (by decide)
  clear_value a0
  clear_value a1
  split
  · refine AgreeAns.of_next ?_
    exact Agree.refl _ _
  · refine AgreeAns.ite ?_ ?_
    · refine AgreeAns.of_next ?_
      refine Agree.step ?_ itemSent_agree (by decide)
      refine Agree.step ?_ endPortJob_agree (by decide)
      refine Agree.step ?_ setPort_agree (by decide)
      assumption
    · refine AgreeAns.of_next ?_
      refine Agree.step ?_ itemSent_agree (by decide)
      assumption

theorem countErr_agree {x0 x1} :
    Agree [.regs, .events, .out, .held] x1 (countErr x0 x1) := by
  unfold countErr
  refine Agree.trans ?_ (bumpStat_agree (by decide) ?_)
  · exact Agree.refl _ _
  · intro y0
    exact serOvf_agree.mono (by decide)

theorem frameErr_agree {x0 x1} :
    Agree [.regs, .events, .out, .held] x1 (frameErr x0 x1) := by
  unfold frameErr
  refine Agree.step ?_ uartCause_agree (by decide)
  exact countErr_agree.mono (by decide)

theorem execFrameTimeLimit_agree {x0 x1} :
    AgreeAns [.free, .regs, .time, .copy, .jobs, .events, .out, .pwr, .ser, .held] x1 (execFrameTimeLimit x0 x1) := by
  unfold execFrameTimeLimit
  split
  · refine AgreeAns.of_next ?_
    exact Agree.refl _ _
  · extract_lets a0 a1
    have ha0 : Agree [Part.free, Part.regs, Part.time, Part.copy, Part.jobs, Part.events, Part.out, Part.pwr, Part.ser, Part.held] x1 a0 := by
      unfold a0
      exact State_passTo_agree.mono (by decide)
    clear_value a0
    clear_value a1
    refine AgreeAns.ite ?_ ?_
    · refine AgreeAns.of_next ?_
      refine Agree.step ?_ frameErr_agree (by decide)
      refine Agree.step ?_ setPort_agree (by decide)
      assumption
    · refine AgreeAns.of_next ?_
      refine Agree.step ?_ endPortJob_agree (by decide)
      assumption

theorem drainLoop_agree {x0 x1 x2 x3} :
    Agree [.regs, .queues, .events, .out, .ser, .held] x3 (drainLoop x0 x1 x2 x3) := by
  induction x2 generalizing x3 with
  | zero => exact Agree.refl _ _
  | succ k ih =>
    unfold drainLoop
    dsimp only
    refine Agree.ite ?_ (Agree.refl _ _)
    exact (Agree.step (setPort_agree.mono (by decide)) queueWrite_agree (by decide)).step ih (by decide)

theorem drain_agree {x0 x1 x2} :
    Agree [.regs, .queues, .events, .out, .ser, .held] x2 (drain x0 x1 x2) := by
  unfold drain
  exact drainLoop_agree.mono (by decide)

theorem rxdataPop_agree {x0 x1} :
    Agree [.regs, .queues, .events, .out, .ser, .held] x1 (rxdataPop x0 x1) := by
  unfold rxdataPop
  extract_lets a0
  clear_value a0
  refine Agree.ite ?_ ?_
  · exact drain_agree.mono (by decide)
  · exact setPort_agree.mono (by decide)

theorem execSerialJobComplete_agree {x0 x1} :
    AgreeAns [.regs, .queues, .jobs, .events, .out, .held] x1 (execSerialJobComplete x0 x1) := by
  unfold execSerialJobComplete
  refine AgreeAns.of_next ?_
  exact completeEnded_agree.mono (by decide)

theorem drainAll_agree {x0} :
    Agree [.regs, .queues, .events, .out, .ser, .held] x0 (drainAll x0) := by
  unfold drainAll
  refine Agree.foldl ?_ ?_
  · intro y0
    intro y1
    exact drain_agree.mono (by decide)
  · exact Agree.refl _ _

theorem overrun_agree {x0 x1} :
    Agree [.regs, .events, .out, .held] x1 (overrun x0 x1) := by
  unfold overrun
  refine Agree.step ?_ uartCause_agree (by decide)
  refine Agree.trans ?_ (bumpStat_agree (by decide) ?_)
  · exact State_put_agree.mono (by decide)
  · intro y0
    exact serOvf_agree.mono (by decide)

theorem uartClear_agree {x0 x1} :
    Agree [.ser] x1 (uartClear x0 x1) := by
  unfold uartClear
  extract_lets a0 a1 a2 a3 a4
  clear_value a0
  clear_value a1
  clear_value a2
  clear_value a3
  have ha4 : Agree [Part.ser] x1 a4 := by
    unfold a4
    refine Agree.mk' ?_ (by
      intro p hp
      cases p <;> first | exact (hp (by decide)).elim | rfl | exact ⟨rfl, rfl⟩ | exact ⟨rfl, rfl, rfl⟩)
    exact Agree.refl _ _
  clear_value a4
  assumption

theorem serStart_agree {x0 x1 x2} :
    Agree [.regs, .jobs, .events, .out, .ser, .held] x2 (serStart x0 x1 x2) := by
  unfold serStart
  extract_lets a0 a1
  have ha0 : Agree [Part.regs, Part.jobs, Part.events, Part.out, Part.ser, Part.held] x2 a0 := by
    unfold a0
    exact setJob_agree.mono (by decide)
  clear_value a0
  clear_value a1
  refine Agree.step ?_ txNext_agree (by decide)
  refine Agree.step ?_ setPort_agree (by decide)
  assumption

theorem ringStart_agree {x0 x1} :
    Agree [.jobs, .ser] x1 (ringStart x0 x1) := by
  unfold ringStart
  extract_lets a0 a1 a2
  have ha0 : Agree [Part.jobs, Part.ser] x1 a0 := by
    unfold a0
    exact setJob_agree.mono (by decide)
  clear_value a0
  clear_value a1
  clear_value a2
  refine Agree.mk' ?_ (by
    intro p hp
    cases p <;> first | exact (hp (by decide)).elim | rfl | exact ⟨rfl, rfl⟩ | exact ⟨rfl, rfl, rfl⟩)
  assumption

theorem setResp_agree {x0 x1} :
    Agree [.free, .regs, .jobs, .pwr, .ser] x1 (setResp x0 x1) := by
  unfold setResp
  extract_lets a0 a1 a2 a3 a4
  clear_value a0
  clear_value a1
  clear_value a2
  clear_value a3
  have ha4 : Agree [Part.free, Part.regs, Part.jobs, Part.pwr, Part.ser] x1 a4 := by
    unfold a4
    refine Agree.mk' ?_ (by
      intro p hp
      cases p <;> first | exact (hp (by decide)).elim | rfl | exact ⟨rfl, rfl⟩ | exact ⟨rfl, rfl, rfl⟩)
    exact Agree.refl _ _
  clear_value a4
  refine Agree.step ?_ serEnd_agree (by decide)
  refine Agree.step ?_ State_put_agree (by decide)
  assumption

theorem serRun_agree {x0 x1} :
    Agree [.free, .regs, .jobs, .events, .out, .pwr, .ser, .held] x1 (serRun x0 x1) := by
  unfold serRun
  refine Agree.ite ?_ ?_
  · exact serEnd_agree.mono (by decide)
  · split
    · exact serStart_agree.mono (by decide)
    · exact serStart_agree.mono (by decide)
    · refine Agree.ite ?_ ?_
      · exact serStart_agree.mono (by decide)
      · exact ringStart_agree.mono (by decide)
    · exact setResp_agree.mono (by decide)

theorem serCommand_agree {x0 x1 x2} :
    Agree [.free, .regs, .jobs, .events, .out, .pwr, .ser, .held] x2 (serCommand x0 x1 x2) := by
  unfold serCommand
  split
  · exact Agree.refl _ _
  · refine Agree.ite ?_ ?_
    · exact Agree.refl _ _
    · refine Agree.ite ?_ ?_
      · exact serRun_agree.mono (by decide)
      · exact serEnd_agree.mono (by decide)

theorem execTxFrame_agree {x0 x1} :
    AgreeAns [.free, .regs, .jobs, .events, .out, .pwr, .ser, .held] x1 (execTxFrame x0 x1) := by
  unfold execTxFrame
  refine AgreeAns.of_next ?_
  exact serCommand_agree.mono (by decide)

theorem uartOff_agree {x0 x1} :
    Agree [.free, .regs, .jobs, .pwr, .ser] x1 (uartOff x0 x1) := by
  unfold uartOff
  extract_lets a0 a1
  have ha0 : Agree [Part.free, Part.regs, Part.jobs, Part.pwr, Part.ser] x1 a0 := by
    unfold a0
    refine Agree.step ?_ endPortJob_agree (by decide)
    exact State_put_agree.mono (by decide)
  clear_value a0
  clear_value a1
  refine Agree.step ?_ setPort_agree (by decide)
  refine Agree.step ?_ State_put_agree (by decide)
  assumption

theorem uartCfgWrite_agree {x0 x1 x2 x3} :
    Agree [.free, .regs, .queues, .jobs, .events, .out, .pwr, .ser, .held] x3 (uartCfgWrite x0 x1 x2 x3) := by
  unfold uartCfgWrite
  extract_lets a0 a1
  clear_value a0
  have ha1 : Agree [Part.free, Part.regs, Part.queues, Part.jobs, Part.events, Part.out, Part.pwr, Part.ser, Part.held] x3 a1 := by
    unfold a1
    exact State_wrTyped_agree.mono (by decide)
  clear_value a1
  refine Agree.ite ?_ ?_
  · refine Agree.ite ?_ ?_
    · exact uartOff_agree.mono (by decide)
    · exact Agree.refl _ _
  · refine Agree.ite ?_ ?_
    · exact State_put_agree.mono (by decide)
    · refine Agree.ite ?_ ?_
      · refine Agree.step ?_ drain_agree (by decide)
        refine Agree.step ?_ txNext_agree (by decide)
        assumption
      · assumption

theorem uartBaudWrite_agree {x0 x1 x2 x3} :
    Agree [.regs] x3 (uartBaudWrite x0 x1 x2 x3) := by
  unfold uartBaudWrite
  refine Agree.ite ?_ ?_
  · exact Agree.refl _ _
  · exact State_wrTyped_agree.mono (by decide)

theorem txPush_agree {x0 x1 x2} :
    Agree [.regs, .events, .out, .ser, .held] x2 (txPush x0 x1 x2) := by
  unfold txPush
  extract_lets a0 a1
  clear_value a0
  have ha1 : Agree [Part.regs, Part.events, Part.out, Part.ser, Part.held] x2 a1 := by
    unfold a1
    exact setPort_agree.mono (by decide)
  clear_value a1
  refine Agree.ite ?_ ?_
  · exact State_put_agree.mono (by decide)
  · refine Agree.ite ?_ ?_
    · refine Agree.step ?_ txNext_agree (by decide)
      assumption
    · assumption

theorem txdataWrite_agree {x0 x1 x2 x3} :
    Agree [.regs, .events, .out, .ser, .held] x3 (txdataWrite x0 x1 x2 x3) := by
  unfold txdataWrite
  refine Agree.ite ?_ ?_
  · exact Agree.refl _ _
  · exact txPush_agree.mono (by decide)

theorem uartRespWrite_agree {x0 x1 x2 x3 x4} :
    Agree [.regs] x4 (uartRespWrite x0 x1 x2 x3 x4) := by
  unfold uartRespWrite
  extract_lets a0
  have ha0 : Agree [Part.regs] x4 a0 := by
    unfold a0
    exact State_wrTyped_agree.mono (by decide)
  clear_value a0
  refine Agree.ite ?_ ?_
  · refine Agree.step ?_ State_put_agree (by decide)
    assumption
  · assumption

theorem rxStore_agree {x0 x1 x2} :
    Agree [.regs, .events, .out, .ser, .held] x2 (rxStore x0 x1 x2) := by
  unfold rxStore
  extract_lets a0
  clear_value a0
  refine Agree.ite ?_ ?_
  · exact overrun_agree.mono (by decide)
  · refine Agree.step ?_ uartCause_agree (by decide)
    exact setPort_agree.mono (by decide)

theorem storeBreak_agree {x0 x1 x2 x3} :
    Agree [.regs, .queues, .events, .out, .ser, .held] x3 (storeBreak x0 x1 x2 x3) := by
  unfold storeBreak
  extract_lets a0 a1 a2 a3
  have ha0 : Agree [Part.regs, Part.queues, Part.events, Part.out, Part.ser, Part.held] x3 a0 := by
    unfold a0
    refine Agree.step ?_ State_put_agree (by decide)
    exact State_put_agree.mono (by decide)
  clear_value a0
  have ha1 : Agree [Part.regs, Part.queues, Part.events, Part.out, Part.ser, Part.held] x3 a1 := by
    unfold a1
    refine Agree.step ?_ uartCause_agree (by decide)
    refine Agree.trans ?_ (bumpStat_agree (by decide) ?_)
    · assumption
    · intro y4
      exact serOvf_agree.mono (by decide)
  clear_value a1
  clear_value a2
  have ha3 : Agree [Part.regs, Part.queues, Part.events, Part.out, Part.ser, Part.held] x3 a3 := by
    unfold a3
    refine Agree.step ?_ setPort_agree (by decide)
    assumption
  clear_value a3
  refine Agree.step ?_ drain_agree (by decide)
  refine Agree.step ?_ uartCause_agree (by decide)
  refine Agree.step ?_ rxStore_agree (by decide)
  assumption

theorem execUartLineStuck_agree {x0 x1} :
    AgreeAns [.free, .regs, .queues, .jobs, .events, .out, .pwr, .ser, .held] x1 (execUartLineStuck x0 x1) := by
  unfold execUartLineStuck
  extract_lets a0 a1 a2 a3
  clear_value a0
  have ha1 : Agree [Part.free, Part.regs, Part.queues, Part.jobs, Part.events, Part.out, Part.pwr, Part.ser, Part.held] x1 a1 := by
    unfold a1
    refine Agree.step ?_ setPort_agree (by decide)
    exact storeBreak_agree.mono (by decide)
  clear_value a1
  have ha2 : Agree [Part.free, Part.regs, Part.queues, Part.jobs, Part.events, Part.out, Part.pwr, Part.ser, Part.held] x1 a2 := by
    unfold a2
    refine Agree.step ?_ uartCause_agree (by decide)
    refine Agree.step ?_ State_put_agree (by decide)
    assumption
  clear_value a2
  clear_value a3
  refine AgreeAns.ite ?_ ?_
  · refine AgreeAns.of_next ?_
    exact Agree.refl _ _
  · refine AgreeAns.of_next ?_
    refine Agree.ite ?_ ?_
    · refine Agree.step ?_ endPortJob_agree (by decide)
      refine Agree.step ?_ setPort_agree (by decide)
      assumption
    · assumption

theorem execUartEnable_agree {x0 x1 x2 x3 x4} :
    AgreeAns [.free, .regs, .queues, .jobs, .events, .out, .pwr, .ser, .held] x4 (execUartEnable x0 x1 x2 x3 x4) := by
  unfold execUartEnable
  refine AgreeAns.ite ?_ ?_
  · refine AgreeAns.of_next ?_
    refine Agree.trans ?_ (filtered_agree (by decide) ?_)
    · exact Agree.refl _ _
    · intro y0
      exact uartCfgWrite_agree.mono (by decide)
  · refine AgreeAns.of_next ?_
    exact Agree.refl _ _

theorem frameDeliver_agree {x0 x1 x2 x3 x4 x5 x6 x7 x8} :
    Agree [.regs, .queues, .events, .bulk, .out, .held] x8 (frameDeliver x0 x1 x2 x3 x4 x5 x6 x7 x8) := by
  unfold frameDeliver
  split
  extract_lets a0
  clear_value a0
  refine Agree.step ?_ queueWrite_agree (by decide)
  refine Agree.step ?_ (AgreeFst.of_eq ringPut_agree (by assumption)) (by decide)
  exact Agree.refl _ _

theorem subDeliver_agree {x0 x1 x2} :
    Agree [.regs, .queues, .events, .bulk, .out, .held] x2 (subDeliver x0 x1 x2) := by
  unfold subDeliver
  extract_lets a0
  clear_value a0
  split
  · exact overrun_agree.mono (by decide)
  · refine Agree.ite ?_ ?_
    · exact frameDeliver_agree.mono (by decide)
    · exact overrun_agree.mono (by decide)

theorem serEndWith_agree {x0 x1 x2 x3} :
    Agree [.jobs, .pwr] x3 (serEndWith x0 x1 x2 x3) := by
  unfold serEndWith
  split
  · refine Agree.ite ?_ ?_
    · exact endJob_agree.mono (by decide)
    · exact Agree.refl _ _
  · exact Agree.refl _ _

theorem awaitDone_agree {x0 x1 x2} :
    Agree [.free, .regs, .queues, .jobs, .events, .bulk, .out, .pwr, .ser, .held] x2 (awaitDone x0 x1 x2) := by
  unfold awaitDone
  extract_lets a0 a1 a2 a3
  clear_value a0
  have ha1 : Agree [Part.free, Part.regs, Part.queues, Part.jobs, Part.events, Part.bulk, Part.out, Part.pwr, Part.ser, Part.held] x2 a1 := by
    unfold a1
    exact setPort_agree.mono (by decide)
  clear_value a1
  clear_value a2
  have ha3 : Agree [Part.free, Part.regs, Part.queues, Part.jobs, Part.events, Part.bulk, Part.out, Part.pwr, Part.ser, Part.held] x2 a3 := by
    unfold a3
    refine Agree.step ?_ setPort_agree (by decide)
    assumption
  clear_value a3
  refine Agree.ite ?_ ?_
  · refine Agree.ite ?_ ?_
    · refine Agree.step ?_ subDeliver_agree (by decide)
      assumption
    · refine Agree.step ?_ frameErr_agree (by decide)
      assumption
  · split
    · assumption
    · refine Agree.ite ?_ ?_
      · refine Agree.step ?_ serEndWith_agree (by decide)
        assumption
      · refine Agree.step ?_ serEnd_agree (by decide)
        assumption

theorem frameByte_agree {x0 x1 x2} :
    Agree [.free, .regs, .queues, .jobs, .events, .bulk, .out, .pwr, .ser, .held] x2 (frameByte x0 x1 x2) := by
  unfold frameByte
  split
  · exact Agree.refl _ _
  · extract_lets a0 a1 a2 a3
    clear_value a0
    have ha1 : Agree [Part.free, Part.regs, Part.queues, Part.jobs, Part.events, Part.bulk, Part.out, Part.pwr, Part.ser, Part.held] x2 a1 := by
      unfold a1
      split
      · split
        · refine Agree.ite ?_ ?_
          · exact wrBulkL_agree.mono (by decide)
          · exact Agree.refl _ _
        · exact Agree.refl _ _
      · exact Agree.refl _ _
    clear_value a1
    clear_value a2
    clear_value a3
    refine Agree.ite ?_ ?_
    · refine Agree.step ?_ awaitDone_agree (by decide)
      assumption
    · refine Agree.step ?_ setPort_agree (by decide)
      assumption

theorem linAct_agree {x0 x1 x2} :
    Agree [.regs, .events, .out, .ser, .held] x2 (linAct x0 x1 x2) := by
  unfold linAct
  extract_lets a0 a1 a2 a3 a4
  clear_value a0
  clear_value a1
  clear_value a2
  clear_value a3
  clear_value a4
  split
  · refine Agree.ite ?_ ?_
    · exact uartCause_agree.mono (by decide)
    · refine Agree.step ?_ txAfter_agree (by decide)
      exact setPort_agree.mono (by decide)
  · exact setPort_agree.mono (by decide)
  · exact Agree.refl _ _

theorem execLinHeaderRx_agree {x0 x1 x2 x3 x4} :
    AgreeAns [.regs, .time, .copy, .events, .out, .ser, .held] x4 (execLinHeaderRx x0 x1 x2 x3 x4) := by
  unfold execLinHeaderRx
  extract_lets a0
  have ha0 : Agree [Part.regs, Part.time, Part.copy, Part.events, Part.out, Part.ser, Part.held] x4 a0 := by
    unfold a0
    exact State_passTo_agree.mono (by decide)
  clear_value a0
  refine AgreeAns.ite ?_ ?_
  · refine AgreeAns.of_next ?_
    exact Agree.refl _ _
  · refine AgreeAns.ite ?_ ?_
    · refine AgreeAns.of_next ?_
      refine Agree.step ?_ frameErr_agree (by decide)
      assumption
    · refine AgreeAns.of_next ?_
      refine Agree.step ?_ linAct_agree (by decide)
      assumption

theorem execUartStartEdgeWake_agree {x0 x1 x2} :
    AgreeAns [.regs, .time, .copy, .queues, .events, .out, .pwr, .ser, .held] x2 (execUartStartEdgeWake x0 x1 x2) := by
  unfold execUartStartEdgeWake
  extract_lets a0 a1
  have ha0 : Agree [Part.regs, Part.time, Part.copy, Part.queues, Part.events, Part.out, Part.pwr, Part.ser, Part.held] x2 a0 := by
    unfold a0
    exact State_passTo_agree.mono (by decide)
  clear_value a0
  clear_value a1
  refine AgreeAns.ite ?_ ?_
  · refine AgreeAns.of_next ?_
    exact Agree.refl _ _
  · refine AgreeAns.of_next ?_
    refine Agree.ite ?_ ?_
    · refine Agree.step ?_ drainAll_agree (by decide)
      refine Agree.mk' ?_ (by
        intro p hp
        cases p <;> first | exact (hp (by decide)).elim | rfl | exact ⟨rfl, rfl⟩ | exact ⟨rfl, rfl, rfl⟩)
      assumption
    · assumption

theorem execUartDisable_agree {x0 x1 x2 x3 x4} :
    AgreeAns [.free, .regs, .queues, .jobs, .events, .out, .pwr, .ser, .held] x4 (execUartDisable x0 x1 x2 x3 x4) := by
  unfold execUartDisable
  refine AgreeAns.ite ?_ ?_
  · refine AgreeAns.of_next ?_
    refine Agree.trans ?_ (filtered_agree (by decide) ?_)
    · exact Agree.refl _ _
    · intro y0
      exact uartCfgWrite_agree.mono (by decide)
  · refine AgreeAns.of_next ?_
    exact Agree.refl _ _

theorem execUartBreakRx_agree {x0 x1 x2 x3} :
    AgreeAns [.regs, .time, .copy, .queues, .events, .out, .ser, .held] x3 (execUartBreakRx x0 x1 x2 x3) := by
  unfold execUartBreakRx
  extract_lets a0 a1 a2
  have ha0 : Agree [Part.regs, Part.time, Part.copy, Part.queues, Part.events, Part.out, Part.ser, Part.held] x3 a0 := by
    unfold a0
    exact State_passTo_agree.mono (by decide)
  clear_value a0
  have ha1 : Agree [Part.regs, Part.time, Part.copy, Part.queues, Part.events, Part.out, Part.ser, Part.held] x3 a1 := by
    unfold a1
    refine Agree.step ?_ State_pass_agree (by decide)
    assumption
  clear_value a1
  clear_value a2
  refine AgreeAns.ite ?_ ?_
  · refine AgreeAns.of_next ?_
    exact Agree.refl _ _
  · refine AgreeAns.ite ?_ ?_
    · refine AgreeAns.of_next ?_
      refine Agree.step ?_ setPort_agree (by decide)
      refine Agree.step ?_ State_put_agree (by decide)
      assumption
    · refine AgreeAns.ite ?_ ?_
      · refine AgreeAns.of_next ?_
        assumption
      · split
        · refine AgreeAns.of_next ?_
          refine Agree.step ?_ countErr_agree (by decide)
          assumption
        · refine AgreeAns.of_next ?_
          assumption
        · refine AgreeAns.of_next ?_
          refine Agree.step ?_ storeBreak_agree (by decide)
          assumption

theorem charRx_agree {x0 x1 x2 x3} :
    Agree [.regs, .queues, .events, .out, .ser, .held] x3 (charRx x0 x1 x2 x3) := by
  unfold charRx
  extract_lets a0 a1 a2 a3 a4
  clear_value a0
  clear_value a1
  clear_value a2
  have ha3 : Agree [Part.regs, Part.queues, Part.events, Part.out, Part.ser, Part.held] x3 a3 := by
    unfold a3
    exact setPort_agree.mono (by decide)
  clear_value a3
  have ha4 : Agree [Part.regs, Part.queues, Part.events, Part.out, Part.ser, Part.held] x3 a4 := by
    unfold a4
    refine Agree.step ?_ uartCause_agree (by decide)
    refine Agree.step ?_ countErr_agree (by decide)
    assumption
  clear_value a4
  refine Agree.ite ?_ ?_
  · refine Agree.step ?_ drain_agree (by decide)
    refine Agree.step ?_ rxStore_agree (by decide)
    assumption
  · refine Agree.ite ?_ ?_
    · refine Agree.step ?_ drain_agree (by decide)
      refine Agree.step ?_ rxStore_agree (by decide)
      assumption
    · assumption

theorem execUartCharRx_agree {x0 x1 x2 x3 x4 x5} :
    AgreeAns [.free, .regs, .time, .copy, .queues, .jobs, .events, .bulk, .out, .pwr, .ser, .held] x5 (execUartCharRx x0 x1 x2 x3 x4 x5) := by
  unfold execUartCharRx
  extract_lets a0
  have ha0 : Agree [Part.free, Part.regs, Part.time, Part.copy, Part.queues, Part.jobs, Part.events, Part.bulk, Part.out, Part.pwr,
  Part.ser, Part.held] x5 a0 := by
    unfold a0
    exact State_passTo_agree.mono (by decide)
  clear_value a0
  refine AgreeAns.ite ?_ ?_
  · refine AgreeAns.of_next ?_
    exact Agree.refl _ _
  · split
    · refine AgreeAns.of_next ?_
      refine Agree.step ?_ countErr_agree (by decide)
      assumption
    · refine AgreeAns.of_next ?_
      assumption
    · refine AgreeAns.ite ?_ ?_
      · refine AgreeAns.of_next ?_
        refine Agree.step ?_ frameByte_agree (by decide)
        assumption
      · refine AgreeAns.of_next ?_
        refine Agree.step ?_ charRx_agree (by decide)
        assumption

theorem execTxBreak_agree {x0 x1} :
    AgreeAns [.free, .regs, .jobs, .events, .out, .pwr, .ser, .held] x1 (execTxBreak x0 x1) := by
  unfold execTxBreak
  refine AgreeAns.of_next ?_
  exact serCommand_agree.mono (by decide)

theorem execUartRxdataPop_agree {x0 x1 x2} :
    AgreeAns [.regs, .queues, .events, .out, .ser, .held] x2 (execUartRxdataPop x0 x1 x2) := by
  unfold execUartRxdataPop
  refine AgreeAns.of_next ?_
  refine Agree.trans ?_ (filteredRead_agree (by decide) ?_)
  · exact Agree.refl _ _
  · intro y0
    exact rxdataPop_agree.mono (by decide)

theorem execUartRxIdle_agree {x0 x1} :
    AgreeAns [.regs, .time, .copy, .queues, .events, .out, .ser, .held] x1 (execUartRxIdle x0 x1) := by
  unfold execUartRxIdle
  extract_lets a0 a1
  clear_value a0
  have ha1 : Agree [Part.regs, Part.time, Part.copy, Part.queues, Part.events, Part.out, Part.ser, Part.held] x1 a1 := by
    unfold a1
    exact State_passTo_agree.mono (by decide)
  clear_value a1
  refine AgreeAns.ite ?_ ?_
  · refine AgreeAns.of_next ?_
    exact Agree.refl _ _
  · refine AgreeAns.of_next ?_
    refine Agree.step ?_ drain_agree (by decide)
    assumption

theorem execUartDeTailEnd_agree {x0 x1} :
    AgreeAns [.regs, .time, .copy, .ser] x1 (execUartDeTailEnd x0 x1) := by
  unfold execUartDeTailEnd
  split
  · refine AgreeAns.of_next ?_
    exact Agree.refl _ _
  · extract_lets a0 a1
    have ha0 : Agree [Part.regs, Part.time, Part.copy, Part.ser] x1 a0 := by
      unfold a0
      exact State_passTo_agree.mono (by decide)
    clear_value a0
    clear_value a1
    refine AgreeAns.of_next ?_
    refine Agree.step ?_ setPort_agree (by decide)
    refine Agree.step ?_ State_put_agree (by decide)
    assumption

theorem execUartTxdata_agree {x0 x1 x2 x3 x4} :
    AgreeAns [.regs, .events, .out, .ser, .held] x4 (execUartTxdata x0 x1 x2 x3 x4) := by
  unfold execUartTxdata
  refine AgreeAns.of_next ?_
  refine Agree.trans ?_ (filtered_agree (by decide) ?_)
  · exact Agree.refl _ _
  · intro y0
    exact txdataWrite_agree.mono (by decide)

theorem execSetResponse_agree {x0 x1} :
    AgreeAns [.free, .regs, .jobs, .events, .out, .pwr, .ser, .held] x1 (execSetResponse x0 x1) := by
  unfold execSetResponse
  refine AgreeAns.of_next ?_
  exact serCommand_agree.mono (by decide)

theorem execTxChars_agree {x0 x1} :
    AgreeAns [.free, .regs, .jobs, .events, .out, .pwr, .ser, .held] x1 (execTxChars x0 x1) := by
  unfold execTxChars
  refine AgreeAns.of_next ?_
  exact serCommand_agree.mono (by decide)

end Sys2Proof.Machine
end

