-- ==== Sys2Proof/Laws/Frame/RingPort.lean ====
section
/-!
SUPPORT. Which parts of the state each definition of Machine/RingPort.lean may change.
-/

namespace Sys2Proof.Machine

theorem setRing_agree {x0 x1} :
    Agree [.ser] x1 (setRing x0 x1) := by
  unfold setRing
  extract_lets a0
  clear_value a0
  refine Agree.mk' ?_ (by
    intro p hp
    cases p <;> first | exact (hp (by decide)).elim | rfl | exact ⟨rfl, rfl⟩ | exact ⟨rfl, rfl, rfl⟩)
  exact Agree.refl _ _

theorem endRingJob_agree {x0 x1} :
    Agree [.free, .jobs, .pwr, .ser] x1 (endRingJob x0 x1) := by
  unfold endRingJob
  extract_lets a0
  clear_value a0
  split
  · refine Agree.step ?_ serEnd_agree (by decide)
    exact setRing_agree.mono (by decide)
  · exact Agree.refl _ _

theorem ringCause_agree {x0 x1} :
    Agree [.regs, .events, .out, .held] x1 (ringCause x0 x1) := by
  unfold ringCause
  extract_lets a0
  have ha0 : Agree [Part.regs, Part.events, Part.out, Part.held] x1 a0 := by
    unfold a0
    exact State_put_agree.mono (by decide)
  clear_value a0
  refine Agree.ite ?_ ?_
  · refine Agree.step ?_ occur_agree (by decide)
    assumption
  · assumption

theorem closeBypass_agree {x0} :
    Agree [.regs, .events, .out, .ser, .held] x0 (closeBypass x0) := by
  unfold closeBypass
  extract_lets a0 a1
  clear_value a0
  have ha1 : Agree [Part.regs, Part.events, Part.out, Part.ser, Part.held] x0 a1 := by
    unfold a1
    refine Agree.step ?_ setRing_agree (by decide)
    exact State_put_agree.mono (by decide)
  clear_value a1
  refine Agree.ite ?_ ?_
  · refine Agree.step ?_ ringCause_agree (by decide)
    refine Agree.step ?_ State_put_agree (by decide)
    assumption
  · assumption

theorem ringIsland_agree {x0} :
    Agree [.free, .regs, .jobs, .events, .out, .pwr, .ser, .held] x0 (ringIsland x0) := by
  unfold ringIsland
  refine Agree.step ?_ endRingJob_agree (by decide)
  refine Agree.step ?_ State_put_agree (by decide)
  exact closeBypass_agree.mono (by decide)

theorem ringOwn_agree {x0 x1} :
    Agree [.free, .jobs, .pwr, .ser] x1 (ringOwn x0 x1) := by
  unfold ringOwn
  refine Agree.ite ?_ ?_
  · exact endRingJob_agree.mono (by decide)
  · exact Agree.refl _ _

theorem ringWrite_agree {x0 x1 x2} :
    Agree [.regs, .events, .out, .ser, .held] x2 (ringWrite x0 x1 x2) := by
  unfold ringWrite
  extract_lets a0 a1 a2
  clear_value a0
  have ha1 : Agree [Part.regs, Part.events, Part.out, Part.ser, Part.held] x2 a1 := by
    unfold a1
    exact State_wrTyped_agree.mono (by decide)
  clear_value a1
  clear_value a2
  refine Agree.ite ?_ ?_
  · refine Agree.ite ?_ ?_
    · refine Agree.step ?_ closeBypass_agree (by decide)
      assumption
    · assumption
  · refine Agree.ite ?_ ?_
    · assumption
    · refine Agree.ite ?_ ?_
      · refine Agree.step ?_ State_put_agree (by decide)
        refine Agree.step ?_ State_put_agree (by decide)
        assumption
      · refine Agree.step ?_ setRing_agree (by decide)
        assumption

theorem countRing_agree {x0 x1} :
    Agree [.regs, .events, .out, .held] x1 (countRing x0 x1) := by
  unfold countRing
  refine Agree.trans ?_ (bumpStat_agree (by decide) ?_)
  · exact Agree.refl _ _
  · intro y0
    exact serOvf_agree.mono (by decide)

theorem execRingInsert_agree {x0} :
    AgreeAns [.time, .copy, .out, .ser] x0 (execRingInsert x0) := by
  unfold execRingInsert
  extract_lets a0 a1
  have ha0 : Agree [Part.time, Part.copy, Part.out, Part.ser] x0 a0 := by
    unfold a0
    exact State_passTo_agree.mono (by decide)
  clear_value a0
  clear_value a1
  split
  · refine AgreeAns.of_next ?_
    exact Agree.refl _ _
  · refine AgreeAns.ite ?_ ?_
    · refine AgreeAns.of_next ?_
      exact Agree.refl _ _
    · split
      · refine AgreeAns.of_next ?_
        exact Agree.refl _ _
      · extract_lets a2
        clear_value a2
        refine AgreeAns.of_next ?_
        refine Agree.step ?_ State_emit_agree (by decide)
        refine Agree.step ?_ setRing_agree (by decide)
        assumption

theorem execRingStuck_agree {x0} :
    AgreeAns [.regs, .events, .out, .held] x0 (execRingStuck x0) := by
  unfold execRingStuck
  refine AgreeAns.ite ?_ ?_
  · refine AgreeAns.of_next ?_
    exact Agree.refl _ _
  · refine AgreeAns.of_next ?_
    refine Agree.step ?_ ringCause_agree (by decide)
    exact State_put_agree.mono (by decide)

theorem ringCopy_agree {x0 x1} :
    Agree [.free, .regs, .queues, .events, .bulk, .out, .held] x1 (ringCopy x0 x1) := by
  unfold ringCopy
  extract_lets a0 a1 a2
  clear_value a0
  clear_value a1
  clear_value a2
  refine Agree.ite ?_ ?_
  · exact countRing_agree.mono (by decide)
  · refine Agree.step ?_ ringCause_agree (by decide)
    refine Agree.step ?_ countRing_agree (by decide)
    refine Agree.step ?_ frameDeliver_agree (by decide)
    exact State_drew_agree.mono (by decide)

theorem ringJudge_agree {x0 x1} :
    Agree [.free, .regs, .queues, .events, .bulk, .out, .held] x1 (ringJudge x0 x1) := by
  unfold ringJudge
  refine Agree.ite ?_ ?_
  · refine Agree.step ?_ ringCause_agree (by decide)
    exact countRing_agree.mono (by decide)
  · refine Agree.ite ?_ ?_
    · refine Agree.step ?_ ringCause_agree (by decide)
      exact countRing_agree.mono (by decide)
    · refine Agree.ite ?_ ?_
      · exact ringCopy_agree.mono (by decide)
      · exact Agree.refl _ _

theorem ringRemove_agree {x0 x1} :
    Agree [.out] x1 (ringRemove x0 x1) := by
  unfold ringRemove
  refine Agree.ite ?_ ?_
  · exact Agree.refl _ _
  · exact State_emit_agree.mono (by decide)

theorem ringForward_agree {x0 x1} :
    Agree [.out, .ser] x1 (ringForward x0 x1) := by
  unfold ringForward
  extract_lets a0 a1
  clear_value a0
  have ha1 : Agree [Part.out, Part.ser] x1 a1 := by
    unfold a1
    refine Agree.ite ?_ ?_
    · exact setRing_agree.mono (by decide)
    · exact Agree.refl _ _
  clear_value a1
  refine Agree.step ?_ State_emit_agree (by decide)
  assumption

theorem ringPass_agree {x0 x1} :
    Agree [.free, .regs, .jobs, .events, .out, .pwr, .ser, .held] x1 (ringPass x0 x1) := by
  unfold ringPass
  refine Agree.ite ?_ ?_
  · refine Agree.step ?_ ringOwn_agree (by decide)
    exact ringRemove_agree.mono (by decide)
  · refine Agree.ite ?_ ?_
    · exact Agree.refl _ _
    · refine Agree.ite ?_ ?_
      · refine Agree.step ?_ ringCause_agree (by decide)
        refine Agree.step ?_ countRing_agree (by decide)
        exact ringRemove_agree.mono (by decide)
      · exact ringForward_agree.mono (by decide)

theorem execRingFrameRx_agree {x0 x1 x2} :
    AgreeAns [.free, .regs, .time, .copy, .queues, .jobs, .events, .bulk, .out, .pwr, .ser, .held] x2 (execRingFrameRx x0 x1 x2) := by
  unfold execRingFrameRx
  extract_lets a0 a1 a2
  have ha0 : Agree [Part.free, Part.regs, Part.time, Part.copy, Part.queues, Part.jobs, Part.events, Part.bulk, Part.out, Part.pwr,
  Part.ser, Part.held] x2 a0 := by
    unfold a0
    exact State_passTo_agree.mono (by decide)
  clear_value a0
  clear_value a1
  have ha2 : Agree [Part.free, Part.regs, Part.time, Part.copy, Part.queues, Part.jobs, Part.events, Part.bulk, Part.out, Part.pwr,
  Part.ser, Part.held] x2 a2 := by
    unfold a2
    refine Agree.step ?_ setRing_agree (by decide)
    refine Agree.step ?_ State_put_agree (by decide)
    refine Agree.step ?_ State_put_agree (by decide)
    assumption
  clear_value a2
  refine AgreeAns.ite ?_ ?_
  · refine AgreeAns.of_next ?_
    exact Agree.refl _ _
  · refine AgreeAns.of_next ?_
    refine Agree.step ?_ ringJudge_agree (by decide)
    refine Agree.step ?_ ringPass_agree (by decide)
    assumption

theorem execRingEnable_agree {x0 x1 x2 x3} :
    AgreeAns [.regs, .events, .out, .ser, .held] x3 (execRingEnable x0 x1 x2 x3) := by
  unfold execRingEnable
  refine AgreeAns.ite ?_ ?_
  · refine AgreeAns.of_next ?_
    refine Agree.trans ?_ (filtered_agree (by decide) ?_)
    · exact Agree.refl _ _
    · intro y0
      refine Agree.trans ?_ (lineDieWrite_agree (by decide) ?_)
      · exact Agree.refl _ _
      · intro y1
        exact ringWrite_agree.mono (by decide)
  · refine AgreeAns.of_next ?_
    exact Agree.refl _ _

theorem execRingDisable_agree {x0 x1 x2 x3} :
    AgreeAns [.regs, .events, .out, .ser, .held] x3 (execRingDisable x0 x1 x2 x3) := by
  unfold execRingDisable
  refine AgreeAns.ite ?_ ?_
  · refine AgreeAns.of_next ?_
    refine Agree.trans ?_ (filtered_agree (by decide) ?_)
    · exact Agree.refl _ _
    · intro y0
      refine Agree.trans ?_ (lineDieWrite_agree (by decide) ?_)
      · exact Agree.refl _ _
      · intro y1
        exact ringWrite_agree.mono (by decide)
  · refine AgreeAns.of_next ?_
    exact Agree.refl _ _

theorem openBypass_agree {x0} :
    Agree [.regs, .events, .out, .ser, .held] x0 (openBypass x0) := by
  unfold openBypass
  extract_lets a0
  clear_value a0
  refine Agree.step ?_ ringCause_agree (by decide)
  refine Agree.step ?_ State_put_agree (by decide)
  exact setRing_agree.mono (by decide)

theorem execRingBypassOpen_agree {x0} :
    AgreeAns [.regs, .time, .copy, .events, .out, .ser, .held] x0 (execRingBypassOpen x0) := by
  unfold execRingBypassOpen
  refine AgreeAns.ite ?_ ?_
  · refine AgreeAns.of_next ?_
    refine Agree.step ?_ openBypass_agree (by decide)
    exact State_passTo_agree.mono (by decide)
  · refine AgreeAns.of_next ?_
    exact Agree.refl _ _

theorem execRingSilent_agree {x0} :
    AgreeAns [.regs, .time, .copy, .events, .out, .held] x0 (execRingSilent x0) := by
  unfold execRingSilent
  extract_lets a0
  have ha0 : Agree [Part.regs, Part.time, Part.copy, Part.events, Part.out, Part.held] x0 a0 := by
    unfold a0
    exact State_passTo_agree.mono (by decide)
  clear_value a0
  refine AgreeAns.ite ?_ ?_
  · refine AgreeAns.of_next ?_
    exact Agree.refl _ _
  · refine AgreeAns.of_next ?_
    refine Agree.step ?_ ringCause_agree (by decide)
    refine Agree.step ?_ State_put_agree (by decide)
    assumption

theorem execRingReturnTimeout_agree {x0} :
    AgreeAns [.free, .time, .copy, .jobs, .pwr, .ser] x0 (execRingReturnTimeout x0) := by
  unfold execRingReturnTimeout
  split
  · refine AgreeAns.of_next ?_
    refine Agree.step ?_ endRingJob_agree (by decide)
    exact State_passTo_agree.mono (by decide)
  · refine AgreeAns.of_next ?_
    exact Agree.refl _ _

end Sys2Proof.Machine
end

