-- ==== Sys2Proof/Laws/Frame/View.lean ====
section
/-!
SUPPORT. Which parts of the state each definition of Machine/View.lean may change.
-/

namespace Sys2Proof.Machine

theorem mirrorNow_agree {x0} :
    Agree [.tnl] x0 (mirrorNow x0) := by
  unfold mirrorNow
  extract_lets a0 a1
  clear_value a0
  refine Agree.mk' ?_ (by
    intro p hp
    cases p <;> first | exact (hp (by decide)).elim | rfl | exact ⟨rfl, rfl⟩ | exact ⟨rfl, rfl, rfl⟩)
  exact Agree.refl _ _

theorem setCapture_agree {x0 x1 x2 x3} :
    Agree [.caps] x3 (setCapture x0 x1 x2 x3) := by
  unfold setCapture
  refine Agree.mk' ?_ (by
    intro p hp
    cases p <;> first | exact (hp (by decide)).elim | rfl | exact ⟨rfl, rfl⟩ | exact ⟨rfl, rfl, rfl⟩)
  exact Agree.refl _ _

theorem captureRead_agree {x0 x1 x2} :
    Agree [.caps] x2 (captureRead x0 x1 x2) := by
  unfold captureRead
  refine Agree.foldl ?_ ?_
  · intro y0
    intro y1
    exact setCapture_agree.mono (by decide)
  · exact Agree.refl _ _

theorem ctlRead_agree {x0 x1 x2} :
    AgreeFst [.regs, .queues, .events, .out, .ser, .held, .caps] x2 (ctlRead x0 x1 x2) := by
  unfold ctlRead
  extract_lets a0 a1
  clear_value a0
  have ha1 : Agree [Part.regs, Part.queues, Part.events, Part.out, Part.ser, Part.held, Part.caps] x2 a1 := by
    unfold a1
    exact captureRead_agree.mono (by decide)
  clear_value a1
  split
  · refine AgreeFst.mk ?_
    exact Agree.refl _ _
  · split
    · refine AgreeFst.ite ?_ ?_
      · refine AgreeFst.mk ?_
        refine Agree.step ?_ rxdataPop_agree (by decide)
        assumption
      · refine AgreeFst.mk ?_
        assumption
    · refine AgreeFst.mk ?_
      exact Agree.refl _ _
    · refine AgreeFst.mk ?_
      exact violation_agree.mono (by decide)

theorem execCapturingRead_agree {x0 x1 x2} :
    AgreeAns [.regs, .queues, .events, .out, .ser, .held, .caps] x2 (execCapturingRead x0 x1 x2) := by
  unfold execCapturingRead
  extract_lets a0
  refine AgreeAns.of_next ?_
  refine Agree.step ?_ State_emit_agree (by decide)
  exact ctlRead_agree.mono (by decide)

end Sys2Proof.Machine
end

