-- ==== Sys2Proof/Laws/Frame/Standby.lean ====
section
/-!
SUPPORT. Which parts of the state each definition of Machine/Standby.lean may change.
-/

namespace Sys2Proof.Machine

theorem enterStandby_agree {x0} :
    Agree [.regs, .pwr, .tnl] x0 (enterStandby x0) := by
  unfold enterStandby
  extract_lets a0 a1 a2
  have ha0 : Agree [Part.regs, Part.pwr, Part.tnl] x0 a0 := by
    unfold a0
    exact State_put_agree.mono (by decide)
  clear_value a1
  have ha2 : Agree [Part.regs, Part.pwr, Part.tnl] x0 a2 := by
    unfold a2
    refine Agree.mk' ?_ (by
      intro p hp
      cases p <;> first | exact (hp (by decide)).elim | rfl | exact ⟨rfl, rfl⟩ | exact ⟨rfl, rfl, rfl⟩)
    unfold a0
    exact State_put_agree.mono (by decide)
  refine Agree.ite ?_ ?_
  · exact Agree.refl _ _
  · refine Agree.ite ?_ ?_
    · exact State_put_agree.mono (by decide)
    · refine Agree.ite ?_ ?_
      · refine Agree.step ?_ State_put_agree (by decide)
        refine Agree.step ?_ mirrorNow_agree (by decide)
        unfold a2
        refine Agree.mk' ?_ (by
          intro p hp
          cases p <;> first | exact (hp (by decide)).elim | rfl | exact ⟨rfl, rfl⟩ | exact ⟨rfl, rfl, rfl⟩)
        unfold a0
        exact State_put_agree.mono (by decide)
      · unfold a2
        refine Agree.mk' ?_ (by
          intro p hp
          cases p <;> first | exact (hp (by decide)).elim | rfl | exact ⟨rfl, rfl⟩ | exact ⟨rfl, rfl, rfl⟩)
        unfold a0
        exact State_put_agree.mono (by decide)

theorem wakeClocks_agree {x0} :
    Agree [.regs, .time, .copy] x0 (wakeClocks x0) := by
  unfold wakeClocks
  refine Agree.step ?_ State_put_agree (by decide)
  exact State_pass_agree.mono (by decide)

theorem copyStale_agree {x0} :
    Agree [.regs, .plmb] x0 (copyStale x0) := by
  unfold copyStale
  extract_lets a0 a1
  have ha0 : Agree [Part.regs, Part.plmb] x0 a0 := by
    unfold a0
    exact State_put_agree.mono (by decide)
  clear_value a0
  clear_value a1
  refine Agree.mk' ?_ (by
    intro p hp
    cases p <;> first | exact (hp (by decide)).elim | rfl | exact ⟨rfl, rfl⟩ | exact ⟨rfl, rfl, rfl⟩)
  assumption

theorem unparkLink_agree {x0} :
    Agree [.regs, .events, .out, .held, .tnl] x0 (unparkLink x0) := by
  unfold unparkLink
  refine Agree.ite ?_ ?_
  · refine Agree.step ?_ deliverHeld_agree (by decide)
    exact State_put_agree.mono (by decide)
  · exact Agree.refl _ _

theorem leaveStandby_agree {x0} :
    Agree [.regs, .time, .copy, .queues, .events, .out, .pwr, .plmb, .ser, .held, .tnl] x0 (leaveStandby x0) := by
  unfold leaveStandby
  extract_lets a0 a1 a2
  have ha0 : Agree [Part.regs, Part.time, Part.copy, Part.queues, Part.events, Part.out, Part.pwr, Part.plmb, Part.ser, Part.held,
  Part.tnl] x0 a0 := by
    unfold a0
    exact wakeClocks_agree.mono (by decide)
  clear_value a0
  clear_value a1
  have ha2 : Agree [Part.regs, Part.time, Part.copy, Part.queues, Part.events, Part.out, Part.pwr, Part.plmb, Part.ser, Part.held,
  Part.tnl] x0 a2 := by
    unfold a2
    refine Agree.mk' ?_ (by
      intro p hp
      cases p <;> first | exact (hp (by decide)).elim | rfl | exact ⟨rfl, rfl⟩ | exact ⟨rfl, rfl, rfl⟩)
    assumption
  clear_value a2
  refine Agree.ite ?_ ?_
  · exact Agree.refl _ _
  · refine Agree.step ?_ drainAll_agree (by decide)
    refine Agree.step ?_ plumbWake_agree (by decide)
    refine Agree.step ?_ copyStale_agree (by decide)
    refine Agree.step ?_ unparkLink_agree (by decide)
    assumption

theorem pwrCmd_agree {x0 x1} :
    Agree [.free, .regs, .time, .copy, .queues, .jobs, .events, .out, .threads, .pwr, .ncp, .nand, .stor, .line, .radio, .plmb, .ser, .held, .tnl] x1 (pwrCmd x0 x1) := by
  unfold pwrCmd
  split
  · exact lgEnter_agree.mono (by decide)
  · exact lgExit_agree.mono (by decide)
  · exact enterStandby_agree.mono (by decide)
  · exact leaveStandby_agree.mono (by decide)
  · exact Agree.refl _ _

theorem execStandby_agree {x0 x1} :
    AgreeAns [.free, .regs, .time, .copy, .queues, .jobs, .events, .out, .threads, .pwr, .ncp, .nand, .stor, .line, .radio, .plmb, .ser, .held, .tnl] x1 (execStandby x0 x1) := by
  unfold execStandby
  refine AgreeAns.of_next ?_
  refine Agree.trans ?_ (filtered_agree (by decide) ?_)
  · exact Agree.refl _ _
  · intro y0
    exact pwrCmd_agree.mono (by decide)

theorem execWake_agree {x0 x1} :
    AgreeAns [.free, .regs, .time, .copy, .queues, .jobs, .events, .out, .threads, .pwr, .ncp, .nand, .stor, .line, .radio, .plmb, .ser, .held, .tnl] x1 (execWake x0 x1) := by
  unfold execWake
  refine AgreeAns.of_next ?_
  refine Agree.trans ?_ (filtered_agree (by decide) ?_)
  · exact Agree.refl _ _
  · intro y0
    exact pwrCmd_agree.mono (by decide)

theorem execExit_agree {x0 x1} :
    AgreeAns [.free, .regs, .time, .copy, .queues, .jobs, .events, .out, .threads, .pwr, .ncp, .nand, .stor, .line, .radio, .plmb, .ser, .held, .tnl] x1 (execExit x0 x1) := by
  unfold execExit
  refine AgreeAns.of_next ?_
  refine Agree.trans ?_ (filtered_agree (by decide) ?_)
  · exact Agree.refl _ _
  · intro y0
    exact pwrCmd_agree.mono (by decide)

theorem execLastGasp_agree {x0 x1} :
    AgreeAns [.free, .regs, .time, .copy, .queues, .jobs, .events, .out, .threads, .pwr, .ncp, .nand, .stor, .line, .radio, .plmb, .ser, .held, .tnl] x1 (execLastGasp x0 x1) := by
  unfold execLastGasp
  refine AgreeAns.of_next ?_
  refine Agree.trans ?_ (filtered_agree (by decide) ?_)
  · exact Agree.refl _ _
  · intro y0
    exact pwrCmd_agree.mono (by decide)

end Sys2Proof.Machine
end

