-- ==== Sys2Proof/Laws/Frame/Jobs.lean ====
section
/-!
SUPPORT. Which parts of the state each definition of Machine/Jobs.lean may change.
-/

namespace Sys2Proof.Machine

theorem judgeWaiting_agree {x0 x1} :
    Agree [.free, .regs, .queues, .events, .bulk, .out, .threads, .pwr, .ncp, .line, .radio, .held] x1 (judgeWaiting x0 x1) := by
  unfold judgeWaiting
  extract_lets a0 a1 a2
  clear_value a0
  clear_value a1
  have ha2 : Agree [Part.free, Part.regs, Part.queues, Part.events, Part.bulk, Part.out, Part.threads, Part.pwr, Part.ncp, Part.line,
  Part.radio, Part.held] x1 a2 := by
    unfold a2
    refine Agree.mk' ?_ (by
      intro p hp
      cases p <;> first | exact (hp (by decide)).elim | rfl | exact ⟨rfl, rfl⟩ | exact ⟨rfl, rfl, rfl⟩)
    exact Agree.refl _ _
  clear_value a2
  refine Agree.step ?_ settleWindows_agree (by decide)
  refine Agree.foldl ?_ ?_
  · intro y3
    intro y4
    refine Agree.step ?_ unhold_agree (by decide)
    exact judgeCtx_agree.mono (by decide)
  · assumption

theorem applyWaiting_agree {x0 x1} :
    Agree [.regs, .events, .out, .ncp, .line, .radio, .held] x1 (applyWaiting x0 x1) := by
  unfold applyWaiting
  extract_lets a0 a1 a2
  clear_value a0
  clear_value a1
  have ha2 : Agree [Part.regs, Part.events, Part.out, Part.ncp, Part.line, Part.radio, Part.held] x1 a2 := by
    unfold a2
    refine Agree.mk' ?_ (by
      intro p hp
      cases p <;> first | exact (hp (by decide)).elim | rfl | exact ⟨rfl, rfl⟩ | exact ⟨rfl, rfl, rfl⟩)
    exact Agree.refl _ _
  clear_value a2
  refine Agree.foldl ?_ ?_
  · intro y3
    intro y4
    exact applyUpd_agree.mono (by decide)
  · assumption

theorem contextArrived_agree {x0 x1} :
    Agree [.free, .regs, .queues, .events, .bulk, .out, .threads, .pwr, .ncp, .nand, .line, .radio, .held] x1 (contextArrived x0 x1) := by
  unfold contextArrived
  extract_lets a0
  have ha0 : Agree [Part.free, Part.regs, Part.queues, Part.events, Part.bulk, Part.out, Part.threads, Part.pwr, Part.ncp, Part.nand,
  Part.line, Part.radio, Part.held] x1 a0 := by
    unfold a0
    refine Agree.step ?_ prepareAll_agree (by decide)
    refine Agree.step ?_ judgeWaiting_agree (by decide)
    refine Agree.step ?_ applyWaiting_agree (by decide)
    exact insertRecord_agree.mono (by decide)
  clear_value a0
  refine Agree.foldl ?_ ?_
  · intro y1
    intro y2
    exact pageResume_agree.mono (by decide)
  · assumption

theorem execJournalFlushed_agree {x0} :
    AgreeAns [.regs, .events, .out, .ncp, .nand, .stor, .held] x0 (execJournalFlushed x0) := by
  unfold execJournalFlushed
  extract_lets a0 a1 a2
  have ha0 : Agree [Part.regs, Part.events, Part.out, Part.ncp, Part.nand, Part.stor, Part.held] x0 a0 := by
    unfold a0
    exact commitJournal_agree.mono (by decide)
  clear_value a0
  clear_value a1
  have ha2 : Agree [Part.regs, Part.events, Part.out, Part.ncp, Part.nand, Part.stor, Part.held] x0 a2 := by
    unfold a2
    refine Agree.mk' ?_ (by
      intro p hp
      cases p <;> first | exact (hp (by decide)).elim | rfl | exact ⟨rfl, rfl⟩ | exact ⟨rfl, rfl, rfl⟩)
    assumption
  clear_value a2
  refine AgreeAns.ite ?_ ?_
  · refine AgreeAns.of_next ?_
    exact Agree.refl _ _
  · refine AgreeAns.of_next ?_
    refine Agree.step ?_ occur_agree (by decide)
    refine Agree.step ?_ State_put_agree (by decide)
    assumption

theorem execStorageMount_agree {x0 x1} :
    AgreeAns [.regs, .rst, .events, .out, .ncp, .nand, .stor, .held] x1 (execStorageMount x0 x1) := by
  unfold execStorageMount
  extract_lets a0 a1 a2
  have ha0 : Agree [Part.regs, Part.rst, Part.events, Part.out, Part.ncp, Part.nand, Part.stor, Part.held] x1 a0 := by
    unfold a0
    exact showTargets_agree.mono (by decide)
  clear_value a0
  clear_value a1
  have ha2 : Agree [Part.regs, Part.rst, Part.events, Part.out, Part.ncp, Part.nand, Part.stor, Part.held] x1 a2 := by
    unfold a2
    refine Agree.mk' ?_ (by
      intro p hp
      cases p <;> first | exact (hp (by decide)).elim | rfl | exact ⟨rfl, rfl⟩ | exact ⟨rfl, rfl, rfl⟩)
    assumption
  clear_value a2
  refine AgreeAns.ite ?_ ?_
  · refine AgreeAns.of_next ?_
    exact Agree.refl _ _
  · refine AgreeAns.ite ?_ ?_
    · refine AgreeAns.of_next ?_
      refine Agree.step ?_ mountStorage_agree (by decide)
      assumption
    · refine AgreeAns.of_next ?_
      refine Agree.step ?_ State_put_agree (by decide)
      assumption

theorem yieldOp_agree {x0 x1} :
    Agree [.regs, .events, .out, .stor, .held] x1 (yieldOp x0 x1) := by
  unfold yieldOp
  extract_lets a0
  clear_value a0
  split
  · refine Agree.ite ?_ ?_
    · refine Agree.trans ?_ (bumpStat_agree (by decide) ?_)
      · refine Agree.mk' ?_ (by
          intro p hp
          cases p <;> first | exact (hp (by decide)).elim | rfl | exact ⟨rfl, rfl⟩ | exact ⟨rfl, rfl, rfl⟩)
        exact Agree.refl _ _
      · intro y1
        exact storOvf_agree.mono (by decide)
    · exact Agree.refl _ _
  · exact Agree.refl _ _

theorem contextFailed_agree {x0 x1} :
    Agree [.regs, .events, .out, .threads, .ncp, .line, .held] x1 (contextFailed x0 x1) := by
  unfold contextFailed
  extract_lets a0 a1 a2 a3
  clear_value a0
  clear_value a1
  have ha2 : Agree [Part.regs, Part.events, Part.out, Part.threads, Part.ncp, Part.line, Part.held] x1 a2 := by
    unfold a2
    refine Agree.mk' ?_ (by
      intro p hp
      cases p <;> first | exact (hp (by decide)).elim | rfl | exact ⟨rfl, rfl⟩ | exact ⟨rfl, rfl, rfl⟩)
    exact Agree.refl _ _
  clear_value a2
  have ha3 : Agree [Part.regs, Part.events, Part.out, Part.threads, Part.ncp, Part.line, Part.held] x1 a3 := by
    unfold a3
    refine Agree.step ?_ occur_agree (by decide)
    refine Agree.trans ?_ (bumpStat_agree (by decide) ?_)
    · assumption
    · intro y4
      exact ncpOvf_agree.mono (by decide)
  clear_value a3
  refine Agree.foldl ?_ ?_
  · intro y5
    intro y6
    exact pageResume_agree.mono (by decide)
  · assumption

theorem execContextFillDone_agree {x0 x1 x2 x3} :
    AgreeAns [.free, .regs, .queues, .events, .bulk, .out, .threads, .pwr, .ncp, .nand, .stor, .line, .radio, .held] x3 (execContextFillDone x0 x1 x2 x3) := by
  unfold execContextFillDone
  split
  · refine AgreeAns.of_next ?_
    exact Agree.refl _ _
  · extract_lets a0
    have ha0 : Agree [Part.free, Part.regs, Part.queues, Part.events, Part.bulk, Part.out, Part.threads, Part.pwr, Part.ncp, Part.nand,
  Part.stor, Part.line, Part.radio, Part.held] x3 a0 := by
      unfold a0
      refine Agree.step ?_ issueReads_agree (by decide)
      refine Agree.step ?_ dropMiss_agree (by decide)
      refine Agree.step ?_ missEnd_agree (by decide)
      refine Agree.step ?_ nandRead_agree (by decide)
      exact yieldOp_agree.mono (by decide)
    clear_value a0
    refine AgreeAns.ite ?_ ?_
    · refine AgreeAns.of_next ?_
      exact Agree.refl _ _
    · refine AgreeAns.ite ?_ ?_
      · refine AgreeAns.of_next ?_
        refine Agree.step ?_ contextFailed_agree (by decide)
        refine Agree.step ?_ dropMiss_agree (by decide)
        exact missEnd_agree.mono (by decide)
      · refine AgreeAns.ite ?_ ?_
        · refine AgreeAns.of_next ?_
          exact Agree.refl _ _
        · refine AgreeAns.of_next ?_
          refine Agree.ite ?_ ?_
          · refine Agree.step ?_ contextArrived_agree (by decide)
            assumption
          · refine Agree.step ?_ contextFailed_agree (by decide)
            assumption

theorem execJournalCommit_agree {x0} :
    AgreeAns [.regs, .events, .out, .threads, .pwr, .ncp, .nand, .stor, .radio, .held] x0 (execJournalCommit x0) := by
  unfold execJournalCommit
  extract_lets a0 a1
  have ha0 : Agree [Part.regs, Part.events, Part.out, Part.threads, Part.pwr, Part.ncp, Part.nand, Part.stor, Part.radio, Part.held] x0 a0 := by
    unfold a0
    exact commitJournal_agree.mono (by decide)
  clear_value a0
  clear_value a1
  refine AgreeAns.ite ?_ ?_
  · refine AgreeAns.of_next ?_
    exact Agree.refl _ _
  · refine AgreeAns.of_next ?_
    refine Agree.step ?_ prepareAll_agree (by decide)
    refine Agree.mk' ?_ (by
      intro p hp
      cases p <;> first | exact (hp (by decide)).elim | rfl | exact ⟨rfl, rfl⟩ | exact ⟨rfl, rfl, rfl⟩)
    assumption

theorem execUnitTake_agree {x0 x1} :
    AgreeAns [.regs, .queues, .jobs, .events, .out, .held] x1 (execUnitTake x0 x1) := by
  unfold execUnitTake
  refine AgreeAns.ite ?_ ?_
  · refine AgreeAns.of_next ?_
    exact Agree.refl _ _
  · split
    · refine AgreeAns.of_next ?_
      exact takeFrom_agree.mono (by decide)
    · refine AgreeAns.of_next ?_
      exact Agree.refl _ _

end Sys2Proof.Machine
end

