-- ==== Sys2Proof/Laws/Frame/Scrub.lean ====
section
/-!
SUPPORT. Which parts of the state each definition of Machine/Scrub.lean may change.
-/

namespace Sys2Proof.Machine

theorem suspendErases_agree {x0 x1 x2} :
    Agree [.stor] x2 (suspendErases x0 x1 x2) := by
  unfold suspendErases
  extract_lets a0
  clear_value a0
  refine Agree.mk' ?_ (by
    intro p hp
    cases p <;> first | exact (hp (by decide)).elim | rfl | exact ⟨rfl, rfl⟩ | exact ⟨rfl, rfl, rfl⟩)
  exact Agree.refl _ _

theorem execDrawerResetRelease_agree {x0 x1} :
    AgreeAns [.regs, .rst, .pwr, .stor] x1 (execDrawerResetRelease x0 x1) := by
  unfold execDrawerResetRelease
  extract_lets a0 a1 a2 a3 a4
  clear_value a0
  clear_value a1
  have ha2 : Agree [Part.regs, Part.rst, Part.pwr, Part.stor] x1 a2 := by
    unfold a2
    refine Agree.mk' ?_ (by
      intro p hp
      cases p <;> first | exact (hp (by decide)).elim | rfl | exact ⟨rfl, rfl⟩ | exact ⟨rfl, rfl, rfl⟩)
    exact Agree.refl _ _
  clear_value a2
  clear_value a3
  have ha4 : Agree [Part.regs, Part.rst, Part.pwr, Part.stor] x1 a4 := by
    unfold a4
    refine Agree.step ?_ suspendErases_agree (by decide)
    refine Agree.mk' ?_ (by
      intro p hp
      cases p <;> first | exact (hp (by decide)).elim | rfl | exact ⟨rfl, rfl⟩ | exact ⟨rfl, rfl, rfl⟩)
    assumption
  clear_value a4
  refine AgreeAns.ite ?_ ?_
  · refine AgreeAns.of_next ?_
    assumption
  · refine AgreeAns.of_next ?_
    refine Agree.step ?_ State_put_agree (by decide)
    assumption

theorem dropAtt_agree {x0 x1} :
    Agree [.att] x1 (dropAtt x0 x1) := by
  unfold dropAtt
  extract_lets a0
  clear_value a0
  refine Agree.mk' ?_ (by
    intro p hp
    cases p <;> first | exact (hp (by decide)).elim | rfl | exact ⟨rfl, rfl⟩ | exact ⟨rfl, rfl, rfl⟩)
  exact Agree.refl _ _

theorem dropRegs_agree {x0 x1 x2} :
    Agree [.regs] x2 (dropRegs x0 x1 x2) := by
  unfold dropRegs
  refine Agree.mk' ?_ (by
    intro p hp
    cases p <;> first | exact (hp (by decide)).elim | rfl | exact ⟨rfl, rfl⟩ | exact ⟨rfl, rfl, rfl⟩)
  exact Agree.refl _ _

theorem scrubUart_agree {x0 x1} :
    Agree [.free, .regs, .jobs, .pwr, .ser] x1 (scrubUart x0 x1) := by
  unfold scrubUart
  extract_lets a0 a1
  have ha0 : Agree [Part.free, Part.regs, Part.jobs, Part.pwr, Part.ser] x1 a0 := by
    unfold a0
    refine Agree.step ?_ uartClear_agree (by decide)
    exact endPortJob_agree.mono (by decide)
  clear_value a0
  have ha1 : Agree [Part.free, Part.regs, Part.jobs, Part.pwr, Part.ser] x1 a1 := by
    unfold a1
    refine Agree.step ?_ dropRegs_agree (by decide)
    refine Agree.step ?_ dropRegs_agree (by decide)
    assumption
  clear_value a1
  refine Agree.step ?_ State_put_agree (by decide)
  assumption

theorem wipeQueue_agree {x0 x1} :
    Agree [.regs, .queues, .jobs, .threads] x1 (wipeQueue x0 x1) := by
  unfold wipeQueue
  extract_lets a0
  have ha0 : Agree [Part.regs, Part.queues, Part.jobs, Part.threads] x1 a0 := by
    unfold a0
    refine Agree.step ?_ orphanPair_agree (by decide)
    refine Agree.step ?_ orphanJobs_agree (by decide)
    exact State_setQueue_agree.mono (by decide)
  clear_value a0
  refine Agree.step ?_ wakeDeqOff_agree (by decide)
  refine Agree.step ?_ dropRegs_agree (by decide)
  assumption

theorem scrubQueue_agree {x0 x1} :
    Agree [.regs, .queues, .jobs, .events, .out, .threads, .held] x1 (scrubQueue x0 x1) := by
  unfold scrubQueue
  refine Agree.step ?_ wipeQueue_agree (by decide)
  refine Agree.foldl ?_ ?_
  · intro y0
    intro y1
    refine Agree.ite ?_ ?_
    · exact Agree.refl _ _
    · exact disableQueue_agree.mono (by decide)
  · exact Agree.refl _ _

theorem forgetFault_agree {x0 x1} :
    Agree [.regs] x1 (forgetFault x0 x1) := by
  unfold forgetFault
  refine Agree.step ?_ State_resetReg_agree (by decide)
  exact State_resetReg_agree.mono (by decide)

theorem scrubThread_agree {x0 x1} :
    Agree [.free, .regs, .events, .out, .threads, .pwr, .ncp, .radio, .held] x1 (scrubThread x0 x1) := by
  unfold scrubThread
  refine Agree.step ?_ clearProg_agree (by decide)
  exact unloadThread_agree.mono (by decide)

theorem scrubChk_agree {x0 x1} :
    Agree [.regs, .ser] x1 (scrubChk x0 x1) := by
  unfold scrubChk
  refine Agree.step ?_ dropRegs_agree (by decide)
  exact chkClear_agree.mono (by decide)

theorem scrubPin_agree {x0 x1} :
    Agree [.regs] x1 (scrubPin x0 x1) := by
  unfold scrubPin
  refine Agree.foldUpto ?_ ?_
  · intro y0
    intro y1
    refine Agree.ite ?_ ?_
    · exact State_put_agree.mono (by decide)
    · exact Agree.refl _ _
  · exact Agree.refl _ _

theorem scrubEntry_agree {x0 x1 x2} :
    Agree [.free, .regs, .queues, .jobs, .events, .out, .threads, .pwr, .ciph, .ncp, .nand, .stor, .radio, .ser, .held] x2 (scrubEntry x0 x1 x2) := by
  unfold scrubEntry
  refine Agree.ite ?_ ?_
  · exact scrubQueue_agree.mono (by decide)
  · refine Agree.ite ?_ ?_
    · exact emptyKey_agree.mono (by decide)
    · refine Agree.ite ?_ ?_
      · refine Agree.step ?_ forgetFault_agree (by decide)
        exact scrubThread_agree.mono (by decide)
      · refine Agree.ite ?_ ?_
        · exact discardNsKey_agree.mono (by decide)
        · refine Agree.ite ?_ ?_
          · refine Agree.ite ?_ ?_
            · exact scrubChk_agree.mono (by decide)
            · exact scrubUart_agree.mono (by decide)
          · exact scrubPin_agree.mono (by decide)

theorem ownBusy_agree {x0} :
    Agree [.regs] x0 (ownBusy x0) := by
  unfold ownBusy
  exact State_put_agree.mono (by decide)

theorem scrubCtx_agree {x0 x1} :
    Agree [.regs, .ncp] x1 (scrubCtx x0 x1) := by
  unfold scrubCtx
  exact setPins_agree.mono (by decide)

theorem scrubEvt_agree {x0 x1} :
    Agree [.regs, .events] x1 (scrubEvt x0 x1) := by
  unfold scrubEvt
  refine Agree.step ?_ dropRegs_agree (by decide)
  refine Agree.step ?_ setEvtPending_agree (by decide)
  exact State_setEvt_agree.mono (by decide)

theorem ownApply_agree {x0 x1 x2 x3} :
    Agree [.free, .regs, .queues, .jobs, .events, .bulk, .out, .threads, .pwr, .ciph, .ncp, .nand, .stor, .radio, .ser, .held] x3 (ownApply x0 x1 x2 x3) := by
  unfold ownApply
  extract_lets a0 a1
  have ha0 : Agree [Part.free, Part.regs, Part.queues, Part.jobs, Part.events, Part.bulk, Part.out, Part.threads, Part.pwr, Part.ciph,
  Part.ncp, Part.nand, Part.stor, Part.radio, Part.ser, Part.held] x3 a0 := by
    unfold a0
    exact State_wr_agree.mono (by decide)
  clear_value a0
  clear_value a1
  refine Agree.ite ?_ ?_
  · refine Agree.foldl ?_ ?_
    · intro y2
      intro y3
      exact scrubEntry_agree.mono (by decide)
    · refine Agree.ite ?_ ?_
      · assumption
      · refine Agree.step ?_ ownBusy_agree (by decide)
        assumption
  · refine Agree.ite ?_ ?_
    · refine Agree.ite ?_ ?_
      · refine Agree.step ?_ scrubCtx_agree (by decide)
        refine Agree.step ?_ ownBusy_agree (by decide)
        assumption
      · assumption
    · refine Agree.ite ?_ ?_
      · refine Agree.step ?_ State_wr_agree (by decide)
        refine Agree.foldl ?_ ?_
        · intro y4
          intro y5
          exact zeroBulk_agree.mono (by decide)
        · exact Agree.refl _ _
      · refine Agree.ite ?_ ?_
        · assumption
        · refine Agree.step ?_ scrubEvt_agree (by decide)
          refine Agree.step ?_ ownBusy_agree (by decide)
          assumption

theorem refuseOwn_agree {x0 x1 x2} :
    Agree [.regs, .events, .out, .held] x2 (refuseOwn x0 x1 x2) := by
  unfold refuseOwn
  refine Agree.step ?_ fabricNotice_agree (by decide)
  refine Agree.step ?_ State_put_agree (by decide)
  refine Agree.step ?_ State_put_agree (by decide)
  exact State_put_agree.mono (by decide)

theorem ownWrite_agree {x0 x1 x2 x3} :
    Agree [.free, .regs, .queues, .jobs, .events, .bulk, .out, .threads, .pwr, .ciph, .ncp, .nand, .stor, .radio, .ser, .held] x3 (ownWrite x0 x1 x2 x3) := by
  unfold ownWrite
  extract_lets a0 a1 a2 a3
  clear_value a0
  clear_value a1
  clear_value a2
  clear_value a3
  refine Agree.ite ?_ ?_
  · exact ownApply_agree.mono (by decide)
  · exact refuseOwn_agree.mono (by decide)

theorem freePorts_agree {x0} :
    Agree [.regs, .ser] x0 (freePorts x0) := by
  unfold freePorts
  extract_lets a0 a1
  have ha0 : Agree [Part.regs, Part.ser] x0 a0 := by
    unfold a0
    refine Agree.foldUpto ?_ ?_
    · intro y2
      intro y3
      extract_lets a4
      clear_value a4
      split
      · refine Agree.ite ?_ ?_
        · exact Agree.refl _ _
        · exact setPort_agree.mono (by decide)
      · exact Agree.refl _ _
    · exact Agree.refl _ _
  clear_value a0
  clear_value a1
  split
  · refine Agree.ite ?_ ?_
    · assumption
    · refine Agree.step ?_ setRing_agree (by decide)
      assumption
  · assumption

theorem endJobs_agree {x0 x1} :
    Agree [.jobs, .pwr, .stor] x1 (endJobs x0 x1) := by
  unfold endJobs
  extract_lets a0
  have ha0 : Agree [Part.jobs, Part.pwr, Part.stor] x1 a0 := by
    unfold a0
    exact suspendErases_agree.mono (by decide)
  clear_value a0
  refine Agree.foldl ?_ ?_
  · intro y1
    intro y2
    refine Agree.step ?_ dropJob_agree (by decide)
    refine Agree.step ?_ dropRequest_agree (by decide)
    exact releaseGrant_agree.mono (by decide)
  · assumption

theorem resetMsix_agree {x0 x1 x2} :
    Agree [.events, .ports] x2 (resetMsix x0 x1 x2) := by
  unfold resetMsix
  extract_lets a0
  refine Agree.ite ?_ ?_
  · refine Agree.step ?_ setMsixCtl_agree (by decide)
    refine Agree.mk' ?_ (by
      intro p hp
      cases p <;> first | exact (hp (by decide)).elim | rfl | exact ⟨rfl, rfl⟩ | exact ⟨rfl, rfl, rfl⟩)
    exact Agree.refl _ _
  · refine Agree.foldUpto ?_ ?_
    · intro y1
      intro y2
      extract_lets a3
      clear_value a3
      exact setMsix_agree.mono (by decide)
    · exact Agree.refl _ _

theorem resetDrawer_agree {x0 x1 x2} :
    Agree [.free, .regs, .rst, .att, .queues, .jobs, .events, .ports, .out, .threads, .mem, .pwr, .ciph, .ncp, .stor, .radio, .ser, .held] x2 (resetDrawer x0 x1 x2) := by
  unfold resetDrawer
  extract_lets a0 a1 a2 a3 a4 a5 a6 a7 a8 a9 a10 a11 a12 a13 a14 a15 a16
  have ha0 : Agree [Part.free, Part.regs, Part.rst, Part.att, Part.queues, Part.jobs, Part.events, Part.ports, Part.out, Part.threads,
  Part.mem, Part.pwr, Part.ciph, Part.ncp, Part.stor, Part.radio, Part.ser, Part.held] x2 a0 := by
    unfold a0
    exact State_put_agree.mono (by decide)
  clear_value a0
  clear_value a1
  have ha2 : Agree [Part.free, Part.regs, Part.rst, Part.att, Part.queues, Part.jobs, Part.events, Part.ports, Part.out, Part.threads,
  Part.mem, Part.pwr, Part.ciph, Part.ncp, Part.stor, Part.radio, Part.ser, Part.held] x2 a2 := by
    unfold a2
    refine Agree.ite ?_ ?_
    · refine Agree.mk' ?_ (by
        intro p hp
        cases p <;> first | exact (hp (by decide)).elim | rfl | exact ⟨rfl, rfl⟩ | exact ⟨rfl, rfl, rfl⟩)
      assumption
    · assumption
  clear_value a2
  clear_value a3
  have ha4 : Agree [Part.free, Part.regs, Part.rst, Part.att, Part.queues, Part.jobs, Part.events, Part.ports, Part.out, Part.threads,
  Part.mem, Part.pwr, Part.ciph, Part.ncp, Part.stor, Part.radio, Part.ser, Part.held] x2 a4 := by
    unfold a4
    refine Agree.foldl ?_ ?_
    · intro y17
      intro y18
      refine Agree.step ?_ clearJt_agree (by decide)
      exact scrubThread_agree.mono (by decide)
    · assumption
  clear_value a4
  have ha6 : Agree [Part.free, Part.regs, Part.rst, Part.att, Part.queues, Part.jobs, Part.events, Part.ports, Part.out, Part.threads,
  Part.mem, Part.pwr, Part.ciph, Part.ncp, Part.stor, Part.radio, Part.ser, Part.held] x2 a6 := by
    unfold a6
    refine Agree.mk' ?_ (by
      intro p hp
      cases p <;> first | exact (hp (by decide)).elim | rfl | exact ⟨rfl, rfl⟩ | exact ⟨rfl, rfl, rfl⟩)
    assumption
  clear_value a6
  have ha7 : Agree [Part.free, Part.regs, Part.rst, Part.att, Part.queues, Part.jobs, Part.events, Part.ports, Part.out, Part.threads,
  Part.mem, Part.pwr, Part.ciph, Part.ncp, Part.stor, Part.radio, Part.ser, Part.held] x2 a7 := by
    unfold a7
    refine Agree.step ?_ dropRegs_agree (by decide)
    refine Agree.step ?_ dropRegs_agree (by decide)
    assumption
  clear_value a7
  have ha8 : Agree [Part.free, Part.regs, Part.rst, Part.att, Part.queues, Part.jobs, Part.events, Part.ports, Part.out, Part.threads,
  Part.mem, Part.pwr, Part.ciph, Part.ncp, Part.stor, Part.radio, Part.ser, Part.held] x2 a8 := by
    unfold a8
    refine Agree.step ?_ freePorts_agree (by decide)
    refine Agree.step ?_ endJobs_agree (by decide)
    assumption
  clear_value a8
  have ha9 : Agree [Part.free, Part.regs, Part.rst, Part.att, Part.queues, Part.jobs, Part.events, Part.ports, Part.out, Part.threads,
  Part.mem, Part.pwr, Part.ciph, Part.ncp, Part.stor, Part.radio, Part.ser, Part.held] x2 a9 := by
    unfold a9
    refine Agree.foldl ?_ ?_
    · intro y19
      intro y20
      exact wipeQueue_agree.mono (by decide)
    · assumption
  clear_value a9
  have ha10 : Agree [Part.free, Part.regs, Part.rst, Part.att, Part.queues, Part.jobs, Part.events, Part.ports, Part.out, Part.threads,
  Part.mem, Part.pwr, Part.ciph, Part.ncp, Part.stor, Part.radio, Part.ser, Part.held] x2 a10 := by
    unfold a10
    refine Agree.foldl ?_ ?_
    · intro y21
      intro y22
      exact emptyKey_agree.mono (by decide)
    · assumption
  clear_value a10
  have ha11 : Agree [Part.free, Part.regs, Part.rst, Part.att, Part.queues, Part.jobs, Part.events, Part.ports, Part.out, Part.threads,
  Part.mem, Part.pwr, Part.ciph, Part.ncp, Part.stor, Part.radio, Part.ser, Part.held] x2 a11 := by
    unfold a11
    refine Agree.foldl ?_ ?_
    · intro y23
      intro y24
      exact scrubChk_agree.mono (by decide)
    · assumption
  clear_value a11
  have ha12 : Agree [Part.free, Part.regs, Part.rst, Part.att, Part.queues, Part.jobs, Part.events, Part.ports, Part.out, Part.threads,
  Part.mem, Part.pwr, Part.ciph, Part.ncp, Part.stor, Part.radio, Part.ser, Part.held] x2 a12 := by
    unfold a12
    refine Agree.foldl ?_ ?_
    · intro y25
      intro y26
      exact scrubUart_agree.mono (by decide)
    · assumption
  clear_value a12
  have ha13 : Agree [Part.free, Part.regs, Part.rst, Part.att, Part.queues, Part.jobs, Part.events, Part.ports, Part.out, Part.threads,
  Part.mem, Part.pwr, Part.ciph, Part.ncp, Part.stor, Part.radio, Part.ser, Part.held] x2 a13 := by
    unfold a13
    refine Agree.foldl ?_ ?_
    · intro y27
      intro y28
      exact scrubEvt_agree.mono (by decide)
    · assumption
  clear_value a13
  clear_value a14
  have ha15 : Agree [Part.free, Part.regs, Part.rst, Part.att, Part.queues, Part.jobs, Part.events, Part.ports, Part.out, Part.threads,
  Part.mem, Part.pwr, Part.ciph, Part.ncp, Part.stor, Part.radio, Part.ser, Part.held] x2 a15 := by
    unfold a15
    refine Agree.mk' ?_ (by
      intro p hp
      cases p <;> first | exact (hp (by decide)).elim | rfl | exact ⟨rfl, rfl⟩ | exact ⟨rfl, rfl, rfl⟩)
    assumption
  clear_value a15
  have ha16 : Agree [Part.free, Part.regs, Part.rst, Part.att, Part.queues, Part.jobs, Part.events, Part.ports, Part.out, Part.threads,
  Part.mem, Part.pwr, Part.ciph, Part.ncp, Part.stor, Part.radio, Part.ser, Part.held] x2 a16 := by
    unfold a16
    refine Agree.mk' ?_ (by
      intro p hp
      cases p <;> first | exact (hp (by decide)).elim | rfl | exact ⟨rfl, rfl⟩ | exact ⟨rfl, rfl, rfl⟩)
    assumption
  clear_value a16
  refine Agree.step ?_ resetMsix_agree (by decide)
  refine Agree.step ?_ dropAtt_agree (by decide)
  assumption

theorem execScrubDone_agree {x0} :
    AgreeAns [.regs] x0 (execScrubDone x0) := by
  unfold execScrubDone
  refine AgreeAns.of_next ?_
  exact State_put_agree.mono (by decide)

theorem execOwnershipWrite_agree {x0 x1 x2 x3 x4} :
    AgreeAns [.free, .regs, .queues, .jobs, .events, .bulk, .out, .threads, .pwr, .ciph, .ncp, .nand, .stor, .radio, .ser, .held] x4 (execOwnershipWrite x0 x1 x2 x3 x4) := by
  unfold execOwnershipWrite
  refine AgreeAns.ite ?_ ?_
  · refine AgreeAns.of_next ?_
    refine Agree.trans ?_ (filtered_agree (by decide) ?_)
    · exact Agree.refl _ _
    · intro y0
      exact ownWrite_agree.mono (by decide)
  · refine AgreeAns.of_next ?_
    exact Agree.refl _ _

end Sys2Proof.Machine
end

