-- ==== Sys2Proof/Laws/Frame/OptStore.lean ====
section
/-!
SUPPORT. Which parts of the state each definition of Machine/OptStore.lean may change.
-/

namespace Sys2Proof.Machine

theorem showBytes_agree {x0 x1 x2} :
    Agree [.regs] x2 (showBytes x0 x1 x2) := by
  unfold showBytes
  refine Agree.foldUpto ?_ ?_
  · intro y0
    intro y1
    exact State_wr_agree.mono (by decide)
  · exact Agree.refl _ _

theorem showPubKey_agree {x0} :
    Agree [.regs] x0 (showPubKey x0) := by
  unfold showPubKey
  exact showBytes_agree.mono (by decide)

theorem stageActive_agree {x0} :
    Agree [.regs] x0 (stageActive x0) := by
  unfold stageActive
  refine Agree.foldUpto ?_ ?_
  · intro y0
    intro y1
    exact State_wr_agree.mono (by decide)
  · exact Agree.refl _ _

theorem cutCommit_agree {x0} :
    Agree [.free, .opt] x0 (cutCommit x0) := by
  unfold cutCommit
  extract_lets a0 a1 a2 a3
  clear_value a0
  clear_value a1
  clear_value a2
  have ha3 : Agree [Part.free, Part.opt] x0 a3 := by
    unfold a3
    exact State_drew_agree.mono (by decide)
  clear_value a3
  refine Agree.ite ?_ ?_
  · exact Agree.refl _ _
  · refine Agree.mk' ?_ (by
      intro p hp
      cases p <;> first | exact (hp (by decide)).elim | rfl | exact ⟨rfl, rfl⟩ | exact ⟨rfl, rfl, rfl⟩)
    assumption

theorem showBootCount_agree {x0} :
    Agree [.regs] x0 (showBootCount x0) := by
  unfold showBootCount
  refine Agree.step ?_ State_put_agree (by decide)
  exact State_wr_agree.mono (by decide)

theorem setActive_agree {x0 x1} :
    Agree [.regs] x1 (setActive x0 x1) := by
  unfold setActive
  extract_lets a0
  have ha0 : Agree [Part.regs] x1 a0 := by
    unfold a0
    refine Agree.foldUpto ?_ ?_
    · intro y1
      intro y2
      exact State_wr_agree.mono (by decide)
    · exact Agree.refl _ _
  clear_value a0
  refine Agree.step ?_ State_put_agree (by decide)
  refine Agree.step ?_ showPubKey_agree (by decide)
  refine Agree.step ?_ stageActive_agree (by decide)
  assumption

theorem readOptions_agree {x0} :
    Agree [.regs] x0 (readOptions x0) := by
  unfold readOptions
  extract_lets a0
  have ha0 : Agree [Part.regs] x0 a0 := by
    unfold a0
    exact State_put_agree.mono (by decide)
  clear_value a0
  split
  · refine Agree.step ?_ setActive_agree (by decide)
    refine Agree.step ?_ State_put_agree (by decide)
    assumption
  · refine Agree.step ?_ setActive_agree (by decide)
    refine Agree.step ?_ State_put_agree (by decide)
    exact State_put_agree.mono (by decide)

theorem discardImage_agree {x0} :
    Agree [.regs] x0 (discardImage x0) := by
  unfold discardImage
  refine Agree.ite ?_ ?_
  · exact Agree.refl _ _
  · refine Agree.step ?_ State_put_agree (by decide)
    exact stageActive_agree.mono (by decide)

theorem stageWrite_agree {x0 x1 x2 x3} :
    Agree [.regs] x3 (stageWrite x0 x1 x2 x3) := by
  unfold stageWrite
  extract_lets a0 a1
  clear_value a0
  have ha1 : Agree [Part.regs] x3 a1 := by
    unfold a1
    exact State_wr_agree.mono (by decide)
  clear_value a1
  refine Agree.ite ?_ ?_
  · exact Agree.refl _ _
  · refine Agree.ite ?_ ?_
    · assumption
    · refine Agree.step ?_ State_put_agree (by decide)
      assumption

theorem prepareImage_agree {x0} :
    Agree [.free, .regs, .rst] x0 (prepareImage x0) := by
  unfold prepareImage
  extract_lets a0 a1 a2 a3 a4 a5 a6
  clear_value a0
  clear_value a1
  clear_value a2
  clear_value a3
  have ha4 : Agree [Part.free, Part.regs, Part.rst] x0 a4 := by
    unfold a4
    refine Agree.step ?_ State_put_agree (by decide)
    refine Agree.step ?_ State_put_agree (by decide)
    exact State_put_agree.mono (by decide)
  clear_value a4
  have ha5 : Agree [Part.free, Part.regs, Part.rst] x0 a5 := by
    unfold a5
    refine Agree.step ?_ State_drew_agree (by decide)
    assumption
  clear_value a5
  clear_value a6
  refine Agree.ite ?_ ?_
  · exact Agree.refl _ _
  · refine Agree.ite ?_ ?_
    · refine Agree.mk' ?_ (by
        intro p hp
        cases p <;> first | exact (hp (by decide)).elim | rfl | exact ⟨rfl, rfl⟩ | exact ⟨rfl, rfl, rfl⟩)
      assumption
    · refine Agree.step ?_ State_put_agree (by decide)
      exact State_put_agree.mono (by decide)

theorem commitImage_agree {x0 x1} :
    Agree [.regs, .rst] x1 (commitImage x0 x1) := by
  unfold commitImage
  extract_lets a0 a1
  have ha0 : Agree [Part.regs, Part.rst] x1 a0 := by
    unfold a0
    exact State_put_agree.mono (by decide)
  clear_value a0
  clear_value a1
  refine Agree.ite ?_ ?_
  · exact Agree.refl _ _
  · refine Agree.ite ?_ ?_
    · refine Agree.mk' ?_ (by
        intro p hp
        cases p <;> first | exact (hp (by decide)).elim | rfl | exact ⟨rfl, rfl⟩ | exact ⟨rfl, rfl, rfl⟩)
      assumption
    · refine Agree.step ?_ State_put_agree (by decide)
      exact State_put_agree.mono (by decide)

theorem optCmdWrite_agree {x0 x1 x2} :
    Agree [.free, .regs, .rst] x2 (optCmdWrite x0 x1 x2) := by
  unfold optCmdWrite
  extract_lets a0
  clear_value a0
  split
  · exact prepareImage_agree.mono (by decide)
  · exact commitImage_agree.mono (by decide)
  · exact discardImage_agree.mono (by decide)
  · exact Agree.refl _ _

theorem commitEnd_agree {x0 x1 x2} :
    Agree [.regs, .opt, .rst] x2 (commitEnd x0 x1 x2) := by
  unfold commitEnd
  extract_lets a0 a1 a2 a3 a4
  clear_value a0
  clear_value a1
  have ha2 : Agree [Part.regs, Part.opt, Part.rst] x2 a2 := by
    unfold a2
    exact State_put_agree.mono (by decide)
  clear_value a2
  have ha3 : Agree [Part.regs, Part.opt, Part.rst] x2 a3 := by
    unfold a3
    exact State_put_agree.mono (by decide)
  clear_value a3
  clear_value a4
  refine Agree.ite ?_ ?_
  · refine Agree.mk' ?_ (by
      intro p hp
      cases p <;> first | exact (hp (by decide)).elim | rfl | exact ⟨rfl, rfl⟩ | exact ⟨rfl, rfl, rfl⟩)
    assumption
  · refine Agree.ite ?_ ?_
    · refine Agree.mk' ?_ (by
        intro p hp
        cases p <;> first | exact (hp (by decide)).elim | rfl | exact ⟨rfl, rfl⟩ | exact ⟨rfl, rfl, rfl⟩)
      assumption
    · refine Agree.mk' ?_ (by
        intro p hp
        cases p <;> first | exact (hp (by decide)).elim | rfl | exact ⟨rfl, rfl⟩ | exact ⟨rfl, rfl, rfl⟩)
      assumption

theorem optCommand_agree {x0 x1 x2 x3} :
    Agree [.free, .regs, .rst, .events, .out, .held] x3 (optCommand x0 x1 x2 x3) := by
  unfold optCommand
  refine Agree.ite ?_ ?_
  · refine Agree.trans ?_ (filtered_agree (by decide) ?_)
    · exact Agree.refl _ _
    · intro y0
      exact optCmdWrite_agree.mono (by decide)
  · exact Agree.refl _ _

theorem raiseBootCount_agree {x0} :
    Agree [.regs, .opt] x0 (raiseBootCount x0) := by
  unfold raiseBootCount
  extract_lets a0 a1 a2
  clear_value a0
  clear_value a1
  clear_value a2
  refine Agree.step ?_ showBootCount_agree (by decide)
  refine Agree.mk' ?_ (by
    intro p hp
    cases p <;> first | exact (hp (by decide)).elim | rfl | exact ⟨rfl, rfl⟩ | exact ⟨rfl, rfl, rfl⟩)
  exact Agree.refl _ _

theorem execCommitWriteDone_agree {x0 x1 x2} :
    AgreeAns [.regs, .opt, .rst] x2 (execCommitWriteDone x0 x1 x2) := by
  unfold execCommitWriteDone
  refine AgreeAns.ite ?_ ?_
  · refine AgreeAns.of_next ?_
    exact commitEnd_agree.mono (by decide)
  · refine AgreeAns.of_next ?_
    exact Agree.refl _ _

theorem execOptStageWrite_agree {x0 x1 x2 x3 x4} :
    AgreeAns [.regs, .events, .out, .held] x4 (execOptStageWrite x0 x1 x2 x3 x4) := by
  unfold execOptStageWrite
  refine AgreeAns.of_next ?_
  refine Agree.trans ?_ (filtered_agree (by decide) ?_)
  · exact Agree.refl _ _
  · intro y0
    exact stageWrite_agree.mono (by decide)

theorem execDiscard_agree {x0 x1 x2} :
    AgreeAns [.free, .regs, .rst, .events, .out, .held] x2 (execDiscard x0 x1 x2) := by
  unfold execDiscard
  refine AgreeAns.of_next ?_
  exact optCommand_agree.mono (by decide)

theorem execPrepare_agree {x0 x1 x2} :
    AgreeAns [.free, .regs, .rst, .events, .out, .held] x2 (execPrepare x0 x1 x2) := by
  unfold execPrepare
  refine AgreeAns.of_next ?_
  exact optCommand_agree.mono (by decide)

theorem execCommit_agree {x0 x1 x2} :
    AgreeAns [.free, .regs, .rst, .events, .out, .held] x2 (execCommit x0 x1 x2) := by
  unfold execCommit
  refine AgreeAns.of_next ?_
  exact optCommand_agree.mono (by decide)

end Sys2Proof.Machine
end

