-- ==== Sys2Proof/Laws/Frame/Tenon.lean ====
section
/-!
SUPPORT. Which parts of the state each definition of Machine/Tenon.lean may change.
-/

namespace Sys2Proof.Machine

theorem ringLoss_agree {x0} :
    Agree [.free, .regs, .jobs, .events, .out, .pwr, .ser, .held] x0 (ringLoss x0) := by
  unfold ringLoss
  extract_lets a0
  have ha0 : Agree [Part.free, Part.regs, Part.jobs, Part.events, Part.out, Part.pwr, Part.ser, Part.held] x0 a0 := by
    unfold a0
    exact endRingJob_agree.mono (by decide)
  clear_value a0
  refine Agree.ite ?_ ?_
  · refine Agree.step ?_ State_put_agree (by decide)
    assumption
  · refine Agree.step ?_ closeBypass_agree (by decide)
    assumption

theorem cutAcks_agree {x0} :
    Agree [.ncp, .line] x0 (cutAcks x0) := by
  unfold cutAcks
  refine Agree.foldl ?_ ?_
  · intro y0
    intro y1
    split
    · exact dropAck_agree.mono (by decide)
    · exact Agree.refl _ _
  · exact Agree.refl _ _

theorem countGap_agree {x0 x1} :
    Agree [.regs, .events, .out, .held, .tnl] x1 (countGap x0 x1) := by
  unfold countGap
  extract_lets a0 a1 a2 a3
  clear_value a0
  clear_value a1
  clear_value a2
  have ha3 : Agree [Part.regs, Part.events, Part.out, Part.held, Part.tnl] x1 a3 := by
    unfold a3
    exact setTnl_agree.mono (by decide)
  clear_value a3
  refine Agree.trans ?_ (addStat_agree (by decide) ?_)
  · assumption
  · intro y4
    exact tnlOvf_agree.mono (by decide)

theorem setMuted_agree {x0 x1} :
    Agree [.regs] x1 (setMuted x0 x1) := by
  unfold setMuted
  refine Agree.foldUpto ?_ ?_
  · intro y0
    intro y1
    exact State_put_agree.mono (by decide)
  · exact State_put_agree.mono (by decide)

theorem setAbsent_agree {x0 x1} :
    Agree [.regs] x1 (setAbsent x0 x1) := by
  unfold setAbsent
  refine Agree.foldUpto ?_ ?_
  · intro y0
    intro y1
    exact State_put_agree.mono (by decide)
  · exact State_put_agree.mono (by decide)

theorem ringResume_agree {x0} :
    Agree [.regs, .ser] x0 (ringResume x0) := by
  unfold ringResume
  extract_lets a0 a1
  have ha0 : Agree [Part.regs, Part.ser] x0 a0 := by
    unfold a0
    exact State_put_agree.mono (by decide)
  clear_value a0
  clear_value a1
  refine Agree.ite ?_ ?_
  · refine Agree.step ?_ setRing_agree (by decide)
    assumption
  · assumption

theorem thawSup_agree {x0} :
    Agree [.radio] x0 (thawSup x0) := by
  unfold thawSup
  extract_lets a0
  clear_value a0
  split
  · exact Agree.refl _ _
  · refine Agree.mk' ?_ (by
      intro p hp
      cases p <;> first | exact (hp (by decide)).elim | rfl | exact ⟨rfl, rfl⟩ | exact ⟨rfl, rfl, rfl⟩)
    exact Agree.refl _ _

theorem resumeLink_agree {x0} :
    Agree [.regs, .events, .out, .radio, .ser, .held] x0 (resumeLink x0) := by
  unfold resumeLink
  extract_lets a0
  have ha0 : Agree [Part.regs, Part.events, Part.out, Part.radio, Part.ser, Part.held] x0 a0 := by
    unfold a0
    refine Agree.step ?_ setMuted_agree (by decide)
    refine Agree.step ?_ setAbsent_agree (by decide)
    exact State_put_agree.mono (by decide)
  clear_value a0
  refine Agree.ite ?_ ?_
  · exact State_put_agree.mono (by decide)
  · refine Agree.step ?_ tnlCause_agree (by decide)
    refine Agree.step ?_ ringResume_agree (by decide)
    refine Agree.step ?_ thawSup_agree (by decide)
    assumption

theorem failGrantWaits_agree {x0} :
    Agree [.regs, .events, .out, .threads, .pwr, .radio, .held] x0 (failGrantWaits x0) := by
  unfold failGrantWaits
  refine Agree.foldl ?_ ?_
  · intro y0
    intro y1
    split
    · refine Agree.ite ?_ ?_
      · refine Agree.step ?_ exitWait_agree (by decide)
        refine Agree.step ?_ failWith_agree (by decide)
        refine Agree.step ?_ dropRequest_agree (by decide)
        exact returnAirtime_agree.mono (by decide)
      · exact Agree.refl _ _
    · exact Agree.refl _ _
  · exact Agree.refl _ _

theorem endAir_agree {x0 x1 x2} :
    Agree [.regs, .events, .out, .threads, .pwr, .radio, .held] x2 (endAir x0 x1 x2) := by
  unfold endAir
  refine Agree.ite ?_ ?_
  · exact endUnsent_agree.mono (by decide)
  · exact endSent_agree.mono (by decide)

theorem freezeSup_agree {x0} :
    Agree [.radio] x0 (freezeSup x0) := by
  unfold freezeSup
  extract_lets a0
  clear_value a0
  refine Agree.ite ?_ ?_
  · exact Agree.refl _ _
  · refine Agree.mk' ?_ (by
      intro p hp
      cases p <;> first | exact (hp (by decide)).elim | rfl | exact ⟨rfl, rfl⟩ | exact ⟨rfl, rfl, rfl⟩)
    exact Agree.refl _ _

theorem logicLoss_agree {x0 x1 x2} :
    Agree [.regs, .events, .out, .threads, .pwr, .ncp, .line, .radio, .plmb, .held, .tnl] x2 (logicLoss x0 x1 x2) := by
  unfold logicLoss
  extract_lets a0 a1 a2 a3 a4 a5 a6 a7 a8 a9 a10 a11 a12
  have ha0 : Agree [Part.regs, Part.events, Part.out, Part.threads, Part.pwr, Part.ncp, Part.line, Part.radio, Part.plmb, Part.held,
  Part.tnl] x2 a0 := by
    unfold a0
    exact mirrorNow_agree.mono (by decide)
  clear_value a0
  have ha1 : Agree [Part.regs, Part.events, Part.out, Part.threads, Part.pwr, Part.ncp, Part.line, Part.radio, Part.plmb, Part.held,
  Part.tnl] x2 a1 := by
    unfold a1
    refine Agree.step ?_ State_put_agree (by decide)
    refine Agree.step ?_ State_put_agree (by decide)
    assumption
  clear_value a1
  have ha2 : Agree [Part.regs, Part.events, Part.out, Part.threads, Part.pwr, Part.ncp, Part.line, Part.radio, Part.plmb, Part.held,
  Part.tnl] x2 a2 := by
    unfold a2
    refine Agree.step ?_ setTnl_agree (by decide)
    assumption
  clear_value a2
  have ha3 : Agree [Part.regs, Part.events, Part.out, Part.threads, Part.pwr, Part.ncp, Part.line, Part.radio, Part.plmb, Part.held,
  Part.tnl] x2 a3 := by
    unfold a3
    refine Agree.step ?_ State_put_agree (by decide)
    assumption
  clear_value a3
  have ha4 : Agree [Part.regs, Part.events, Part.out, Part.threads, Part.pwr, Part.ncp, Part.line, Part.radio, Part.plmb, Part.held,
  Part.tnl] x2 a4 := by
    unfold a4
    refine Agree.step ?_ State_put_agree (by decide)
    refine Agree.step ?_ State_put_agree (by decide)
    assumption
  clear_value a4
  have ha5 : Agree [Part.regs, Part.events, Part.out, Part.threads, Part.pwr, Part.ncp, Part.line, Part.radio, Part.plmb, Part.held,
  Part.tnl] x2 a5 := by
    unfold a5
    refine Agree.step ?_ tnlCause_agree (by decide)
    refine Agree.trans ?_ (bumpStat_agree (by decide) ?_)
    · assumption
    · intro y13
      exact tnlOvf_agree.mono (by decide)
  clear_value a5
  have ha6 : Agree [Part.regs, Part.events, Part.out, Part.threads, Part.pwr, Part.ncp, Part.line, Part.radio, Part.plmb, Part.held,
  Part.tnl] x2 a6 := by
    unfold a6
    refine Agree.ite ?_ ?_
    · refine Agree.step ?_ tnlCause_agree (by decide)
      assumption
    · assumption
  clear_value a6
  have ha7 : Agree [Part.regs, Part.events, Part.out, Part.threads, Part.pwr, Part.ncp, Part.line, Part.radio, Part.plmb, Part.held,
  Part.tnl] x2 a7 := by
    unfold a7
    refine Agree.step ?_ State_put_agree (by decide)
    assumption
  clear_value a7
  clear_value a8
  clear_value a9
  have ha10 : Agree [Part.regs, Part.events, Part.out, Part.threads, Part.pwr, Part.ncp, Part.line, Part.radio, Part.plmb, Part.held,
  Part.tnl] x2 a10 := by
    unfold a10
    refine Agree.mk' ?_ (by
      intro p hp
      cases p <;> first | exact (hp (by decide)).elim | rfl | exact ⟨rfl, rfl⟩ | exact ⟨rfl, rfl, rfl⟩)
    assumption
  clear_value a10
  have ha11 : Agree [Part.regs, Part.events, Part.out, Part.threads, Part.pwr, Part.ncp, Part.line, Part.radio, Part.plmb, Part.held,
  Part.tnl] x2 a11 := by
    unfold a11
    refine Agree.step ?_ stopChains_agree (by decide)
    refine Agree.step ?_ setAbsent_agree (by decide)
    assumption
  clear_value a11
  have ha12 : Agree [Part.regs, Part.events, Part.out, Part.threads, Part.pwr, Part.ncp, Part.line, Part.radio, Part.plmb, Part.held,
  Part.tnl] x2 a12 := by
    unfold a12
    refine Agree.step ?_ failGrantWaits_agree (by decide)
    refine Agree.forActs ?_ ?_
    · intro y14
      intro y15
      intro y16
      exact endAir_agree.mono (by decide)
    · assumption
  clear_value a12
  refine Agree.step ?_ freezeSup_agree (by decide)
  refine Agree.step ?_ syncRxOpen_agree (by decide)
  assumption

theorem muteAll_agree {x0} :
    Agree [.regs, .events, .out, .threads, .pwr, .ncp, .line, .radio, .held] x0 (muteAll x0) := by
  unfold muteAll
  refine Agree.step ?_ cutAcks_agree (by decide)
  refine Agree.step ?_ setMuted_agree (by decide)
  refine Agree.step ?_ State_put_agree (by decide)
  refine Agree.foldUpto ?_ ?_
  · intro y0
    intro y1
    exact txStop_agree.mono (by decide)
  · exact Agree.refl _ _

theorem lineLoss_agree {x0} :
    Agree [.free, .regs, .jobs, .events, .out, .threads, .pwr, .ncp, .line, .radio, .ser, .held, .tnl] x0 (lineLoss x0) := by
  unfold lineLoss
  extract_lets a0 a1
  have ha0 : Agree [Part.free, Part.regs, Part.jobs, Part.events, Part.out, Part.threads, Part.pwr, Part.ncp, Part.line, Part.radio,
  Part.ser, Part.held, Part.tnl] x0 a0 := by
    unfold a0
    exact setTnl_agree.mono (by decide)
  clear_value a0
  have ha1 : Agree [Part.free, Part.regs, Part.jobs, Part.events, Part.out, Part.threads, Part.pwr, Part.ncp, Part.line, Part.radio,
  Part.ser, Part.held, Part.tnl] x0 a1 := by
    unfold a1
    refine Agree.step ?_ muteAll_agree (by decide)
    assumption
  clear_value a1
  refine Agree.ite ?_ ?_
  · exact Agree.refl _ _
  · refine Agree.step ?_ ringLoss_agree (by decide)
    refine Agree.forActs ?_ ?_
    · intro y2
      intro y3
      intro y4
      exact releaseGrant_agree.mono (by decide)
    · assumption

theorem declareLoss_agree {x0 x1 x2 x3} :
    Agree [.free, .regs, .jobs, .events, .out, .threads, .pwr, .ncp, .line, .radio, .plmb, .ser, .held, .tnl] x3 (declareLoss x0 x1 x2 x3) := by
  unfold declareLoss
  refine Agree.ite ?_ ?_
  · refine Agree.ite ?_ ?_
    · exact logicLoss_agree.mono (by decide)
    · exact Agree.refl _ _
  · refine Agree.ite ?_ ?_
    · exact Agree.refl _ _
    · exact lineLoss_agree.mono (by decide)

theorem sendNak_agree {x0 x1} :
    Agree [.free, .regs, .jobs, .events, .out, .threads, .pwr, .ncp, .line, .radio, .plmb, .ser, .held, .tnl] x1 (sendNak x0 x1) := by
  unfold sendNak
  extract_lets a0 a1 a2 a3 a4
  clear_value a0
  clear_value a2
  have ha3 : Agree [Part.free, Part.regs, Part.jobs, Part.events, Part.out, Part.threads, Part.pwr, Part.ncp, Part.line, Part.radio,
  Part.plmb, Part.ser, Part.held, Part.tnl] x1 a3 := by
    unfold a3
    exact setTnl_agree.mono (by decide)
  clear_value a3
  have ha4 : Agree [Part.free, Part.regs, Part.jobs, Part.events, Part.out, Part.threads, Part.pwr, Part.ncp, Part.line, Part.radio,
  Part.plmb, Part.ser, Part.held, Part.tnl] x1 a4 := by
    unfold a4
    refine Agree.step ?_ State_emit_agree (by decide)
    assumption
  clear_value a4
  refine Agree.ite ?_ ?_
  · refine Agree.step ?_ declareLoss_agree (by decide)
    assumption
  · assumption

theorem upMuted_agree {x0} :
    Agree [.free, .regs, .jobs, .events, .out, .threads, .pwr, .ncp, .nand, .stor, .line, .radio, .held, .tnl] x0 (upMuted x0) := by
  unfold upMuted
  extract_lets a0 a1 a2
  have ha0 : Agree [Part.free, Part.regs, Part.jobs, Part.events, Part.out, Part.threads, Part.pwr, Part.ncp, Part.nand, Part.stor,
  Part.line, Part.radio, Part.held, Part.tnl] x0 a0 := by
    unfold a0
    refine Agree.step ?_ setMuted_agree (by decide)
    exact State_put_agree.mono (by decide)
  clear_value a0
  have ha1 : Agree [Part.free, Part.regs, Part.jobs, Part.events, Part.out, Part.threads, Part.pwr, Part.ncp, Part.nand, Part.stor,
  Part.line, Part.radio, Part.held, Part.tnl] x0 a1 := by
    unfold a1
    refine Agree.step ?_ setTnl_agree (by decide)
    assumption
  clear_value a1
  have ha2 : Agree [Part.free, Part.regs, Part.jobs, Part.events, Part.out, Part.threads, Part.pwr, Part.ncp, Part.nand, Part.stor,
  Part.line, Part.radio, Part.held, Part.tnl] x0 a2 := by
    unfold a2
    refine Agree.step ?_ tnlCause_agree (by decide)
    refine Agree.step ?_ deliverHeld_agree (by decide)
    assumption
  clear_value a2
  refine Agree.step ?_ judgeLg_agree (by decide)
  assumption

theorem firstUp_agree {x0} :
    Agree [.regs, .rst, .events, .out, .held, .tnl] x0 (firstUp x0) := by
  unfold firstUp
  extract_lets a0 a1 a2
  have ha0 : Agree [Part.regs, Part.rst, Part.events, Part.out, Part.held, Part.tnl] x0 a0 := by
    unfold a0
    exact State_put_agree.mono (by decide)
  clear_value a0
  have ha1 : Agree [Part.regs, Part.rst, Part.events, Part.out, Part.held, Part.tnl] x0 a1 := by
    unfold a1
    refine Agree.step ?_ deliverHeld_agree (by decide)
    refine Agree.step ?_ setTnl_agree (by decide)
    assumption
  clear_value a1
  clear_value a2
  refine Agree.ite ?_ ?_
  · refine Agree.mk' ?_ (by
      intro p hp
      cases p <;> first | exact (hp (by decide)).elim | rfl | exact ⟨rfl, rfl⟩ | exact ⟨rfl, rfl, rfl⟩)
    assumption
  · assumption

theorem execTrainingAttempt_agree {x0 x1} :
    AgreeAns [.free, .regs, .time, .copy, .rst, .jobs, .events, .out, .threads, .pwr, .ncp, .nand, .stor, .line, .radio, .ser, .held, .tnl] x1 (execTrainingAttempt x0 x1) := by
  unfold execTrainingAttempt
  extract_lets a0 a1 a2 a3
  clear_value a0
  have ha1 : Agree [Part.free, Part.regs, Part.time, Part.copy, Part.rst, Part.jobs, Part.events, Part.out, Part.threads, Part.pwr,
  Part.ncp, Part.nand, Part.stor, Part.line, Part.radio, Part.ser, Part.held, Part.tnl] x1 a1 := by
    unfold a1
    refine Agree.ite ?_ ?_
    · exact lineLoss_agree.mono (by decide)
    · exact Agree.refl _ _
  clear_value a1
  have ha2 : Agree [Part.free, Part.regs, Part.time, Part.copy, Part.rst, Part.jobs, Part.events, Part.out, Part.threads, Part.pwr,
  Part.ncp, Part.nand, Part.stor, Part.line, Part.radio, Part.ser, Part.held, Part.tnl] x1 a2 := by
    unfold a2
    refine Agree.step ?_ State_pass_agree (by decide)
    assumption
  clear_value a2
  have ha3 : Agree [Part.free, Part.regs, Part.time, Part.copy, Part.rst, Part.jobs, Part.events, Part.out, Part.threads, Part.pwr,
  Part.ncp, Part.nand, Part.stor, Part.line, Part.radio, Part.ser, Part.held, Part.tnl] x1 a3 := by
    unfold a3
    refine Agree.step ?_ State_put_agree (by decide)
    assumption
  clear_value a3
  refine AgreeAns.ite ?_ ?_
  · refine AgreeAns.of_next ?_
    exact Agree.refl _ _
  · refine AgreeAns.ite ?_ ?_
    · refine AgreeAns.of_next ?_
      assumption
    · refine AgreeAns.ite ?_ ?_
      · refine AgreeAns.of_next ?_
        refine Agree.step ?_ upMuted_agree (by decide)
        assumption
      · refine AgreeAns.of_next ?_
        refine Agree.step ?_ firstUp_agree (by decide)
        assumption

theorem execLinkSilence_agree {x0 x1 x2} :
    AgreeAns [.free, .regs, .time, .copy, .jobs, .events, .out, .threads, .pwr, .ncp, .line, .radio, .plmb, .ser, .held, .tnl] x2 (execLinkSilence x0 x1 x2) := by
  unfold execLinkSilence
  extract_lets a0
  clear_value a0
  refine AgreeAns.ite ?_ ?_
  · refine AgreeAns.of_next ?_
    exact Agree.refl _ _
  · refine AgreeAns.ite ?_ ?_
    · refine AgreeAns.of_next ?_
      exact Agree.refl _ _
    · refine AgreeAns.of_next ?_
      refine Agree.step ?_ declareLoss_agree (by decide)
      exact State_passTo_agree.mono (by decide)

theorem takeFlit_agree {x0 x1 x2} :
    Agree [.free, .regs, .jobs, .events, .out, .threads, .pwr, .ncp, .line, .radio, .plmb, .ser, .held, .tnl] x2 (takeFlit x0 x1 x2) := by
  unfold takeFlit
  extract_lets a0 a1 a2
  have ha0 : Agree [Part.free, Part.regs, Part.jobs, Part.events, Part.out, Part.threads, Part.pwr, Part.ncp, Part.line, Part.radio,
  Part.plmb, Part.ser, Part.held, Part.tnl] x2 a0 := by
    unfold a0
    exact setTnl_agree.mono (by decide)
  clear_value a0
  have ha1 : Agree [Part.free, Part.regs, Part.jobs, Part.events, Part.out, Part.threads, Part.pwr, Part.ncp, Part.line, Part.radio,
  Part.plmb, Part.ser, Part.held, Part.tnl] x2 a1 := by
    unfold a1
    split
    · refine Agree.step ?_ countGap_agree (by decide)
      assumption
    · assumption
  clear_value a1
  have ha2 : Agree [Part.free, Part.regs, Part.jobs, Part.events, Part.out, Part.threads, Part.pwr, Part.ncp, Part.line, Part.radio,
  Part.plmb, Part.ser, Part.held, Part.tnl] x2 a2 := by
    unfold a2
    refine Agree.ite ?_ ?_
    · assumption
    · refine Agree.ite ?_ ?_
      · refine Agree.step ?_ setTnl_agree (by decide)
        assumption
      · refine Agree.step ?_ sendNak_agree (by decide)
        assumption
  clear_value a2
  refine Agree.ite ?_ ?_
  · refine Agree.step ?_ declareLoss_agree (by decide)
    assumption
  · assumption

theorem execNakRx_agree {x0 x1 x2 x3} :
    AgreeAns [.regs, .time, .copy, .events, .out, .held, .tnl] x3 (execNakRx x0 x1 x2 x3) := by
  unfold execNakRx
  extract_lets a0 a1 a2
  have ha0 : Agree [Part.regs, Part.time, Part.copy, Part.events, Part.out, Part.held, Part.tnl] x3 a0 := by
    unfold a0
    exact State_passTo_agree.mono (by decide)
  clear_value a0
  clear_value a1
  have ha2 : Agree [Part.regs, Part.time, Part.copy, Part.events, Part.out, Part.held, Part.tnl] x3 a2 := by
    unfold a2
    refine Agree.step ?_ setTnl_agree (by decide)
    assumption
  clear_value a2
  refine AgreeAns.ite ?_ ?_
  · refine AgreeAns.of_next ?_
    exact Agree.refl _ _
  · refine AgreeAns.of_next ?_
    refine Agree.foldl ?_ ?_
    · intro y3
      intro y4
      refine Agree.step ?_ State_emit_agree (by decide)
      refine Agree.trans ?_ (bumpStat_agree (by decide) ?_)
      · exact Agree.refl _ _
      · intro y5
        exact tnlOvf_agree.mono (by decide)
    · assumption

theorem keepFlit_agree {x0 x1 x2 x3} :
    Agree [.held, .tnl] x3 (keepFlit x0 x1 x2 x3) := by
  unfold keepFlit
  exact setTnl_agree.mono (by decide)

theorem underrunAct_agree {x0 x1 x2} :
    Agree [.regs, .events, .out, .threads, .pwr, .ncp, .line, .radio, .held] x2 (underrunAct x0 x1 x2) := by
  unfold underrunAct
  extract_lets a0
  clear_value a0
  refine Agree.step ?_ endSent_agree (by decide)
  refine Agree.foldl ?_ ?_
  · intro y1
    intro y2
    exact txStop_agree.mono (by decide)
  · exact Agree.refl _ _

theorem execTnlResume_agree {x0 x1 x2 x3} :
    AgreeAns [.regs, .events, .out, .radio, .ser, .held] x3 (execTnlResume x0 x1 x2 x3) := by
  unfold execTnlResume
  refine AgreeAns.of_next ?_
  refine Agree.trans ?_ (filtered_agree (by decide) ?_)
  · exact Agree.refl _ _
  · intro y0
    refine Agree.ite ?_ ?_
    · exact resumeLink_agree.mono (by decide)
    · exact Agree.refl _ _

theorem execTxStreamUnderrun_agree {x0 x1} :
    AgreeAns [.regs, .events, .out, .threads, .pwr, .ncp, .line, .radio, .held] x1 (execTxStreamUnderrun x0 x1) := by
  unfold execTxStreamUnderrun
  extract_lets a0 a1 a2 a3
  have ha1 : Agree [Part.regs, Part.events, Part.out, Part.threads, Part.pwr, Part.ncp, Part.line, Part.radio, Part.held] x1 a1 := by
    unfold a1
    unfold a0
    split
    · refine Agree.step ?_ dropAck_agree (by decide)
      refine Agree.step ?_ txStop_agree (by decide)
      refine Agree.forActs ?_ ?_
      · intro y4
        intro y5
        intro y6
        exact underrunAct_agree.mono (by decide)
      · exact Agree.refl _ _
    · refine Agree.step ?_ txStop_agree (by decide)
      refine Agree.forActs ?_ ?_
      · intro y7
        intro y8
        intro y9
        exact underrunAct_agree.mono (by decide)
      · exact Agree.refl _ _
  clear_value a1
  clear_value a2
  clear_value a3
  refine AgreeAns.ite ?_ ?_
  · refine AgreeAns.ite ?_ ?_
    · refine AgreeAns.of_next ?_
      exact Agree.refl _ _
    · refine AgreeAns.of_next ?_
      refine Agree.step ?_ setXmit_agree (by decide)
      assumption
  · refine AgreeAns.ite ?_ ?_
    · refine AgreeAns.of_next ?_
      exact Agree.refl _ _
    · refine AgreeAns.of_next ?_
      unfold a0
      split
      · refine Agree.step ?_ dropAck_agree (by decide)
        refine Agree.forActs ?_ ?_
        · intro y10
          intro y11
          intro y12
          exact endSent_agree.mono (by decide)
        · exact State_put_agree.mono (by decide)
      · refine Agree.forActs ?_ ?_
        · intro y13
          intro y14
          intro y15
          exact endSent_agree.mono (by decide)
        · exact State_put_agree.mono (by decide)

theorem execFlitRx_agree {x0 x1 x2 x3} :
    AgreeAns [.free, .regs, .time, .copy, .jobs, .events, .out, .threads, .pwr, .ncp, .line, .radio, .plmb, .ser, .held, .tnl] x3 (execFlitRx x0 x1 x2 x3) := by
  unfold execFlitRx
  extract_lets a0 a1 a2
  have ha0 : Agree [Part.free, Part.regs, Part.time, Part.copy, Part.jobs, Part.events, Part.out, Part.threads, Part.pwr, Part.ncp,
  Part.line, Part.radio, Part.plmb, Part.ser, Part.held, Part.tnl] x3 a0 := by
    unfold a0
    exact State_passTo_agree.mono (by decide)
  clear_value a0
  have ha1 : Agree [Part.free, Part.regs, Part.time, Part.copy, Part.jobs, Part.events, Part.out, Part.threads, Part.pwr, Part.ncp,
  Part.line, Part.radio, Part.plmb, Part.ser, Part.held, Part.tnl] x3 a1 := by
    unfold a1
    refine Agree.ite ?_ ?_
    · refine Agree.trans ?_ (bumpStat_agree (by decide) ?_)
      · assumption
      · intro y3
        exact tnlOvf_agree.mono (by decide)
    · assumption
  clear_value a1
  have ha2 : Agree [Part.free, Part.regs, Part.time, Part.copy, Part.jobs, Part.events, Part.out, Part.threads, Part.pwr, Part.ncp,
  Part.line, Part.radio, Part.plmb, Part.ser, Part.held, Part.tnl] x3 a2 := by
    unfold a2
    refine Agree.ite ?_ ?_
    · refine Agree.step ?_ keepFlit_agree (by decide)
      assumption
    · assumption
  clear_value a2
  refine AgreeAns.ite ?_ ?_
  · refine AgreeAns.of_next ?_
    exact Agree.refl _ _
  · refine AgreeAns.ite ?_ ?_
    · refine AgreeAns.of_next ?_
      refine Agree.step ?_ takeFlit_agree (by decide)
      assumption
    · refine AgreeAns.of_next ?_
      refine Agree.step ?_ sendNak_agree (by decide)
      assumption

end Sys2Proof.Machine
end

