-- ==== Sys2Proof/Laws/Frame/Reset.lean ====
section
/-!
SUPPORT. Which parts of the state each definition of Machine/Reset.lean may change.
-/

namespace Sys2Proof.Machine

theorem keepNarrow_agree {x0 x1} :
    Agree [.regs, .rst] x1 (keepNarrow x0 x1) := by
  unfold keepNarrow
  extract_lets a0 a1
  clear_value a0
  have ha1 : Agree [Part.regs, Part.rst] x1 a1 := by
    unfold a1
    refine Agree.mk' ?_ (by
      intro p hp
      cases p <;> first | exact (hp (by decide)).elim | rfl | exact ⟨rfl, rfl⟩ | exact ⟨rfl, rfl, rfl⟩)
    exact Agree.refl _ _
  clear_value a1
  refine Agree.step ?_ State_put_agree (by decide)
  assumption

theorem resetA_agree {x0 x1} :
    Agree [.free, .regs, .time, .copy, .opt, .rst, .att, .queues, .jobs, .events, .ports, .bulk, .out, .threads, .mem, .pwr, .ciph, .ncp, .stor, .line, .radio, .plmb, .ser, .held, .tnl, .caps] x1 (resetA x0 x1) := by
  refine (cutCommit_agree.mono (by decide)).trans ⟨fun p hp => ?_⟩
  cases p <;> first | exact (hp (by decide)).elim | rfl

theorem syncHeld_agree {x0} :
    Agree [.regs] x0 (syncHeld x0) := by
  unfold syncHeld
  exact State_put_agree.mono (by decide)

theorem noteCause_agree {x0 x1} :
    Agree [.regs, .rst] x1 (noteCause x0 x1) := by
  unfold noteCause
  extract_lets a0
  clear_value a0
  refine Agree.ite ?_ ?_
  · refine Agree.mk' ?_ (by
      intro p hp
      cases p <;> first | exact (hp (by decide)).elim | rfl | exact ⟨rfl, rfl⟩ | exact ⟨rfl, rfl, rfl⟩)
    exact Agree.refl _ _
  · exact State_put_agree.mono (by decide)

theorem restoreImage_agree {x0} :
    Agree [.regs] x0 (restoreImage x0) := by
  unfold restoreImage
  split
  · exact Agree.refl _ _
  · extract_lets a0
    have ha0 : Agree [Part.regs] x0 a0 := by
      unfold a0
      refine Agree.foldUpto ?_ ?_
      · intro y1
        intro y2
        exact State_wr_agree.mono (by decide)
      · exact Agree.refl _ _
    clear_value a0
    refine Agree.step ?_ State_put_agree (by decide)
    refine Agree.step ?_ State_put_agree (by decide)
    assumption

theorem resetB_agree {x0 x1} :
    Agree [.free, .regs, .opt, .rst, .att, .queues, .jobs, .events, .ports, .bulk, .out, .threads, .mem, .pwr, .ciph, .ncp, .stor, .line, .radio, .plmb, .ser, .held, .tnl, .caps] x1 (resetB x0 x1) := by
  unfold resetB
  refine Agree.step (Agree.step (Agree.step ?_ State_put_agree (by decide)) State_put_agree (by decide)) State_put_agree (by decide) |>.step syncHeld_agree (by decide)
  refine ((cutCommit_agree.mono (by decide)).step restoreImage_agree (by decide)).trans ⟨fun p hp => ?_⟩
  cases p <;> first | exact (hp (by decide)).elim | rfl

theorem assertAB_agree {x0 x1} :
    Agree [.free, .regs, .time, .copy, .opt, .rst, .att, .queues, .jobs, .events, .ports, .bulk, .out, .threads, .mem, .pwr, .ciph, .ncp, .stor, .line, .radio, .plmb, .ser, .held, .tnl, .caps] x1 (assertAB x0 x1) := by
  unfold assertAB
  extract_lets a0 a1 a2 a3 a4 a5 a6
  clear_value a1
  clear_value a2
  have ha3 : Agree [Part.free, Part.regs, Part.time, Part.copy, Part.opt, Part.rst, Part.att, Part.queues, Part.jobs, Part.events,
  Part.ports, Part.bulk, Part.out, Part.threads, Part.mem, Part.pwr, Part.ciph, Part.ncp, Part.stor, Part.line,
  Part.radio, Part.plmb, Part.ser, Part.held, Part.tnl, Part.caps] x1 a3 := by
    unfold a3
    exact resetA_agree.mono (by decide)
  clear_value a3
  have ha4 : Agree [Part.free, Part.regs, Part.time, Part.copy, Part.opt, Part.rst, Part.att, Part.queues, Part.jobs, Part.events,
  Part.ports, Part.bulk, Part.out, Part.threads, Part.mem, Part.pwr, Part.ciph, Part.ncp, Part.stor, Part.line,
  Part.radio, Part.plmb, Part.ser, Part.held, Part.tnl, Part.caps] x1 a4 := by
    unfold a4
    refine Agree.step ?_ syncHeld_agree (by decide)
    assumption
  clear_value a4
  clear_value a5
  clear_value a6
  refine Agree.ite ?_ ?_
  · refine Agree.mk' ?_ (by
      intro p hp
      cases p <;> first | exact (hp (by decide)).elim | rfl | exact ⟨rfl, rfl⟩ | exact ⟨rfl, rfl, rfl⟩)
    assumption
  · refine Agree.ite ?_ ?_
    · refine Agree.step ?_ noteCause_agree (by decide)
      refine Agree.mk' ?_ (by
        intro p hp
        cases p <;> first | exact (hp (by decide)).elim | rfl | exact ⟨rfl, rfl⟩ | exact ⟨rfl, rfl, rfl⟩)
      exact Agree.refl _ _
    · refine Agree.step ?_ noteCause_agree (by decide)
      exact resetB_agree.mono (by decide)

theorem execPowerOn_agree {x0} :
    AgreeAns [.free, .regs, .time, .copy, .opt, .rst, .att, .queues, .jobs, .events, .ports, .bulk, .out, .threads, .mem, .pwr, .ciph, .ncp, .stor, .line, .radio, .plmb, .ser, .held, .tnl, .caps] x0 (execPowerOn x0) := by
  unfold execPowerOn
  extract_lets a0 a1
  have ha0 : Agree [Part.free, Part.regs, Part.time, Part.copy, Part.opt, Part.rst, Part.att, Part.queues, Part.jobs, Part.events,
  Part.ports, Part.bulk, Part.out, Part.threads, Part.mem, Part.pwr, Part.ciph, Part.ncp, Part.stor, Part.line,
  Part.radio, Part.plmb, Part.ser, Part.held, Part.tnl, Part.caps] x0 a0 := by
    unfold a0
    refine Agree.ite ?_ ?_
    · exact Agree.refl _ _
    · exact assertAB_agree.mono (by decide)
  clear_value a0
  clear_value a1
  refine AgreeAns.of_next ?_
  refine Agree.mk' ?_ (by
    intro p hp
    cases p <;> first | exact (hp (by decide)).elim | rfl | exact ⟨rfl, rfl⟩ | exact ⟨rfl, rfl, rfl⟩)
  assumption

theorem airReset_agree {x0} :
    Agree [.regs, .events, .out, .threads, .pwr, .ncp, .line, .radio, .held] x0 (airReset x0) := by
  unfold airReset
  extract_lets a0 a1 a2
  have ha0 : Agree [Part.regs, Part.events, Part.out, Part.threads, Part.pwr, Part.ncp, Part.line, Part.radio, Part.held] x0 a0 := by
    unfold a0
    refine Agree.forActs ?_ ?_
    · intro y3
      intro y4
      intro y5
      exact endSent_agree.mono (by decide)
    · exact Agree.refl _ _
  clear_value a0
  have ha1 : Agree [Part.regs, Part.events, Part.out, Part.threads, Part.pwr, Part.ncp, Part.line, Part.radio, Part.held] x0 a1 := by
    unfold a1
    refine Agree.step ?_ cutAcks_agree (by decide)
    refine Agree.step ?_ State_put_agree (by decide)
    refine Agree.foldUpto ?_ ?_
    · intro y6
      intro y7
      exact txStop_agree.mono (by decide)
    · assumption
  clear_value a1
  clear_value a2
  refine Agree.step ?_ stopChains_agree (by decide)
  refine Agree.mk' ?_ (by
    intro p hp
    cases p <;> first | exact (hp (by decide)).elim | rfl | exact ⟨rfl, rfl⟩ | exact ⟨rfl, rfl, rfl⟩)
  assumption

theorem cutReceptions_agree {x0} :
    Agree [.free, .regs, .line, .radio] x0 (cutReceptions x0) := by
  unfold cutReceptions
  extract_lets a0 a1
  have ha0 : Agree [Part.free, Part.regs, Part.line, Part.radio] x0 a0 := by
    unfold a0
    refine Agree.foldl ?_ ?_
    · intro y2
      intro y3
      refine Agree.foldl ?_ ?_
      · intro y4
        intro y5
        split
        · refine Agree.ite ?_ ?_
          · refine Agree.step ?_ State_drew_agree (by decide)
            exact mapRecv_agree.mono (by decide)
          · exact Agree.refl _ _
        · exact Agree.refl _ _
      · exact Agree.refl _ _
    · exact Agree.refl _ _
  clear_value a0
  clear_value a1
  refine Agree.ite ?_ ?_
  · refine Agree.step ?_ State_drew_agree (by decide)
    refine Agree.mk' ?_ (by
      intro p hp
      cases p <;> first | exact (hp (by decide)).elim | rfl | exact ⟨rfl, rfl⟩ | exact ⟨rfl, rfl, rfl⟩)
    assumption
  · assumption

theorem cipherReset_agree {x0} :
    Agree [.free, .regs, .jobs, .events, .out, .threads, .pwr, .ncp, .line, .radio, .held] x0 (cipherReset x0) := by
  unfold cipherReset
  extract_lets a0 a1 a2
  have ha0 : Agree [Part.free, Part.regs, Part.jobs, Part.events, Part.out, Part.threads, Part.pwr, Part.ncp, Part.line, Part.radio,
  Part.held] x0 a0 := by
    unfold a0
    exact cutReceptions_agree.mono (by decide)
  clear_value a0
  have ha1 : Agree [Part.free, Part.regs, Part.jobs, Part.events, Part.out, Part.threads, Part.pwr, Part.ncp, Part.line, Part.radio,
  Part.held] x0 a1 := by
    unfold a1
    refine Agree.foldl ?_ ?_
    · intro y3
      intro y4
      refine Agree.ite ?_ ?_
      · exact Agree.refl _ _
      · refine Agree.ite ?_ ?_
        · refine Agree.step ?_ endJob_agree (by decide)
          exact State_drew_agree.mono (by decide)
        · refine Agree.ite ?_ ?_
          · refine Agree.ite ?_ ?_
            · refine Agree.step ?_ storEnd_agree (by decide)
              exact State_drew_agree.mono (by decide)
            · exact State_drew_agree.mono (by decide)
          · exact Agree.refl _ _
    · assumption
  clear_value a1
  have ha2 : Agree [Part.free, Part.regs, Part.jobs, Part.events, Part.out, Part.threads, Part.pwr, Part.ncp, Part.line, Part.radio,
  Part.held] x0 a2 := by
    unfold a2
    refine Agree.forActs ?_ ?_
    · intro y5
      intro y6
      intro y7
      exact endAct_agree.mono (by decide)
    · assumption
  clear_value a2
  refine Agree.forActs ?_ ?_
  · intro y8
    intro y9
    intro y10
    extract_lets a11 a12
    clear_value a11
    have ha12 : Agree [Part.free, Part.regs, Part.jobs, Part.events, Part.out, Part.threads, Part.pwr, Part.ncp, Part.line, Part.radio,
  Part.held] y10 a12 := by
      unfold a12
      refine Agree.ite ?_ ?_
      · exact State_put_agree.mono (by decide)
      · refine Agree.foldl ?_ ?_
        · intro y13
          intro y14
          exact txStop_agree.mono (by decide)
        · exact Agree.refl _ _
    clear_value a12
    refine Agree.ite ?_ ?_
    · refine Agree.step ?_ endSent_agree (by decide)
      refine Agree.step ?_ State_drew_agree (by decide)
      assumption
    · exact State_drew_agree.mono (by decide)
  · assumption

theorem storageReset_agree {x0} :
    Agree [.regs, .events, .out, .pwr, .stor, .held] x0 (storageReset x0) := by
  unfold storageReset
  extract_lets a0 a1 a2 a3
  clear_value a0
  clear_value a1
  have ha2 : Agree [Part.regs, Part.events, Part.out, Part.pwr, Part.stor, Part.held] x0 a2 := by
    unfold a2
    refine Agree.mk' ?_ (by
      intro p hp
      cases p <;> first | exact (hp (by decide)).elim | rfl | exact ⟨rfl, rfl⟩ | exact ⟨rfl, rfl, rfl⟩)
    exact Agree.refl _ _
  clear_value a2
  have ha3 : Agree [Part.regs, Part.events, Part.out, Part.pwr, Part.stor, Part.held] x0 a3 := by
    unfold a3
    refine Agree.foldUpto ?_ ?_
    · intro y4
      intro y5
      refine Agree.step ?_ dropRequest_agree (by decide)
      exact releaseGrant_agree.mono (by decide)
    · assumption
  clear_value a3
  refine Agree.ite ?_ ?_
  · exact Agree.refl _ _
  · refine Agree.ite ?_ ?_
    · refine Agree.step ?_ occur_agree (by decide)
      refine Agree.step ?_ State_put_agree (by decide)
      assumption
    · assumption

theorem islandReset_agree {x0 x1 x2} :
    Agree [.free, .regs, .jobs, .events, .out, .threads, .mem, .pwr, .ncp, .stor, .line, .radio, .ser, .held] x2 (islandReset x0 x1 x2) := by
  unfold islandReset
  extract_lets a0 a1
  clear_value a0
  have ha1 : Agree [Part.free, Part.regs, Part.jobs, Part.events, Part.out, Part.threads, Part.mem, Part.pwr, Part.ncp, Part.stor,
  Part.line, Part.radio, Part.ser, Part.held] x2 a1 := by
    unfold a1
    split
    · exact State_put_agree.mono (by decide)
    · exact State_put_agree.mono (by decide)
    · exact Agree.refl _ _
  clear_value a1
  split
  · exact airReset_agree.mono (by decide)
  · exact cipherReset_agree.mono (by decide)
  · exact storageReset_agree.mono (by decide)
  · refine Agree.step ?_ ringIsland_agree (by decide)
    exact airReset_agree.mono (by decide)
  · refine Agree.step ?_ resetCore_agree (by decide)
    assumption

theorem assertD_agree {x0 x1 x2} :
    Agree [.free, .regs, .time, .copy, .opt, .rst, .att, .queues, .jobs, .events, .ports, .bulk, .out, .threads, .mem, .pwr, .ciph, .ncp, .stor, .line, .radio, .plmb, .ser, .held, .tnl, .caps] x2 (assertD x0 x1 x2) := by
  unfold assertD
  extract_lets a0 a1 a2
  clear_value a0
  clear_value a1
  have ha2 : Agree [Part.free, Part.regs, Part.time, Part.copy, Part.opt, Part.rst, Part.att, Part.queues, Part.jobs, Part.events,
  Part.ports, Part.bulk, Part.out, Part.threads, Part.mem, Part.pwr, Part.ciph, Part.ncp, Part.stor, Part.line,
  Part.radio, Part.plmb, Part.ser, Part.held, Part.tnl, Part.caps] x2 a2 := by
    unfold a2
    refine Agree.step ?_ syncHeld_agree (by decide)
    refine Agree.mk' ?_ (by
      intro p hp
      cases p <;> first | exact (hp (by decide)).elim | rfl | exact ⟨rfl, rfl⟩ | exact ⟨rfl, rfl, rfl⟩)
    exact Agree.refl _ _
  clear_value a2
  refine Agree.ite ?_ ?_
  · exact assertAB_agree.mono (by decide)
  · refine Agree.step ?_ noteCause_agree (by decide)
    refine Agree.ite ?_ ?_
    · assumption
    · refine Agree.step ?_ islandReset_agree (by decide)
      assumption

theorem dbgGo_agree {x0 x1} :
    Agree [.free, .regs, .time, .copy, .opt, .rst, .att, .queues, .jobs, .events, .ports, .bulk, .out, .threads, .mem, .pwr, .ciph, .ncp, .stor, .line, .radio, .plmb, .ser, .held, .tnl, .caps] x1 (dbgGo x0 x1) := by
  unfold dbgGo
  split
  · exact assertD_agree.mono (by decide)
  · exact assertAB_agree.mono (by decide)
  · exact State_put_agree.mono (by decide)

theorem dbgReqWrite_agree {x0 x1 x2} :
    Agree [.free, .regs, .time, .copy, .opt, .rst, .att, .queues, .jobs, .events, .ports, .bulk, .out, .threads, .mem, .pwr, .ciph, .ncp, .stor, .line, .radio, .plmb, .ser, .held, .tnl, .caps] x2 (dbgReqWrite x0 x1 x2) := by
  unfold dbgReqWrite
  extract_lets a0
  clear_value a0
  refine Agree.ite ?_ ?_
  · exact Agree.refl _ _
  · exact dbgGo_agree.mono (by decide)

theorem tapRequest_agree {x0 x1} :
    Agree [.free, .regs, .time, .copy, .opt, .rst, .att, .queues, .jobs, .events, .ports, .bulk, .out, .threads, .mem, .pwr, .ciph, .ncp, .stor, .line, .radio, .plmb, .ser, .held, .tnl, .caps] x1 (tapRequest x0 x1) := by
  unfold tapRequest
  refine Agree.ite ?_ ?_
  · exact Agree.refl _ _
  · refine Agree.ite ?_ ?_
    · exact State_put_agree.mono (by decide)
    · exact dbgGo_agree.mono (by decide)

theorem tapDo_agree {x0 x1 x2} :
    Agree [.free, .regs, .time, .copy, .opt, .rst, .att, .queues, .jobs, .events, .ports, .bulk, .out, .threads, .mem, .pwr, .ciph, .ncp, .stor, .line, .radio, .plmb, .ser, .held, .tnl, .caps] x2 (tapDo x0 x1 x2) := by
  unfold tapDo
  extract_lets a0
  clear_value a0
  split
  · exact State_emit_agree.mono (by decide)
  · exact State_emit_agree.mono (by decide)
  · refine Agree.step ?_ State_emit_agree (by decide)
    exact State_drew_agree.mono (by decide)
  · refine Agree.ite ?_ ?_
    · refine Agree.mk' ?_ (by
        intro p hp
        cases p <;> first | exact (hp (by decide)).elim | rfl | exact ⟨rfl, rfl⟩ | exact ⟨rfl, rfl, rfl⟩)
      exact Agree.refl _ _
    · exact Agree.refl _ _
  · exact tapRequest_agree.mono (by decide)

theorem execDbgReqGo_agree {x0 x1 x2} :
    AgreeAns [.free, .regs, .time, .copy, .opt, .rst, .att, .queues, .jobs, .events, .ports, .bulk, .out, .threads, .mem, .pwr, .ciph, .ncp, .stor, .line, .radio, .plmb, .ser, .held, .tnl, .caps] x2 (execDbgReqGo x0 x1 x2) := by
  unfold execDbgReqGo
  split
  · refine AgreeAns.ite ?_ ?_
    · refine AgreeAns.ite ?_ ?_
      · refine AgreeAns.of_next ?_
        exact State_put_agree.mono (by decide)
      · refine AgreeAns.of_next ?_
        exact Agree.refl _ _
    · refine AgreeAns.of_next ?_
      refine Agree.trans ?_ (filtered_agree (by decide) ?_)
      · exact Agree.refl _ _
      · intro y0
        exact dbgReqWrite_agree.mono (by decide)
  · refine AgreeAns.of_next ?_
    exact tapDo_agree.mono (by decide)

theorem execIslandClockFailure_agree {x0 x1} :
    AgreeAns [.free, .regs, .time, .copy, .opt, .rst, .att, .queues, .jobs, .events, .ports, .bulk, .out, .threads, .mem, .pwr, .ciph, .ncp, .stor, .line, .radio, .plmb, .ser, .held, .tnl, .caps] x1 (execIslandClockFailure x0 x1) := by
  unfold execIslandClockFailure
  refine AgreeAns.of_next ?_
  exact assertD_agree.mono (by decide)

theorem assertC_agree {x0 x1 x2} :
    Agree [.free, .regs, .rst, .att, .queues, .jobs, .events, .ports, .out, .threads, .mem, .pwr, .ciph, .ncp, .stor, .radio, .ser, .held] x2 (assertC x0 x1 x2) := by
  unfold assertC
  extract_lets a0 a1
  have ha0 : Agree [Part.free, Part.regs, Part.rst, Part.att, Part.queues, Part.jobs, Part.events, Part.ports, Part.out, Part.threads,
  Part.mem, Part.pwr, Part.ciph, Part.ncp, Part.stor, Part.radio, Part.ser, Part.held] x2 a0 := by
    unfold a0
    exact noteCause_agree.mono (by decide)
  clear_value a0
  clear_value a1
  refine Agree.ite ?_ ?_
  · refine Agree.step ?_ resetDrawer_agree (by decide)
    assumption
  · refine Agree.ite ?_ ?_
    · refine Agree.step ?_ keepNarrow_agree (by decide)
      assumption
    · assumption

theorem rstCmdWrite_agree {x0 x1 x2 x3} :
    Agree [.free, .regs, .time, .copy, .opt, .rst, .att, .queues, .jobs, .events, .ports, .bulk, .out, .threads, .mem, .pwr, .ciph, .ncp, .stor, .line, .radio, .plmb, .ser, .held, .tnl, .caps] x3 (rstCmdWrite x0 x1 x2 x3) := by
  unfold rstCmdWrite
  extract_lets a0 a1 a2
  clear_value a0
  clear_value a1
  clear_value a2
  refine Agree.ite ?_ ?_
  · exact assertAB_agree.mono (by decide)
  · refine Agree.ite ?_ ?_
    · exact assertC_agree.mono (by decide)
    · exact State_put_agree.mono (by decide)

theorem traceCfgWrite_agree {x0 x1 x2} :
    Agree [.regs] x2 (traceCfgWrite x0 x1 x2) := by
  unfold traceCfgWrite
  extract_lets a0 a1
  have ha0 : Agree [Part.regs] x2 a0 := by
    unfold a0
    exact State_wrTyped_agree.mono (by decide)
  clear_value a0
  have ha1 : Agree [Part.regs] x2 a1 := by
    unfold a1
    refine Agree.foldUpto ?_ ?_
    · intro y2
      intro y3
      exact State_put_agree.mono (by decide)
    · assumption
  clear_value a1
  refine Agree.step ?_ State_put_agree (by decide)
  refine Agree.step ?_ State_put_agree (by decide)
  refine Agree.step ?_ State_put_agree (by decide)
  assumption

theorem execLevelDRelease_agree {x0 x1} :
    AgreeAns [.regs, .rst, .events, .out, .held] x1 (execLevelDRelease x0 x1) := by
  unfold execLevelDRelease
  extract_lets a0 a1
  clear_value a0
  have ha1 : Agree [Part.regs, Part.rst, Part.events, Part.out, Part.held] x1 a1 := by
    unfold a1
    refine Agree.step ?_ syncHeld_agree (by decide)
    refine Agree.mk' ?_ (by
      intro p hp
      cases p <;> first | exact (hp (by decide)).elim | rfl | exact ⟨rfl, rfl⟩ | exact ⟨rfl, rfl, rfl⟩)
    exact Agree.refl _ _
  clear_value a1
  refine AgreeAns.ite ?_ ?_
  · refine AgreeAns.of_next ?_
    exact Agree.refl _ _
  · refine AgreeAns.ite ?_ ?_
    · refine AgreeAns.of_next ?_
      assumption
    · refine AgreeAns.of_next ?_
      refine Agree.step ?_ occur_agree (by decide)
      refine Agree.step ?_ State_put_agree (by decide)
      assumption

theorem execTcxoLost_agree {x0} :
    AgreeAns [.free, .regs, .time, .copy, .opt, .rst, .att, .queues, .jobs, .events, .ports, .bulk, .out, .threads, .mem, .pwr, .ciph, .ncp, .stor, .line, .radio, .plmb, .ser, .held, .tnl, .caps] x0 (execTcxoLost x0) := by
  unfold execTcxoLost
  refine AgreeAns.ite ?_ ?_
  · refine AgreeAns.of_next ?_
    exact Agree.refl _ _
  · refine AgreeAns.ite ?_ ?_
    · refine AgreeAns.of_next ?_
      refine Agree.step ?_ occur_agree (by decide)
      exact State_put_agree.mono (by decide)
    · refine AgreeAns.of_next ?_
      exact assertAB_agree.mono (by decide)

theorem execBrownOut_agree {x0 x1} :
    AgreeAns [.free, .regs, .time, .copy, .opt, .rst, .att, .queues, .jobs, .events, .ports, .bulk, .out, .threads, .mem, .pwr, .ciph, .ncp, .stor, .line, .radio, .plmb, .ser, .held, .tnl, .caps] x1 (execBrownOut x0 x1) := by
  unfold execBrownOut
  refine AgreeAns.of_next ?_
  exact assertAB_agree.mono (by decide)

theorem execJigWatchdog_agree {x0 x1} :
    AgreeAns [.free, .regs, .time, .copy, .opt, .rst, .att, .queues, .jobs, .events, .ports, .bulk, .out, .threads, .mem, .pwr, .ciph, .ncp, .stor, .line, .radio, .plmb, .ser, .held, .tnl, .caps] x1 (execJigWatchdog x0 x1) := by
  unfold execJigWatchdog
  extract_lets a0 a1 a2
  clear_value a0
  clear_value a1
  clear_value a2
  refine AgreeAns.ite ?_ ?_
  · refine AgreeAns.of_next ?_
    exact Agree.refl _ _
  · split
    · refine AgreeAns.of_next ?_
      exact Agree.refl _ _
    · refine AgreeAns.of_next ?_
      exact Agree.refl _ _
    · refine AgreeAns.of_next ?_
      exact Agree.refl _ _
    · refine AgreeAns.of_next ?_
      refine Agree.step ?_ assertD_agree (by decide)
      exact State_passTo_agree.mono (by decide)

theorem execPllLostLock_agree {x0} :
    AgreeAns [.free, .regs, .time, .copy, .opt, .rst, .att, .queues, .jobs, .events, .ports, .bulk, .out, .threads, .mem, .pwr, .ciph, .ncp, .stor, .line, .radio, .plmb, .ser, .held, .tnl, .caps] x0 (execPllLostLock x0) := by
  unfold execPllLostLock
  refine AgreeAns.of_next ?_
  exact assertAB_agree.mono (by decide)

theorem execSwDeviceReset_agree {x0 x1 x2} :
    AgreeAns [.free, .regs, .time, .copy, .opt, .rst, .att, .queues, .jobs, .events, .ports, .bulk, .out, .threads, .mem, .pwr, .ciph, .ncp, .stor, .line, .radio, .plmb, .ser, .held, .tnl, .caps] x2 (execSwDeviceReset x0 x1 x2) := by
  unfold execSwDeviceReset
  refine AgreeAns.of_next ?_
  refine Agree.trans ?_ (filtered_agree (by decide) ?_)
  · exact Agree.refl _ _
  · intro y0
    exact rstCmdWrite_agree.mono (by decide)

theorem execKeeperLockup_agree {x0} :
    AgreeAns [.free, .regs, .time, .copy, .opt, .rst, .att, .queues, .jobs, .events, .ports, .bulk, .out, .threads, .mem, .pwr, .ciph, .ncp, .stor, .line, .radio, .plmb, .ser, .held, .tnl, .caps] x0 (execKeeperLockup x0) := by
  unfold execKeeperLockup
  refine AgreeAns.of_next ?_
  exact assertAB_agree.mono (by decide)

theorem execResetNTaken_agree {x0} :
    AgreeAns [.free, .regs, .time, .copy, .opt, .rst, .att, .queues, .jobs, .events, .ports, .bulk, .out, .threads, .mem, .pwr, .ciph, .ncp, .stor, .line, .radio, .plmb, .ser, .held, .tnl, .caps] x0 (execResetNTaken x0) := by
  unfold execResetNTaken
  refine AgreeAns.of_next ?_
  exact assertAB_agree.mono (by decide)

theorem markWord_poisonEntry_agree {x0 x1 x2} :
    Agree [.queues] x2 (markWord.poisonEntry x0 x1 x2) := by
  unfold markWord.poisonEntry
  extract_lets a0 a1 a2
  clear_value a0
  clear_value a1
  clear_value a2
  refine Agree.ite ?_ ?_
  · exact State_setQueue_agree.mono (by decide)
  · refine Agree.ite ?_ ?_
    · exact State_setQueue_agree.mono (by decide)
    · exact State_setQueue_agree.mono (by decide)

theorem markWord_agree {x0 x1} :
    Agree [.free, .regs, .time, .copy, .opt, .rst, .att, .queues, .jobs, .events, .ports, .bulk, .out, .threads, .mem, .pwr, .ciph, .ncp, .stor, .line, .radio, .plmb, .ser, .held, .tnl, .caps] x1 (markWord x0 x1) := by
  unfold markWord
  split
  · exact markWord_poisonEntry_agree.mono (by decide)
  · exact setBulkPoison_agree.mono (by decide)
  · refine Agree.ite ?_ ?_
    · exact setCtxBad_agree.mono (by decide)
    · exact Agree.refl _ _
  · exact setImemPoison_agree.mono (by decide)
  · exact setDmemPoison_agree.mono (by decide)
  · refine Agree.step ?_ tnlCause_agree (by decide)
    exact disableQueue_agree.mono (by decide)
  · refine Agree.step ?_ tnlCause_agree (by decide)
    refine Agree.step ?_ State_setEvt_agree (by decide)
    exact State_put_agree.mono (by decide)
  · refine Agree.step ?_ tnlCause_agree (by decide)
    exact emptyKey_agree.mono (by decide)
  · exact assertAB_agree.mono (by decide)
  · exact Agree.refl _ _

theorem takeHit_agree {x0 x1} :
    Agree [.free, .regs, .time, .copy, .opt, .rst, .att, .queues, .jobs, .events, .ports, .bulk, .out, .threads, .mem, .pwr, .ciph, .ncp, .stor, .line, .radio, .plmb, .ser, .held, .tnl, .caps] x1 (takeHit x0 x1) := by
  unfold takeHit
  extract_lets a0 a1
  have ha0 : Agree [Part.free, Part.regs, Part.time, Part.copy, Part.opt, Part.rst, Part.att, Part.queues, Part.jobs, Part.events,
  Part.ports, Part.bulk, Part.out, Part.threads, Part.mem, Part.pwr, Part.ciph, Part.ncp, Part.stor, Part.line,
  Part.radio, Part.plmb, Part.ser, Part.held, Part.tnl, Part.caps] x1 a0 := by
    unfold a0
    refine Agree.trans ?_ (bumpStat_agree (by decide) ?_)
    · exact Agree.refl _ _
    · intro y2
      exact tnlOvf_agree.mono (by decide)
  clear_value a0
  have ha1 : Agree [Part.free, Part.regs, Part.time, Part.copy, Part.opt, Part.rst, Part.att, Part.queues, Part.jobs, Part.events,
  Part.ports, Part.bulk, Part.out, Part.threads, Part.mem, Part.pwr, Part.ciph, Part.ncp, Part.stor, Part.line,
  Part.radio, Part.plmb, Part.ser, Part.held, Part.tnl, Part.caps] x1 a1 := by
    unfold a1
    refine Agree.step ?_ State_put_agree (by decide)
    refine Agree.step ?_ State_put_agree (by decide)
    assumption
  clear_value a1
  refine Agree.ite ?_ ?_
  · refine Agree.trans ?_ (bumpStat_agree (by decide) ?_)
    · exact Agree.refl _ _
    · intro y3
      exact tnlOvf_agree.mono (by decide)
  · refine Agree.step ?_ markWord_agree (by decide)
    assumption

theorem execKeeperWatchdog_agree {x0} :
    AgreeAns [.free, .regs, .time, .copy, .opt, .rst, .att, .queues, .jobs, .events, .ports, .bulk, .out, .threads, .mem, .pwr, .ciph, .ncp, .stor, .line, .radio, .plmb, .ser, .held, .tnl, .caps] x0 (execKeeperWatchdog x0) := by
  unfold execKeeperWatchdog
  refine AgreeAns.of_next ?_
  exact assertAB_agree.mono (by decide)

theorem execEccScrubPass_agree {x0 x1} :
    AgreeAns [.free, .regs, .time, .copy, .opt, .rst, .att, .queues, .jobs, .events, .ports, .bulk, .out, .threads, .mem, .pwr, .ciph, .ncp, .stor, .line, .radio, .plmb, .ser, .held, .tnl, .caps] x1 (execEccScrubPass x0 x1) := by
  unfold execEccScrubPass
  refine AgreeAns.of_next ?_
  refine Agree.foldl ?_ ?_
  · intro y0
    intro y1
    exact takeHit_agree.mono (by decide)
  · exact Agree.refl _ _

theorem execTenEdgeLost_agree {x0 x1} :
    AgreeAns [.free, .regs, .time, .copy, .opt, .rst, .att, .queues, .jobs, .events, .ports, .bulk, .out, .threads, .mem, .pwr, .ciph, .ncp, .stor, .line, .radio, .plmb, .ser, .held, .tnl, .caps] x1 (execTenEdgeLost x0 x1) := by
  unfold execTenEdgeLost
  extract_lets a0 a1
  clear_value a0
  have ha1 : Agree [Part.free, Part.regs, Part.time, Part.copy, Part.opt, Part.rst, Part.att, Part.queues, Part.jobs, Part.events,
  Part.ports, Part.bulk, Part.out, Part.threads, Part.mem, Part.pwr, Part.ciph, Part.ncp, Part.stor, Part.line,
  Part.radio, Part.plmb, Part.ser, Part.held, Part.tnl, Part.caps] x1 a1 := by
    unfold a1
    exact tenLost_agree.mono (by decide)
  clear_value a1
  refine AgreeAns.ite ?_ ?_
  · refine AgreeAns.of_next ?_
    refine Agree.step ?_ assertAB_agree (by decide)
    refine Agree.step ?_ State_put_agree (by decide)
    assumption
  · refine AgreeAns.of_next ?_
    assumption

theorem execSwDrawerReset_agree {x0 x1 x2} :
    AgreeAns [.free, .regs, .time, .copy, .opt, .rst, .att, .queues, .jobs, .events, .ports, .bulk, .out, .threads, .mem, .pwr, .ciph, .ncp, .stor, .line, .radio, .plmb, .ser, .held, .tnl, .caps] x2 (execSwDrawerReset x0 x1 x2) := by
  unfold execSwDrawerReset
  refine AgreeAns.of_next ?_
  refine Agree.trans ?_ (filtered_agree (by decide) ?_)
  · exact Agree.refl _ _
  · intro y0
    exact rstCmdWrite_agree.mono (by decide)

theorem execDbgTraceCfgWrite_agree {x0 x1 x2 x3} :
    AgreeAns [.regs, .events, .out, .held] x3 (execDbgTraceCfgWrite x0 x1 x2 x3) := by
  unfold execDbgTraceCfgWrite
  refine AgreeAns.of_next ?_
  refine Agree.trans ?_ (filtered_agree (by decide) ?_)
  · exact Agree.refl _ _
  · intro y0
    exact traceCfgWrite_agree.mono (by decide)

theorem execJigLockup_agree {x0 x1} :
    AgreeAns [.free, .regs, .time, .copy, .opt, .rst, .att, .queues, .jobs, .events, .ports, .bulk, .out, .threads, .mem, .pwr, .ciph, .ncp, .stor, .line, .radio, .plmb, .ser, .held, .tnl, .caps] x1 (execJigLockup x0 x1) := by
  unfold execJigLockup
  extract_lets a0
  clear_value a0
  refine AgreeAns.ite ?_ ?_
  · refine AgreeAns.of_next ?_
    exact Agree.refl _ _
  · refine AgreeAns.ite ?_ ?_
    · refine AgreeAns.of_next ?_
      exact assertD_agree.mono (by decide)
    · split
      · refine AgreeAns.of_next ?_
        refine Agree.step ?_ assertD_agree (by decide)
        exact State_passTo_agree.mono (by decide)
      · refine AgreeAns.of_next ?_
        exact Agree.refl _ _

theorem resetFunctions_agree {x0 x1} :
    Agree [.free, .regs, .rst, .att, .queues, .jobs, .events, .ports, .out, .threads, .mem, .pwr, .ciph, .ncp, .stor, .radio, .ser, .held] x1 (resetFunctions x0 x1) := by
  unfold resetFunctions
  refine Agree.foldl ?_ ?_
  · intro y0
    intro y1
    exact assertC_agree.mono (by decide)
  · exact Agree.refl _ _

theorem execFunctionLevelReset_agree {x0 x1} :
    AgreeAns [.free, .regs, .rst, .att, .queues, .jobs, .events, .ports, .out, .threads, .mem, .pwr, .ciph, .ncp, .stor, .radio, .ser, .held] x1 (execFunctionLevelReset x0 x1) := by
  unfold execFunctionLevelReset
  extract_lets a0
  clear_value a0
  split
  · refine AgreeAns.of_next ?_
    exact resetFunctions_agree.mono (by decide)
  · refine AgreeAns.of_next ?_
    refine Agree.step ?_ resetFunctions_agree (by decide)
    refine Agree.mk' ?_ (by
      intro p hp
      cases p <;> first | exact (hp (by decide)).elim | rfl | exact ⟨rfl, rfl⟩ | exact ⟨rfl, rfl, rfl⟩)
    exact Agree.refl _ _

end Sys2Proof.Machine
end

