-- ==== Sys2Proof/Laws/Frame/Boot.lean ====
section
/-!
SUPPORT. Which parts of the state each definition of Machine/Boot.lean may change.
-/

namespace Sys2Proof.Machine

theorem releaseStep4_agree {x0 x1 x2} :
    Agree [.regs, .rst] x2 (releaseStep4 x0 x1 x2) := by
  unfold releaseStep4
  extract_lets a0 a1 a2
  have ha0 : Agree [Part.regs, Part.rst] x2 a0 := by
    unfold a0
    refine Agree.foldl ?_ ?_
    · intro y3
      intro y4
      exact State_put_agree.mono (by decide)
    · exact Agree.refl _ _
  clear_value a0
  have ha1 : Agree [Part.regs, Part.rst] x2 a1 := by
    unfold a1
    refine Agree.step ?_ State_put_agree (by decide)
    refine Agree.step ?_ showPubKey_agree (by decide)
    refine Agree.step ?_ stageActive_agree (by decide)
    assumption
  clear_value a1
  clear_value a2
  refine Agree.mk' ?_ (by
    intro p hp
    cases p <;> first | exact (hp (by decide)).elim | rfl | exact ⟨rfl, rfl⟩ | exact ⟨rfl, rfl, rfl⟩)
  assumption

theorem attRefuse_agree {x0 x1 x2} :
    Agree [.regs] x2 (attRefuse x0 x1 x2) := by
  unfold attRefuse
  refine Agree.step ?_ State_put_agree (by decide)
  exact State_put_agree.mono (by decide)

theorem attWrite_agree {x0 x1 x2 x3} :
    Agree [.regs, .att] x3 (attWrite x0 x1 x2 x3) := by
  unfold attWrite
  extract_lets a0 a1 a2 a3
  clear_value a0
  clear_value a1
  have ha2 : Agree [Part.regs, Part.att] x3 a2 := by
    unfold a2
    refine Agree.step ?_ State_put_agree (by decide)
    exact State_put_agree.mono (by decide)
  clear_value a2
  clear_value a3
  refine Agree.ite ?_ ?_
  · exact Agree.refl _ _
  · refine Agree.ite ?_ ?_
    · exact attRefuse_agree.mono (by decide)
    · refine Agree.ite ?_ ?_
      · exact attRefuse_agree.mono (by decide)
      · refine Agree.ite ?_ ?_
        · exact attRefuse_agree.mono (by decide)
        · refine Agree.mk' ?_ (by
            intro p hp
            cases p <;> first | exact (hp (by decide)).elim | rfl | exact ⟨rfl, rfl⟩ | exact ⟨rfl, rfl, rfl⟩)
          assumption

theorem execAttRequest_agree {x0 x1 x2} :
    AgreeAns [.regs, .att, .events, .out, .held] x2 (execAttRequest x0 x1 x2) := by
  unfold execAttRequest
  refine AgreeAns.of_next ?_
  refine Agree.trans ?_ (filtered_agree (by decide) ?_)
  · exact Agree.refl _ _
  · intro y0
    exact attWrite_agree.mono (by decide)

theorem alwaysOn_agree {x0} :
    Agree [.regs, .time, .copy, .events, .out, .line, .radio, .plmb, .held] x0 (alwaysOn x0) := by
  unfold alwaysOn
  extract_lets a0 a1 a2 a3 a4 a5 a6
  have ha0 : Agree [Part.regs, Part.time, Part.copy, Part.events, Part.out, Part.line, Part.radio, Part.plmb, Part.held] x0 a0 := by
    unfold a0
    refine Agree.step ?_ State_put_agree (by decide)
    refine Agree.step ?_ State_put_agree (by decide)
    exact State_put_agree.mono (by decide)
  clear_value a0
  have ha1 : Agree [Part.regs, Part.time, Part.copy, Part.events, Part.out, Part.line, Part.radio, Part.plmb, Part.held] x0 a1 := by
    unfold a1
    refine Agree.step ?_ showBootCount_agree (by decide)
    refine Agree.step ?_ readOptions_agree (by decide)
    assumption
  clear_value a1
  have ha2 : Agree [Part.regs, Part.time, Part.copy, Part.events, Part.out, Part.line, Part.radio, Part.plmb, Part.held] x0 a2 := by
    unfold a2
    refine Agree.step ?_ State_wr_agree (by decide)
    refine Agree.step ?_ State_wr_agree (by decide)
    assumption
  clear_value a2
  have ha3 : Agree [Part.regs, Part.time, Part.copy, Part.events, Part.out, Part.line, Part.radio, Part.plmb, Part.held] x0 a3 := by
    unfold a3
    refine Agree.step ?_ showBytes_agree (by decide)
    refine Agree.step ?_ showBytes_agree (by decide)
    assumption
  clear_value a3
  have ha4 : Agree [Part.regs, Part.time, Part.copy, Part.events, Part.out, Part.line, Part.radio, Part.plmb, Part.held] x0 a4 := by
    unfold a4
    refine Agree.step ?_ plumbStart_agree (by decide)
    assumption
  clear_value a4
  clear_value a5
  have ha6 : Agree [Part.regs, Part.time, Part.copy, Part.events, Part.out, Part.line, Part.radio, Part.plmb, Part.held] x0 a6 := by
    unfold a6
    refine Agree.mk' ?_ (by
      intro p hp
      cases p <;> first | exact (hp (by decide)).elim | rfl | exact ⟨rfl, rfl⟩ | exact ⟨rfl, rfl, rfl⟩)
    assumption
  clear_value a6
  refine Agree.step ?_ syncDuty_agree (by decide)
  refine Agree.ite ?_ ?_
  · assumption
  · refine Agree.step ?_ State_put_agree (by decide)
    assumption

theorem releaseStep3_agree {x0} :
    Agree [.regs, .time, .copy, .rst, .events, .out, .line, .radio, .plmb, .held] x0 (releaseStep3 x0) := by
  have set : ∀ a : State, Agree [.regs, .time, .copy, .rst, .events, .out, .line, .radio, .plmb, .held] x0 a → Agree [.regs, .time, .copy, .rst, .events, .out, .line, .radio, .plmb, .held] x0 { a with rst := { a.rst with seq := 3 } } := fun a h =>
    Agree.mk' h (by
      intro p hp
      cases p <;> first | exact (hp (by decide)).elim | rfl | exact ⟨rfl, rfl⟩ | exact ⟨rfl, rfl, rfl⟩)
  unfold releaseStep3
  exact Agree.ite (set _ (alwaysOn_agree.mono (by decide))) (Agree.refl _ _)

theorem attEnd_agree {x0 x1 x2 x3} :
    Agree [.regs, .att, .events, .bulk, .out, .held] x3 (attEnd x0 x1 x2 x3) := by
  unfold attEnd
  extract_lets a0 a1 a2
  have ha0 : Agree [Part.regs, Part.att, Part.events, Part.bulk, Part.out, Part.held] x3 a0 := by
    unfold a0
    refine Agree.mk' ?_ (by
      intro p hp
      cases p <;> first | exact (hp (by decide)).elim | rfl | exact ⟨rfl, rfl⟩ | exact ⟨rfl, rfl, rfl⟩)
    exact Agree.refl _ _
  clear_value a0
  clear_value a1
  have ha2 : Agree [Part.regs, Part.att, Part.events, Part.bulk, Part.out, Part.held] x3 a2 := by
    unfold a2
    refine Agree.step ?_ wrBulkL_agree (by decide)
    assumption
  clear_value a2
  refine Agree.ite ?_ ?_
  · refine Agree.step ?_ attRefuse_agree (by decide)
    assumption
  · refine Agree.step ?_ occur_agree (by decide)
    refine Agree.step ?_ State_put_agree (by decide)
    assumption

theorem execAttDone_agree {x0 x1} :
    AgreeAns [.regs, .att, .events, .bulk, .out, .held] x1 (execAttDone x0 x1) := by
  unfold execAttDone
  split
  · refine AgreeAns.of_next ?_
    exact attEnd_agree.mono (by decide)
  · refine AgreeAns.of_next ?_
    exact Agree.refl _ _

theorem setStage_agree {x0 x1} :
    Agree [.regs] x1 (setStage x0 x1) := by
  unfold setStage
  exact State_put_agree.mono (by decide)

theorem pushWrite_agree {x0 x1} :
    Agree [.regs, .rst] x1 (pushWrite x0 x1) := by
  unfold pushWrite
  extract_lets a0 a1
  have ha0 : Agree [Part.regs, Part.rst] x1 a0 := by
    unfold a0
    exact setStage_agree.mono (by decide)
  clear_value a0
  clear_value a1
  refine Agree.ite ?_ ?_
  · exact Agree.refl _ _
  · refine Agree.mk' ?_ (by
      intro p hp
      cases p <;> first | exact (hp (by decide)).elim | rfl | exact ⟨rfl, rfl⟩ | exact ⟨rfl, rfl, rfl⟩)
    assumption

theorem loadLimits_agree {x0} :
    Agree [.free, .regs] x0 (loadLimits x0) := by
  unfold loadLimits
  extract_lets a0 a1 a2
  clear_value a0
  have ha2 : Agree [Part.free, Part.regs] x0 a2 := by
    unfold a2
    refine Agree.ite ?_ ?_
    · exact Agree.refl _ _
    · unfold a1
      refine Agree.foldUpto ?_ ?_
      · intro y3
        intro y4
        refine Agree.step ?_ State_wr_agree (by decide)
        exact State_drew_agree.mono (by decide)
      · exact Agree.refl _ _
  clear_value a2
  refine Agree.ite ?_ ?_
  · assumption
  · unfold a1
    refine Agree.foldUpto ?_ ?_
    · intro y5
      intro y6
      refine Agree.step ?_ State_wr_agree (by decide)
      exact State_drew_agree.mono (by decide)
    · assumption

theorem execFirmwareBringup_agree {x0} :
    AgreeAns [.free, .regs, .rst] x0 (execFirmwareBringup x0) := by
  unfold execFirmwareBringup
  extract_lets a0 a1
  have ha0 : Agree [Part.free, Part.regs, Part.rst] x0 a0 := by
    unfold a0
    refine Agree.step ?_ loadLimits_agree (by decide)
    exact setStage_agree.mono (by decide)
  clear_value a0
  clear_value a1
  refine AgreeAns.ite ?_ ?_
  · refine AgreeAns.of_next ?_
    exact Agree.refl _ _
  · refine AgreeAns.of_next ?_
    refine Agree.mk' ?_ (by
      intro p hp
      cases p <;> first | exact (hp (by decide)).elim | rfl | exact ⟨rfl, rfl⟩ | exact ⟨rfl, rfl, rfl⟩)
    assumption

theorem execBootPush_agree {x0 x1 x2 x3} :
    AgreeAns [.regs, .rst, .events, .out, .held] x3 (execBootPush x0 x1 x2 x3) := by
  unfold execBootPush
  refine AgreeAns.of_next ?_
  refine Agree.trans ?_ (filtered_agree (by decide) ?_)
  · exact Agree.refl _ _
  · intro y0
    exact pushWrite_agree.mono (by decide)

theorem measureImage_agree {x0 x1} :
    Agree [.regs, .events, .out, .held] x0 (measureImage x0 x1) := by
  unfold measureImage
  extract_lets a0
  have ha0 : Agree [Part.regs, Part.events, Part.out, Part.held] x0 a0 := by
    unfold a0
    refine Agree.step ?_ extendMeas_agree (by decide)
    exact extendMeas_agree.mono (by decide)
  clear_value a0
  refine Agree.ite ?_ ?_
  · exact Agree.refl _ _
  · refine Agree.ite ?_ ?_
    · refine Agree.step ?_ cipherFault_agree (by decide)
      assumption
    · assumption

theorem runImage_agree {x0 x1 x2} :
    Agree [.regs, .rst] x2 (runImage x0 x1 x2) := by
  unfold runImage
  extract_lets a0 a1
  have ha0 : Agree [Part.regs, Part.rst] x2 a0 := by
    unfold a0
    refine Agree.step ?_ State_put_agree (by decide)
    refine Agree.step ?_ State_put_agree (by decide)
    exact setStage_agree.mono (by decide)
  clear_value a0
  clear_value a1
  refine Agree.mk' ?_ (by
    intro p hp
    cases p <;> first | exact (hp (by decide)).elim | rfl | exact ⟨rfl, rfl⟩ | exact ⟨rfl, rfl, rfl⟩)
  assumption

theorem bootError_agree {x0 x1} :
    Agree [.regs] x1 (bootError x0 x1) := by
  unfold bootError
  exact State_put_agree.mono (by decide)

theorem tryPushed_agree {x0 x1} :
    Agree [.regs, .rst, .events, .out, .held] x1 (tryPushed x0 x1) := by
  unfold tryPushed
  extract_lets a0 a1 a2 a3 a4
  clear_value a0
  clear_value a1
  have ha2 : Agree [Part.regs, Part.rst, Part.events, Part.out, Part.held] x1 a2 := by
    unfold a2
    exact measureImage_agree.mono (by decide)
  clear_value a2
  have ha3 : Agree [Part.regs, Part.rst, Part.events, Part.out, Part.held] x1 a3 := by
    unfold a3
    refine Agree.step ?_ setStage_agree (by decide)
    refine Agree.step ?_ bootError_agree (by decide)
    assumption
  clear_value a3
  clear_value a4
  refine Agree.ite ?_ ?_
  · refine Agree.step ?_ runImage_agree (by decide)
    assumption
  · refine Agree.mk' ?_ (by
      intro p hp
      cases p <;> first | exact (hp (by decide)).elim | rfl | exact ⟨rfl, rfl⟩ | exact ⟨rfl, rfl, rfl⟩)
    assumption

theorem endSources_agree {x0 x1} :
    Agree [.rst] x1 (endSources x0 x1) := by
  unfold endSources
  extract_lets a0
  clear_value a0
  refine Agree.mk' ?_ (by
    intro p hp
    cases p <;> first | exact (hp (by decide)).elim | rfl | exact ⟨rfl, rfl⟩ | exact ⟨rfl, rfl, rfl⟩)
  exact Agree.refl _ _

theorem execResetRelease_agree {x0 x1 x2} :
    AgreeAns [.regs, .time, .copy, .rst, .events, .out, .line, .radio, .plmb, .held] x2 (execResetRelease x0 x1 x2) := by
  unfold execResetRelease
  extract_lets a0
  have ha0 : Agree [Part.regs, Part.time, Part.copy, Part.rst, Part.events, Part.out, Part.line, Part.radio, Part.plmb, Part.held] x2 a0 := by
    unfold a0
    refine Agree.step ?_ releaseStep3_agree (by decide)
    exact endSources_agree.mono (by decide)
  clear_value a0
  refine AgreeAns.ite ?_ ?_
  · refine AgreeAns.of_next ?_
    exact Agree.refl _ _
  · refine AgreeAns.ite ?_ ?_
    · refine AgreeAns.of_next ?_
      assumption
    · refine AgreeAns.of_next ?_
      refine Agree.step ?_ releaseStep4_agree (by decide)
      assumption

theorem measureStart_agree {x0} :
    Agree [.regs, .opt] x0 (measureStart x0) := by
  unfold measureStart
  extract_lets a0
  clear_value a0
  refine Agree.step ?_ extendMeas_agree (by decide)
  refine Agree.step ?_ extendMeas_agree (by decide)
  exact raiseBootCount_agree.mono (by decide)

theorem trySecondary_agree {x0 x1} :
    Agree [.regs, .rst, .events, .out, .held] x1 (trySecondary x0 x1) := by
  unfold trySecondary
  extract_lets a0
  clear_value a0
  split
  · refine Agree.mk' ?_ (by
      intro p hp
      cases p <;> first | exact (hp (by decide)).elim | rfl | exact ⟨rfl, rfl⟩ | exact ⟨rfl, rfl, rfl⟩)
    exact Agree.refl _ _
  · extract_lets a1 a2 a3 a4
    clear_value a1
    have ha2 : Agree [Part.regs, Part.rst, Part.events, Part.out, Part.held] x1 a2 := by
      unfold a2
      exact measureImage_agree.mono (by decide)
    clear_value a2
    have ha3 : Agree [Part.regs, Part.rst, Part.events, Part.out, Part.held] x1 a3 := by
      unfold a3
      refine Agree.step ?_ setStage_agree (by decide)
      refine Agree.step ?_ bootError_agree (by decide)
      assumption
    clear_value a3
    clear_value a4
    refine Agree.ite ?_ ?_
    · refine Agree.step ?_ runImage_agree (by decide)
      assumption
    · refine Agree.mk' ?_ (by
        intro p hp
        cases p <;> first | exact (hp (by decide)).elim | rfl | exact ⟨rfl, rfl⟩ | exact ⟨rfl, rfl, rfl⟩)
      assumption

theorem tryPrimary_agree {x0 x1 x2} :
    Agree [.regs, .rst, .events, .out, .held] x2 (tryPrimary x0 x1 x2) := by
  unfold tryPrimary
  extract_lets a0
  clear_value a0
  split
  · refine Agree.mk' ?_ (by
      intro p hp
      cases p <;> first | exact (hp (by decide)).elim | rfl | exact ⟨rfl, rfl⟩ | exact ⟨rfl, rfl, rfl⟩)
    exact Agree.refl _ _
  · extract_lets a1 a2
    clear_value a1
    have ha2 : Agree [Part.regs, Part.rst, Part.events, Part.out, Part.held] x2 a2 := by
      unfold a2
      exact measureImage_agree.mono (by decide)
    clear_value a2
    refine Agree.ite ?_ ?_
    · refine Agree.step ?_ runImage_agree (by decide)
      assumption
    · refine Agree.step ?_ trySecondary_agree (by decide)
      refine Agree.step ?_ bootError_agree (by decide)
      assumption

theorem romStart_agree {x0 x1 x2} :
    Agree [.regs, .opt, .rst, .events, .out, .held] x2 (romStart x0 x1 x2) := by
  unfold romStart
  extract_lets a0 a1 a2
  have ha0 : Agree [Part.regs, Part.opt, Part.rst, Part.events, Part.out, Part.held] x2 a0 := by
    unfold a0
    exact measureStart_agree.mono (by decide)
  clear_value a0
  have ha1 : Agree [Part.regs, Part.opt, Part.rst, Part.events, Part.out, Part.held] x2 a1 := by
    unfold a1
    refine Agree.step ?_ setStage_agree (by decide)
    assumption
  clear_value a1
  clear_value a2
  refine Agree.ite ?_ ?_
  · refine Agree.mk' ?_ (by
      intro p hp
      cases p <;> first | exact (hp (by decide)).elim | rfl | exact ⟨rfl, rfl⟩ | exact ⟨rfl, rfl, rfl⟩)
    assumption
  · refine Agree.step ?_ tryPrimary_agree (by decide)
    assumption

theorem execKeeperRomBoot_agree {x0 x1 x2} :
    AgreeAns [.regs, .opt, .rst, .events, .out, .held] x2 (execKeeperRomBoot x0 x1 x2) := by
  unfold execKeeperRomBoot
  refine AgreeAns.ite ?_ ?_
  · refine AgreeAns.of_next ?_
    exact tryPushed_agree.mono (by decide)
  · refine AgreeAns.ite ?_ ?_
    · refine AgreeAns.of_next ?_
      exact Agree.refl _ _
    · refine AgreeAns.of_next ?_
      exact romStart_agree.mono (by decide)

theorem execLinkDownBoot_agree {x0} :
    AgreeAns [.regs, .rst] x0 (execLinkDownBoot x0) := by
  unfold execLinkDownBoot
  extract_lets a0 a1 a2 a3
  clear_value a0
  have ha1 : Agree [Part.regs, Part.rst] x0 a1 := by
    unfold a1
    refine Agree.step ?_ setActive_agree (by decide)
    exact State_put_agree.mono (by decide)
  clear_value a1
  have ha2 : Agree [Part.regs, Part.rst] x0 a2 := by
    unfold a2
    refine Agree.step ?_ setAbsent_agree (by decide)
    refine Agree.step ?_ State_put_agree (by decide)
    assumption
  clear_value a2
  clear_value a3
  refine AgreeAns.ite ?_ ?_
  · refine AgreeAns.of_next ?_
    exact Agree.refl _ _
  · refine AgreeAns.of_next ?_
    refine Agree.mk' ?_ (by
      intro p hp
      cases p <;> first | exact (hp (by decide)).elim | rfl | exact ⟨rfl, rfl⟩ | exact ⟨rfl, rfl, rfl⟩)
    assumption

theorem execFlashTimeout_agree {x0 x1} :
    AgreeAns [.regs, .rst, .events, .out, .held] x1 (execFlashTimeout x0 x1) := by
  unfold execFlashTimeout
  extract_lets a0 a1
  have ha0 : Agree [Part.regs, Part.rst, Part.events, Part.out, Part.held] x1 a0 := by
    unfold a0
    refine Agree.step ?_ setStage_agree (by decide)
    exact bootError_agree.mono (by decide)
  clear_value a0
  clear_value a1
  split
  · refine AgreeAns.of_next ?_
    refine Agree.step ?_ trySecondary_agree (by decide)
    exact bootError_agree.mono (by decide)
  · refine AgreeAns.of_next ?_
    refine Agree.mk' ?_ (by
      intro p hp
      cases p <;> first | exact (hp (by decide)).elim | rfl | exact ⟨rfl, rfl⟩ | exact ⟨rfl, rfl, rfl⟩)
    assumption
  · refine AgreeAns.of_next ?_
    exact Agree.refl _ _

theorem execAttServiceStart_agree {x0} :
    AgreeAns [.att] x0 (execAttServiceStart x0) := by
  unfold execAttServiceStart
  extract_lets a0 a1
  clear_value a0
  clear_value a1
  split
  · refine AgreeAns.of_next ?_
    exact Agree.refl _ _
  · refine AgreeAns.ite ?_ ?_
    · refine AgreeAns.of_next ?_
      exact Agree.refl _ _
    · refine AgreeAns.of_next ?_
      refine Agree.mk' ?_ (by
        intro p hp
        cases p <;> first | exact (hp (by decide)).elim | rfl | exact ⟨rfl, rfl⟩ | exact ⟨rfl, rfl, rfl⟩)
      exact Agree.refl _ _

end Sys2Proof.Machine
end

