-- ==== Sys2Proof/Laws/Frame/Access.lean ====
section
/-!
SUPPORT. Which parts of the state each definition of Machine/Access.lean may change.
-/

namespace Sys2Proof.Machine

theorem readSlot_agree {x0 x1 x2 x3} :
    AgreeFst [.regs, .queues, .events, .out, .held] x3 (readSlot x0 x1 x2 x3) := by
  unfold readSlot
  extract_lets a0
  have ha0 : Agree [Part.regs, Part.queues, Part.events, Part.out, Part.held] x3 a0 := by
    unfold a0
    refine Agree.ite ?_ ?_
    · exact popQueue_agree.mono (by decide)
    · exact Agree.refl _ _
  clear_value a0
  refine AgreeFst.ite ?_ ?_
  · refine AgreeFst.mk ?_
    refine Agree.step ?_ poisonRead_agree (by decide)
    assumption
  · refine AgreeFst.mk ?_
    assumption

theorem readWord_agree {x0 x1 x2 x3} :
    AgreeFst [.regs, .queues, .events, .out, .ser, .held, .caps] x3 (readWord x0 x1 x2 x3) := by
  unfold readWord
  split
  · refine AgreeFst.step ?_ ctlRead_agree (by decide)
    exact Agree.refl _ _
  · refine AgreeFst.ite ?_ ?_
    · refine AgreeFst.mk ?_
      exact Agree.refl _ _
    · split
      · refine AgreeFst.step ?_ readSlot_agree (by decide)
        exact Agree.refl _ _
      · refine AgreeFst.mk ?_
        exact Agree.refl _ _
      · refine AgreeFst.mk ?_
        exact violation_agree.mono (by decide)
  · refine AgreeFst.ite ?_ ?_
    · refine AgreeFst.mk ?_
      exact Agree.refl _ _
    · refine AgreeFst.ite ?_ ?_
      · refine AgreeFst.mk ?_
        exact poisonRead_agree.mono (by decide)
      · refine AgreeFst.mk ?_
        exact Agree.refl _ _
  · refine AgreeFst.mk ?_
    exact Agree.refl _ _

theorem unpopped_agree {x0 x1 x2 x3} :
    Agree [.regs] x3 (unpopped x0 x1 x2 x3) := by
  unfold unpopped
  refine Agree.ite ?_ ?_
  · exact poisonRead_agree.mono (by decide)
  · exact Agree.refl _ _

theorem readBytes_agree {x0 x1 x2 x3 x4 x5} :
    AgreeFst [.regs, .queues, .events, .out, .ser, .held, .caps] x5 (readBytes x0 x1 x2 x3 x4 x5) := by
  induction x2 generalizing x3 x4 x5 with
  | zero => exact Agree.refl _ _
  | succ k ih =>
    show Agree _ _ (if _ then _ else _)
    exact Agree.ite (unpopped_agree.mono (by decide)) (Agree.trans (readWord_agree.mono (by decide)) ih)

theorem writeMsgCtl_agree {x0 x1 x2} :
    Agree [.events, .out] x2 (writeMsgCtl x0 x1 x2) := by
  unfold writeMsgCtl
  extract_lets a0
  have ha0 : Agree [Part.events, Part.out] x2 a0 := by
    unfold a0
    exact setMsixCtl_agree.mono (by decide)
  clear_value a0
  refine Agree.foldUpto ?_ ?_
  · intro y1
    intro y2
    refine Agree.ite ?_ ?_
    · exact unmaskVector_agree.mono (by decide)
    · exact Agree.refl _ _
  · assumption

theorem execQspiReadTimeout_agree {x0 x1 x2} :
    AgreeAns [.out] x2 (execQspiReadTimeout x0 x1 x2) := by
  unfold execQspiReadTimeout
  refine AgreeAns.ite ?_ ?_
  · refine AgreeAns.of_next ?_
    exact Agree.refl _ _
  · refine AgreeAns.of_next ?_
    exact State_emit_agree.mono (by decide)

theorem qspiGet_agree {x0 x1 x2 x3} :
    Agree [.regs, .queues, .events, .out, .ser, .held, .caps] x3 (qspiGet x0 x1 x2 x3) := by
  unfold qspiGet
  split
  · exact State_emit_agree.mono (by decide)
  · extract_lets a0
    refine Agree.step ?_ State_emit_agree (by decide)
    exact readBytes_agree.mono (by decide)

theorem setQport_agree {x0 x1 x2} :
    Agree [.ports] x2 (setQport x0 x1 x2) := by
  unfold setQport
  extract_lets a0
  refine Agree.mk' ?_ (by
    intro p hp
    cases p <;> first | exact (hp (by decide)).elim | rfl | exact ⟨rfl, rfl⟩ | exact ⟨rfl, rfl, rfl⟩)
  exact Agree.refl _ _

theorem qspiPut_agree {x0 x1 x2 x3} :
    Agree [.ports] x3 (qspiPut x0 x1 x2 x3) := by
  unfold qspiPut
  extract_lets a0 a1
  clear_value a0
  clear_value a1
  refine Agree.ite ?_ ?_
  · exact setQport_agree.mono (by decide)
  · exact setQport_agree.mono (by decide)

theorem qspiStat_agree {x0 x1} :
    Agree [.ports, .out] x1 (qspiStat x0 x1) := by
  unfold qspiStat
  extract_lets a0 a1
  clear_value a0
  clear_value a1
  refine Agree.step ?_ State_emit_agree (by decide)
  exact setQport_agree.mono (by decide)

theorem qspiDo_agree {x0 x1 x2 x3 x4} :
    Agree [.regs, .queues, .events, .ports, .out, .ser, .held, .caps] x4 (qspiDo x0 x1 x2 x3 x4) := by
  unfold qspiDo
  refine Agree.ite ?_ ?_
  · exact Agree.refl _ _
  · refine Agree.ite ?_ ?_
    · exact qspiGet_agree.mono (by decide)
    · refine Agree.ite ?_ ?_
      · exact qspiPut_agree.mono (by decide)
      · refine Agree.ite ?_ ?_
        · exact qspiStat_agree.mono (by decide)
        · exact State_emit_agree.mono (by decide)

theorem execQspiWrite_agree {x0 x1 x2 x3} :
    AgreeAns [.regs, .queues, .events, .ports, .out, .ser, .held, .caps] x3 (execQspiWrite x0 x1 x2 x3) := by
  unfold execQspiWrite
  refine AgreeAns.of_next ?_
  exact qspiDo_agree.mono (by decide)

theorem clearPend_agree {x0 x1 x2 x3 x4} :
    Agree [.regs] x4 (clearPend x0 x1 x2 x3 x4) := by
  unfold clearPend
  exact State_wr_agree.mono (by decide)

theorem plainWrite_agree {x0 x1 x2 x3 x4} :
    Agree [.regs, .events, .out, .held] x4 (plainWrite x0 x1 x2 x3 x4) := by
  unfold plainWrite
  extract_lets a0
  refine Agree.ite ?_ ?_
  · refine Agree.trans ?_ (lineDieWrite_agree (by decide) ?_)
    · exact Agree.refl _ _
    · intro y1
      unfold a0
      exact State_wrTyped_agree.mono (by decide)
  · unfold a0
    exact State_wrTyped_agree.mono (by decide)

theorem writeRadio_agree {x0 x1 x2 x3 x4} :
    Agree [.regs, .events, .out, .radio, .held] x4 (writeRadio x0 x1 x2 x3 x4) := by
  unfold writeRadio
  refine Agree.ite ?_ ?_
  · exact radioCfgWrite_agree.mono (by decide)
  · refine Agree.ite ?_ ?_
    · exact Agree.refl _ _
    · refine Agree.ite ?_ ?_
      · refine Agree.step ?_ syncDuty_agree (by decide)
        refine Agree.step ?_ coldLayout_agree (by decide)
        exact plainWrite_agree.mono (by decide)
      · exact plainWrite_agree.mono (by decide)

theorem writeDev_agree {x0 x1 x2 x3 x4} :
    Agree [.free, .regs, .time, .copy, .opt, .rst, .att, .queues, .jobs, .events, .ports, .bulk, .out, .threads, .mem, .pwr, .ciph, .ncp, .nand, .stor, .line, .radio, .plmb, .ser, .held, .tnl, .caps] x4 (writeDev x0 x1 x2 x3 x4) := by
  unfold writeDev
  refine Agree.ite ?_ ?_
  · exact ownWrite_agree.mono (by decide)
  · refine Agree.ite ?_ ?_
    · exact rstCmdWrite_agree.mono (by decide)
    · refine Agree.ite ?_ ?_
      · exact pushWrite_agree.mono (by decide)
      · refine Agree.ite ?_ ?_
        · exact stageWrite_agree.mono (by decide)
        · refine Agree.ite ?_ ?_
          · exact optCmdWrite_agree.mono (by decide)
          · refine Agree.ite ?_ ?_
            · exact attWrite_agree.mono (by decide)
            · exact plainWrite_agree.mono (by decide)

theorem writeQue_agree {x0 x1 x2 x3 x4} :
    Agree [.free, .regs, .queues, .jobs, .events, .bulk, .out, .threads, .mem, .pwr, .ciph, .ncp, .nand, .stor, .radio, .ser, .held] x4 (writeQue x0 x1 x2 x3 x4) := by
  unfold writeQue
  extract_lets a0 a1
  clear_value a0
  clear_value a1
  refine Agree.ite ?_ ?_
  · split
    · exact evtRouteWrite_agree.mono (by decide)
    · refine Agree.ite ?_ ?_
      · exact ownWrite_agree.mono (by decide)
      · exact Agree.refl _ _
    · exact plainWrite_agree.mono (by decide)
  · refine Agree.ite ?_ ?_
    · exact clearPend_agree.mono (by decide)
    · refine Agree.ite ?_ ?_
      · split
        · exact queueCfgWrite_agree.mono (by decide)
        · refine Agree.ite ?_ ?_
          · exact Agree.refl _ _
          · exact plainWrite_agree.mono (by decide)
        · exact plainWrite_agree.mono (by decide)
      · refine Agree.ite ?_ ?_
        · exact jigLoadWrite_agree.mono (by decide)
        · refine Agree.ite ?_ ?_
          · exact jtCtlWrite_agree.mono (by decide)
          · exact plainWrite_agree.mono (by decide)

theorem txcfgWrite_agree {x0 x1 x2 x3} :
    Agree [.regs, .line] x3 (txcfgWrite x0 x1 x2 x3) := by
  unfold txcfgWrite
  extract_lets a0 a1
  clear_value a0
  clear_value a1
  split
  · exact Agree.refl _ _
  · refine Agree.ite ?_ ?_
    · exact setXmit_agree.mono (by decide)
    · exact State_wrMerge_agree.mono (by decide)

theorem sfcfgWrite_agree {x0 x1 x2} :
    Agree [.regs, .line] x2 (sfcfgWrite x0 x1 x2) := by
  unfold sfcfgWrite
  extract_lets a0 a1 a2
  have ha0 : Agree [Part.regs, Part.line] x2 a0 := by
    unfold a0
    exact State_wrTyped_agree.mono (by decide)
  clear_value a0
  clear_value a1
  clear_value a2
  refine Agree.ite ?_ ?_
  · assumption
  · refine Agree.mk' ?_ (by
      intro p hp
      cases p <;> first | exact (hp (by decide)).elim | rfl | exact ⟨rfl, rfl⟩ | exact ⟨rfl, rfl, rfl⟩)
    assumption

theorem routeCfgWrite_agree {x0 x1 x2} :
    Agree [.regs, .line] x2 (routeCfgWrite x0 x1 x2) := by
  unfold routeCfgWrite
  extract_lets a0 a1 a2
  clear_value a0
  have ha1 : Agree [Part.regs, Part.line] x2 a1 := by
    unfold a1
    exact State_wrTyped_agree.mono (by decide)
  clear_value a1
  clear_value a2
  refine Agree.ite ?_ ?_
  · assumption
  · refine Agree.mk' ?_ (by
      intro p hp
      cases p <;> first | exact (hp (by decide)).elim | rfl | exact ⟨rfl, rfl⟩ | exact ⟨rfl, rfl, rfl⟩)
    assumption

theorem ownAddrWrite_agree {x0 x1 x2} :
    Agree [.regs, .events, .out, .ncp, .held] x2 (ownAddrWrite x0 x1 x2) := by
  unfold ownAddrWrite
  extract_lets a0 a1 a2 a3
  clear_value a0
  have ha1 : Agree [Part.regs, Part.events, Part.out, Part.ncp, Part.held] x2 a1 := by
    unfold a1
    exact State_wrTyped_agree.mono (by decide)
  clear_value a1
  clear_value a2
  have ha3 : Agree [Part.regs, Part.events, Part.out, Part.ncp, Part.held] x2 a3 := by
    unfold a3
    refine Agree.step ?_ setIdx_agree (by decide)
    assumption
  clear_value a3
  refine Agree.ite ?_ ?_
  · assumption
  · split
    · assumption
    · refine Agree.ite ?_ ?_
      · assumption
      · split
        · refine Agree.step ?_ autoRebuild_agree (by decide)
          refine Agree.step ?_ setIdx_agree (by decide)
          assumption
        · refine Agree.step ?_ occur_agree (by decide)
          assumption

theorem writeLine_agree {x0 x1 x2 x3 x4} :
    Agree [.regs, .events, .out, .threads, .pwr, .ncp, .line, .radio, .held] x4 (writeLine x0 x1 x2 x3 x4) := by
  unfold writeLine
  extract_lets a0 a1
  clear_value a0
  have ha1 : Agree [Part.regs, Part.events, Part.out, Part.threads, Part.pwr, Part.ncp, Part.line, Part.radio, Part.held] x4 a1 := by
    unfold a1
    refine Agree.ite ?_ ?_
    · exact applyBand_agree.mono (by decide)
    · exact Agree.refl _ _
  clear_value a1
  refine Agree.ite ?_ ?_
  · refine Agree.ite ?_ ?_
    · refine Agree.step ?_ applyBand_agree (by decide)
      assumption
    · assumption
  · refine Agree.ite ?_ ?_
    · exact rxcfgWrite_agree.mono (by decide)
    · refine Agree.ite ?_ ?_
      · exact txcfgWrite_agree.mono (by decide)
      · refine Agree.ite ?_ ?_
        · exact compatWrite_agree.mono (by decide)
        · refine Agree.ite ?_ ?_
          · refine Agree.step ?_ judgeSweep_agree (by decide)
            refine Agree.step ?_ judgeSweep_agree (by decide)
            exact State_wrTyped_agree.mono (by decide)
          · refine Agree.ite ?_ ?_
            · exact sfcfgWrite_agree.mono (by decide)
            · refine Agree.ite ?_ ?_
              · exact routeCfgWrite_agree.mono (by decide)
              · refine Agree.ite ?_ ?_
                · exact ownAddrWrite_agree.mono (by decide)
                · refine Agree.ite ?_ ?_
                  · refine Agree.ite ?_ ?_
                    · exact clearNmap_agree.mono (by decide)
                    · exact Agree.refl _ _
                  · refine Agree.ite ?_ ?_
                    · exact ringCfgWrite_agree.mono (by decide)
                    · exact plainWrite_agree.mono (by decide)

theorem writeCiph_agree {x0 x1 x2 x3 x4} :
    Agree [.regs, .events, .out, .ciph, .ncp, .held] x4 (writeCiph x0 x1 x2 x3 x4) := by
  unfold writeCiph
  extract_lets a0 a1
  have ha0 : Agree [Part.regs, Part.events, Part.out, Part.ciph, Part.ncp, Part.held] x4 a0 := by
    unfold a0
    exact State_wrTyped_agree.mono (by decide)
  clear_value a0
  have ha1 : Agree [Part.regs, Part.events, Part.out, Part.ciph, Part.ncp, Part.held] x4 a1 := by
    unfold a1
    exact State_wrTyped_agree.mono (by decide)
  clear_value a1
  refine Agree.ite ?_ ?_
  · refine Agree.step ?_ State_put_agree (by decide)
    assumption
  · refine Agree.ite ?_ ?_
    · exact keyLimitWrite_agree.mono (by decide)
    · refine Agree.ite ?_ ?_
      · refine Agree.ite ?_ ?_
        · refine Agree.step ?_ startRebuild_agree (by decide)
          assumption
        · assumption
      · exact plainWrite_agree.mono (by decide)

theorem writePlmb_agree {x0 x1 x2 x3 x4} :
    Agree [.free, .regs, .time, .copy, .queues, .events, .out, .threads, .pwr, .ncp, .line, .radio, .plmb, .ser, .held, .tnl] x4 (writePlmb x0 x1 x2 x3 x4) := by
  unfold writePlmb
  refine Agree.ite ?_ ?_
  · refine Agree.trans ?_ (lineDieWrite_agree (by decide) ?_)
    · exact Agree.refl _ _
    · intro y0
      exact plmbCfgWrite_agree.mono (by decide)
  · refine Agree.ite ?_ ?_
    · refine Agree.trans ?_ (lineDieWrite_agree (by decide) ?_)
      · exact Agree.refl _ _
      · intro y1
        exact plmbSwitchWrite_agree.mono (by decide)
    · refine Agree.ite ?_ ?_
      · refine Agree.trans ?_ (lineDieWrite_agree (by decide) ?_)
        · exact Agree.refl _ _
        · intro y2
          exact steerRegWrite_agree.mono (by decide)
      · refine Agree.ite ?_ ?_
        · refine Agree.trans ?_ (lineDieWrite_agree (by decide) ?_)
          · exact Agree.refl _ _
          · intro y3
            exact todWrite_agree.mono (by decide)
        · refine Agree.ite ?_ ?_
          · refine Agree.trans ?_ (lineDieWrite_agree (by decide) ?_)
            · exact State_drew_agree.mono (by decide)
            · intro y4
              exact hostWrite_agree.mono (by decide)
          · refine Agree.ite ?_ ?_
            · refine Agree.trans ?_ (lineDieWrite_agree (by decide) ?_)
              · exact Agree.refl _ _
              · intro y5
                exact alignWrite_agree.mono (by decide)
            · refine Agree.ite ?_ ?_
              · refine Agree.trans ?_ (lineDieWrite_agree (by decide) ?_)
                · exact Agree.refl _ _
                · intro y6
                  exact outCfgWrite_agree.mono (by decide)
              · exact plainWrite_agree.mono (by decide)

theorem writeUart_agree {x0 x1 x2 x3 x4 x5} :
    Agree [.free, .regs, .queues, .jobs, .events, .out, .pwr, .ser, .held] x5 (writeUart x0 x1 x2 x3 x4 x5) := by
  unfold writeUart
  split
  · exact uartCfgWrite_agree.mono (by decide)
  · exact uartBaudWrite_agree.mono (by decide)
  · exact txdataWrite_agree.mono (by decide)
  · exact plainWrite_agree.mono (by decide)

theorem writeChk_agree {x0 x1 x2 x3 x4 x5} :
    Agree [.regs, .time, .copy, .events, .out, .ser, .held] x5 (writeChk x0 x1 x2 x3 x4 x5) := by
  unfold writeChk
  split
  · exact chkCfgRegWrite_agree.mono (by decide)
  · exact feedWrite_agree.mono (by decide)
  · exact feedWrite_agree.mono (by decide)
  · exact feedWrite_agree.mono (by decide)
  · exact expectedWrite_agree.mono (by decide)
  · exact chkCtlWrite_agree.mono (by decide)
  · exact chkAliveWrite_agree.mono (by decide)
  · exact plainWrite_agree.mono (by decide)

theorem writeSer_agree {x0 x1 x2 x3 x4} :
    Agree [.free, .regs, .time, .copy, .queues, .jobs, .events, .out, .pwr, .ser, .held] x4 (writeSer x0 x1 x2 x3 x4) := by
  unfold writeSer
  refine Agree.ite ?_ ?_
  · exact writeUart_agree.mono (by decide)
  · refine Agree.ite ?_ ?_
    · exact uartRespWrite_agree.mono (by decide)
    · refine Agree.ite ?_ ?_
      · refine Agree.trans ?_ (lineDieWrite_agree (by decide) ?_)
        · exact Agree.refl _ _
        · intro y0
          exact ringWrite_agree.mono (by decide)
      · refine Agree.ite ?_ ?_
        · exact writeChk_agree.mono (by decide)
        · exact plainWrite_agree.mono (by decide)

theorem writePwr_agree {x0 x1 x2 x3 x4} :
    Agree [.free, .regs, .time, .copy, .opt, .rst, .att, .queues, .jobs, .events, .ports, .bulk, .out, .threads, .mem, .pwr, .ciph, .ncp, .nand, .stor, .line, .radio, .plmb, .ser, .held, .tnl, .caps] x4 (writePwr x0 x1 x2 x3 x4) := by
  unfold writePwr
  refine Agree.ite ?_ ?_
  · exact shareWrite_agree.mono (by decide)
  · refine Agree.ite ?_ ?_
    · refine Agree.ite ?_ ?_
      · exact pwrCmd_agree.mono (by decide)
      · exact Agree.refl _ _
    · refine Agree.ite ?_ ?_
      · refine Agree.step ?_ judgeLg_agree (by decide)
        exact plainWrite_agree.mono (by decide)
      · refine Agree.ite ?_ ?_
        · refine Agree.ite ?_ ?_
          · exact resumeLink_agree.mono (by decide)
          · exact Agree.refl _ _
        · refine Agree.ite ?_ ?_
          · exact traceCfgWrite_agree.mono (by decide)
          · refine Agree.ite ?_ ?_
            · exact dbgReqWrite_agree.mono (by decide)
            · exact plainWrite_agree.mono (by decide)

theorem writeTaken_agree {x0 x1 x2 x3 x4} :
    Agree [.free, .regs, .time, .copy, .opt, .rst, .att, .queues, .jobs, .events, .ports, .bulk, .out, .threads, .mem, .pwr, .ciph, .ncp, .nand, .stor, .line, .radio, .plmb, .ser, .held, .tnl, .caps] x4 (writeTaken x0 x1 x2 x3 x4) := by
  unfold writeTaken
  refine Agree.ite ?_ ?_
  · exact writeDev_agree.mono (by decide)
  · refine Agree.ite ?_ ?_
    · exact writeQue_agree.mono (by decide)
    · refine Agree.ite ?_ ?_
      · exact writeLine_agree.mono (by decide)
      · refine Agree.ite ?_ ?_
        · exact writeRadio_agree.mono (by decide)
        · refine Agree.ite ?_ ?_
          · exact writeCiph_agree.mono (by decide)
          · refine Agree.ite ?_ ?_
            · exact writePlmb_agree.mono (by decide)
            · refine Agree.ite ?_ ?_
              · exact writeSer_agree.mono (by decide)
              · exact writePwr_agree.mono (by decide)

theorem writeSlot_agree {x0 x1 x2 x3 x4} :
    Agree [.regs, .queues, .events, .out, .held] x4 (writeSlot x0 x1 x2 x3 x4) := by
  unfold writeSlot
  extract_lets a0 a1
  clear_value a0
  clear_value a1
  refine Agree.ite ?_ ?_
  · exact ring_agree.mono (by decide)
  · refine Agree.ite ?_ ?_
    · exact State_setQueue_agree.mono (by decide)
    · exact Agree.refl _ _

theorem writeMsix_agree {x0 x1 x2 x3 x4 x5} :
    Agree [.events, .out] x5 (writeMsix x0 x1 x2 x3 x4 x5) := by
  unfold writeMsix
  extract_lets a0
  clear_value a0
  split
  · exact setMsix_agree.mono (by decide)
  · exact setMsix_agree.mono (by decide)
  · exact setMsix_agree.mono (by decide)
  · refine Agree.ite ?_ ?_
    · exact Agree.refl _ _
    · refine Agree.ite ?_ ?_
      · exact setMsix_agree.mono (by decide)
      · exact unmaskVector_agree.mono (by decide)

theorem writeQwin_agree {x0 x1 x2 x3 x4} :
    Agree [.regs, .queues, .events, .out, .held] x4 (writeQwin x0 x1 x2 x3 x4) := by
  unfold writeQwin
  refine Agree.ite ?_ ?_
  · exact Agree.refl _ _
  · refine Agree.ite ?_ ?_
    · refine Agree.trans ?_ (filteredSlot_agree (by decide) ?_)
      · exact Agree.refl _ _
      · intro y0
        exact writeSlot_agree.mono (by decide)
    · refine Agree.ite ?_ ?_
      · exact writeMsix_agree.mono (by decide)
      · exact Agree.refl _ _

theorem writeBulk_agree {x0 x1 x2 x3 x4} :
    Agree [.bulk] x4 (writeBulk x0 x1 x2 x3 x4) := by
  unfold writeBulk
  refine Agree.ite ?_ ?_
  · exact Agree.refl _ _
  · refine Agree.foldUpto ?_ ?_
    · intro y0
      intro y1
      refine Agree.ite ?_ ?_
      · exact wrBulk_agree.mono (by decide)
      · exact Agree.refl _ _
    · exact Agree.refl _ _

theorem setBar_agree {x0 x1 x2 x3} :
    Agree [.ports] x3 (setBar x0 x1 x2 x3) := by
  unfold setBar
  extract_lets a0
  refine Agree.mk' ?_ (by
    intro p hp
    cases p <;> first | exact (hp (by decide)).elim | rfl | exact ⟨rfl, rfl⟩ | exact ⟨rfl, rfl, rfl⟩)
  exact Agree.refl _ _

theorem writeCfg_agree {x0 x1 x2 x3 x4} :
    Agree [.events, .ports, .out] x4 (writeCfg x0 x1 x2 x3 x4) := by
  unfold writeCfg
  extract_lets a0
  clear_value a0
  refine Agree.ite ?_ ?_
  · exact Agree.refl _ _
  · refine Agree.ite ?_ ?_
    · exact setBar_agree.mono (by decide)
    · refine Agree.ite ?_ ?_
      · exact writeMsgCtl_agree.mono (by decide)
      · exact Agree.refl _ _

theorem applyWrite_agree {x0 x1 x2 x3 x4 x5} :
    Agree [.free, .regs, .time, .copy, .opt, .rst, .att, .queues, .jobs, .events, .ports, .bulk, .out, .threads, .mem, .pwr, .ciph, .ncp, .nand, .stor, .line, .radio, .plmb, .ser, .held, .tnl, .caps] x5 (applyWrite x0 x1 x2 x3 x4 x5) := by
  unfold applyWrite
  split
  · refine Agree.trans ?_ (filtered_agree (by decide) ?_)
    · exact Agree.refl _ _
    · intro y0
      exact writeTaken_agree.mono (by decide)
  · exact writeQwin_agree.mono (by decide)
  · exact writeBulk_agree.mono (by decide)
  · exact writeCfg_agree.mono (by decide)

theorem execQspiPostedWriteApply_agree {x0 x1} :
    AgreeAns [.free, .regs, .time, .copy, .opt, .rst, .att, .queues, .jobs, .events, .ports, .bulk, .out, .threads, .mem, .pwr, .ciph, .ncp, .nand, .stor, .line, .radio, .plmb, .ser, .held, .tnl, .caps] x1 (execQspiPostedWriteApply x0 x1) := by
  unfold execQspiPostedWriteApply
  extract_lets a0
  clear_value a0
  split
  · refine AgreeAns.of_next ?_
    exact Agree.refl _ _
  · extract_lets a1
    have ha1 : Agree [Part.free, Part.regs, Part.time, Part.copy, Part.opt, Part.rst, Part.att, Part.queues, Part.jobs, Part.events,
  Part.ports, Part.bulk, Part.out, Part.threads, Part.mem, Part.pwr, Part.ciph, Part.ncp, Part.nand, Part.stor,
  Part.line, Part.radio, Part.plmb, Part.ser, Part.held, Part.tnl, Part.caps] x1 a1 := by
      unfold a1
      exact setQport_agree.mono (by decide)
    clear_value a1
    split
    · refine AgreeAns.of_next ?_
      refine Agree.step ?_ applyWrite_agree (by decide)
      assumption
    · refine AgreeAns.of_next ?_
      assumption

theorem execQspiRead_agree {x0 x1 x2 x3} :
    AgreeAns [.regs, .queues, .events, .ports, .out, .ser, .held, .caps] x3 (execQspiRead x0 x1 x2 x3) := by
  unfold execQspiRead
  refine AgreeAns.of_next ?_
  exact qspiDo_agree.mono (by decide)

theorem execRegisterWrite_agree {x0 x1 x2 x3 x4 x5} :
    AgreeAns [.free, .regs, .time, .copy, .opt, .rst, .att, .queues, .jobs, .events, .ports, .bulk, .out, .threads, .mem, .pwr, .ciph, .ncp, .nand, .stor, .line, .radio, .plmb, .ser, .held, .tnl, .caps] x5 (execRegisterWrite x0 x1 x2 x3 x4 x5) := by
  unfold execRegisterWrite
  refine AgreeAns.of_next ?_
  exact applyWrite_agree.mono (by decide)

theorem execQspiStatus_agree {x0 x1} :
    AgreeAns [.regs, .queues, .events, .ports, .out, .ser, .held, .caps] x1 (execQspiStatus x0 x1) := by
  unfold execQspiStatus
  refine AgreeAns.of_next ?_
  exact qspiDo_agree.mono (by decide)

end Sys2Proof.Machine
end

