-- ==== Sys2Proof/Laws/Frame/GreuneAlu.lean ====
section
/-!
SUPPORT. Which parts of the state each definition of Machine/GreuneAlu.lean may change.
-/

namespace Sys2Proof.Machine

theorem aluRegIssue_agree {x0 x1 x2} :
    Agree [.free, .regs, .events, .out, .threads, .held] x2 (aluRegIssue x0 x1 x2) := by
  unfold aluRegIssue
  refine Agree.trans ?_ (issue_agree (by decide) ?_)
  · exact Agree.refl _ _
  · intro y0
    intro y1
    intro y2
    split
    · refine AgreeOpt.ite ?_ ?_
      · refine AgreeOpt.of_some ?_
        exact aluApply_agree.mono (by decide)
      · exact AgreeOpt.of_none
    · exact AgreeOpt.of_none

theorem execXorR_agree {x0 x1} :
    AgreeAns [.free, .regs, .events, .out, .threads, .held] x1 (execXorR x0 x1) := by
  unfold execXorR
  refine AgreeAns.of_next ?_
  exact aluRegIssue_agree.mono (by decide)

theorem aluImmIssue_agree {x0 x1 x2} :
    Agree [.free, .regs, .events, .out, .threads, .held] x2 (aluImmIssue x0 x1 x2) := by
  unfold aluImmIssue
  refine Agree.trans ?_ (issue_agree (by decide) ?_)
  · exact Agree.refl _ _
  · intro y0
    intro y1
    intro y2
    split
    · refine AgreeOpt.ite ?_ ?_
      · refine AgreeOpt.of_some ?_
        exact aluApply_agree.mono (by decide)
      · exact AgreeOpt.of_none
    · exact AgreeOpt.of_none

theorem execSubi_agree {x0 x1} :
    AgreeAns [.free, .regs, .events, .out, .threads, .held] x1 (execSubi x0 x1) := by
  unfold execSubi
  refine AgreeAns.of_next ?_
  exact aluImmIssue_agree.mono (by decide)

theorem execMulhR_agree {x0 x1} :
    AgreeAns [.free, .regs, .events, .out, .threads, .held] x1 (execMulhR x0 x1) := by
  unfold execMulhR
  refine AgreeAns.of_next ?_
  exact aluRegIssue_agree.mono (by decide)

theorem execSubR_agree {x0 x1} :
    AgreeAns [.free, .regs, .events, .out, .threads, .held] x1 (execSubR x0 x1) := by
  unfold execSubR
  refine AgreeAns.of_next ?_
  exact aluRegIssue_agree.mono (by decide)

theorem execShli_agree {x0 x1} :
    AgreeAns [.free, .regs, .events, .out, .threads, .held] x1 (execShli x0 x1) := by
  unfold execShli
  refine AgreeAns.of_next ?_
  exact aluImmIssue_agree.mono (by decide)

theorem execXori_agree {x0 x1} :
    AgreeAns [.free, .regs, .events, .out, .threads, .held] x1 (execXori x0 x1) := by
  unfold execXori
  refine AgreeAns.of_next ?_
  exact aluImmIssue_agree.mono (by decide)

theorem execPfx_agree {x0 x1} :
    AgreeAns [.free, .regs, .events, .out, .threads, .held] x1 (execPfx x0 x1) := by
  unfold execPfx
  refine AgreeAns.of_next ?_
  refine Agree.trans ?_ (issue_agree (by decide) ?_)
  · exact Agree.refl _ _
  · intro y0
    intro y1
    intro y2
    split
    · refine AgreeOpt.of_some ?_
      refine Agree.step ?_ done_agree (by decide)
      exact modThr_agree.mono (by decide)
    · exact AgreeOpt.of_none

theorem execShrR_agree {x0 x1} :
    AgreeAns [.free, .regs, .events, .out, .threads, .held] x1 (execShrR x0 x1) := by
  unfold execShrR
  refine AgreeAns.of_next ?_
  exact aluRegIssue_agree.mono (by decide)

theorem execCmpi_agree {x0 x1} :
    AgreeAns [.free, .regs, .events, .out, .threads, .held] x1 (execCmpi x0 x1) := by
  unfold execCmpi
  refine AgreeAns.of_next ?_
  exact aluImmIssue_agree.mono (by decide)

theorem execShri_agree {x0 x1} :
    AgreeAns [.free, .regs, .events, .out, .threads, .held] x1 (execShri x0 x1) := by
  unfold execShri
  refine AgreeAns.of_next ?_
  exact aluImmIssue_agree.mono (by decide)

theorem execMulR_agree {x0 x1} :
    AgreeAns [.free, .regs, .events, .out, .threads, .held] x1 (execMulR x0 x1) := by
  unfold execMulR
  refine AgreeAns.of_next ?_
  exact aluRegIssue_agree.mono (by decide)

theorem execCmpR_agree {x0 x1} :
    AgreeAns [.free, .regs, .events, .out, .threads, .held] x1 (execCmpR x0 x1) := by
  unfold execCmpR
  refine AgreeAns.of_next ?_
  exact aluRegIssue_agree.mono (by decide)

theorem execMovi_agree {x0 x1} :
    AgreeAns [.free, .regs, .events, .out, .threads, .held] x1 (execMovi x0 x1) := by
  unfold execMovi
  refine AgreeAns.of_next ?_
  refine Agree.trans ?_ (issue_agree (by decide) ?_)
  · exact Agree.refl _ _
  · intro y0
    intro y1
    intro y2
    split
    · refine AgreeOpt.of_some ?_
      refine Agree.step ?_ done_agree (by decide)
      exact modThr_agree.mono (by decide)
    · exact AgreeOpt.of_none

theorem execShlR_agree {x0 x1} :
    AgreeAns [.free, .regs, .events, .out, .threads, .held] x1 (execShlR x0 x1) := by
  unfold execShlR
  refine AgreeAns.of_next ?_
  exact aluRegIssue_agree.mono (by decide)

theorem execSraR_agree {x0 x1} :
    AgreeAns [.free, .regs, .events, .out, .threads, .held] x1 (execSraR x0 x1) := by
  unfold execSraR
  refine AgreeAns.of_next ?_
  exact aluRegIssue_agree.mono (by decide)

theorem execSrai_agree {x0 x1} :
    AgreeAns [.free, .regs, .events, .out, .threads, .held] x1 (execSrai x0 x1) := by
  unfold execSrai
  refine AgreeAns.of_next ?_
  exact aluImmIssue_agree.mono (by decide)

theorem execAndR_agree {x0 x1} :
    AgreeAns [.free, .regs, .events, .out, .threads, .held] x1 (execAndR x0 x1) := by
  unfold execAndR
  refine AgreeAns.of_next ?_
  exact aluRegIssue_agree.mono (by decide)

theorem execAddR_agree {x0 x1} :
    AgreeAns [.free, .regs, .events, .out, .threads, .held] x1 (execAddR x0 x1) := by
  unfold execAddR
  refine AgreeAns.of_next ?_
  exact aluRegIssue_agree.mono (by decide)

theorem execAndi_agree {x0 x1} :
    AgreeAns [.free, .regs, .events, .out, .threads, .held] x1 (execAndi x0 x1) := by
  unfold execAndi
  refine AgreeAns.of_next ?_
  exact aluImmIssue_agree.mono (by decide)

theorem execAddi_agree {x0 x1} :
    AgreeAns [.free, .regs, .events, .out, .threads, .held] x1 (execAddi x0 x1) := by
  unfold execAddi
  refine AgreeAns.of_next ?_
  exact aluImmIssue_agree.mono (by decide)

theorem execOri_agree {x0 x1} :
    AgreeAns [.free, .regs, .events, .out, .threads, .held] x1 (execOri x0 x1) := by
  unfold execOri
  refine AgreeAns.of_next ?_
  exact aluImmIssue_agree.mono (by decide)

theorem execOrR_agree {x0 x1} :
    AgreeAns [.free, .regs, .events, .out, .threads, .held] x1 (execOrR x0 x1) := by
  unfold execOrR
  refine AgreeAns.of_next ?_
  exact aluRegIssue_agree.mono (by decide)

end Sys2Proof.Machine
end

