-- ==== Sys2Proof/Laws/Frame/GreuneBranch.lean ====
section
/-!
SUPPORT. Which parts of the state each definition of Machine/GreuneBranch.lean may change.
-/

namespace Sys2Proof.Machine

theorem jump_agree {x0 x1 x2 x3} :
    Agree [.threads] x3 (jump x0 x1 x2 x3) := by
  unfold jump
  exact modThr_agree.mono (by decide)

theorem pushRet_agree {x0 x1} :
    Agree [.threads] x1 (pushRet x0 x1) := by
  unfold pushRet
  exact modThr_agree.mono (by decide)

theorem execCall_agree {x0 x1} :
    AgreeAns [.free, .regs, .events, .out, .threads, .held] x1 (execCall x0 x1) := by
  unfold execCall
  refine AgreeAns.of_next ?_
  refine Agree.trans ?_ (issue_agree (by decide) ?_)
  · exact Agree.refl _ _
  · intro y0
    intro y1
    intro y2
    split
    · refine AgreeOpt.of_some ?_
      refine Agree.ite ?_ ?_
      · exact threadFaultFree_agree.mono (by decide)
      · refine Agree.step ?_ jump_agree (by decide)
        exact pushRet_agree.mono (by decide)
    · exact AgreeOpt.of_none

theorem jumpReg_agree {x0 x1 x2 x3} :
    Agree [.regs, .events, .out, .threads, .held] x3 (jumpReg x0 x1 x2 x3) := by
  unfold jumpReg
  refine Agree.ite ?_ ?_
  · exact jump_agree.mono (by decide)
  · exact threadFault_agree.mono (by decide)

theorem execCallr_agree {x0 x1} :
    AgreeAns [.free, .regs, .events, .out, .threads, .held] x1 (execCallr x0 x1) := by
  unfold execCallr
  refine AgreeAns.of_next ?_
  refine Agree.trans ?_ (issue_agree (by decide) ?_)
  · exact Agree.refl _ _
  · intro y0
    intro y1
    intro y2
    split
    · extract_lets a3
      clear_value a3
      refine AgreeOpt.of_some ?_
      refine Agree.ite ?_ ?_
      · exact threadFaultFree_agree.mono (by decide)
      · refine Agree.ite ?_ ?_
        · refine Agree.step ?_ jump_agree (by decide)
          exact pushRet_agree.mono (by decide)
        · exact threadFault_agree.mono (by decide)
    · exact AgreeOpt.of_none

theorem execBr_agree {x0 x1} :
    AgreeAns [.free, .regs, .events, .out, .threads, .held] x1 (execBr x0 x1) := by
  unfold execBr
  refine AgreeAns.of_next ?_
  refine Agree.trans ?_ (issue_agree (by decide) ?_)
  · exact Agree.refl _ _
  · intro y0
    intro y1
    intro y2
    split
    · refine AgreeOpt.of_some ?_
      refine Agree.ite ?_ ?_
      · exact jump_agree.mono (by decide)
      · exact done_agree.mono (by decide)
    · exact AgreeOpt.of_none

theorem execBrr_agree {x0 x1} :
    AgreeAns [.free, .regs, .events, .out, .threads, .held] x1 (execBrr x0 x1) := by
  unfold execBrr
  refine AgreeAns.of_next ?_
  refine Agree.trans ?_ (issue_agree (by decide) ?_)
  · exact Agree.refl _ _
  · intro y0
    intro y1
    intro y2
    split
    · refine AgreeOpt.of_some ?_
      refine Agree.ite ?_ ?_
      · exact jumpReg_agree.mono (by decide)
      · exact done_agree.mono (by decide)
    · exact AgreeOpt.of_none

theorem execRet_agree {x0 x1} :
    AgreeAns [.free, .regs, .events, .out, .threads, .held] x1 (execRet x0 x1) := by
  unfold execRet
  refine AgreeAns.of_next ?_
  refine Agree.trans ?_ (issue_agree (by decide) ?_)
  · exact Agree.refl _ _
  · intro y0
    intro y1
    intro y2
    split
    · refine AgreeOpt.of_some ?_
      split
      · exact threadFaultFree_agree.mono (by decide)
      · refine Agree.step ?_ jump_agree (by decide)
        exact modThr_agree.mono (by decide)
    · exact AgreeOpt.of_none

end Sys2Proof.Machine
end

