-- ==== Sys2Proof/Laws/Frame/GreuneMem.lean ====
section
/-!
SUPPORT. Which parts of the state each definition of Machine/GreuneMem.lean may change.
-/

namespace Sys2Proof.Machine

theorem loadThen_agree {l : List Part} {x0 x1 x2 x3 x4 x5} (hl : subParts [.free, .regs, .events, .out, .threads, .held] l = true)
    (h4 : ∀ y0 y1, Agree l y1 (x4 y0 y1)) :
    Agree l x5 (loadThen x0 x1 x2 x3 x4 x5) := by
  unfold loadThen
  refine Agree.ite ?_ ?_
  · refine Agree.step ?_ threadFault_agree (subParts_trans (by decide) hl)
    exact Agree.refl _ _
  · refine Agree.ite ?_ ?_
    · refine Agree.step ?_ threadFault_agree (subParts_trans (by decide) hl)
      exact Agree.refl _ _
    · refine Agree.ite ?_ ?_
      · refine Agree.step ?_ threadFaultFree_agree (subParts_trans (by decide) hl)
        exact Agree.refl _ _
      · refine Agree.step ?_ done_agree (subParts_trans (by decide) hl)
        refine Agree.trans ?_ (h4 _ _)
        exact Agree.refl _ _

theorem storeAt_agree {x0 x1 x2 x3 x4 x5} :
    Agree [.regs, .events, .out, .threads, .mem, .held] x5 (storeAt x0 x1 x2 x3 x4 x5) := by
  unfold storeAt
  refine Agree.ite ?_ ?_
  · exact threadFault_agree.mono (by decide)
  · refine Agree.ite ?_ ?_
    · exact threadFault_agree.mono (by decide)
    · refine Agree.step ?_ done_agree (by decide)
      exact stBytes_agree.mono (by decide)

theorem storeIssue_agree {x0 x1 x2} :
    Agree [.free, .regs, .events, .out, .threads, .mem, .held] x2 (storeIssue x0 x1 x2) := by
  unfold storeIssue
  refine Agree.trans ?_ (issue_agree (by decide) ?_)
  · exact Agree.refl _ _
  · intro y0
    intro y1
    intro y2
    split
    · refine AgreeOpt.ite ?_ ?_
      · refine AgreeOpt.of_some ?_
        exact storeAt_agree.mono (by decide)
      · exact AgreeOpt.of_none
    · exact AgreeOpt.of_none

theorem loadIssue_agree {x0 x1 x2} :
    Agree [.free, .regs, .events, .out, .threads, .held] x2 (loadIssue x0 x1 x2) := by
  unfold loadIssue
  refine Agree.trans ?_ (issue_agree (by decide) ?_)
  · exact Agree.refl _ _
  · intro y0
    intro y1
    intro y2
    split
    · refine AgreeOpt.ite ?_ ?_
      · refine AgreeOpt.of_some ?_
        refine Agree.trans ?_ (loadThen_agree (by decide) ?_)
        · exact Agree.refl _ _
        · intro y3
          intro y4
          exact modThr_agree.mono (by decide)
      · exact AgreeOpt.of_none
    · exact AgreeOpt.of_none

theorem execLd_agree {x0 x1} :
    AgreeAns [.free, .regs, .events, .out, .threads, .held] x1 (execLd x0 x1) := by
  unfold execLd
  refine AgreeAns.of_next ?_
  exact loadIssue_agree.mono (by decide)

theorem execSth_agree {x0 x1} :
    AgreeAns [.free, .regs, .events, .out, .threads, .mem, .held] x1 (execSth x0 x1) := by
  unfold execSth
  refine AgreeAns.of_next ?_
  exact storeIssue_agree.mono (by decide)

theorem execLdh_agree {x0 x1} :
    AgreeAns [.free, .regs, .events, .out, .threads, .held] x1 (execLdh x0 x1) := by
  unfold execLdh
  refine AgreeAns.of_next ?_
  exact loadIssue_agree.mono (by decide)

theorem execStb_agree {x0 x1} :
    AgreeAns [.free, .regs, .events, .out, .threads, .mem, .held] x1 (execStb x0 x1) := by
  unfold execStb
  refine AgreeAns.of_next ?_
  exact storeIssue_agree.mono (by decide)

theorem execSt_agree {x0 x1} :
    AgreeAns [.free, .regs, .events, .out, .threads, .mem, .held] x1 (execSt x0 x1) := by
  unfold execSt
  refine AgreeAns.of_next ?_
  exact storeIssue_agree.mono (by decide)

theorem execTst_agree {x0 x1} :
    AgreeAns [.free, .regs, .events, .out, .threads, .mem, .held] x1 (execTst x0 x1) := by
  unfold execTst
  refine AgreeAns.of_next ?_
  refine Agree.trans ?_ (issue_agree (by decide) ?_)
  · exact Agree.refl _ _
  · intro y0
    intro y1
    intro y2
    split
    · refine AgreeOpt.of_some ?_
      exact storeAt_agree.mono (by decide)
    · exact AgreeOpt.of_none

theorem execLdb_agree {x0 x1} :
    AgreeAns [.free, .regs, .events, .out, .threads, .held] x1 (execLdb x0 x1) := by
  unfold execLdb
  refine AgreeAns.of_next ?_
  exact loadIssue_agree.mono (by decide)

theorem execTld_agree {x0 x1} :
    AgreeAns [.free, .regs, .events, .out, .threads, .held] x1 (execTld x0 x1) := by
  unfold execTld
  refine AgreeAns.of_next ?_
  refine Agree.trans ?_ (issue_agree (by decide) ?_)
  · exact Agree.refl _ _
  · intro y0
    intro y1
    intro y2
    split
    · refine AgreeOpt.of_some ?_
      refine Agree.trans ?_ (loadThen_agree (by decide) ?_)
      · exact Agree.refl _ _
      · intro y3
        intro y4
        exact modThr_agree.mono (by decide)
    · exact AgreeOpt.of_none

end Sys2Proof.Machine
end

