-- ==== Sys2Proof/Laws/Frame/GreuneTime.lean ====
section
/-!
SUPPORT. Which parts of the state each definition of Machine/GreuneTime.lean may change.
-/

namespace Sys2Proof.Machine

theorem execTpack_agree {x0 x1} :
    AgreeAns [.free, .regs, .events, .out, .threads, .held] x1 (execTpack x0 x1) := by
  unfold execTpack
  refine AgreeAns.of_next ?_
  refine Agree.trans ?_ (issue_agree (by decide) ?_)
  · exact Agree.refl _ _
  · intro y0
    intro y1
    intro y2
    split
    · refine AgreeOpt.of_some ?_
      refine Agree.step ?_ done_agree (by decide)
      exact modThr_agree.mono (by decide)
    · exact AgreeOpt.of_none

theorem execTimeWaitEnd_agree {x0 x1} :
    AgreeAns [.time, .copy, .threads] x1 (execTimeWaitEnd x0 x1) := by
  unfold execTimeWaitEnd
  split
  · refine AgreeAns.of_next ?_
    refine Agree.step ?_ exitWait_agree (by decide)
    exact State_passTo_agree.mono (by decide)
  · refine AgreeAns.of_next ?_
    refine Agree.step ?_ exitWait_agree (by decide)
    exact State_passTo_agree.mono (by decide)
  · refine AgreeAns.of_next ?_
    exact Agree.refl _ _

theorem execAtTime_agree {x0 x1} :
    AgreeAns [.free, .regs, .events, .out, .threads, .held] x1 (execAtTime x0 x1) := by
  unfold execAtTime
  refine AgreeAns.of_next ?_
  refine Agree.trans ?_ (issue_agree (by decide) ?_)
  · exact Agree.refl _ _
  · intro y0
    intro y1
    intro y2
    split
    · refine AgreeOpt.of_some ?_
      exact waitUntil_agree.mono (by decide)
    · exact AgreeOpt.of_none

theorem execAfteri_agree {x0 x1} :
    AgreeAns [.free, .regs, .events, .out, .threads, .held] x1 (execAfteri x0 x1) := by
  unfold execAfteri
  refine AgreeAns.of_next ?_
  refine Agree.trans ?_ (issue_agree (by decide) ?_)
  · exact Agree.refl _ _
  · intro y0
    intro y1
    intro y2
    split
    · refine AgreeOpt.of_some ?_
      exact waitUntil_agree.mono (by decide)
    · exact AgreeOpt.of_none

theorem execTpart_agree {x0 x1} :
    AgreeAns [.free, .regs, .events, .out, .threads, .held] x1 (execTpart x0 x1) := by
  unfold execTpart
  refine AgreeAns.of_next ?_
  refine Agree.trans ?_ (issue_agree (by decide) ?_)
  · exact Agree.refl _ _
  · intro y0
    intro y1
    intro y2
    split
    · refine AgreeOpt.of_some ?_
      refine Agree.step ?_ done_agree (by decide)
      exact modThr_agree.mono (by decide)
    · exact AgreeOpt.of_none

theorem execTadd_agree {x0 x1} :
    AgreeAns [.free, .regs, .events, .out, .threads, .held] x1 (execTadd x0 x1) := by
  unfold execTadd
  refine AgreeAns.of_next ?_
  refine Agree.trans ?_ (issue_agree (by decide) ?_)
  · exact Agree.refl _ _
  · intro y0
    intro y1
    intro y2
    split
    · extract_lets a3
      refine AgreeOpt.of_some ?_
      refine Agree.step ?_ done_agree (by decide)
      exact modThr_agree.mono (by decide)
    · exact AgreeOpt.of_none

theorem execAfter_agree {x0 x1} :
    AgreeAns [.free, .regs, .events, .out, .threads, .held] x1 (execAfter x0 x1) := by
  unfold execAfter
  refine AgreeAns.of_next ?_
  refine Agree.trans ?_ (issue_agree (by decide) ?_)
  · exact Agree.refl _ _
  · intro y0
    intro y1
    intro y2
    split
    · refine AgreeOpt.of_some ?_
      exact waitUntil_agree.mono (by decide)
    · exact AgreeOpt.of_none

theorem execTsub_agree {x0 x1} :
    AgreeAns [.free, .regs, .events, .out, .threads, .held] x1 (execTsub x0 x1) := by
  unfold execTsub
  refine AgreeAns.of_next ?_
  refine Agree.trans ?_ (issue_agree (by decide) ?_)
  · exact Agree.refl _ _
  · intro y0
    intro y1
    intro y2
    split
    · extract_lets a3
      refine AgreeOpt.of_some ?_
      refine Agree.step ?_ done_agree (by decide)
      exact modThr_agree.mono (by decide)
    · exact AgreeOpt.of_none

theorem execTget_agree {x0 x1} :
    AgreeAns [.free, .regs, .events, .out, .threads, .held] x1 (execTget x0 x1) := by
  unfold execTget
  refine AgreeAns.of_next ?_
  refine Agree.trans ?_ (issue_agree (by decide) ?_)
  · exact Agree.refl _ _
  · intro y0
    intro y1
    intro y2
    split
    · refine AgreeOpt.of_some ?_
      refine Agree.step ?_ done_agree (by decide)
      exact modThr_agree.mono (by decide)
    · exact AgreeOpt.of_none

end Sys2Proof.Machine
end

