-- ==== Sys2Proof/Laws/Frame/Route.lean ====
section
/-!
SUPPORT. Which parts of the state each definition of Machine/Route.lean may change.
-/

namespace Sys2Proof.Machine

theorem execRoutePass_agree {x0} :
    AgreeAns [.regs, .time, .copy, .events, .out, .ncp, .line, .radio, .held] x0 (execRoutePass x0) := by
  unfold execRoutePass
  extract_lets a0 a1 a2 a3
  have ha0 : Agree [Part.regs, Part.time, Part.copy, Part.events, Part.out, Part.ncp, Part.line, Part.radio, Part.held] x0 a0 := by
    unfold a0
    exact State_passTo_agree.mono (by decide)
  clear_value a0
  clear_value a1
  have ha2 : Agree [Part.regs, Part.time, Part.copy, Part.events, Part.out, Part.ncp, Part.line, Part.radio, Part.held] x0 a2 := by
    unfold a2
    refine Agree.mk' ?_ (by
      intro p hp
      cases p <;> first | exact (hp (by decide)).elim | rfl | exact ⟨rfl, rfl⟩ | exact ⟨rfl, rfl, rfl⟩)
    assumption
  clear_value a2
  clear_value a3
  refine AgreeAns.ite ?_ ?_
  · refine AgreeAns.of_next ?_
    exact Agree.refl _ _
  · refine AgreeAns.ite ?_ ?_
    · refine AgreeAns.of_next ?_
      assumption
    · refine AgreeAns.of_next ?_
      refine Agree.step ?_ occur_agree (by decide)
      refine Agree.foldl ?_ ?_
      · intro y4
        intro y5
        exact update_agree.mono (by decide)
      · assumption

end Sys2Proof.Machine
end

