-- ==== Sys2Proof/Laws/Frame/Step.lean ====
section
/-!
SUPPORT. Which parts of the state each definition of Machine/Step.lean may change.
-/

namespace Sys2Proof.Machine

theorem State_push_agree {x0 x1} :
    Agree [.pending] x0 (State.push x0 x1) := by
  unfold State.push
  exact ⟨fun p hp => by cases p <;> first | exact (hp (by decide)).elim | rfl | exact ⟨rfl, rfl⟩ | exact ⟨rfl, rfl, rfl⟩⟩

theorem State_withFetchWord_agree {x0 x1 x2} :
    Agree [.pending] x0 (State.withFetchWord x0 x1 x2) := by
  unfold State.withFetchWord
  split
  · exact State_push_agree.mono (by decide)
  · exact Agree.refl _ _

end Sys2Proof.Machine
end

