-- ==== Sys2Proof/Laws/Threads.lean ====
section
/-!
SUPPORT. Threads, their registers and slots, and the cores' memories, after the named updates (R135 to R142).
-/

namespace Sys2Proof.Machine

@[simp] theorem State.thr_setThr (s : State) (n m : Nat) (x : Thread) :
    (s.setThr n x).thr m = if m = n then x else s.thr m := by simp [State.thr, State.setThr]

theorem State.thr_modThr (s : State) (n m : Nat) (f : Thread → Thread) :
    (modThr s n f).thr m = if m = n then f (s.thr n) else s.thr m := by simp [modThr]

@[simp] theorem State.thr_modThr_same (s : State) (n : Nat) (f : Thread → Thread) : (modThr s n f).thr n = f (s.thr n) := by
  simp [State.thr_modThr]

theorem State.thr_modThr_ne (s : State) (n m : Nat) (f : Thread → Thread) (h : m ≠ n) : (modThr s n f).thr m = s.thr m := by
  simp [State.thr_modThr, h]

@[simp] theorem State.rd_modThr (s : State) (n : Nat) (f : Thread → Thread) (k : Nat) : (modThr s n f).rd k = s.rd k := rfl
@[simp] theorem State.get_modThr (s : State) (n : Nat) (f : Thread → Thread) (g : Fld) : (modThr s n f).get g = s.get g := rfl
@[simp] theorem State.thr_wr (s : State) (k : Nat) (v : Word) (n : Nat) : (s.wr k v).thr n = s.thr n := rfl
@[simp] theorem State.thr_put (s : State) (f : Fld) (v n : Nat) : (s.put f v).thr n = s.thr n := rfl

/-- A thread is unchanged where threads are not among the parts that differ. -/
theorem Agree.thr {l : List Part} {s t : State} (h : Agree l s t) (hl : Part.threads ∉ l) (n : Nat) : t.thr n = s.thr n := by
  have : t.jig.threads = s.jig.threads := h.part .threads hl
  simp [State.thr, this]

/-- A register is unchanged where registers are not among the parts that differ. -/
theorem Agree.rd {l : List Part} {s t : State} (h : Agree l s t) (hl : Part.regs ∉ l) (k : Nat) : t.rd k = s.rd k :=
  State.rd_congr s t (h.part .regs hl) k

theorem Agree.get {l : List Part} {s t : State} (h : Agree l s t) (hl : Part.regs ∉ l) (f : Fld) : t.get f = s.get f :=
  State.get_congr s t f (h.rd hl f.off)

/-- Register `g0` reads zero (R135). -/
@[simp] theorem gReg_zero (t : Thread) : gReg t 0#4 = 0#32 := rfl

/-- A write of a general register reads back, but for `g0`, and leaves the others alone. -/
theorem gReg_setG (t : Thread) (r q : BitVec 4) (v : Word) :
    gReg (setG t r v) q = if q = r ∧ r ≠ 0#4 then v else gReg t q := by
  unfold setG
  split
  · next h => subst h; simp
  · next h =>
    unfold gReg
    by_cases hq : q = 0#4
    · subst hq; simp [Ne.symm h]
    · simp only [hq, if_false, tabGet_tabSet]
      by_cases e : q = r
      · subst e; simp [h]
      · have : q.toNat ≠ r.toNat := fun x => e (BitVec.eq_of_toNat_eq x)
        simp [e, this]

@[simp] theorem tReg_setT (t : Thread) (k j : BitVec 2) (v : Time) :
    tReg (setT t k v) j = if j = k then v else tReg t j := by
  unfold tReg setT
  simp only [tabGet_tabSet]
  by_cases e : j = k
  · subst e; simp
  · have : j.toNat ≠ k.toNat := fun x => e (BitVec.eq_of_toNat_eq x)
    simp [e, this]

@[simp] theorem actOf_setAct (t : Thread) (k j : Nat) (a : Act) :
    actOf (setAct t k a) j = if j = k then a else actOf t j := by simp [actOf, setAct]

theorem State.act_setAct (s : State) (n k m j : Nat) (a : Act) :
    (s.setAct n k a).act m j = if m = n ∧ j = k then a else s.act m j := by
  unfold State.act State.setAct
  rw [State.thr_modThr]
  by_cases h : m = n
  · subst h; simp
  · simp [h]

@[simp] theorem setG_state (t : Thread) (r : BitVec 4) (v : Word) : (setG t r v).state = t.state := by unfold setG; split <;> rfl
@[simp] theorem setG_pc (t : Thread) (r : BitVec 4) (v : Word) : (setG t r v).pc = t.pc := by unfold setG; split <;> rfl
@[simp] theorem setG_flags (t : Thread) (r : BitVec 4) (v : Word) : (setG t r v).flags = t.flags := by unfold setG; split <;> rfl
@[simp] theorem setG_t (t : Thread) (r : BitVec 4) (v : Word) : (setG t r v).t = t.t := by unfold setG; split <;> rfl
@[simp] theorem setG_stack (t : Thread) (r : BitVec 4) (v : Word) : (setG t r v).stack = t.stack := by unfold setG; split <;> rfl
@[simp] theorem setG_pfx (t : Thread) (r : BitVec 4) (v : Word) : (setG t r v).pfx = t.pfx := by unfold setG; split <;> rfl
@[simp] theorem setG_acts (t : Thread) (r : BitVec 4) (v : Word) : (setG t r v).acts = t.acts := by unfold setG; split <;> rfl
@[simp] theorem setG_wakeBits (t : Thread) (r : BitVec 4) (v : Word) : (setG t r v).wakeBits = t.wakeBits := by unfold setG; split <;> rfl
@[simp] theorem setG_wait (t : Thread) (r : BitVec 4) (v : Word) : (setG t r v).wait = t.wait := by unfold setG; split <;> rfl


end Sys2Proof.Machine
end

