-- ==== Sys2Proof/Laws/Issue.lean ====
section
/-!
SUPPORT. What an issue does once the instruction at the program counter is known (R163 to R172), and the change of
one thread alone.
-/

namespace Sys2Proof.Machine

/-- The instruction that a fetch gives has its effect, from an empty prefix latch. -/
theorem issue_word {s t : State} {n : Nat} {i : GInstr} {f : GInstr → Option Nat → State → Option State}
    (h : fetch s n = .word i) (hf : f i (s.thr n).pfx (modThr s n fun t => { t with pfx := none }) = some t) :
    issue s n f = t := by
  unfold issue
  rw [h]
  simp only [hf]

theorem ThreadWith.start (l : List Part) (s : State) (n : Nat) (f : Thread → Thread) :
    ThreadWith l n (f (s.thr n)) s (modThr s n f) :=
  ⟨State.thr_modThr_same s n f, fun m h => State.thr_modThr_ne s n m f h,
    ⟨fun p hp => modThr_agree.part p fun h => hp (by simp only [List.mem_singleton] at h; simp [h])⟩⟩

/-- A further change of the same thread. -/
theorem ThreadWith.mod {l : List Part} {s t : State} {n : Nat} {x : Thread} (h : ThreadWith l n x s t)
    (f : Thread → Thread) : ThreadWith l n (f x) s (modThr t n f) := by
  have h2 := ThreadWith.start l t n f
  exact ⟨by rw [State.thr_modThr_same, h.1], fun m hm => by rw [State.thr_modThr_ne _ _ _ _ hm, h.2.1 m hm],
    h.2.2.trans h2.2.2⟩

theorem ThreadWith.eq {l : List Part} {s t : State} {n : Nat} {x y : Thread} (h : ThreadWith l n x s t) (e : x = y) :
    ThreadWith l n y s t := e ▸ h

/-- A change of other parts, which leaves every thread alone. -/
theorem ThreadWith.agree {l m : List Part} {s t u : State} {n : Nat} {x : Thread} (h : ThreadWith l n x s t)
    (hu : Agree m t u) (hm : Part.threads ∉ m) (hs : subParts m l = true) : ThreadWith l n x s u :=
  ⟨by rw [hu.thr hm]; exact h.1, fun k hk => by rw [hu.thr hm]; exact h.2.1 k hk,
    h.2.2.trans (hu.mono (List.all_eq_true.mpr fun p hp => by
      have := subParts_mem hs hp
      simp [this]))⟩

theorem ThreadNow.start (s : State) (n : Nat) (f : Thread → Thread) : ThreadNow n (f (s.thr n)) s (modThr s n f) :=
  ThreadWith.start [] s n f

theorem ThreadNow.mod {s t : State} {n : Nat} {x : Thread} (h : ThreadNow n x s t) (f : Thread → Thread) :
    ThreadNow n (f x) s (modThr t n f) := ThreadWith.mod h f

theorem ThreadNow.eq {s t : State} {n : Nat} {x y : Thread} (h : ThreadNow n x s t) (e : x = y) : ThreadNow n y s t := e ▸ h

theorem agree_wr (s : State) (k : Nat) (v : Word) : Agree [.regs] s (s.wr k v) := State_wr_agree
theorem agree_drew (s : State) : Agree [.free] s s.drew := State_drew_agree

/-- A fault of a thread, from any state in which only that thread has changed. -/
theorem faultedFrom_threadFault {s u : State} {n : Nat} {y : Thread} (cause detail : Nat)
    (h : ThreadWith [.free, .regs] n y s u) (hr : ∀ k, u.rd k = s.rd k) :
    FaultedFrom y n cause (some detail) s (threadFault n cause detail u) := by
  refine ⟨_, ⟨?_, ⟨detail, fun e h => by injection h, ?_⟩, ?_⟩, rfl⟩
  · exact ((h.mod _).agree (agree_wr ..) (by decide) (by decide)).eq rfl
  · rw [State.rd_wr_same, BitVec.toNat_ofNat, h.1]
    omega
  · intro k hk
    rw [State.rd_wr_ne _ _ _ _ (by simpa using hk)]
    exact hr k

theorem faultedFrom_threadFaultFree {s u : State} {n : Nat} {y : Thread} (cause : Nat)
    (h : ThreadWith [.free, .regs] n y s u) (hr : ∀ k, u.rd k = s.rd k) :
    FaultedFrom y n cause none s (threadFaultFree n cause u) := by
  have h2 : ThreadWith [.free, .regs] n y s u.drew := h.agree (agree_drew _) (by decide) (by decide)
  obtain ⟨v, ⟨h3, ⟨d, hd, he⟩, h4⟩, h5⟩ := faultedFrom_threadFault cause u.free h2 (fun k => hr k)
  exact ⟨v, ⟨h3, ⟨d, fun e h => by injection h, he⟩, h4⟩, h5⟩

/-- A fault at an issue. -/
theorem faulted_threadFault (s : State) (n cause detail : Nat) :
    Faulted n cause (some detail) s (threadFault n cause detail (modThr s n fun t => { t with pfx := none })) :=
  faultedFrom_threadFault cause detail (ThreadWith.start _ s n _) (fun _ => rfl)

theorem faulted_threadFaultFree (s : State) (n cause : Nat) :
    Faulted n cause none s (threadFaultFree n cause (modThr s n fun t => { t with pfx := none })) :=
  faultedFrom_threadFaultFree cause (ThreadWith.start _ s n _) (fun _ => rfl)

end Sys2Proof.Machine
end

