-- ==== Sys2Proof/Laws/Stop.lean ====
section
/-!
SUPPORT. What the end of an action, a stop and a reset do to threads (R140, R142, R159).
-/

namespace Sys2Proof.Machine

theorem thr_releaseGrant (w : Holder) (s : State) (m : Nat) : (releaseGrant w s).thr m = s.thr m := rfl

/-- The end of an action touches its own thread alone. -/
theorem thr_endAct_ne (n k st c i : Nat) (s : State) (m : Nat) (h : m ≠ n) : (endAct n k st c i s).thr m = s.thr m := by
  unfold endAct
  dsimp only
  rw [thr_releaseGrant, State.thr_modThr_ne _ _ _ _ h]

/-- The slot that an action leaves: its record, and the thread's wake bit (R140, R148). -/
theorem thr_endAct_same (n k st c i : Nat) (s : State) :
    (endAct n k st c i s).thr n =
      { setAct (s.thr n) k { actOf (s.thr n) k with status := st, cause := c, info := i, stage := .none } with
        wakeBits := (s.thr n).wakeBits ||| 2 ^ (8 + k) } := by
  unfold endAct
  dsimp only
  rw [thr_releaseGrant, State.thr_modThr_same]

theorem thr_returnAirtime (a : Act) (s : State) (m : Nat) : (returnAirtime a s).thr m = s.thr m :=
  returnAirtime_agree.thr (by decide) m

theorem thr_endUnsent_ne (n k st c : Nat) (s : State) (m : Nat) (h : m ≠ n) : (endUnsent n k st c s).thr m = s.thr m := by
  unfold endUnsent
  dsimp only
  rw [thr_returnAirtime, thr_endAct_ne _ _ _ _ _ _ _ h]

theorem thr_cancelUnstarted_ne (n k : Nat) (s : State) (m : Nat) (h : m ≠ n) :
    (cancelUnstarted n k s).thr m = s.thr m := by
  unfold cancelUnstarted
  dsimp only
  split
  · rfl
  · split
    · split
      · exact thr_endAct_ne _ _ _ _ _ _ _ h
      · rfl
    · exact thr_endAct_ne _ _ _ _ _ _ _ h
    · exact thr_endAct_ne _ _ _ _ _ _ _ h
    · exact thr_endUnsent_ne _ _ _ _ _ _ h
    · exact thr_endUnsent_ne _ _ _ _ _ _ h
    · rfl

/-- A property that every turn keeps holds after the fold. -/
theorem foldUpto_keeps {α : Type} (g : State → α) (f : Nat → State → State) (hf : ∀ i x, g (f i x) = g x) (n : Nat)
    (s : State) : g (foldUpto n f s) = g s := by
  unfold foldUpto
  induction List.range n generalizing s with
  | nil => rfl
  | cons i l ih => rw [List.foldl_cons, ih, hf]

theorem foldl_keeps {α β : Type} (g : State → α) (f : State → β → State) (l : List β)
    (hf : ∀ x b, b ∈ l → g (f x b) = g x) (s : State) : g (l.foldl f s) = g s := by
  induction l generalizing s with
  | nil => rfl
  | cons b l ih =>
    rw [List.foldl_cons, ih (fun x c hc => hf x c (List.mem_cons_of_mem _ hc)), hf s b List.mem_cons_self]

theorem thr_stopThread_ne (n : Nat) (s : State) (m : Nat) (h : m ≠ n) : (stopThread n s).thr m = s.thr m := by
  unfold stopThread
  dsimp only
  rw [State.thr_modThr_ne _ _ _ _ h, dropThreadPins_agree.thr (by decide), leaveGrantWait_agree.thr (by decide)]
  exact foldUpto_keeps (fun x => x.thr m) _ (fun k x => thr_cancelUnstarted_ne n k x m h) 4 s

/-- A stopped thread is `IDLE` and waits for nothing (R142). -/
theorem thr_stopThread_state (n : Nat) (s : State) :
    ((stopThread n s).thr n).state = .idle ∧ ((stopThread n s).thr n).wait = .none := by
  unfold stopThread
  dsimp only
  rw [State.thr_modThr_same]
  exact ⟨rfl, rfl⟩

theorem act_endAct (n k j st c i : Nat) (s : State) :
    (endAct n k st c i s).act n j =
      if j = k then { s.act n k with status := st, cause := c, info := i, stage := .none } else s.act n j := by
  unfold State.act
  rw [thr_endAct_same]
  exact actOf_setAct _ _ _ _

theorem act_endUnsent (n k j st c : Nat) (s : State) :
    (endUnsent n k st c s).act n j =
      if j = k then { s.act n k with status := st, cause := c, info := infoOf (s.act n k), stage := .none }
      else s.act n j := by
  rw [← act_endAct]
  unfold endUnsent State.act
  dsimp only
  rw [thr_returnAirtime]

/-- Cancelling one slot leaves the others alone. -/
theorem act_cancelUnstarted_ne (n k j : Nat) (s : State) (h : j ≠ k) : (cancelUnstarted n k s).act n j = s.act n j := by
  unfold cancelUnstarted
  dsimp only
  split
  · rfl
  · split
    · split
      · rw [act_endAct, if_neg h]; rfl
      · rfl
    · rw [act_endAct, if_neg h]
    · rw [act_endAct, if_neg h]
    · rw [act_endUnsent, if_neg h]
    · rw [act_endUnsent, if_neg h]
    · rfl

theorem foldUpto_four (f : Nat → State → State) (s : State) : foldUpto 4 f s = f 3 (f 2 (f 1 (f 0 s))) := rfl

/-- A stopped thread: its slots cancelled, then `IDLE` (R142). -/
theorem thr_stopThread_same (n : Nat) (s : State) :
    (stopThread n s).thr n =
      { (foldUpto 4 (fun k s => cancelUnstarted n k s) s).thr n with state := .idle, wait := .none } := by
  unfold stopThread
  dsimp only
  generalize foldUpto 4 (fun k s => cancelUnstarted n k s) s = u
  have h : (dropThreadPins n (leaveGrantWait n u)).thr n = u.thr n :=
    (dropThreadPins_agree.thr (by decide) n).trans (leaveGrantWait_agree.thr (by decide) n)
  rw [State.thr_modThr_same, h]

/-- What a stop makes of a slot: a frame or window that waits for its instant is cancelled, with its record; what has
begun, or is not pending, is left alone (R142). -/
def Cancels (a b : Act) : Prop :=
  (isPending a = true → a.stage = .waiting → a.body ≠ .none → (∀ d, a.body ≠ .cyp d) →
    b = { a with status := stCancelled, cause := 0, info := infoOf a, stage := .none }) ∧
  (isPending a = false ∨ (a.stage ≠ .waiting ∧ a.stage ≠ .queued) → b = a)

theorem cancels_cancelUnstarted (n k : Nat) (s : State) :
    Cancels (s.act n k) ((cancelUnstarted n k s).act n k) := by
  unfold cancelUnstarted
  dsimp only
  have h1 := act_endAct n k k stCancelled 0 0 s
  have h2 := act_endUnsent n k k stCancelled 0 s
  rw [if_pos rfl] at h1 h2
  generalize endAct n k stCancelled 0 0 s = u at *
  generalize endUnsent n k stCancelled 0 s = v at *
  have h3 : (endAct n k stCancelled 0 0 s.drew).act n k =
      { s.act n k with status := stCancelled, cause := 0, info := 0, stage := .none } := by
    rw [act_endAct, if_pos rfl]; rfl
  generalize endAct n k stCancelled 0 0 s.drew = w at *
  have h4 : s.drew.act n k = s.act n k := rfl
  generalize s.drew = x at *
  have h5 : isPending (s.act n k) = false ∨ isPending (s.act n k) = true := by
    cases isPending (s.act n k) <;> simp
  generalize hs : s.act n k = a at *
  rcases h5 with hp | hp
  · rw [if_pos (by rw [hp]; decide)]
    exact ⟨fun h => absurd (hp.symm.trans h) (by decide), fun _ => hs⟩
  · rw [if_neg (by rw [hp]; decide)]
    split
    · refine ⟨fun _ h => ?_, fun h => ?_⟩ <;> simp_all
    · refine ⟨fun _ _ _ _ => ?_, fun h => ?_⟩
      · rw [h1]; simp [infoOf, *]
      · simp_all
    · refine ⟨fun _ _ _ _ => ?_, fun h => ?_⟩
      · rw [h1]; simp [infoOf, *]
      · simp_all
    · exact ⟨fun _ _ _ _ => h2, fun h => by simp_all⟩
    · exact ⟨fun _ _ _ _ => h2, fun h => by simp_all⟩
    · refine ⟨fun _ hs hb hc => ?_, fun _ => hs⟩
      cases e : a.body <;> simp_all

theorem cancels_stopThread (n k : Nat) (s : State) (hk : k < 4) :
    Cancels (s.act n k) ((stopThread n s).act n k) := by
  have e : (stopThread n s).act n k =
      (cancelUnstarted n 3 (cancelUnstarted n 2 (cancelUnstarted n 1 (cancelUnstarted n 0 s)))).act n k := by
    rw [show (stopThread n s).act n k = actOf ((stopThread n s).thr n) k from rfl, thr_stopThread_same]
    rw [← foldUpto_four (fun k s => cancelUnstarted n k s) s]
    unfold State.act
    generalize (foldUpto 4 (fun k s => cancelUnstarted n k s) s).thr n = y
    rfl
  rw [e]
  have hk' : k = 0 ∨ k = 1 ∨ k = 2 ∨ k = 3 := by omega
  rcases hk' with rfl | rfl | rfl | rfl
  · rw [act_cancelUnstarted_ne _ _ _ _ (by decide), act_cancelUnstarted_ne _ _ _ _ (by decide),
      act_cancelUnstarted_ne _ _ _ _ (by decide)]
    exact cancels_cancelUnstarted n 0 s
  · rw [act_cancelUnstarted_ne _ _ _ _ (by decide), act_cancelUnstarted_ne _ _ _ _ (by decide)]
    rw [← act_cancelUnstarted_ne n 0 1 s (by decide)]
    exact cancels_cancelUnstarted n 1 _
  · rw [act_cancelUnstarted_ne _ _ _ _ (by decide)]
    rw [← act_cancelUnstarted_ne n 0 2 s (by decide), ← act_cancelUnstarted_ne n 1 2 _ (by decide)]
    exact cancels_cancelUnstarted n 2 _
  · rw [← act_cancelUnstarted_ne n 0 3 s (by decide), ← act_cancelUnstarted_ne n 1 3 _ (by decide),
      ← act_cancelUnstarted_ne n 2 3 _ (by decide)]
    exact cancels_cancelUnstarted n 3 _

/-- The two windows of a thread: its program. -/
def windowsOf (t : Thread) : Nat × Nat × Nat × Nat := (t.ibase, t.ilen, t.dbase, t.dlen)

theorem windows_endAct (n k st c i : Nat) (s : State) :
    windowsOf ((endAct n k st c i s).thr n) = windowsOf (s.thr n) := by
  rw [thr_endAct_same]; rfl

theorem windows_endUnsent (n k st c : Nat) (s : State) :
    windowsOf ((endUnsent n k st c s).thr n) = windowsOf (s.thr n) := by
  unfold endUnsent
  dsimp only
  rw [thr_returnAirtime, windows_endAct]

theorem windows_cancelUnstarted (n k : Nat) (s : State) :
    windowsOf ((cancelUnstarted n k s).thr n) = windowsOf (s.thr n) := by
  unfold cancelUnstarted
  dsimp only
  split
  · rfl
  · split
    · split
      · exact windows_endAct _ _ _ _ _ _
      · rfl
    · exact windows_endAct _ _ _ _ _ _
    · exact windows_endAct _ _ _ _ _ _
    · exact windows_endUnsent _ _ _ _ _
    · exact windows_endUnsent _ _ _ _ _
    · rfl

/-- A stop keeps the thread's program (R142). -/
theorem windows_stopThread (n : Nat) (s : State) : windowsOf ((stopThread n s).thr n) = windowsOf (s.thr n) := by
  have h := foldUpto_keeps (fun x : State => windowsOf (x.thr n)) (fun k s => cancelUnstarted n k s)
    (fun k x => windows_cancelUnstarted n k x) 4 s
  rw [thr_stopThread_same]
  generalize (foldUpto 4 (fun k s => cancelUnstarted n k s) s).thr n = y at *
  exact h

/-- A stop releases the pins of its thread and no other (R142). -/
theorem pins_stopThread (n : Nat) (s : State) :
    (stopThread n s).ncp.pins = s.ncp.pins.filter fun p => p.2 != n := by
  have h1 : (foldUpto 4 (fun k s => cancelUnstarted n k s) s).ncp = s.ncp :=
    foldUpto_keeps (fun x : State => x.ncp) (fun k s => cancelUnstarted n k s)
      (fun k x => (cancelUnstarted_agree (x0 := n) (x1 := k) (x2 := x)).part .ncp (by decide)) 4 s
  have h2 : ∀ x : State, (leaveGrantWait n x).ncp = x.ncp := fun x => leaveGrantWait_agree.part .ncp (by decide)
  rw [← h1]
  unfold stopThread
  generalize foldUpto 4 (fun k s => cancelUnstarted n k s) s = u
  rw [← h2 u]
  rfl

theorem thr_unloadThread_ne (n : Nat) (s : State) (m : Nat) (h : m ≠ n) : (unloadThread n s).thr m = s.thr m := by
  unfold unloadThread
  dsimp only
  rw [State.thr_modThr_ne _ _ _ _ h, thr_stopThread_ne _ _ _ h]

/-- An unloaded thread holds no window, and keeps only the actions that have started. -/
theorem thr_unloadThread_same (n : Nat) (s : State) :
    ∃ l, (unloadThread n s).thr n = { Thread.init with acts := l } := by
  unfold unloadThread
  dsimp only
  rw [State.thr_modThr_same]
  exact ⟨_, rfl⟩

theorem tabGet_tabDropRange {α : Type} (d : Nat → α) (lo n : Nat) (t : Tab α) (k : Nat) :
    tabGet d (tabDropRange lo n t) k = if lo ≤ k ∧ k < lo + n then d k else tabGet d t k := by
  unfold tabDropRange
  rw [tabGet_tabKeep]
  by_cases h : lo ≤ k ∧ k < lo + n
  · have : (decide (k < lo) || decide (lo + n ≤ k)) = false := by simp; omega
    simp [h, this]
  · have : (decide (k < lo) || decide (lo + n ≤ k)) = true := by simp; omega
    simp [h, this]

theorem thr_resetTurn_ne (n : Nat) (s : State) (m : Nat) (h : m ≠ n) :
    (clearJt n (unloadThread n s)).thr m = s.thr m := by
  rw [clearJt_agree.thr (by decide), thr_unloadThread_ne _ _ _ h]

theorem thr_resetTurn_same (n : Nat) (s : State) :
    ∃ l, (clearJt n (unloadThread n s)).thr n = { Thread.init with acts := l } := by
  rw [clearJt_agree.thr (by decide)]
  exact thr_unloadThread_same n s

/-- The four turns of a core's reset leave every other core's threads alone and unload its own. -/
theorem thr_resetTurns (c : Nat) (s : State) (m : Nat) :
    (coreOf m ≠ c → (foldUpto 4 (fun t s => clearJt (4 * c + t) (unloadThread (4 * c + t) s)) s).thr m = s.thr m) ∧
    (coreOf m = c → ∃ l, (foldUpto 4 (fun t s => clearJt (4 * c + t) (unloadThread (4 * c + t) s)) s).thr m =
      { Thread.init with acts := l }) := by
  have step : ∀ (n : Nat) (x : State), (∃ l, x.thr m = { Thread.init with acts := l }) →
      ∃ l, (clearJt n (unloadThread n x)).thr m = { Thread.init with acts := l } := by
    intro n x hx
    by_cases e : m = n
    · subst e; exact thr_resetTurn_same m x
    · rw [thr_resetTurn_ne n x m e]; exact hx
  constructor
  · intro hm
    unfold foldUpto
    refine foldl_keeps (fun x => x.thr m) _ _ (fun x b hb => ?_) s
    have hb' := List.mem_range.mp hb
    exact thr_resetTurn_ne _ x m (fun e => hm (by unfold coreOf; omega))
  · intro hm
    have hmem : m - 4 * c ∈ List.range 4 := List.mem_range.mpr (by unfold coreOf at hm; omega)
    have key : ∀ (l : List Nat) (x : State), ((∃ a, x.thr m = { Thread.init with acts := a }) ∨ m - 4 * c ∈ l) →
        ∃ a, (l.foldl (fun s t => clearJt (4 * c + t) (unloadThread (4 * c + t) s)) x).thr m =
          { Thread.init with acts := a } := by
      intro l
      induction l with
      | nil => intro x h; rcases h with h | h; exact h; exact absurd h List.not_mem_nil
      | cons b l ih =>
        intro x h
        rw [List.foldl_cons]
        apply ih
        by_cases e : m = 4 * c + b
        · left; rw [e]; exact thr_resetTurn_same _ x
        · rcases h with h | h
          · left; exact step _ x h
          · rcases List.mem_cons.mp h with h | h
            · exact absurd (by unfold coreOf at hm; omega) e
            · exact Or.inr h
    unfold foldUpto
    exact key _ s (Or.inr hmem)

/-- A level D reset of a core leaves its threads not loaded and both memories zero (R159). -/
theorem resetCore_clears (c : Nat) (s : State) :
    (∀ m, coreOf m = c → ∃ l, (resetCore c s).thr m = { Thread.init with acts := l }) ∧
    (∀ m, coreOf m ≠ c → (resetCore c s).thr m = s.thr m) ∧
    (∀ i, i < 8192 → imemWord (resetCore c s) c i = 0#32) ∧
    (∀ a, a < 16384 → dmemByte (resetCore c s) c a = 0#8) := by
  have hj : ∀ x : State, (occur (zeroCore c x) (116 + 5 * c)).jig = (zeroCore c x).jig :=
    fun x => (onlyEvents_occur _ _).jig
  have hthr : ∀ (x : State) (m : Nat), (occur (zeroCore c x) (116 + 5 * c)).thr m = x.thr m := by
    intro x m; unfold State.thr; rw [hj]; rfl
  have hk : ∀ (m : Nat) (x : State), (foldUpto 4 (fun t s => keepFault (4 * c + t) s) x).thr m = x.thr m :=
    fun m x => foldUpto_keeps (fun x => x.thr m) (fun t s => keepFault (4 * c + t) s)
      (fun i y => (keepFault_agree (x0 := 4 * c + i) (x1 := y)).thr (by decide) m) 4 x
  refine ⟨fun m hm => ?_, fun m hm => ?_, fun i hi => ?_, fun a ha => ?_⟩
  · unfold resetCore
    dsimp only
    rw [hthr]
    exact (thr_resetTurns c _ m).2 hm
  · unfold resetCore
    dsimp only
    rw [hthr, (thr_resetTurns c _ m).1 hm, hk]
  · unfold resetCore
    dsimp only
    unfold imemWord
    rw [hj]
    simp only [zeroCore, tabGet_tabDropRange]
    rw [if_pos (by omega)]
  · unfold resetCore
    dsimp only
    unfold dmemByte
    rw [hj]
    simp only [zeroCore, tabGet_tabDropRange]
    rw [if_pos (by omega)]

end Sys2Proof.Machine
end

