-- ==== Sys2Proof/Laws/Within.lean ====
section
/-!
SUPPORT. Each command completes, and changes no part of the state but those that `mayChange` lists for it.
-/

namespace Sys2Proof.Machine

theorem Completes.of_agree {a l : List Part} {c : Instr} {s : State} {o : Ans} (he : exec c s = o)
    (h : AgreeAns a s o) (hs : subParts a l = true) : Completes c s (Agree l s) := by
  obtain ⟨t, ht, g⟩ := h.completes
  exact ⟨t, he.trans ht, g.mono hs⟩

theorem brownOut_within (rail : Fin 5) (s : State) : Completes (.brownOut rail) s (Agree (mayChange (.brownOut rail)) s) :=
  .of_agree rfl (execBrownOut_agree (x0 := rail) (x1 := s)) rfl
theorem islandClockFailure_within (island : Fin 16) (s : State) : Completes (.islandClockFailure island) s (Agree (mayChange (.islandClockFailure island)) s) :=
  .of_agree rfl (execIslandClockFailure_agree (x0 := island) (x1 := s)) rfl
theorem functionLevelReset_within (fn : Option Drawer) (s : State) : Completes (.functionLevelReset fn) s (Agree (mayChange (.functionLevelReset fn)) s) :=
  .of_agree rfl (execFunctionLevelReset_agree (x0 := fn) (x1 := s)) rfl
theorem swDeviceReset_within (d : Drawer) (v : Word) (s : State) : Completes (.swDeviceReset d v) s (Agree (mayChange (.swDeviceReset d v)) s) :=
  .of_agree rfl (execSwDeviceReset_agree (x0 := d) (x1 := v) (x2 := s)) rfl
theorem swDrawerReset_within (d : Drawer) (v : Word) (s : State) : Completes (.swDrawerReset d v) s (Agree (mayChange (.swDrawerReset d v)) s) :=
  .of_agree rfl (execSwDrawerReset_agree (x0 := d) (x1 := v) (x2 := s)) rfl
theorem dbgReqGo_within (src : DbgFrom) (v : Word) (s : State) : Completes (.dbgReqGo src v) s (Agree (mayChange (.dbgReqGo src v)) s) :=
  .of_agree rfl (execDbgReqGo_agree (x0 := src) (x1 := v) (x2 := s)) rfl
theorem resetRelease_within (ends : List Src) (sel : DrwSel) (s : State) : Completes (.resetRelease ends sel) s (Agree (mayChange (.resetRelease ends sel)) s) :=
  .of_agree rfl (execResetRelease_agree (x0 := ends) (x1 := sel) (x2 := s)) rfl
theorem keeperRomBoot_within (flash : BootFlash) (mismatch : Bool) (s : State) : Completes (.keeperRomBoot flash mismatch) s (Agree (mayChange (.keeperRomBoot flash mismatch)) s) :=
  .of_agree rfl (execKeeperRomBoot_agree (x0 := flash) (x1 := mismatch) (x2 := s)) rfl
theorem flashTimeout_within (sec : Option BootImg) (s : State) : Completes (.flashTimeout sec) s (Agree (mayChange (.flashTimeout sec)) s) :=
  .of_agree rfl (execFlashTimeout_agree (x0 := sec) (x1 := s)) rfl
theorem levelDRelease_within (island : Fin 16) (s : State) : Completes (.levelDRelease island) s (Agree (mayChange (.levelDRelease island)) s) :=
  .of_agree rfl (execLevelDRelease_agree (x0 := island) (x1 := s)) rfl
theorem optStageWrite_within (d : Drawer) (n : Fin 26) (v : Word) (be : BitVec 4) (s : State) : Completes (.optStageWrite d n v be) s (Agree (mayChange (.optStageWrite d n v be)) s) :=
  .of_agree rfl (execOptStageWrite_agree (x0 := d) (x1 := n) (x2 := v) (x3 := be) (x4 := s)) rfl
theorem prepare_within (d : Drawer) (v : Word) (s : State) : Completes (.prepare d v) s (Agree (mayChange (.prepare d v)) s) :=
  .of_agree rfl (execPrepare_agree (x0 := d) (x1 := v) (x2 := s)) rfl
theorem commit_within (d : Drawer) (v : Word) (s : State) : Completes (.commit d v) s (Agree (mayChange (.commit d v)) s) :=
  .of_agree rfl (execCommit_agree (x0 := d) (x1 := v) (x2 := s)) rfl
theorem commitWriteDone_within (firstOk secondOk : Bool) (s : State) : Completes (.commitWriteDone firstOk secondOk) s (Agree (mayChange (.commitWriteDone firstOk secondOk)) s) :=
  .of_agree rfl (execCommitWriteDone_agree (x0 := firstOk) (x1 := secondOk) (x2 := s)) rfl
theorem discard_within (d : Drawer) (v : Word) (s : State) : Completes (.discard d v) s (Agree (mayChange (.discard d v)) s) :=
  .of_agree rfl (execDiscard_agree (x0 := d) (x1 := v) (x2 := s)) rfl
theorem bootPush_within (d : Drawer) (v : Word) (be : BitVec 4) (s : State) : Completes (.bootPush d v be) s (Agree (mayChange (.bootPush d v be)) s) :=
  .of_agree rfl (execBootPush_agree (x0 := d) (x1 := v) (x2 := be) (x3 := s)) rfl
theorem attRequest_within (d : Drawer) (v : Word) (s : State) : Completes (.attRequest d v) s (Agree (mayChange (.attRequest d v)) s) :=
  .of_agree rfl (execAttRequest_agree (x0 := d) (x1 := v) (x2 := s)) rfl
theorem attDone_within (match2 : Bool) (s : State) : Completes (.attDone match2) s (Agree (mayChange (.attDone match2)) s) :=
  .of_agree rfl (execAttDone_agree (x0 := match2) (x1 := s)) rfl
theorem qspiRead_within (port : Fin 2) (head : QspiHead) (bytes : Nat) (s : State) : Completes (.qspiRead port head bytes) s (Agree (mayChange (.qspiRead port head bytes)) s) :=
  .of_agree rfl (execQspiRead_agree (x0 := port) (x1 := head) (x2 := bytes) (x3 := s)) rfl
theorem qspiReadTimeout_within (port : Fin 2) (addr : Word) (s : State) : Completes (.qspiReadTimeout port addr) s (Agree (mayChange (.qspiReadTimeout port addr)) s) :=
  .of_agree rfl (execQspiReadTimeout_agree (x0 := port) (x1 := addr) (x2 := s)) rfl
theorem qspiWrite_within (port : Fin 2) (head : QspiHead) (data : List Byte) (s : State) : Completes (.qspiWrite port head data) s (Agree (mayChange (.qspiWrite port head data)) s) :=
  .of_agree rfl (execQspiWrite_agree (x0 := port) (x1 := head) (x2 := data) (x3 := s)) rfl
theorem qspiPostedWriteApply_within (port : Fin 2) (s : State) : Completes (.qspiPostedWriteApply port) s (Agree (mayChange (.qspiPostedWriteApply port)) s) :=
  .of_agree rfl (execQspiPostedWriteApply_agree (x0 := port) (x1 := s)) rfl
theorem qspiStatus_within (port : Fin 2) (s : State) : Completes (.qspiStatus port) s (Agree (mayChange (.qspiStatus port)) s) :=
  .of_agree rfl (execQspiStatus_agree (x0 := port) (x1 := s)) rfl
theorem registerWrite_within (d : Drawer) (ap : Aperture) (off : Nat) (v : Word) (be : BitVec 4) (s : State) : Completes (.registerWrite d ap off v be) s (Agree (mayChange (.registerWrite d ap off v be)) s) :=
  .of_agree rfl (execRegisterWrite_agree (x0 := d) (x1 := ap) (x2 := off) (x3 := v) (x4 := be) (x5 := s)) rfl
theorem ownershipWrite_within (d : Drawer) (off : Nat) (v : Word) (be : BitVec 4) (s : State) : Completes (.ownershipWrite d off v be) s (Agree (mayChange (.ownershipWrite d off v be)) s) :=
  .of_agree rfl (execOwnershipWrite_agree (x0 := d) (x1 := off) (x2 := v) (x3 := be) (x4 := s)) rfl
theorem drawerResetRelease_within (e : DrawerEnd) (s : State) : Completes (.drawerResetRelease e) s (Agree (mayChange (.drawerResetRelease e)) s) :=
  .of_agree rfl (execDrawerResetRelease_agree (x0 := e) (x1 := s)) rfl
theorem queueEnable_within (d : Drawer) (n : Fin 64) (v : Word) (be : BitVec 4) (s : State) : Completes (.queueEnable d n v be) s (Agree (mayChange (.queueEnable d n v be)) s) :=
  .of_agree rfl (execQueueEnable_agree (x0 := d) (x1 := n) (x2 := v) (x3 := be) (x4 := s)) rfl
theorem queueDisable_within (d : Drawer) (n : Fin 64) (v : Word) (be : BitVec 4) (s : State) : Completes (.queueDisable d n v be) s (Agree (mayChange (.queueDisable d n v be)) s) :=
  .of_agree rfl (execQueueDisable_agree (x0 := d) (x1 := n) (x2 := v) (x3 := be) (x4 := s)) rfl
theorem doorbell_within (d : Drawer) (n : Fin 64) (v : Word) (s : State) : Completes (.doorbell d n v) s (Agree (mayChange (.doorbell d n v)) s) :=
  .of_agree rfl (execDoorbell_agree (x0 := d) (x1 := n) (x2 := v) (x3 := s)) rfl
theorem queuePop_within (d : Drawer) (n : Fin 64) (first last : Fin 20) (s : State) : Completes (.queuePop d n first last) s (Agree (mayChange (.queuePop d n first last)) s) :=
  .of_agree rfl (execQueuePop_agree (x0 := d) (x1 := n) (x2 := first) (x3 := last) (x4 := s)) rfl
theorem unitTake_within (u : QUnit) (s : State) : Completes (.unitTake u) s (Agree (mayChange (.unitTake u)) s) :=
  .of_agree rfl (execUnitTake_agree (x0 := u) (x1 := s)) rfl
theorem eventTimerExpire_within (src : Fin 288) (s : State) : Completes (.eventTimerExpire src) s (Agree (mayChange (.eventTimerExpire src)) s) :=
  .of_agree rfl (execEventTimerExpire_agree (x0 := src) (x1 := s)) rfl
theorem evtRouteWrite_within (d : Drawer) (src : Fin 288) (v : Word) (be : BitVec 4) (s : State) : Completes (.evtRouteWrite d src v be) s (Agree (mayChange (.evtRouteWrite d src v be)) s) :=
  .of_agree rfl (execEvtRouteWrite_agree (x0 := d) (x1 := src) (x2 := v) (x3 := be) (x4 := s)) rfl
theorem evtPendClear_within (d : Drawer) (w : Fin 9) (v : Word) (be : BitVec 4) (s : State) : Completes (.evtPendClear d w v be) s (Agree (mayChange (.evtPendClear d w v be)) s) :=
  .of_agree rfl (execEvtPendClear_agree (x0 := d) (x1 := w) (x2 := v) (x3 := be) (x4 := s)) rfl
theorem msixUnmask_within (d : Drawer) (vec : Fin 64) (s : State) : Completes (.msixUnmask d vec) s (Agree (mayChange (.msixUnmask d vec)) s) :=
  .of_agree rfl (execMsixUnmask_agree (x0 := d) (x1 := vec) (x2 := s)) rfl
theorem jigLoad_within (d : Drawer) (v : Word) (s : State) : Completes (.jigLoad d v) s (Agree (mayChange (.jigLoad d v)) s) :=
  .of_agree rfl (execJigLoad_agree (x0 := d) (x1 := v) (x2 := s)) rfl
theorem jigLoadComplete_within (d : Drawer) (s : State) : Completes (.jigLoadComplete d) s (Agree (mayChange (.jigLoadComplete d)) s) :=
  .of_agree rfl (execJigLoadComplete_agree (x0 := d) (x1 := s)) rfl
theorem start_within (d : Drawer) (th : Fin 32) (v : Word) (s : State) : Completes (.start d th v) s (Agree (mayChange (.start d th v)) s) :=
  .of_agree rfl (execStart_agree (x0 := d) (x1 := th) (x2 := v) (x3 := s)) rfl
theorem stop_within (d : Drawer) (th : Fin 32) (v : Word) (s : State) : Completes (.stop d th v) s (Agree (mayChange (.stop d th v)) s) :=
  .of_agree rfl (execStop_agree (x0 := d) (x1 := th) (x2 := v) (x3 := s)) rfl
theorem resume_within (d : Drawer) (th : Fin 32) (v : Word) (s : State) : Completes (.resume d th v) s (Agree (mayChange (.resume d th v)) s) :=
  .of_agree rfl (execResume_agree (x0 := d) (x1 := th) (x2 := v) (x3 := s)) rfl
theorem addR_within (th : Fin 32) (s : State) : Completes (.addR th) s (Agree (mayChange (.addR th)) s) :=
  .of_agree rfl (execAddR_agree (x0 := th) (x1 := s)) rfl
theorem subR_within (th : Fin 32) (s : State) : Completes (.subR th) s (Agree (mayChange (.subR th)) s) :=
  .of_agree rfl (execSubR_agree (x0 := th) (x1 := s)) rfl
theorem andR_within (th : Fin 32) (s : State) : Completes (.andR th) s (Agree (mayChange (.andR th)) s) :=
  .of_agree rfl (execAndR_agree (x0 := th) (x1 := s)) rfl
theorem orR_within (th : Fin 32) (s : State) : Completes (.orR th) s (Agree (mayChange (.orR th)) s) :=
  .of_agree rfl (execOrR_agree (x0 := th) (x1 := s)) rfl
theorem xorR_within (th : Fin 32) (s : State) : Completes (.xorR th) s (Agree (mayChange (.xorR th)) s) :=
  .of_agree rfl (execXorR_agree (x0 := th) (x1 := s)) rfl
theorem shlR_within (th : Fin 32) (s : State) : Completes (.shlR th) s (Agree (mayChange (.shlR th)) s) :=
  .of_agree rfl (execShlR_agree (x0 := th) (x1 := s)) rfl
theorem shrR_within (th : Fin 32) (s : State) : Completes (.shrR th) s (Agree (mayChange (.shrR th)) s) :=
  .of_agree rfl (execShrR_agree (x0 := th) (x1 := s)) rfl
theorem sraR_within (th : Fin 32) (s : State) : Completes (.sraR th) s (Agree (mayChange (.sraR th)) s) :=
  .of_agree rfl (execSraR_agree (x0 := th) (x1 := s)) rfl
theorem mulR_within (th : Fin 32) (s : State) : Completes (.mulR th) s (Agree (mayChange (.mulR th)) s) :=
  .of_agree rfl (execMulR_agree (x0 := th) (x1 := s)) rfl
theorem mulhR_within (th : Fin 32) (s : State) : Completes (.mulhR th) s (Agree (mayChange (.mulhR th)) s) :=
  .of_agree rfl (execMulhR_agree (x0 := th) (x1 := s)) rfl
theorem cmpR_within (th : Fin 32) (s : State) : Completes (.cmpR th) s (Agree (mayChange (.cmpR th)) s) :=
  .of_agree rfl (execCmpR_agree (x0 := th) (x1 := s)) rfl
theorem addi_within (th : Fin 32) (s : State) : Completes (.addi th) s (Agree (mayChange (.addi th)) s) :=
  .of_agree rfl (execAddi_agree (x0 := th) (x1 := s)) rfl
theorem subi_within (th : Fin 32) (s : State) : Completes (.subi th) s (Agree (mayChange (.subi th)) s) :=
  .of_agree rfl (execSubi_agree (x0 := th) (x1 := s)) rfl
theorem andi_within (th : Fin 32) (s : State) : Completes (.andi th) s (Agree (mayChange (.andi th)) s) :=
  .of_agree rfl (execAndi_agree (x0 := th) (x1 := s)) rfl
theorem ori_within (th : Fin 32) (s : State) : Completes (.ori th) s (Agree (mayChange (.ori th)) s) :=
  .of_agree rfl (execOri_agree (x0 := th) (x1 := s)) rfl
theorem xori_within (th : Fin 32) (s : State) : Completes (.xori th) s (Agree (mayChange (.xori th)) s) :=
  .of_agree rfl (execXori_agree (x0 := th) (x1 := s)) rfl
theorem shli_within (th : Fin 32) (s : State) : Completes (.shli th) s (Agree (mayChange (.shli th)) s) :=
  .of_agree rfl (execShli_agree (x0 := th) (x1 := s)) rfl
theorem shri_within (th : Fin 32) (s : State) : Completes (.shri th) s (Agree (mayChange (.shri th)) s) :=
  .of_agree rfl (execShri_agree (x0 := th) (x1 := s)) rfl
theorem srai_within (th : Fin 32) (s : State) : Completes (.srai th) s (Agree (mayChange (.srai th)) s) :=
  .of_agree rfl (execSrai_agree (x0 := th) (x1 := s)) rfl
theorem cmpi_within (th : Fin 32) (s : State) : Completes (.cmpi th) s (Agree (mayChange (.cmpi th)) s) :=
  .of_agree rfl (execCmpi_agree (x0 := th) (x1 := s)) rfl
theorem movi_within (th : Fin 32) (s : State) : Completes (.movi th) s (Agree (mayChange (.movi th)) s) :=
  .of_agree rfl (execMovi_agree (x0 := th) (x1 := s)) rfl
theorem pfx_within (th : Fin 32) (s : State) : Completes (.pfx th) s (Agree (mayChange (.pfx th)) s) :=
  .of_agree rfl (execPfx_agree (x0 := th) (x1 := s)) rfl
theorem ld_within (th : Fin 32) (s : State) : Completes (.ld th) s (Agree (mayChange (.ld th)) s) :=
  .of_agree rfl (execLd_agree (x0 := th) (x1 := s)) rfl
theorem ldh_within (th : Fin 32) (s : State) : Completes (.ldh th) s (Agree (mayChange (.ldh th)) s) :=
  .of_agree rfl (execLdh_agree (x0 := th) (x1 := s)) rfl
theorem ldb_within (th : Fin 32) (s : State) : Completes (.ldb th) s (Agree (mayChange (.ldb th)) s) :=
  .of_agree rfl (execLdb_agree (x0 := th) (x1 := s)) rfl
theorem st_within (th : Fin 32) (s : State) : Completes (.st th) s (Agree (mayChange (.st th)) s) :=
  .of_agree rfl (execSt_agree (x0 := th) (x1 := s)) rfl
theorem sth_within (th : Fin 32) (s : State) : Completes (.sth th) s (Agree (mayChange (.sth th)) s) :=
  .of_agree rfl (execSth_agree (x0 := th) (x1 := s)) rfl
theorem stb_within (th : Fin 32) (s : State) : Completes (.stb th) s (Agree (mayChange (.stb th)) s) :=
  .of_agree rfl (execStb_agree (x0 := th) (x1 := s)) rfl
theorem tld_within (th : Fin 32) (s : State) : Completes (.tld th) s (Agree (mayChange (.tld th)) s) :=
  .of_agree rfl (execTld_agree (x0 := th) (x1 := s)) rfl
theorem tst_within (th : Fin 32) (s : State) : Completes (.tst th) s (Agree (mayChange (.tst th)) s) :=
  .of_agree rfl (execTst_agree (x0 := th) (x1 := s)) rfl
theorem br_within (th : Fin 32) (s : State) : Completes (.br th) s (Agree (mayChange (.br th)) s) :=
  .of_agree rfl (execBr_agree (x0 := th) (x1 := s)) rfl
theorem call_within (th : Fin 32) (s : State) : Completes (.call th) s (Agree (mayChange (.call th)) s) :=
  .of_agree rfl (execCall_agree (x0 := th) (x1 := s)) rfl
theorem brr_within (th : Fin 32) (s : State) : Completes (.brr th) s (Agree (mayChange (.brr th)) s) :=
  .of_agree rfl (execBrr_agree (x0 := th) (x1 := s)) rfl
theorem callr_within (th : Fin 32) (s : State) : Completes (.callr th) s (Agree (mayChange (.callr th)) s) :=
  .of_agree rfl (execCallr_agree (x0 := th) (x1 := s)) rfl
theorem ret_within (th : Fin 32) (s : State) : Completes (.ret th) s (Agree (mayChange (.ret th)) s) :=
  .of_agree rfl (execRet_agree (x0 := th) (x1 := s)) rfl
theorem atTime_within (th : Fin 32) (s : State) : Completes (.atTime th) s (Agree (mayChange (.atTime th)) s) :=
  .of_agree rfl (execAtTime_agree (x0 := th) (x1 := s)) rfl
theorem after_within (th : Fin 32) (s : State) : Completes (.after th) s (Agree (mayChange (.after th)) s) :=
  .of_agree rfl (execAfter_agree (x0 := th) (x1 := s)) rfl
theorem afteri_within (th : Fin 32) (s : State) : Completes (.afteri th) s (Agree (mayChange (.afteri th)) s) :=
  .of_agree rfl (execAfteri_agree (x0 := th) (x1 := s)) rfl
theorem zxw_within (th : Fin 32) (s : State) : Completes (.zxw th) s (Agree (mayChange (.zxw th)) s) :=
  .of_agree rfl (execZxw_agree (x0 := th) (x1 := s)) rfl
theorem tget_within (th : Fin 32) (s : State) : Completes (.tget th) s (Agree (mayChange (.tget th)) s) :=
  .of_agree rfl (execTget_agree (x0 := th) (x1 := s)) rfl
theorem tadd_within (th : Fin 32) (s : State) : Completes (.tadd th) s (Agree (mayChange (.tadd th)) s) :=
  .of_agree rfl (execTadd_agree (x0 := th) (x1 := s)) rfl
theorem tsub_within (th : Fin 32) (s : State) : Completes (.tsub th) s (Agree (mayChange (.tsub th)) s) :=
  .of_agree rfl (execTsub_agree (x0 := th) (x1 := s)) rfl
theorem tpack_within (th : Fin 32) (s : State) : Completes (.tpack th) s (Agree (mayChange (.tpack th)) s) :=
  .of_agree rfl (execTpack_agree (x0 := th) (x1 := s)) rfl
theorem tpart_within (th : Fin 32) (s : State) : Completes (.tpart th) s (Agree (mayChange (.tpart th)) s) :=
  .of_agree rfl (execTpart_agree (x0 := th) (x1 := s)) rfl
theorem timeWaitEnd_within (th : Fin 32) (s : State) : Completes (.timeWaitEnd th) s (Agree (mayChange (.timeWaitEnd th)) s) :=
  .of_agree rfl (execTimeWaitEnd_agree (x0 := th) (x1 := s)) rfl
theorem txf_within (th : Fin 32) (s : State) : Completes (.txf th) s (Agree (mayChange (.txf th)) s) :=
  .of_agree rfl (execTxf_agree (x0 := th) (x1 := s)) rfl
theorem rxw_within (th : Fin 32) (s : State) : Completes (.rxw th) s (Agree (mayChange (.rxw th)) s) :=
  .of_agree rfl (execRxw_agree (x0 := th) (x1 := s)) rfl
theorem cancel_within (th : Fin 32) (s : State) : Completes (.cancel th) s (Agree (mayChange (.cancel th)) s) :=
  .of_agree rfl (execCancel_agree (x0 := th) (x1 := s)) rfl
theorem rtx_within (th : Fin 32) (s : State) : Completes (.rtx th) s (Agree (mayChange (.rtx th)) s) :=
  .of_agree rfl (execRtx_agree (x0 := th) (x1 := s)) rfl
theorem rrx_within (th : Fin 32) (s : State) : Completes (.rrx th) s (Agree (mayChange (.rrx th)) s) :=
  .of_agree rfl (execRrx_agree (x0 := th) (x1 := s)) rfl
theorem ldn_within (th : Fin 32) (s : State) : Completes (.ldn th) s (Agree (mayChange (.ldn th)) s) :=
  .of_agree rfl (execLdn_agree (x0 := th) (x1 := s)) rfl
theorem stn_within (th : Fin 32) (s : State) : Completes (.stn th) s (Agree (mayChange (.stn th)) s) :=
  .of_agree rfl (execStn_agree (x0 := th) (x1 := s)) rfl
theorem pref_within (th : Fin 32) (s : State) : Completes (.pref th) s (Agree (mayChange (.pref th)) s) :=
  .of_agree rfl (execPref_agree (x0 := th) (x1 := s)) rfl
theorem pin_within (th : Fin 32) (s : State) : Completes (.pin th) s (Agree (mayChange (.pin th)) s) :=
  .of_agree rfl (execPin_agree (x0 := th) (x1 := s)) rfl
theorem unpin_within (th : Fin 32) (s : State) : Completes (.unpin th) s (Agree (mayChange (.unpin th)) s) :=
  .of_agree rfl (execUnpin_agree (x0 := th) (x1 := s)) rfl
theorem cyp_within (th : Fin 32) (s : State) : Completes (.cyp th) s (Agree (mayChange (.cyp th)) s) :=
  .of_agree rfl (execCyp_agree (x0 := th) (x1 := s)) rfl
theorem cypJobEnd_within (th : Fin 32) (slot : Fin 4) (mismatch : Bool) (s : State) : Completes (.cypJobEnd th slot mismatch) s (Agree (mayChange (.cypJobEnd th slot mismatch)) s) :=
  .of_agree rfl (execCypJobEnd_agree (x0 := th) (x1 := slot) (x2 := mismatch) (x3 := s)) rfl
theorem enq_within (th : Fin 32) (s : State) : Completes (.enq th) s (Agree (mayChange (.enq th)) s) :=
  .of_agree rfl (execEnq_agree (x0 := th) (x1 := s)) rfl
theorem deq_within (th : Fin 32) (s : State) : Completes (.deq th) s (Agree (mayChange (.deq th)) s) :=
  .of_agree rfl (execDeq_agree (x0 := th) (x1 := s)) rfl
theorem evt_within (th : Fin 32) (s : State) : Completes (.evt th) s (Agree (mayChange (.evt th)) s) :=
  .of_agree rfl (execEvt_agree (x0 := th) (x1 := s)) rfl
theorem sig_within (th : Fin 32) (s : State) : Completes (.sig th) s (Agree (mayChange (.sig th)) s) :=
  .of_agree rfl (execSig_agree (x0 := th) (x1 := s)) rfl
theorem wsig_within (th : Fin 32) (s : State) : Completes (.wsig th) s (Agree (mayChange (.wsig th)) s) :=
  .of_agree rfl (execWsig_agree (x0 := th) (x1 := s)) rfl
theorem wakeEvent_within (th : Fin 32) (s : State) : Completes (.wakeEvent th) s (Agree (mayChange (.wakeEvent th)) s) :=
  .of_agree rfl (execWakeEvent_agree (x0 := th) (x1 := s)) rfl
theorem wsigDeadline_within (th : Fin 32) (s : State) : Completes (.wsigDeadline th) s (Agree (mayChange (.wsigDeadline th)) s) :=
  .of_agree rfl (execWsigDeadline_agree (x0 := th) (x1 := s)) rfl
theorem halt_within (th : Fin 32) (s : State) : Completes (.halt th) s (Agree (mayChange (.halt th)) s) :=
  .of_agree rfl (execHalt_agree (x0 := th) (x1 := s)) rfl
theorem trap_within (th : Fin 32) (s : State) : Completes (.trap th) s (Agree (mayChange (.trap th)) s) :=
  .of_agree rfl (execTrap_agree (x0 := th) (x1 := s)) rfl
theorem yield_within (th : Fin 32) (s : State) : Completes (.yield th) s (Agree (mayChange (.yield th)) s) :=
  .of_agree rfl (execYield_agree (x0 := th) (x1 := s)) rfl
theorem pageTimeout_within (th : Fin 32) (s : State) : Completes (.pageTimeout th) s (Agree (mayChange (.pageTimeout th)) s) :=
  .of_agree rfl (execPageTimeout_agree (x0 := th) (x1 := s)) rfl
theorem jigLockup_within (c : Fin 8) (s : State) : Completes (.jigLockup c) s (Agree (mayChange (.jigLockup c)) s) :=
  .of_agree rfl (execJigLockup_agree (x0 := c) (x1 := s)) rfl
theorem jigWatchdog_within (th : Fin 32) (s : State) : Completes (.jigWatchdog th) s (Agree (mayChange (.jigWatchdog th)) s) :=
  .of_agree rfl (execJigWatchdog_agree (x0 := th) (x1 := s)) rfl
theorem actionStart_within (th : Fin 32) (slot : Fin 4) (ready : Bool) (s : State) : Completes (.actionStart th slot ready) s (Agree (mayChange (.actionStart th slot ready)) s) :=
  .of_agree rfl (execActionStart_agree (x0 := th) (x1 := slot) (x2 := ready) (x3 := s)) rfl
theorem emissionEnd_within (e : Emitter) (clips : List Nat) (fault : Option Time) (s : State) : Completes (.emissionEnd e clips fault) s (Agree (mayChange (.emissionEnd e clips fault)) s) :=
  .of_agree rfl (execEmissionEnd_agree (x0 := e) (x1 := clips) (x2 := fault) (x3 := s)) rfl
theorem rxWindowClose_within (th : Fin 32) (slot : Fin 4) (begun : Bool) (s : State) : Completes (.rxWindowClose th slot begun) s (Agree (mayChange (.rxWindowClose th slot begun)) s) :=
  .of_agree rfl (execRxWindowClose_agree (x0 := th) (x1 := slot) (x2 := begun) (x3 := s)) rfl
theorem agcIntervalEnd_within (c : Fin 6) (now : Time) (samples : List (BitVec 16)) (s : State) : Completes (.agcIntervalEnd c now samples) s (Agree (mayChange (.agcIntervalEnd c now samples)) s) :=
  .of_agree rfl (execAgcIntervalEnd_agree (x0 := c) (x1 := now) (x2 := samples) (x3 := s)) rfl
theorem agcAutoWrite_within (d : Drawer) (c : Fin 6) (v : Word) (be : BitVec 4) (s : State) : Completes (.agcAutoWrite d c v be) s (Agree (mayChange (.agcAutoWrite d c v be)) s) :=
  .of_agree rfl (execAgcAutoWrite_agree (x0 := d) (x1 := c) (x2 := v) (x3 := be) (x4 := s)) rfl
theorem lphyApply_within (d : Drawer) (v : Word) (be : BitVec 4) (s : State) : Completes (.lphyApply d v be) s (Agree (mayChange (.lphyApply d v be)) s) :=
  .of_agree rfl (execLphyApply_agree (x0 := d) (x1 := v) (x2 := be) (x3 := s)) rfl
theorem bandApplied_within (b : Fin 2) (s : State) : Completes (.bandApplied b) s (Agree (mayChange (.bandApplied b)) s) :=
  .of_agree rfl (execBandApplied_agree (x0 := b) (x1 := s)) rfl
theorem firSwap_within (d : Drawer) (t : Fin 3) (v : Word) (be : BitVec 4) (s : State) : Completes (.firSwap d t v be) s (Agree (mayChange (.firSwap d t v be)) s) :=
  .of_agree rfl (execFirSwap_agree (x0 := d) (x1 := t) (x2 := v) (x3 := be) (x4 := s)) rfl
theorem compatEnable_within (d : Drawer) (v : Word) (be : BitVec 4) (s : State) : Completes (.compatEnable d v be) s (Agree (mayChange (.compatEnable d v be)) s) :=
  .of_agree rfl (execCompatEnable_agree (x0 := d) (x1 := v) (x2 := be) (x3 := s)) rfl
theorem sweepEnable_within (d : Drawer) (v : Word) (be : BitVec 4) (s : State) : Completes (.sweepEnable d v be) s (Agree (mayChange (.sweepEnable d v be)) s) :=
  .of_agree rfl (execSweepEnable_agree (x0 := d) (x1 := v) (x2 := be) (x3 := s)) rfl
theorem preambleDetection_within (c : Fin 6) (d : Det) (s : State) : Completes (.preambleDetection c d) s (Agree (mayChange (.preambleDetection c d)) s) :=
  .of_agree rfl (execPreambleDetection_agree (x0 := c) (x1 := d) (x2 := s)) rfl
theorem headerCheck_within (c : Fin 6) (dec : Fin 4) (now : Time) (combined : Option LineHdr) (each : List (Option LineHdr)) (addr : List (Option RxAddr)) (s : State) : Completes (.headerCheck c dec now combined each addr) s (Agree (mayChange (.headerCheck c dec now combined each addr)) s) :=
  .of_agree rfl (execHeaderCheck_agree (x0 := c) (x1 := dec) (x2 := now) (x3 := combined) (x4 := each) (x5 := addr) (x6 := s)) rfl
theorem channelStep_within (m : SymbolSeen) (s : State) : Completes (.channelStep m) s (Agree (mayChange (.channelStep m)) s) :=
  .of_agree rfl (execChannelStep_agree (x0 := m) (x1 := s)) rfl
theorem frameEnd_within (c : Fin 6) (dec : Fin 4) (rx : LineRx) (s : State) : Completes (.frameEnd c dec rx) s (Agree (mayChange (.frameEnd c dec rx)) s) :=
  .of_agree rfl (execFrameEnd_agree (x0 := c) (x1 := dec) (x2 := rx) (x3 := s)) rfl
theorem compatFrameRx_within (c : Fin 6) (rx : CompatRx) (s : State) : Completes (.compatFrameRx c rx) s (Agree (mayChange (.compatFrameRx c rx)) s) :=
  .of_agree rfl (execCompatFrameRx_agree (x0 := c) (x1 := rx) (x2 := s)) rfl
theorem compatCsmaAccess_within (th : Fin 32) (slot : Fin 4) (granted : Bool) (now : Time) (s : State) : Completes (.compatCsmaAccess th slot granted now) s (Agree (mayChange (.compatCsmaAccess th slot granted now)) s) :=
  .of_agree rfl (execCompatCsmaAccess_agree (x0 := th) (x1 := slot) (x2 := granted) (x3 := now) (x4 := s)) rfl
theorem ackDeadline_within (d : DueOf) (s : State) : Completes (.ackDeadline d) s (Agree (mayChange (.ackDeadline d)) s) :=
  .of_agree rfl (execAckDeadline_agree (x0 := d) (x1 := s)) rfl
theorem ackRx_within (th : Fin 32) (slot : Fin 4) (r : AckSeen) (advice : Nat) (start ref : Time) (now : Time) (s : State) : Completes (.ackRx th slot r advice start ref now) s (Agree (mayChange (.ackRx th slot r advice start ref now)) s) :=
  .of_agree rfl (execAckRx_agree (x0 := th) (x1 := slot) (x2 := r) (x3 := advice) (x4 := start) (x5 := ref) (x6 := now) (x7 := s)) rfl
theorem ackWaitEnd_within (th : Fin 32) (slot : Fin 4) (s : State) : Completes (.ackWaitEnd th slot) s (Agree (mayChange (.ackWaitEnd th slot)) s) :=
  .of_agree rfl (execAckWaitEnd_agree (x0 := th) (x1 := slot) (x2 := s)) rfl
theorem retxPlace_within (th : Fin 32) (slot : Fin 4) (s : State) : Completes (.retxPlace th slot) s (Agree (mayChange (.retxPlace th slot)) s) :=
  .of_agree rfl (execRetxPlace_agree (x0 := th) (x1 := slot) (x2 := s)) rfl
theorem ldFaultAssert_within (t : Fin 3) (now : Time) (s : State) : Completes (.ldFaultAssert t now) s (Agree (mayChange (.ldFaultAssert t now)) s) :=
  .of_agree rfl (execLdFaultAssert_agree (x0 := t) (x1 := now) (x2 := s)) rfl
theorem txAbort_within (t : Fin 3) (s : State) : Completes (.txAbort t) s (Agree (mayChange (.txAbort t)) s) :=
  .of_agree rfl (execTxAbort_agree (x0 := t) (x1 := s)) rfl
theorem holdOffEnd_within (t : Fin 3) (s : State) : Completes (.holdOffEnd t) s (Agree (mayChange (.holdOffEnd t)) s) :=
  .of_agree rfl (execHoldOffEnd_agree (x0 := t) (x1 := s)) rfl
theorem mainsCrossing_within (p : Fin 3) (raw est : Time) (per : Nat) (meas : List BinMeas) (s : State) : Completes (.mainsCrossing p raw est per meas) s (Agree (mayChange (.mainsCrossing p raw est per meas)) s) :=
  .of_agree rfl (execMainsCrossing_agree (x0 := p) (x1 := raw) (x2 := est) (x3 := per) (x4 := meas) (x5 := s)) rfl
theorem mainsCrossingMissed_within (p : Fin 3) (meas : List BinMeas) (s : State) : Completes (.mainsCrossingMissed p meas) s (Agree (mayChange (.mainsCrossingMissed p meas)) s) :=
  .of_agree rfl (execMainsCrossingMissed_agree (x0 := p) (x1 := meas) (x2 := s)) rfl
theorem zxEdgeRejected_within (p : Fin 3) (raw : Time) (s : State) : Completes (.zxEdgeRejected p raw) s (Agree (mayChange (.zxEdgeRejected p raw)) s) :=
  .of_agree rfl (execZxEdgeRejected_agree (x0 := p) (x1 := raw) (x2 := s)) rfl
theorem mainsHoldTimeout_within (p : Fin 3) (s : State) : Completes (.mainsHoldTimeout p) s (Agree (mayChange (.mainsHoldTimeout p)) s) :=
  .of_agree rfl (execMainsHoldTimeout_agree (x0 := p) (x1 := s)) rfl
theorem nmapRestart_within (d : Drawer) (c : Fin 6) (v : Word) (be : BitVec 4) (s : State) : Completes (.nmapRestart d c v be) s (Agree (mayChange (.nmapRestart d c v be)) s) :=
  .of_agree rfl (execNmapRestart_agree (x0 := d) (x1 := c) (x2 := v) (x3 := be) (x4 := s)) rfl
theorem dlvRingEnable_within (d : Drawer) (v : Word) (be : BitVec 4) (s : State) : Completes (.dlvRingEnable d v be) s (Agree (mayChange (.dlvRingEnable d v be)) s) :=
  .of_agree rfl (execDlvRingEnable_agree (x0 := d) (x1 := v) (x2 := be) (x3 := s)) rfl
theorem radioEnable_within (d : Drawer) (v : Word) (be : BitVec 4) (s : State) : Completes (.radioEnable d v be) s (Agree (mayChange (.radioEnable d v be)) s) :=
  .of_agree rfl (execRadioEnable_agree (x0 := d) (x1 := v) (x2 := be) (x3 := s)) rfl
theorem rfFrameRx_within (r : RfRx) (s : State) : Completes (.rfFrameRx r) s (Agree (mayChange (.rfFrameRx r)) s) :=
  .of_agree rfl (execRfFrameRx_agree (x0 := r) (x1 := s)) rfl
theorem connEventAdvance_within (c : Nat) (s : State) : Completes (.connEventAdvance c) s (Agree (mayChange (.connEventAdvance c)) s) :=
  .of_agree rfl (execConnEventAdvance_agree (x0 := c) (x1 := s)) rfl
theorem supervisionExpire_within (c : Nat) (s : State) : Completes (.supervisionExpire c) s (Agree (mayChange (.supervisionExpire c)) s) :=
  .of_agree rfl (execSupervisionExpire_agree (x0 := c) (x1 := s)) rfl
theorem rfRetxPlace_within (th : Fin 32) (slot : Fin 4) (s : State) : Completes (.rfRetxPlace th slot) s (Agree (mayChange (.rfRetxPlace th slot)) s) :=
  .of_agree rfl (execRfRetxPlace_agree (x0 := th) (x1 := slot) (x2 := s)) rfl
theorem dcCheckpoint_within (ok : Bool) (s : State) : Completes (.dcCheckpoint ok) s (Agree (mayChange (.dcCheckpoint ok)) s) :=
  .of_agree rfl (execDcCheckpoint_agree (x0 := ok) (x1 := s)) rfl
theorem aes_within (id : Nat) (mismatch : Bool) (s : State) : Completes (.aes id mismatch) s (Agree (mayChange (.aes id mismatch)) s) :=
  .of_agree rfl (execAes_agree (x0 := id) (x1 := mismatch) (x2 := s)) rfl
theorem hash_within (id : Nat) (mismatch : Bool) (s : State) : Completes (.hash id mismatch) s (Agree (mayChange (.hash id mismatch)) s) :=
  .of_agree rfl (execHash_agree (x0 := id) (x1 := mismatch) (x2 := s)) rfl
theorem sign_within (id : Nat) (mismatch : Bool) (s : State) : Completes (.sign id mismatch) s (Agree (mayChange (.sign id mismatch)) s) :=
  .of_agree rfl (execSign_agree (x0 := id) (x1 := mismatch) (x2 := s)) rfl
theorem verify_within (id : Nat) (mismatch : Bool) (s : State) : Completes (.verify id mismatch) s (Agree (mayChange (.verify id mismatch)) s) :=
  .of_agree rfl (execVerify_agree (x0 := id) (x1 := mismatch) (x2 := s)) rfl
theorem ecdh_within (id : Nat) (mismatch : Bool) (s : State) : Completes (.ecdh id mismatch) s (Agree (mayChange (.ecdh id mismatch)) s) :=
  .of_agree rfl (execEcdh_agree (x0 := id) (x1 := mismatch) (x2 := s)) rfl
theorem random_within (id : Nat) (mismatch : Bool) (s : State) : Completes (.random id mismatch) s (Agree (mayChange (.random id mismatch)) s) :=
  .of_agree rfl (execRandom_agree (x0 := id) (x1 := mismatch) (x2 := s)) rfl
theorem keyImport_within (id : Nat) (mismatch : Bool) (s : State) : Completes (.keyImport id mismatch) s (Agree (mayChange (.keyImport id mismatch)) s) :=
  .of_agree rfl (execKeyImport_agree (x0 := id) (x1 := mismatch) (x2 := s)) rfl
theorem keyErase_within (id : Nat) (mismatch : Bool) (s : State) : Completes (.keyErase id mismatch) s (Agree (mayChange (.keyErase id mismatch)) s) :=
  .of_agree rfl (execKeyErase_agree (x0 := id) (x1 := mismatch) (x2 := s)) rfl
theorem keyPromote_within (id : Nat) (mismatch : Bool) (s : State) : Completes (.keyPromote id mismatch) s (Agree (mayChange (.keyPromote id mismatch)) s) :=
  .of_agree rfl (execKeyPromote_agree (x0 := id) (x1 := mismatch) (x2 := s)) rfl
theorem cipherJobComplete_within (id : Nat) (s : State) : Completes (.cipherJobComplete id) s (Agree (mayChange (.cipherJobComplete id)) s) :=
  .of_agree rfl (execCipherJobComplete_agree (x0 := id) (x1 := s)) rfl
theorem keyLimitWrite_within (d : Drawer) (n : Fin 256) (v : Word) (be : BitVec 4) (s : State) : Completes (.keyLimitWrite d n v be) s (Agree (mayChange (.keyLimitWrite d n v be)) s) :=
  .of_agree rfl (execKeyLimitWrite_agree (x0 := d) (x1 := n) (x2 := v) (x3 := be) (x4 := s)) rfl
theorem contextFillDone_within (c : Nat) (ok : Bool) (r : NandRead) (s : State) : Completes (.contextFillDone c ok r) s (Agree (mayChange (.contextFillDone c ok r)) s) :=
  .of_agree rfl (execContextFillDone_agree (x0 := c) (x1 := ok) (x2 := r) (x3 := s)) rfl
theorem contextWriteback_within (c : Nat) (s : State) : Completes (.contextWriteback c) s (Agree (mayChange (.contextWriteback c)) s) :=
  .of_agree rfl (execContextWriteback_agree (x0 := c) (x1 := s)) rfl
theorem rebuild_within (d : Drawer) (v : Word) (be : BitVec 4) (s : State) : Completes (.rebuild d v be) s (Agree (mayChange (.rebuild d v be)) s) :=
  .of_agree rfl (execRebuild_agree (x0 := d) (x1 := v) (x2 := be) (x3 := s)) rfl
theorem ctxRead_within (id : Nat) (s : State) : Completes (.ctxRead id) s (Agree (mayChange (.ctxRead id)) s) :=
  .of_agree rfl (execCtxRead_agree (x0 := id) (x1 := s)) rfl
theorem ctxWrite_within (id : Nat) (s : State) : Completes (.ctxWrite id) s (Agree (mayChange (.ctxWrite id)) s) :=
  .of_agree rfl (execCtxWrite_agree (x0 := id) (x1 := s)) rfl
theorem ctxInit_within (id : Nat) (s : State) : Completes (.ctxInit id) s (Agree (mayChange (.ctxInit id)) s) :=
  .of_agree rfl (execCtxInit_agree (x0 := id) (x1 := s)) rfl
theorem ctxFree_within (id : Nat) (s : State) : Completes (.ctxFree id) s (Agree (mayChange (.ctxFree id)) s) :=
  .of_agree rfl (execCtxFree_agree (x0 := id) (x1 := s)) rfl
theorem ctxShort_within (id : Nat) (s : State) : Completes (.ctxShort id) s (Agree (mayChange (.ctxShort id)) s) :=
  .of_agree rfl (execCtxShort_agree (x0 := id) (x1 := s)) rfl
theorem pagerJobComplete_within (id : Nat) (s : State) : Completes (.pagerJobComplete id) s (Agree (mayChange (.pagerJobComplete id)) s) :=
  .of_agree rfl (execPagerJobComplete_agree (x0 := id) (x1 := s)) rfl
theorem read_within (id : Nat) (r : NandRead) (s : State) : Completes (.read id r) s (Agree (mayChange (.read id r)) s) :=
  .of_agree rfl (execRead_agree (x0 := id) (x1 := r) (x2 := s)) rfl
theorem write_within (id : Nat) (r : NandRead) (progs : List (Fin 2 × Fin 4)) (s : State) : Completes (.write id r progs) s (Agree (mayChange (.write id r progs)) s) :=
  .of_agree rfl (execWrite_agree (x0 := id) (x1 := r) (x2 := progs) (x3 := s)) rfl
theorem trim_within (id : Nat) (s : State) : Completes (.trim id) s (Agree (mayChange (.trim id)) s) :=
  .of_agree rfl (execTrim_agree (x0 := id) (x1 := s)) rfl
theorem flush_within (id : Nat) (s : State) : Completes (.flush id) s (Agree (mayChange (.flush id)) s) :=
  .of_agree rfl (execFlush_agree (x0 := id) (x1 := s)) rfl
theorem nsCreate_within (run : CoreRun) (s : State) : Completes (.nsCreate run) s (Agree (mayChange (.nsCreate run)) s) :=
  .of_agree rfl (execNsCreate_agree (x0 := run) (x1 := s)) rfl
theorem nsDelete_within (id : Nat) (s : State) : Completes (.nsDelete id) s (Agree (mayChange (.nsDelete id)) s) :=
  .of_agree rfl (execNsDelete_agree (x0 := id) (x1 := s)) rfl
theorem storageJobComplete_within (id : Nat) (s : State) : Completes (.storageJobComplete id) s (Agree (mayChange (.storageJobComplete id)) s) :=
  .of_agree rfl (execStorageJobComplete_agree (x0 := id) (x1 := s)) rfl
theorem nandOpComplete_within (ch : Fin 2) (target : Fin 4) (ok : Bool) (maxPe avgPe : BitVec 16) (s : State) : Completes (.nandOpComplete ch target ok maxPe avgPe) s (Agree (mayChange (.nandOpComplete ch target ok maxPe avgPe)) s) :=
  .of_agree rfl (execNandOpComplete_agree (x0 := ch) (x1 := target) (x2 := ok) (x3 := maxPe) (x4 := avgPe) (x5 := s)) rfl
theorem nsErased_within (n : Fin 15) (s : State) : Completes (.nsErased n) s (Agree (mayChange (.nsErased n)) s) :=
  .of_agree rfl (execNsErased_agree (x0 := n) (x1 := s)) rfl
theorem storageMount_within (p : NandPart) (s : State) : Completes (.storageMount p) s (Agree (mayChange (.storageMount p)) s) :=
  .of_agree rfl (execStorageMount_agree (x0 := p) (x1 := s)) rfl
theorem todSet_within (d : Drawer) (v : Word) (be : BitVec 4) (s : State) : Completes (.todSet d v be) s (Agree (mayChange (.todSet d v be)) s) :=
  .of_agree rfl (execTodSet_agree (x0 := d) (x1 := v) (x2 := be) (x3 := s)) rfl
theorem ppsPulse_within (t : Time) (freq : Int) (s : State) : Completes (.ppsPulse t freq) s (Agree (mayChange (.ppsPulse t freq)) s) :=
  .of_agree rfl (execPpsPulse_agree (x0 := t) (x1 := freq) (x2 := s)) rfl
theorem tenEdgeLost_within (silent : Bool) (s : State) : Completes (.tenEdgeLost silent) s (Agree (mayChange (.tenEdgeLost silent)) s) :=
  .of_agree rfl (execTenEdgeLost_agree (x0 := silent) (x1 := s)) rfl
theorem tenQualify_within (freq : Int) (s : State) : Completes (.tenQualify freq) s (Agree (mayChange (.tenQualify freq)) s) :=
  .of_agree rfl (execTenQualify_agree (x0 := freq) (x1 := s)) rfl
theorem hostSample_within (d : Drawer) (v : Word) (be : BitVec 4) (freq : Int) (s : State) : Completes (.hostSample d v be freq) s (Agree (mayChange (.hostSample d v be freq)) s) :=
  .of_agree rfl (execHostSample_agree (x0 := d) (x1 := v) (x2 := be) (x3 := freq) (x4 := s)) rfl
theorem wtrExpire_within (r : Fin 3) (s : State) : Completes (.wtrExpire r) s (Agree (mayChange (.wtrExpire r)) s) :=
  .of_agree rfl (execWtrExpire_agree (x0 := r) (x1 := s)) rfl
theorem slewDone_within (t : Time) (s : State) : Completes (.slewDone t) s (Agree (mayChange (.slewDone t)) s) :=
  .of_agree rfl (execSlewDone_agree (x0 := t) (x1 := s)) rfl
theorem steerWrite_within (d : Drawer) (v : Word) (be : BitVec 4) (s : State) : Completes (.steerWrite d v be) s (Agree (mayChange (.steerWrite d v be)) s) :=
  .of_agree rfl (execSteerWrite_agree (x0 := d) (x1 := v) (x2 := be) (x3 := s)) rfl
theorem plmbAlign_within (d : Drawer) (o : Option (Fin 4)) (v : Word) (be : BitVec 4) (s : State) : Completes (.plmbAlign d o v be) s (Agree (mayChange (.plmbAlign d o v be)) s) :=
  .of_agree rfl (execPlmbAlign_agree (x0 := d) (x1 := o) (x2 := v) (x3 := be) (x4 := s)) rfl
theorem timeMessage_within (master copy : Time) (s : State) : Completes (.timeMessage master copy) s (Agree (mayChange (.timeMessage master copy)) s) :=
  .of_agree rfl (execTimeMessage_agree (x0 := master) (x1 := copy) (x2 := s)) rfl
theorem uartEnable_within (d : Drawer) (n : Fin 4) (v : Word) (be : BitVec 4) (s : State) : Completes (.uartEnable d n v be) s (Agree (mayChange (.uartEnable d n v be)) s) :=
  .of_agree rfl (execUartEnable_agree (x0 := d) (x1 := n) (x2 := v) (x3 := be) (x4 := s)) rfl
theorem uartDisable_within (d : Drawer) (n : Fin 4) (v : Word) (be : BitVec 4) (s : State) : Completes (.uartDisable d n v be) s (Agree (mayChange (.uartDisable d n v be)) s) :=
  .of_agree rfl (execUartDisable_agree (x0 := d) (x1 := n) (x2 := v) (x3 := be) (x4 := s)) rfl
theorem uartCharRx_within (n : Fin 4) (data : BitVec 9) (tag : Fin 4) (start fin : Time) (s : State) : Completes (.uartCharRx n data tag start fin) s (Agree (mayChange (.uartCharRx n data tag start fin)) s) :=
  .of_agree rfl (execUartCharRx_agree (x0 := n) (x1 := data) (x2 := tag) (x3 := start) (x4 := fin) (x5 := s)) rfl
theorem uartBreakRx_within (n : Fin 4) (len : Nat) (fin : Time) (s : State) : Completes (.uartBreakRx n len fin) s (Agree (mayChange (.uartBreakRx n len fin)) s) :=
  .of_agree rfl (execUartBreakRx_agree (x0 := n) (x1 := len) (x2 := fin) (x3 := s)) rfl
theorem uartLineStuck_within (n : Fin 4) (s : State) : Completes (.uartLineStuck n) s (Agree (mayChange (.uartLineStuck n)) s) :=
  .of_agree rfl (execUartLineStuck_agree (x0 := n) (x1 := s)) rfl
theorem uartRxIdle_within (n : Fin 4) (s : State) : Completes (.uartRxIdle n) s (Agree (mayChange (.uartRxIdle n)) s) :=
  .of_agree rfl (execUartRxIdle_agree (x0 := n) (x1 := s)) rfl
theorem uartRxdataPop_within (d : Drawer) (n : Fin 4) (s : State) : Completes (.uartRxdataPop d n) s (Agree (mayChange (.uartRxdataPop d n)) s) :=
  .of_agree rfl (execUartRxdataPop_agree (x0 := d) (x1 := n) (x2 := s)) rfl
theorem uartTxdata_within (d : Drawer) (n : Fin 4) (v : Word) (be : BitVec 4) (s : State) : Completes (.uartTxdata d n v be) s (Agree (mayChange (.uartTxdata d n v be)) s) :=
  .of_agree rfl (execUartTxdata_agree (x0 := d) (x1 := n) (x2 := v) (x3 := be) (x4 := s)) rfl
theorem uartCharTxEnd_within (n : Fin 4) (back : BitVec 9) (s : State) : Completes (.uartCharTxEnd n back) s (Agree (mayChange (.uartCharTxEnd n back)) s) :=
  .of_agree rfl (execUartCharTxEnd_agree (x0 := n) (x1 := back) (x2 := s)) rfl
theorem uartDeTailEnd_within (n : Fin 4) (s : State) : Completes (.uartDeTailEnd n) s (Agree (mayChange (.uartDeTailEnd n)) s) :=
  .of_agree rfl (execUartDeTailEnd_agree (x0 := n) (x1 := s)) rfl
theorem uartStartEdgeWake_within (n : Fin 4) (t : Time) (s : State) : Completes (.uartStartEdgeWake n t) s (Agree (mayChange (.uartStartEdgeWake n t)) s) :=
  .of_agree rfl (execUartStartEdgeWake_agree (x0 := n) (x1 := t) (x2 := s)) rfl
theorem txChars_within (id : Nat) (s : State) : Completes (.txChars id) s (Agree (mayChange (.txChars id)) s) :=
  .of_agree rfl (execTxChars_agree (x0 := id) (x1 := s)) rfl
theorem txBreak_within (id : Nat) (s : State) : Completes (.txBreak id) s (Agree (mayChange (.txBreak id)) s) :=
  .of_agree rfl (execTxBreak_agree (x0 := id) (x1 := s)) rfl
theorem txFrame_within (id : Nat) (s : State) : Completes (.txFrame id) s (Agree (mayChange (.txFrame id)) s) :=
  .of_agree rfl (execTxFrame_agree (x0 := id) (x1 := s)) rfl
theorem setResponse_within (id : Nat) (s : State) : Completes (.setResponse id) s (Agree (mayChange (.setResponse id)) s) :=
  .of_agree rfl (execSetResponse_agree (x0 := id) (x1 := s)) rfl
theorem serialJobComplete_within (id : Nat) (s : State) : Completes (.serialJobComplete id) s (Agree (mayChange (.serialJobComplete id)) s) :=
  .of_agree rfl (execSerialJobComplete_agree (x0 := id) (x1 := s)) rfl
theorem frameTimeLimit_within (n : Fin 4) (s : State) : Completes (.frameTimeLimit n) s (Agree (mayChange (.frameTimeLimit n)) s) :=
  .of_agree rfl (execFrameTimeLimit_agree (x0 := n) (x1 := s)) rfl
theorem linHeaderRx_within (n : Fin 4) (pid : Byte) (ok : Bool) (t : Time) (s : State) : Completes (.linHeaderRx n pid ok t) s (Agree (mayChange (.linHeaderRx n pid ok t)) s) :=
  .of_agree rfl (execLinHeaderRx_agree (x0 := n) (x1 := pid) (x2 := ok) (x3 := t) (x4 := s)) rfl
theorem ringEnable_within (d : Drawer) (v : Word) (be : BitVec 4) (s : State) : Completes (.ringEnable d v be) s (Agree (mayChange (.ringEnable d v be)) s) :=
  .of_agree rfl (execRingEnable_agree (x0 := d) (x1 := v) (x2 := be) (x3 := s)) rfl
theorem ringDisable_within (d : Drawer) (v : Word) (be : BitVec 4) (s : State) : Completes (.ringDisable d v be) s (Agree (mayChange (.ringDisable d v be)) s) :=
  .of_agree rfl (execRingDisable_agree (x0 := d) (x1 := v) (x2 := be) (x3 := s)) rfl
theorem ringFrameRx_within (f : RingFrame) (t : Time) (s : State) : Completes (.ringFrameRx f t) s (Agree (mayChange (.ringFrameRx f t)) s) :=
  .of_agree rfl (execRingFrameRx_agree (x0 := f) (x1 := t) (x2 := s)) rfl
theorem chkFeed8_within (d : Drawer) (k : Fin 4) (v : Word) (be : BitVec 4) (t : Time) (s : State) : Completes (.chkFeed8 d k v be t) s (Agree (mayChange (.chkFeed8 d k v be t)) s) :=
  .of_agree rfl (execChkFeed8_agree (x0 := d) (x1 := k) (x2 := v) (x3 := be) (x4 := t) (x5 := s)) rfl
theorem chkFeed16_within (d : Drawer) (k : Fin 4) (v : Word) (be : BitVec 4) (t : Time) (s : State) : Completes (.chkFeed16 d k v be t) s (Agree (mayChange (.chkFeed16 d k v be t)) s) :=
  .of_agree rfl (execChkFeed16_agree (x0 := d) (x1 := k) (x2 := v) (x3 := be) (x4 := t) (x5 := s)) rfl
theorem chkFeed32_within (d : Drawer) (k : Fin 4) (v : Word) (be : BitVec 4) (t : Time) (s : State) : Completes (.chkFeed32 d k v be t) s (Agree (mayChange (.chkFeed32 d k v be t)) s) :=
  .of_agree rfl (execChkFeed32_agree (x0 := d) (x1 := k) (x2 := v) (x3 := be) (x4 := t) (x5 := s)) rfl
theorem chkResult_within (d : Drawer) (k : Fin 4) (s : State) : Completes (.chkResult d k) s (Agree (mayChange (.chkResult d k)) s) :=
  .of_agree rfl (execChkResult_agree (x0 := d) (x1 := k) (x2 := s)) rfl
theorem chkExpected_within (d : Drawer) (k : Fin 4) (v : Word) (be : BitVec 4) (s : State) : Completes (.chkExpected d k v be) s (Agree (mayChange (.chkExpected d k v be)) s) :=
  .of_agree rfl (execChkExpected_agree (x0 := d) (x1 := k) (x2 := v) (x3 := be) (x4 := s)) rfl
theorem restart_within (d : Drawer) (k : Fin 4) (v : Word) (be : BitVec 4) (s : State) : Completes (.restart d k v be) s (Agree (mayChange (.restart d k v be)) s) :=
  .of_agree rfl (execRestart_agree (x0 := d) (x1 := k) (x2 := v) (x3 := be) (x4 := s)) rfl
theorem chkCfgWrite_within (d : Drawer) (k : Fin 4) (v : Word) (be : BitVec 4) (s : State) : Completes (.chkCfgWrite d k v be) s (Agree (mayChange (.chkCfgWrite d k v be)) s) :=
  .of_agree rfl (execChkCfgWrite_agree (x0 := d) (x1 := k) (x2 := v) (x3 := be) (x4 := s)) rfl
theorem lastGasp_within (d : Drawer) (s : State) : Completes (.lastGasp d) s (Agree (mayChange (.lastGasp d)) s) :=
  .of_agree rfl (execLastGasp_agree (x0 := d) (x1 := s)) rfl
theorem exit_within (d : Drawer) (s : State) : Completes (.exit d) s (Agree (mayChange (.exit d)) s) :=
  .of_agree rfl (execExit_agree (x0 := d) (x1 := s)) rfl
theorem standby_within (d : Drawer) (s : State) : Completes (.standby d) s (Agree (mayChange (.standby d)) s) :=
  .of_agree rfl (execStandby_agree (x0 := d) (x1 := s)) rfl
theorem wake_within (d : Drawer) (s : State) : Completes (.wake d) s (Agree (mayChange (.wake d)) s) :=
  .of_agree rfl (execWake_agree (x0 := d) (x1 := s)) rfl
theorem pwrShareWrite_within (d : Drawer) (v : Word) (be : BitVec 4) (s : State) : Completes (.pwrShareWrite d v be) s (Agree (mayChange (.pwrShareWrite d v be)) s) :=
  .of_agree rfl (execPwrShareWrite_agree (x0 := d) (x1 := v) (x2 := be) (x3 := s)) rfl
theorem pwrLtrWrite_within (d : Drawer) (b : Bool) (v : Word) (be : BitVec 4) (s : State) : Completes (.pwrLtrWrite d b v be) s (Agree (mayChange (.pwrLtrWrite d b v be)) s) :=
  .of_agree rfl (execPwrLtrWrite_agree (x0 := d) (x1 := b) (x2 := v) (x3 := be) (x4 := s)) rfl
theorem islandWake_within (i : Fin 16) (s : State) : Completes (.islandWake i) s (Agree (mayChange (.islandWake i)) s) :=
  .of_agree rfl (execIslandWake_agree (x0 := i) (x1 := s)) rfl
theorem flitRx_within (r : Fin 2) (f : Flit) (t : Time) (s : State) : Completes (.flitRx r f t) s (Agree (mayChange (.flitRx r f t)) s) :=
  .of_agree rfl (execFlitRx_agree (x0 := r) (x1 := f) (x2 := t) (x3 := s)) rfl
theorem nakRx_within (r : Fin 2) (seq : Fin 8) (t : Time) (s : State) : Completes (.nakRx r seq t) s (Agree (mayChange (.nakRx r seq t)) s) :=
  .of_agree rfl (execNakRx_agree (x0 := r) (x1 := seq) (x2 := t) (x3 := s)) rfl
theorem txStreamUnderrun_within (t : Fin 4) (s : State) : Completes (.txStreamUnderrun t) s (Agree (mayChange (.txStreamUnderrun t)) s) :=
  .of_agree rfl (execTxStreamUnderrun_agree (x0 := t) (x1 := s)) rfl
theorem linkSilence_within (die : Fin 2) (wr : Option Nat) (s : State) : Completes (.linkSilence die wr) s (Agree (mayChange (.linkSilence die wr)) s) :=
  .of_agree rfl (execLinkSilence_agree (x0 := die) (x1 := wr) (x2 := s)) rfl
theorem trainingAttempt_within (ok : Bool) (s : State) : Completes (.trainingAttempt ok) s (Agree (mayChange (.trainingAttempt ok)) s) :=
  .of_agree rfl (execTrainingAttempt_agree (x0 := ok) (x1 := s)) rfl
theorem tnlResume_within (d : Drawer) (v : Word) (be : BitVec 4) (s : State) : Completes (.tnlResume d v be) s (Agree (mayChange (.tnlResume d v be)) s) :=
  .of_agree rfl (execTnlResume_agree (x0 := d) (x1 := v) (x2 := be) (x3 := s)) rfl
theorem eccScrubPass_within (l : List EccHit) (s : State) : Completes (.eccScrubPass l) s (Agree (mayChange (.eccScrubPass l)) s) :=
  .of_agree rfl (execEccScrubPass_agree (x0 := l) (x1 := s)) rfl
theorem dbgTraceCfgWrite_within (d : Drawer) (v : Word) (be : BitVec 4) (s : State) : Completes (.dbgTraceCfgWrite d v be) s (Agree (mayChange (.dbgTraceCfgWrite d v be)) s) :=
  .of_agree rfl (execDbgTraceCfgWrite_agree (x0 := d) (x1 := v) (x2 := be) (x3 := s)) rfl
theorem ldFltDeassert_within (t : Fin 3) (s : State) : Completes (.ldFltDeassert t) s (Agree (mayChange (.ldFltDeassert t)) s) :=
  .of_agree rfl (execLdFltDeassert_agree (x0 := t) (x1 := s)) rfl
theorem sfdDetected_within (r : RfRecv) (s : State) : Completes (.sfdDetected r) s (Agree (mayChange (.sfdDetected r)) s) :=
  .of_agree rfl (execSfdDetected_agree (x0 := r) (x1 := s)) rfl
theorem pulseOutputEdge_within (o : Fin 4) (s : State) : Completes (.pulseOutputEdge o) s (Agree (mayChange (.pulseOutputEdge o)) s) :=
  .of_agree rfl (execPulseOutputEdge_agree (x0 := o) (x1 := s)) rfl
theorem pcieLinkChange_within (st : Fin 3) (s : State) : Completes (.pcieLinkChange st) s (Agree (mayChange (.pcieLinkChange st)) s) :=
  .of_agree rfl (execPcieLinkChange_agree (x0 := st) (x1 := s)) rfl
theorem readRetryExit_within (t : Fin 8) (s : State) : Completes (.readRetryExit t) s (Agree (mayChange (.readRetryExit t)) s) :=
  .of_agree rfl (execReadRetryExit_agree (x0 := t) (x1 := s)) rfl
theorem capturingRead_within (d : Drawer) (r : CapReg) (s : State) : Completes (.capturingRead d r) s (Agree (mayChange (.capturingRead d r)) s) :=
  .of_agree rfl (execCapturingRead_agree (x0 := d) (x1 := r) (x2 := s)) rfl
theorem powerOn_within (s : State) : Completes .powerOn s (Agree (mayChange .powerOn) s) :=
  .of_agree rfl (execPowerOn_agree (x0 := s)) rfl
theorem resetNTaken_within (s : State) : Completes .resetNTaken s (Agree (mayChange .resetNTaken) s) :=
  .of_agree rfl (execResetNTaken_agree (x0 := s)) rfl
theorem tcxoLost_within (s : State) : Completes .tcxoLost s (Agree (mayChange .tcxoLost) s) :=
  .of_agree rfl (execTcxoLost_agree (x0 := s)) rfl
theorem pllLostLock_within (s : State) : Completes .pllLostLock s (Agree (mayChange .pllLostLock) s) :=
  .of_agree rfl (execPllLostLock_agree (x0 := s)) rfl
theorem keeperWatchdog_within (s : State) : Completes .keeperWatchdog s (Agree (mayChange .keeperWatchdog) s) :=
  .of_agree rfl (execKeeperWatchdog_agree (x0 := s)) rfl
theorem keeperLockup_within (s : State) : Completes .keeperLockup s (Agree (mayChange .keeperLockup) s) :=
  .of_agree rfl (execKeeperLockup_agree (x0 := s)) rfl
theorem firmwareBringup_within (s : State) : Completes .firmwareBringup s (Agree (mayChange .firmwareBringup) s) :=
  .of_agree rfl (execFirmwareBringup_agree (x0 := s)) rfl
theorem linkDownBoot_within (s : State) : Completes .linkDownBoot s (Agree (mayChange .linkDownBoot) s) :=
  .of_agree rfl (execLinkDownBoot_agree (x0 := s)) rfl
theorem attServiceStart_within (s : State) : Completes .attServiceStart s (Agree (mayChange .attServiceStart) s) :=
  .of_agree rfl (execAttServiceStart_agree (x0 := s)) rfl
theorem scrubDone_within (s : State) : Completes .scrubDone s (Agree (mayChange .scrubDone) s) :=
  .of_agree rfl (execScrubDone_agree (x0 := s)) rfl
theorem grantGiven_within (s : State) : Completes .grantGiven s (Agree (mayChange .grantGiven) s) :=
  .of_agree rfl (execGrantGiven_agree (x0 := s)) rfl
theorem routePass_within (s : State) : Completes .routePass s (Agree (mayChange .routePass) s) :=
  .of_agree rfl (execRoutePass_agree (x0 := s)) rfl
theorem rfSfStart_within (s : State) : Completes .rfSfStart s (Agree (mayChange .rfSfStart) s) :=
  .of_agree rfl (execRfSfStart_agree (x0 := s)) rfl
theorem dcSecondTick_within (s : State) : Completes .dcSecondTick s (Agree (mayChange .dcSecondTick) s) :=
  .of_agree rfl (execDcSecondTick_agree (x0 := s)) rfl
theorem rngFail_within (s : State) : Completes .rngFail s (Agree (mayChange .rngFail) s) :=
  .of_agree rfl (execRngFail_agree (x0 := s)) rfl
theorem journalCommit_within (s : State) : Completes .journalCommit s (Agree (mayChange .journalCommit) s) :=
  .of_agree rfl (execJournalCommit_agree (x0 := s)) rfl
theorem idxRebuilt_within (s : State) : Completes .idxRebuilt s (Agree (mayChange .idxRebuilt) s) :=
  .of_agree rfl (execIdxRebuilt_agree (x0 := s)) rfl
theorem journalFlushed_within (s : State) : Completes .journalFlushed s (Agree (mayChange .journalFlushed) s) :=
  .of_agree rfl (execJournalFlushed_agree (x0 := s)) rfl
theorem todApply_within (s : State) : Completes .todApply s (Agree (mayChange .todApply) s) :=
  .of_agree rfl (execTodApply_agree (x0 := s)) rfl
theorem ppsMiss_within (s : State) : Completes .ppsMiss s (Agree (mayChange .ppsMiss) s) :=
  .of_agree rfl (execPpsMiss_agree (x0 := s)) rfl
theorem hostSampleTimeout_within (s : State) : Completes .hostSampleTimeout s (Agree (mayChange .hostSampleTimeout) s) :=
  .of_agree rfl (execHostSampleTimeout_agree (x0 := s)) rfl
theorem holdoverReady_within (s : State) : Completes .holdoverReady s (Agree (mayChange .holdoverReady) s) :=
  .of_agree rfl (execHoldoverReady_agree (x0 := s)) rfl
theorem outputAlign_within (s : State) : Completes .outputAlign s (Agree (mayChange .outputAlign) s) :=
  .of_agree rfl (execOutputAlign_agree (x0 := s)) rfl
theorem ringBypassOpen_within (s : State) : Completes .ringBypassOpen s (Agree (mayChange .ringBypassOpen) s) :=
  .of_agree rfl (execRingBypassOpen_agree (x0 := s)) rfl
theorem ringInsert_within (s : State) : Completes .ringInsert s (Agree (mayChange .ringInsert) s) :=
  .of_agree rfl (execRingInsert_agree (x0 := s)) rfl
theorem ringReturnTimeout_within (s : State) : Completes .ringReturnTimeout s (Agree (mayChange .ringReturnTimeout) s) :=
  .of_agree rfl (execRingReturnTimeout_agree (x0 := s)) rfl
theorem ringStuck_within (s : State) : Completes .ringStuck s (Agree (mayChange .ringStuck) s) :=
  .of_agree rfl (execRingStuck_agree (x0 := s)) rfl
theorem ringSilent_within (s : State) : Completes .ringSilent s (Agree (mayChange .ringSilent) s) :=
  .of_agree rfl (execRingSilent_agree (x0 := s)) rfl
theorem vinMonFall_within (s : State) : Completes .vinMonFall s (Agree (mayChange .vinMonFall) s) :=
  .of_agree rfl (execVinMonFall_agree (x0 := s)) rfl
theorem vinMonRise_within (s : State) : Completes .vinMonRise s (Agree (mayChange .vinMonRise) s) :=
  .of_agree rfl (execVinMonRise_agree (x0 := s)) rfl
theorem linkLossLastGasp_within (s : State) : Completes .linkLossLastGasp s (Agree (mayChange .linkLossLastGasp) s) :=
  .of_agree rfl (execLinkLossLastGasp_agree (x0 := s)) rfl
theorem ref10mEdgeReturn_within (s : State) : Completes .ref10mEdgeReturn s (Agree (mayChange .ref10mEdgeReturn) s) :=
  .of_agree rfl (execRef10mEdgeReturn_agree (x0 := s)) rfl

end Sys2Proof.Machine
end

