-- ==== Sys2Proof/Laws/All.lean ====
section
/-!
SUPPORT. Every lemma of the folder.
-/
end

