-- ==== Sys2Proof/Machine/Pins.lean ====
section
/-!
DEFINITION. Levels of the output pins as functions of the state (R38, R41, R45, R48, R52, R58, R59, R133, R408).  The
lead and tail times of R307 and R420 and the character on a wire are not the model's: a pin is told for the state a command
leaves.
-/

namespace Sys2Proof.Machine

/-- What an output pin shows (R59).  `active` stands for a pin that carries its function's own traffic, or closed
and open for the ring bypass. -/
inductive Level where
  | hiZ | low | high | mid | idle | active | closed
deriving DecidableEq, Repr

/-- The output pins of R59, each with its index where it has one. -/
inductive Pin where
  | txdac (t : Nat) | ldEn (t : Nat) | paEn | lnaEn | trsw | bypass | pulse (n : Nat)
  | pcieTx | clkreq | qstIo (p : Nat) | irq (k : Nat) | qfc (d : Nat)
  | uartTxd (n : Nat) | uartDe (n : Nat)
  | bqCs | bqSck | bqIo
  | nfCe | nfWe | nfWp | nfAle | nfCle | nfReT | nfReC | nfDq
deriving DecidableEq, Repr

/-- The supplies are not up (R61): before the power-on source ends. -/
def unpowered (s : State) : Bool := s.rst.asserted.contains .por

/-- No emission can leave the line die: the link does not stream, or an island of the path is held (R59, R463,
R466, R469). -/
def airCut (s : State) : Bool := airHeld s || (s.get F.tnlStatusState != 1 && s.get F.tnlStatusState != 4)

/-- `LD_EN_x` is high (R38, R59, R461). -/
def ldEn (s : State) (t : Nat) : Bool :=
  s.on (F.lphyTxcfgEnable t) && !s.on (F.lphyTxstatMuted t) && !(xmit s t).under && !s.on (F.lphyTxstatHoldOff t) &&
    !airCut s

/-- The pair `TXDAC_x` is held at mid-scale (R38, R59): `LD_EN_x` is low. -/
def dacMid (s : State) (t : Nat) : Bool := !ldEn s t

/-- The radio is muted (R41, R59). -/
def radioMuted (s : State) : Bool := s.on F.radioStatusMuted || airCut s

/-- `TRSW` is high: the transmit path is selected (R41). -/
def trswHigh (s : State) : Bool := s.on F.radioStatusTxBusy && !radioMuted s

/-- `PA_EN` is high. -/
def paEnHigh (s : State) : Bool := trswHigh s && s.on F.radioFemPaPresent

/-- `LNA_EN` is high: a window is open and the receive path selected. -/
def lnaEnHigh (s : State) : Bool :=
  s.on F.radioStatusRxOpen && s.on F.radioFemLnaPresent && !s.on F.radioStatusTxBusy && !radioMuted s

/-- The ring bypass is closed (R48, R59). -/
def bypassClosed (s : State) : Bool := s.on F.ringStatusBypassClosed

/-- The `RING_OUT` driver and the termination at `RING_IN` are on: only while the bypass is open (R48, R50). -/
def ringDriven (s : State) : Bool := !bypassClosed s

/-- `UART_DE_n` is high (R420). -/
def uartDeHigh (s : State) (n : Nat) : Bool := s.on (F.uartStatusDe n)

/-- `PPS_OUT`, `SFS_OUT`, `PER_OUT_0` and `PER_OUT_1`, 0 to 3, are high (R45, R408). -/
def pulseHigh (s : State) (n : Nat) : Bool := outPin s n

/-- The NAND is deselected and write-protected: the storage island is held, or the release has not reached it
(R59, R72). -/
def nandProtected (s : State) : Bool := islandHeld s 2 || decide (s.rst.seq < 9)

/-- The ROM reads the boot flash (R87). -/
def flashRead (s : State) : Bool := s.rst.romTry == 1 || s.rst.romTry == 2

def lev (b : Bool) : Level := if b then .high else .low

/-- Levels with the supplies up. -/
def poweredLevel (s : State) : Pin → Level
  | .txdac t => if dacMid s t then .mid else .active
  | .ldEn t => lev (ldEn s t)
  | .paEn => lev (paEnHigh s)
  | .lnaEn => lev (lnaEnHigh s)
  | .trsw => lev (trswHigh s)
  | .bypass => if bypassClosed s then .closed else .active
  | .pulse n => lev (pulseHigh s n)
  | .pcieTx => if s.rst.seq < 6 ∨ s.pwr.pcie ≠ 1 then .idle else .active
  | .clkreq => if clkreqLow s then .low else .hiZ
  | .qstIo p =>
    if unreleased s ∨ drawerInReset s (2 + p) ∨ isPcie s (2 + p) ∨ ¬ bitAt s.pwr.csLow p then .hiZ else .active
  | .irq k => lev (irqPin s k)
  | .qfc d => if qfcLow s d then .low else .hiZ
  | .uartTxd n => if (port s n).cur.isSome then .active else .high
  | .uartDe n => lev (uartDeHigh s n)
  | .bqCs => if flashRead s then .low else .high
  | .bqSck => if flashRead s then .active else .low
  | .bqIo => if flashRead s then .active else .hiZ
  | .nfCe | .nfWe | .nfReT => if nandProtected s then .high else .active
  | .nfWp => lev (!nandProtected s)
  | .nfAle | .nfCle | .nfReC => if nandProtected s then .low else .active
  | .nfDq => if nandProtected s then .hiZ else .active

/-- What a pin shows (R59): unpowered, every output is at high impedance and the ring bypass closed; under `EXTEST`
the boundary register, whose content is not the model's, drives the pins (R58). -/
def pinLevel (s : State) (p : Pin) : Level :=
  if unpowered s then (if p = .bypass then .closed else .hiZ)
  else if s.rst.extest then .active
  else poweredLevel s p

end Sys2Proof.Machine
end

