-- ==== Sys2Proof/WellFormed.lean ====
section
/-!
DEFINITION. Which commands can come from outside: operands within the widths and ranges that the spec
gives what they stand for. `exec` is total on ill-formed commands too, and no statement rests on this.
-/

namespace Sys2Proof

/-- A boot image's header has 256 bytes (R88). -/
def BootImg.wf (i : BootImg) : Bool := decide (i.header.length = 256)

/-- A detection: one of three families, a spreading factor of 7 to 12 for Sweep alone, its preamble not later than
its declaration (R238, R257). -/
def Det.wf (d : Det) : Bool :=
  decide (d.fam < 3) && (d.fam != 1 || (decide (7 ≤ d.sf) && decide (d.sf ≤ 12))) &&
    decide (d.start.toNat ≤ d.seen.toNat)

/-- A line header's fields fit their bits (R210). -/
def LineHdr.wf (h : LineHdr) : Bool :=
  decide (h.version < 4) && decide (h.mode < 32) && decide (h.length < 4096) && decide (h.tmapId < 16) &&
    decide (h.phaseCode < 4)

/-- Addresses of two bytes and an EUI-64 (R280, R287). -/
def RxAddr.wf (a : RxAddr) : Bool :=
  decide (a.dest < 2 ^ 16) && decide (a.far < 2 ^ 16) && decide (a.eui < 2 ^ 64)

/-- A received line frame: fields within their bytes, and one SNR and one frequency offset for each of the
six chains (R226, R251, R280). -/
def LineRx.wf (r : LineRx) : Bool :=
  decide (r.dest < 2 ^ 16) && decide (r.src < 2 ^ 16) && decide (r.far < 2 ^ 16) && decide (r.fc < 2 ^ 32) &&
    decide (r.payload.length ≤ 2048) && decide (r.mic.length ≤ 16) && decide (r.snr.length = 6) && decide (r.freqOfs.length = 6)

/-- A compatibility frame: at most one form of destination address (R235). -/
def CompatRx.wf (r : CompatRx) : Bool :=
  decide (r.pan < 2 ^ 16) && decide (r.short.getD 0 < 2 ^ 16) && decide (r.eui.getD 0 < 2 ^ 64) &&
    decide ((r.src.getD 0) < 2 ^ 16) && decide (r.mode < 8) && decide (r.snr.length = 6) &&
    decide (r.freqOfs.length = 6) && !(r.short.isSome && r.eui.isSome)

/-- A radio frame: fields within their bits, one of three modes, at most 2,047 bytes (R309 to R311). -/
def RfRx.wf (r : RfRx) : Bool :=
  decide (1 ≤ r.opmode) && decide (r.opmode ≤ 3) && decide (r.length < 2048) && decide (r.ftype < 16) &&
    decide (r.secLevel < 8) && decide (r.seq < 256) && decide (r.dest < 2 ^ 16) && decide (r.src < 2 ^ 16) &&
    decide (r.evt < 2 ^ 16) && decide (r.fc < 2 ^ 32) && decide (r.refAt.toNat ≤ r.endAt.toNat) &&
    decide (r.fctlTop < 64) && decide (r.mic.length ≤ 16)

/-- A ring frame: a sender of one byte, at most 64 data bytes (R431). -/
def RingFrame.wf (f : RingFrame) : Bool :=
  decide (f.src < 256) && decide (f.mark < 256) && decide (f.pid < 256) && decide (f.data.length ≤ 64)

/-- A flit: samples only in a stream flit, their index within its width: 13 bits of an ADC stream, 8 of the radio's
(R458, R459). -/
def Flit.wf (f : Flit) : Bool :=
  match f.stream with
  | none => true
  | some (st, i) => decide (f.cls.val = 5) && decide (i < if st.val < 6 then 2 ^ 13 else 2 ^ 8)

/-- A place of an SRAM word within its structure (R472, R473). -/
def EccLoc.wf : EccLoc → Bool
  | .bulk _ off => decide (off < 2 ^ 26)
  | .ctx _ w => decide (w < 512)
  | .imem _ i => decide (i < 8192)
  | .dmem _ a => decide (a < 16384)
  | .queue .. | .queueCfg _ | .evtRoute _ | .keySlot _ | .keeper | .other => true

/-- A granule number of a storage job is below its 2,048 granules (R387). -/
def NandRead.wf (r : NandRead) : Bool := decide (r.uncorr.getD 0 < 2048) && decide (r.fault.getD 0 < 2048)

/-- The operands of a command are within the ranges the spec gives them. -/
def Instr.wf : Instr → Bool
  | .keeperRomBoot f _ => (f.prim.map BootImg.wf).getD true && (f.sec.map BootImg.wf).getD true
  | .flashTimeout q => (q.map BootImg.wf).getD true
  | .qspiRead _ _ n => decide (0 < n)
  | .qspiWrite _ _ l => !l.isEmpty
  | .registerWrite _ _ off _ _ => decide (off < 2 ^ 26) && decide (off % 4 = 0)
  | .ownershipWrite _ off _ _ => decide (off < 2 ^ 23) && decide (off % 4 = 0)
  | .queuePop _ _ i j => decide (i.val ≤ j.val)
  | .emissionEnd _ clips _ => decide (clips.length ≤ 3)
  | .preambleDetection _ d => d.wf
  | .headerCheck _ _ _ h l a =>
    (h.map LineHdr.wf).getD true && decide (l.length ≤ 6) &&
      l.all (fun x => (x.map LineHdr.wf).getD true) && decide (a.length ≤ 6) &&
      a.all (fun x => (x.map RxAddr.wf).getD true)
  | .agcIntervalEnd _ _ l => decide (l.length = 256)
  | .frameEnd _ k rx => rx.wf && decide (k.val ≠ 2)
  | .compatFrameRx _ rx => rx.wf
  | .ackRx _ _ r advice _ _ _ => decide (r.seq < 256) && decide (advice < 8) && decide (r.ftype < 16)
  | .mainsCrossing _ _ _ per _ => decide (0 < per)
  | .rfFrameRx r => r.wf
  | .sfdDetected r => decide (1 ≤ r.opmode) && decide (r.opmode ≤ 3)
  | .connEventAdvance c | .supervisionExpire c | .contextWriteback c => decide (c < 16384)
  | .contextFillDone c _ r => decide (c < 16384) && r.wf
  | .read _ r => r.wf
  | .write _ r progs => r.wf && decide progs.Nodup
  | .storageMount p => decide (p.rawBytes < 2 ^ 48)
  | .uartCharRx _ _ _ t u => decide (t.toNat ≤ u.toNat)
  | .uartBreakRx _ n _ => decide (0 < n)
  | .ringFrameRx f _ => f.wf
  | .flitRx _ f _ => f.wf
  | .linkSilence _ w => decide (w.getD 0 < 2 ^ 23) && decide (w.getD 0 % 4 = 0)
  | .eccScrubPass l => l.all fun h => h.loc.wf
  | .brownOut .. | .islandClockFailure .. | .functionLevelReset .. | .swDeviceReset .. | .swDrawerReset .. | .dbgReqGo .. | .resetRelease ..
  | .levelDRelease .. | .optStageWrite .. | .prepare .. | .commit .. | .commitWriteDone .. | .discard ..
  | .bootPush .. | .attRequest .. | .attDone .. | .qspiReadTimeout .. | .qspiPostedWriteApply .. | .qspiStatus ..
  | .drawerResetRelease .. | .queueEnable .. | .queueDisable .. | .doorbell .. | .unitTake ..
  | .eventTimerExpire .. | .evtRouteWrite .. | .evtPendClear .. | .msixUnmask .. | .jigLoad ..
  | .jigLoadComplete .. | .start .. | .stop .. | .resume .. | .addR .. | .subR .. | .andR .. | .orR .. | .xorR ..
  | .shlR .. | .shrR .. | .sraR .. | .mulR .. | .mulhR .. | .cmpR .. | .addi .. | .subi .. | .andi .. | .ori ..
  | .xori .. | .shli .. | .shri .. | .srai .. | .cmpi .. | .movi .. | .pfx .. | .ld .. | .ldh .. | .ldb .. | .st ..
  | .sth .. | .stb .. | .tld .. | .tst .. | .br .. | .call .. | .brr .. | .callr .. | .ret .. | .atTime ..
  | .after .. | .afteri .. | .zxw .. | .tget .. | .tadd .. | .tsub .. | .tpack .. | .tpart .. | .timeWaitEnd ..
  | .txf .. | .rxw .. | .cancel .. | .rtx .. | .rrx .. | .ldn .. | .stn .. | .pref .. | .pin .. | .unpin ..
  | .cyp .. | .cypJobEnd .. | .enq .. | .deq .. | .evt .. | .sig .. | .wsig .. | .wakeEvent .. | .wsigDeadline ..
  | .halt .. | .trap .. | .yield .. | .pageTimeout .. | .jigLockup .. | .jigWatchdog .. | .actionStart ..
  | .rxWindowClose .. | .agcAutoWrite .. | .lphyApply .. | .bandApplied .. | .firSwap ..
  | .compatEnable .. | .sweepEnable .. | .channelStep .. | .compatCsmaAccess .. | .ackDeadline .. | .ackWaitEnd ..
  | .retxPlace .. | .ldFaultAssert .. | .txAbort .. | .holdOffEnd .. | .mainsCrossingMissed .. | .zxEdgeRejected ..
  | .mainsHoldTimeout .. | .nmapRestart .. | .dlvRingEnable .. | .radioEnable .. | .rfRetxPlace ..
  | .dcCheckpoint .. | .aes .. | .hash .. | .sign .. | .verify .. | .ecdh .. | .random .. | .keyImport ..
  | .keyErase .. | .keyPromote .. | .cipherJobComplete .. | .keyLimitWrite .. | .rebuild .. | .ctxRead ..
  | .ctxWrite .. | .ctxInit .. | .ctxFree .. | .ctxShort .. | .pagerJobComplete .. | .trim .. | .flush ..
  | .nsCreate .. | .nsDelete .. | .storageJobComplete .. | .nandOpComplete .. | .nsErased .. | .todSet ..
  | .ppsPulse .. | .tenEdgeLost .. | .tenQualify .. | .hostSample .. | .wtrExpire .. | .slewDone ..
  | .steerWrite .. | .plmbAlign .. | .timeMessage .. | .uartEnable .. | .uartDisable .. | .uartLineStuck ..
  | .uartRxIdle .. | .uartRxdataPop .. | .uartTxdata .. | .uartCharTxEnd .. | .uartDeTailEnd ..
  | .uartStartEdgeWake .. | .txChars .. | .txBreak .. | .txFrame .. | .setResponse .. | .serialJobComplete ..
  | .frameTimeLimit .. | .linHeaderRx .. | .ringEnable .. | .ringDisable .. | .chkFeed8 .. | .chkFeed16 ..
  | .chkFeed32 .. | .chkResult .. | .chkExpected .. | .restart .. | .chkCfgWrite .. | .lastGasp .. | .exit ..
  | .standby .. | .wake .. | .pwrShareWrite .. | .pwrLtrWrite .. | .islandWake .. | .nakRx ..
  | .txStreamUnderrun .. | .trainingAttempt .. | .tnlResume .. | .dbgTraceCfgWrite .. | .ldFltDeassert ..
  | .pulseOutputEdge .. | .pcieLinkChange .. | .readRetryExit .. | .capturingRead .. | .powerOn | .resetNTaken
  | .tcxoLost | .pllLostLock | .keeperWatchdog | .keeperLockup | .firmwareBringup | .linkDownBoot
  | .attServiceStart | .scrubDone | .grantGiven | .routePass | .rfSfStart | .dcSecondTick | .rngFail
  | .journalCommit | .idxRebuilt | .journalFlushed | .todApply | .ppsMiss | .hostSampleTimeout | .holdoverReady
  | .outputAlign | .ringBypassOpen | .ringInsert | .ringReturnTimeout | .ringStuck | .ringSilent | .vinMonFall
  | .vinMonRise | .linkLossLastGasp | .ref10mEdgeReturn => true

end Sys2Proof
end

