-- ==== Sys2Proof/Tests/Slice0.lean ====
section
/-!
SUPPORT. The model's own tests: for every statement with hypotheses a named theorem with concrete states and operands
that meet them, boundary values where clauses meet (`test_meets_…`); every check of well-formedness refusing a term;
words, frame blocks and check values written out from the spec's tables and worked examples.
-/

namespace Sys2Proof.Tests
open Sys2Proof Sys2Proof.Machine
set_option maxRecDepth 8000
set_option Elab.async false

/-- A device that has come up: every drawer enabled, the link up, `READY`. -/
def ready : State :=
  (({ State.reset with rst := { State.reset.rst with level := .none, asserted := [], latched := [], seq := 10 } }.put
    F.optActive0DrawerEn 15).put F.bootStatusStage 4).put F.tnlStatusState 1

/-- A thread that runs, its windows 8 instructions and 64 bytes. -/
def runner : Thread := { Thread.init with state := .run, ilen := 8, dlen := 64 }

/-- Thread 0 as `x`, the word of `i` in front of it. -/
def holding (x : Thread) (i : GInstr) : State :=
  { ready with jig := { ready.jig with threads := [(0, x)], imem := [(x.pc, gEncode i)] } }

/-- A state with fields set one after another. -/
def sets (s : State) (l : List (Fld × Nat)) : State := l.foldl (fun s e => s.put e.1 e.2) s

/-! ### Hypotheses of the statements are met -/

/-- Of EveryStepKeepsTrustInv and of ManufacturingRowConstantAndBootCountRises. -/
theorem test_meets_TrustInv_step :
    let s : State := { ready with pending := [.discard 0 3#32], att := ⟨[⟨2, List.replicate 8 0#32, 2 ^ 26 - 640⟩], none⟩ }
    TrustInv s ∧ ∃ t, step s = .next t :=
  ⟨by unfold TrustInv; decide +kernel, _, rfl⟩

theorem test_meets_LevelBSourceResetsAllButDomainA :
    unreleased ready = false ∧ ready.on F.plmbStatusTcxoFallback = false ∧ ready.get F.plmbStatusState ≠ 2 ∧
    takesWrite ready 0 R.rstCmd = true ∧ ready.rst.saved = none ∧
    (let s := sets ready [(F.optActive0DebugLock, 0), (F.optActive0DbgReach, 2)]
     unreleased s = false ∧ s.get F.optActive0DebugLock = 0 ∧ s.get F.optActive0DbgReach = 2) ∧
    (0xC1A70010#32).toNat / 2 ^ 16 = 0xC1A7 ∧ (0xC1A70010#32).toNat / 16 % 16 = 1 ∧ (0x10#32).getLsbD 4 = true := by
  decide +kernel

theorem test_meets_LevelASourceResetsEverything :
    inLevelA ready = false ∧ ready.rst.asserted.contains .por = false ∧
    State.reset.rst.asserted.contains .por = true := by decide +kernel

theorem test_meets_LevelDSourceHoldsItsIsland :
    let faulted : State := { ready with jig := { ready.jig with threads := [(4, { runner with state := .fault })] } }
    let ran : State := { ready with jig := { ready.jig with threads := [(31, runner)] } }.put (F.jtWdogWdogMs 31) 1
    let down : State := { ready with rst := { ready.rst with dHeld := [(15, .islandClk)] } }
    eligibleD 15 = true ∧ eligibleD 2 = true ∧ inLevelA ready = false ∧ unreleased State.reset = true ∧
    (unreleased faulted = false ∧ coreHeld faulted 1 = false ∧ coreNaps faulted 1 = false ∧ faulted.rst.dHeld = [] ∧
      loadedOn faulted 1 = [4] ∧ (faulted.thr 4).state = .fault) ∧
    (unreleased ran = false ∧ coreHeld ran 7 = false ∧ coreNaps ran 7 = false ∧ ran.rst.dHeld = [] ∧
      ran.get (F.jtWdogWdogMs 31) ≠ 0 ∧ (ran.thr 31).state = .run) ∧
    unreleased down = false ∧ (down.rst.dHeld.any fun h => h.1 == 15) = true := by decide +kernel

theorem test_meets_LevelCResetClearsTheDrawer :
    let r := ready.put F.rstStatusDrwInReset 8
    unreleased ready = false ∧ isPcie ready 3 = true ∧ drawerEnabled ready 3 = true ∧
    takesWrite ready 3 R.rstCmd = true ∧ (0xC1A70023#32).toNat / 2 ^ 16 = 0xC1A7 ∧
    (0xC1A70023#32).toNat / 16 % 16 = 2 ∧ (0xC1A70023#32).toNat % 16 = 3 ∧
    drawerInReset r 3 = true ∧ unitBusyFor r 3 = false ∧ r.on F.ownStatusBusy = false ∧ perstHolds r 3 true = false ∧
    perstHolds { r with pwr := { r.pwr with perstLow := true } } 3 false = true ∧
    (0xC1A60023#32).toNat / 2 ^ 16 ≠ 0xC1A7 ∧ (0xC1A70003#32).toNat / 16 % 16 = 0 ∧
    2 < (0xC1A70033#32).toNat / 16 % 16 ∧ (0xC1A70022#32).toNat % 16 ≠ 3 := by decide +kernel

/-- An image that passes every check, and one with a wrong magic number. -/
def goodImage : BootImg :=
  ⟨[0x4F#8, 0x58#8, 0x4B#8, 0x46#8, 1#8, 0#8, 0#8, 0#8, 0#8, 0#8, 0x20#8], 0#384, 0#384, false⟩
def badImage : BootImg := { goodImage with header := [0x4E#8] }

theorem test_meets_BootTakesTheFirstImageThatPasses :
    let rom : State := { ready with rst := { ready.rst with seq := 7 } }
    let push := rom.put F.optActive0BootSrc 1
    (let s : State := { State.reset with rst := { State.reset.rst with level := .b, asserted := [.pin] } }
     let l (x : List Src) := s.rst.asserted.filter fun y => y == .por || !x.contains y
     unreleased s = true ∧ s.rst.level = .b ∧ l [.pin] = [] ∧ l [] ≠ [] ∧ (s.rst.dHeld.any fun h => h.1 == 3) = false ∧
      ({ s with rst := { s.rst with dHeld := [(3, .islandClk)] } }.rst.dHeld.any fun h => h.1 == 3) = true) ∧
    (rom.rst.seq = 7 ∧ rom.rst.romTry = 0 ∧ bootCount rom.opt < 2 ^ 48 ∧ rom.on F.optActive0BootSrc = false) ∧
    (push.rst.seq = 7 ∧ push.rst.romTry = 0 ∧ push.on F.optActive0BootSrc = true) ∧
    imageError rom goodImage = 0 ∧ imageError rom badImage ≠ 0 ∧
    (ready.put F.bootStatusStage 3).get F.bootStatusStage = 3 ∧
    (let s : State := { ready with rst := { ready.rst with seq := 4 } }.put F.tnlStatusState 0
     s.rst.seq = 4 ∧ s.get F.tnlStatusState = 0) ∧
    ([2, 5, 4].all fun n => takesWrite (ready.put F.bootStatusStage n) 0 R.bootPush) = true ∧
    (let s : State := { ready with rst := { ready.rst with romTry := 3 } }
     s.rst.romTry = 3 ∧ imageError s (pushedImage s false) = 1) := by decide +kernel

theorem test_meets_OptionStoreCommitsCopyByCopy :
    let staged := ready.put F.optStatusState 1
    let writing := ready.put F.optStatusState 2
    takesWrite ready 0 R.optStage0 = true ∧ takesWrite ready 0 (R.optStage0 + 100) = true ∧ optOpen ready = true ∧
    optOpen writing = false ∧ takesWrite writing 0 R.optStage0 = true ∧ takesWrite ready 0 R.optCmd = true ∧
    prepareReason ready (stagedWords ready) ≠ 0 ∧
    (let s := foldUpto 26 (fun n s => s.wr (R.optStage0 + 4 * n) (optShipped.words.getD n 0#32)) ready
     prepareReason s (stagedWords s) = 0) ∧
    staged.get F.optStatusState = 1 ∧ staged.get F.optStatusStageCrc = 0 ∧
    writing.get F.optStatusState = 2 ∧ writing.rst.commitFirst < 2 ∧ ready.get F.optStatusState = 0 := by
  decide +kernel

theorem test_meets_AttestationServesRequestsInOrder :
    let asks (n : Nat) := ready.put (fldOf 1 F.attDestOffset) n
    let held : State := { ready with att := ⟨[⟨1, [], 0⟩], none⟩ }
    let worn : State := { ready with opt := { ready.opt with slot0 := (true, 2 ^ 48 - 1) } }
    takesWrite ready 1 R.attCmd = true ∧
    (64 * (asks (2 ^ 20 - 10)).get (fldOf 1 F.attDestOffset) + 592 ≤ 2 ^ 26) ∧
    (2 ^ 26 < 64 * (asks (2 ^ 20 - 9)).get (fldOf 1 F.attDestOffset) + 592) ∧
    (held.att.queue.any fun r => r.drawer == 1) = true ∧ (ready.att.queue.any fun r => r.drawer == 1) = false ∧
    bootCount worn.opt = 2 ^ 48 - 1 ∧ bootCount ready.opt ≠ 2 ^ 48 - 1 ∧
    held.att.report = none ∧ held.get F.bootStatusStage ∈ [2, 4, 5] := by decide +kernel

/-- The thread's next instruction is `i`. -/
def fetches (x : Thread) (i : GInstr) : Bool := fetch (holding x i) 0 == .word i

theorem test_meets_AluForms :
    ([AluOp.add, .sub, .and, .or, .xor, .shl, .shr, .sra, .mul, .mulh].all fun o =>
      fetches runner (.alu o 1#4 2#4 3#4)) = true ∧ fetches runner (.alu .cmp 0#4 2#4 3#4) = true ∧
    ([AluOp.add, .sub, .and, .or, .xor].all fun o => fetches runner (.alui o 15#4 2#4 0xFFFF#16)) = true ∧
    ([AluOp.shl, .shr, .sra].all fun o => fetches runner (.alui o 0#4 2#4 31#16)) = true ∧
    fetches runner (.alui .cmp 0#4 2#4 0xFFFF#16) = true ∧
    fetches { runner with pfx := some 0xFFFF } (.movi 1#4 0x8000#16) = true ∧ fetches runner (.pfx 0xFFFF#16) = true := by
  decide +kernel

/-- Of LoadsReadBytesOrFault: the last bytes of the window, the first past it, a misaligned one, a bad word. -/
theorem test_meets_LoadsReadBytesOrFault :
    (fetches runner (.load 2#2 1#4 0#4 60#16) && fetches runner (.load 1#2 1#4 0#4 62#16) &&
      fetches runner (.load 0#2 1#4 0#4 63#16) && fetches runner (.tld 3#2 0#4 56#16)) = true ∧
    (∀ i, i < 4 → inDwin runner (60 + i) = true ∨ inStat 0 (60 + i) = true) ∧
    (∀ i, i < 8 → inDwin runner (56 + i) = true ∨ inStat 0 (56 + i) = true) ∧
    (∀ i, i < 4 → inDwin runner (statBase 0 + 60 + i) = true ∨ inStat 0 (statBase 0 + 60 + i) = true) ∧
    inStat 0 60 = false ∧ dmemBad ready 0 60 4 = false ∧ 60 % 4 = 0 ∧ 59 % 4 ≠ 0 ∧
    ¬ (∀ i, i < 4 → inDwin runner (64 + i) = true ∨ inStat 0 (64 + i) = true) ∧
    (let s := holding runner (.load 2#2 1#4 0#4 60#16)
     dmemBad { s with jig := { s.jig with dmemPoison := [(3, true)] } } 0 60 4 = true) := by decide +kernel

theorem test_meets_StoresWriteTheirBytesOrFault :
    (fetches runner (.store 2#2 1#4 0#4 60#16) && fetches runner (.store 1#2 1#4 0#4 62#16) &&
      fetches runner (.store 0#2 1#4 0#4 63#16) && fetches runner (.tst 3#2 0#4 56#16)) = true ∧
    (∀ j, j < 4 → inDwin runner (60 + j) = true) ∧ (∀ j, j < 8 → inDwin runner (56 + j) = true) ∧
    (∀ j, j < 4 → inDwin runner (58 + j) = true) ∧ 58 % 4 ≠ 0 ∧ ¬ ∀ j, j < 4 → inDwin runner (61 + j) = true := by
  decide +kernel

theorem test_meets_BranchesFollowConditionsAndStack :
    let deep := { runner with stack := List.replicate 8 1 }
    (fetches runner (.br 0#4 8191#13) && fetches runner (.brr 1#4 2#4) && fetches runner (.call 7#13) &&
      fetches runner (.callr 2#4) && fetches deep (.call 7#13) && fetches deep (.callr 2#4) && fetches deep .ret &&
      fetches runner .ret) = true ∧
    deep.stack.length = 8 ∧ { runner with stack := List.replicate 7 1 }.stack.length < 8 ∧ runner.stack = [] ∧
    ((gReg (setG runner 2#4 7#32) 2#4).toNat % 8192 < runner.ibase + runner.ilen) ∧
    ¬ ((gReg (setG runner 2#4 8#32) 2#4).toNat % 8192 < runner.ibase + runner.ilen) ∧
    [true, false].getD (0#4).toNat false = true ∧ runner.flags.z = false := by decide +kernel

theorem test_meets_TimeWaitsEndAtTheirTarget :
    let due := setT runner 1#2 1#64
    let waits : Thread := { runner with state := .waitTime, wait := .time 9#64 }
    let s : State := { ready with jig := { ready.jig with threads := [(0, waits)] } }
    (fetches due (.atTime 1#2) && fetches runner (.atTime 1#2) && fetches runner (.after 1#4) &&
      fetches runner (.afteri 1#16) && fetches { runner with pfx := some 1 } (.afteri 0#16)) = true ∧
    ready.tbCopy.toNat < (tReg due 1#2).toNat ∧ (tReg runner 1#2).toNat ≤ ready.tbCopy.toNat ∧
    (s.thr 0).state = .waitTime ∧ (s.thr 0).wait = .time 9#64 ∧ coreNaps s 0 = false := by decide +kernel

theorem test_meets_TimeArithmeticRoundsAndSaturates :
    (fetches runner (.tget 3#2) && fetches runner (.tpack 1#2 15#4 0#4) && fetches runner (.tpart 1#4 2#2 true) &&
      fetches runner (.tadd 1#2 2#2 3#4 0#2) && fetches runner (.tsub 1#4 2#2 3#2 3#2)) = true := by decide +kernel

theorem test_meets_GreuneWords :
    gWf (.alu .cmp 0#4 15#4 15#4) = true ∧ gWf (.deq 63#6 false 0#4 0#4 true true 15#4) = true ∧
    gDecode 0b011000_0001_0000_00000_0000000010000#32 = some (.br 1#4 16#13) ∧ gWf (.br 1#4 16#13) = true := by decide +kernel

theorem test_meets_FetchOutsideWindowOrUndecodableFaults :
    let past := holding { runner with pc := 8 } .halt
    let s := holding { runner with pc := 7 } .halt
    let bad : State := { s with jig := { s.jig with imemPoison := [(1, true)] } }
    let odd : State := { s with jig := { s.jig with imem := [(7, 0xFFFFFFFF#32)] } }
    issuer (.yield 0) = some 0 ∧ (ready.thr 0).state ≠ .run ∧ (past.thr 0).state = .run ∧ coreHeld past 0 = false ∧
    coreNaps past 0 = false ∧ ¬ (past.thr 0).pc < 8 ∧ (s.thr 0).pc < 8 ∧ imemBad bad 0 7 = true ∧
    imemBad odd 0 7 = false ∧ gDecode (imemWord odd 0 7) = none := by decide +kernel

theorem test_meets_ThreadCommandsFollowTheirTable :
    ([TState.idle, .run, .halt, .fault, .waitTime].all fun st => takesWrite (holding { runner with state := st } .yield) 0 (R.jtCtl 0)) = true ∧
    0 < runner.ilen ∧ (5#32).toNat % 4 = 1 ∧ (6#32).toNat % 4 = 2 ∧ (7#32).toNat % 4 = 3 := by decide +kernel

theorem test_meets_SystemInstructionsDoAsListed :
    (fetches runner .halt && fetches runner (.trap 0xFFFF#16) && fetches runner .yield && fetches runner (.evt 2#2) &&
      fetches runner (.sig 1#4 7#3)) = true ∧
    (let s := holding runner .yield
     ownsThread s 0 0 = true ∧ ownsThread s 0 31 = true ∧ ownsThread (s.wr (R.ownJig 3) 0#32) 0 31 = false ∧
     ownsEvt s 0 2 = true ∧ ownsEvt (s.put (F.evtOwnAssigned 112) 0) 0 0 = false) := by decide +kernel

theorem test_meets_WaitForSignalEndsByBitOrDeadline :
    let waits : Thread := { runner with state := .waitEvent, wait := .sig 1 (some 9#64), wakeBits := 1 }
    let s : State := { ready with jig := { ready.jig with threads := [(0, waits)] } }
    fetches runner (.wsig 1#4 true 2#2) = true ∧ (tReg runner 2#2).toNat ≤ ready.tbCopy.toNat ∧
    fetches (setG { runner with wakeBits := 2 ^ 15 } 1#4 0x8000#32) (.wsig 1#4 false 0#2) = true ∧
    2 ^ 15 &&& 0x8000 ≠ 0 ∧ runner.wakeBits &&& 0 = 0 ∧ coreNaps s 0 = false ∧
    (s.thr 0).wait = .sig 1 (some 9#64) ∧ waits.wakeBits &&& 1 ≠ 0 ∧ waits.wakeBits &&& 2 = 0 := by decide +kernel

theorem test_meets_UnoccupiedOffsetsReadZero :
    findRow 0x1B0000 = none ∧ findRow 0x7FFFFC = none ∧ findRow 0xFFC = none ∧ (0x1B0000 : Nat) % 4 = 0 ∧
    0x1C ≤ 0x3F1C % 256 ∧ 0x3F1C % 256 < 0x20 ∧ ¬ (0x8000 ≤ 0x8400 ∧ 0x8400 < 0x8400) ∧
    (let s : State := { ready with rst := { ready.rst with sel2 := true } }
     portLive s 0 = true ∧ portLive s 1 = false ∧ (0x40003F1C#32).toNat = 0x3F1C + 2 ^ 30) := by decide +kernel

theorem test_meets_RegisterWritesFollowAccessTypes :
    (let s := (ready.wr (R.ownQue 7) 0xB0000000#32).wr (R.ownJig 3) 0x80000000#32
     takesWrite s 3 (R.queueWm 63) && takesWrite s 3 (R.queueStat 63) && takesWrite s 0 (R.jtWdog 31) &&
       takesWrite s 3 (R.attNonce 7) && takesWrite s 0 R.resetCause && takesWrite s 0 R.fabricCause &&
       takesWrite s 0 R.storCfg && takesWrite (s.wr R.ownMisc 0xFFFF#32) 3 (R.chkInit 3) && reachesBulk s 3) = true := by
  decide +kernel

theorem test_meets_QspiPortsPostAndRead :
    let s : State := { ready with rst := { ready.rst with sel3 := true } }
    let full := setQport 1 ⟨List.replicate 49 ⟨0, 0, 0#32⟩, false⟩ s
    portLive s 1 = true ∧ portLive full 1 = true ∧ 192 < 4 * (qport full 1).buf.length ∧
    4 * (qport (setQport 1 ⟨List.replicate 48 ⟨0, 0, 0#32⟩, false⟩ s) 1).buf.length ≤ 192 := by decide +kernel

/-! Shelf queues, ownership and events -/

/-- Queue 2 as a host-to-device queue for Jig threads, its depth 64 words and its credit all of them; queue 3 as a
device-to-host queue of the same depth. -/
def queued : State :=
  sets ready [(F.queueCfgDir 2, 1), (F.queueCfgEndpoint 2, 0), (F.queueCfgDepthLog2 2, 6), (F.queueCredCreditInit 2, 64),
    (F.queueCfgDir 3, 0), (F.queueCfgEndpoint 3, 0), (F.queueCfgDepthLog2 3, 6)]
def inService : State := sets queued [(F.queueCfgEnable 2, 1), (F.queueCfgEnable 3, 1)]
def qword (v : QWord) : QWordP := ⟨v, false⟩

theorem test_meets_QueuesEnterAndLeaveService :
    let pair := sets inService [(F.queueCfgDir 1, 0), (F.queueCfgEndpoint 1, 6), (F.queueCfgEnable 1, 1),
      (F.queueCfgEndpoint 2, 1), (F.queueCfgPair 2, 1)]
    takesWrite queued 0 (R.queueCfg 2) = true ∧ (1#4).getLsbD 0 = true ∧ queueOn queued 2 = false ∧
    queueOn inService 2 = true ∧ enableReason queued 2 = 0 ∧ enableReason queued 3 = 0 ∧ enableReason ready 63 ≠ 0 ∧
    (pair.get (F.queueCfgEndpoint 1) = 6 ∧ queueOn pair 2 = true ∧ pair.on (F.queueCfgDir 2) = true ∧
      pair.get (F.queueCfgEndpoint 2) = 1 ∧ pair.get (F.queueCfgPair 2) = 1) ∧
    inService.get (F.queueCfgEndpoint 3) ≠ 6 := by decide +kernel

theorem test_meets_EmptyQueueReadUnderruns :
    takesSlot inService 0 3 = true ∧ inService.on (F.queueCfgDir 3) = false ∧ (inService.queue 3).chain = [] ∧
    (inService.queue 3).ring = [] ∧ takesWrite queued 0 (R.queueCfg 3) = true ∧ queueOn queued 3 = false := by
  decide +kernel

theorem test_meets_DoorbellsPopsAndTakes :
    let edge (used : Nat) := inService.put (F.queueCredOutstanding 2) used
    let holds : State := inService.setQueue 3 { Queue.empty with chain := [⟨[qword 7#128, qword 8#128], 0, 3, 1, 0#64⟩] }
    let jobs : State := (sets inService [(F.queueCfgEndpoint 2, 2), (F.queueCfgPair 2, 3)]).setQueue 2
      { Queue.empty with sub := [⟨[qword 1#128], 1⟩] }
    takesSlot inService 0 2 = true ∧ takesSlot inService 0 3 = true ∧ inService.on (F.queueCfgDir 2) = true ∧
    queueOn queued 2 = false ∧
    ((edge 63).get (F.queueCredOutstanding 2) + 1 ≤ (edge 63).get (F.queueCredCreditInit 2)) ∧
    ((edge 64).get (F.queueCredCreditInit 2) < (edge 64).get (F.queueCredOutstanding 2) + 1) ∧
    (takesSlot holds 0 3 = true ∧ holds.on (F.queueCfgDir 3) = false ∧ (holds.queue 3).ring = [] ∧
      (holds.queue 3).chain = [⟨[qword 7#128, qword 8#128], 0, 3, 1, 0#64⟩] ∧ (0#64).toNat ≤ holds.tbCopy.toNat) ∧
    (unitServes jobs .cipher = true ∧ servesNext jobs .cipher = some 2 ∧ (jobs.queue 2).sub = [⟨[qword 1#128], 1⟩] ∧
      jobs.get (F.queueCfgPair 2) ≠ 2) := by decide +kernel

theorem test_meets_OwnershipWritesAreCheckedThenScrub :
    let s := ready.wr (R.ownQue 0) 0x88888888#32
    let t := ready.wr (R.ownJig 0) 0x88888888#32
    let moves (x : State) (off : Nat) (new : Word) : Bool :=
      ownReg off && takesWrite x 0 off && ownReason x off (x.rd off) new == 0
    moves s (R.ownQue 0) 0x88888889#32 = true ∧ entryOwner s 0x88888888#32 0 ≠ entryOwner s 0x88888889#32 0 ∧
    moves t (R.ownJig 0) 0x98888888#32 = true ∧ entryOwner t 0x88888888#32 7 ≠ entryOwner t 0x98888888#32 7 ∧
    entryWord (R.ownQue 0) = true ∧ moves s (R.ownQue 0) 0x88888888#32 = true ∧
    moves ready R.ownBulk 0x01000000#32 = true ∧
    (ownReg (R.evtOwn 287) = true ∧ R.evtOwn 287 = 0x20008 + 16 * 287 ∧ moves ready (R.evtOwn 287) 6#32 = true ∧
      evtOwnerOf ready (ready.rd (R.evtOwn 287)) ≠ evtOwnerOf ready 6#32) ∧
    ownReason (ready.put F.ownStatusBusy 1) (R.ownQue 0) 0x88888888#32 0x88888889#32 = 5 := by decide +kernel

theorem test_meets_EventSourcesRouteAndFire :
    let s := ready.put (F.evtRouteVector 0) 5
    let timed : State := s.setEvt 0 ⟨1, some 4#64⟩
    let live : State := { timed with fab := { timed.fab with msixCtl := [(0, 2)], msix := [(5, { Msix.init with masked := false })] } }
    takesWrite ready 0 (R.evtRoute 0) = true ∧ (0x200#32).getLsbD 9 = true ∧
    ownerPin ready (bitsOf (0x240#32).toNat 8 6) ≠ some 3 ∧ (timed.evt 0).timer = some 4#64 ∧ ownerSource timed 0 = some 0 ∧
    ownerSource (timed.put (F.evtOwnAssigned 0) 0) 0 = none ∧
    (isPcie live 0 = true ∧ bitAt (msixCtl live 0) 1 = true ∧ bitAt (msixCtl live 0) 0 = false ∧
      (msixOf live 0 (live.get (F.evtRouteVector 0))).masked = false) ∧
    (msixOf timed 0 5).masked = true ∧ bitAt (msixCtl timed 0) 1 = false ∧ reachesAll ready 0 = true ∧
    takesWrite ready 0 R.dbgTraceCfg = true := by decide +kernel

theorem test_meets_ErrorsAreMarkedAndReadsCapture :
    (ready.rd (R.eccCorrCnt 7)).toNat + 1 < 2 ^ 32 - 1 ∧ (ready.rd (R.eccUncorrCnt 7)).toNat + 1 < 2 ^ 32 - 1 ∧
    ([EccHit.mk 0 3 true (.bulk 1 48), ⟨1, 0, true, .imem 7 8191⟩].all fun h => h.uncorr) = true ∧
    takesRead ready 0 (capOff .tbSec) = true ∧ takesRead ready 3 (capOff (.zxTHi 2)) = true ∧ regsCut ready = false ∧
    takesRead ready 0 (capOff (.keyUseLo 0)) = true ∧ takesRead ready 0 (capOff (.meas 7)) = true := by decide +kernel

/-! Greune: loading, contexts, queues -/

/-- The header of a record: one instruction and 16 bytes of data for threads 0 and 1 of core 0. -/
def recordHead : List Byte :=
  leBytes 4 0x4C47584F ++ leBytes 2 1 ++ [0#8, 3#8] ++ leBytes 2 0 ++ leBytes 2 1 ++ leBytes 2 0 ++ leBytes 2 16 ++
    List.replicate 48 0#8

theorem test_meets_LoadRecordsAreCheckedMeasuredAndLoaded :
    let put (l : List Byte) : State := wrBulkL ready 0 0 l
    let s := put (recordHead ++ leBytes 4 (gEncode .halt).toNat)
    let one : Load := ⟨1, 7, 2, 0, [0#32], 0, [], [0, 0, 0, 0], 0#32, 0#32, [], []⟩
    let busy : State := { ready with jig := { ready.jig with loads := [one] } }
    takesWrite ready 0 R.jigLoadCmd = true ∧ (1#32).getLsbD 0 = true ∧
    loading busy 1 = true ∧ loading ready 0 = false ∧
    (ready.wr (R.measCnt 4) 0xFFFFFFFF#32).rd (R.measCnt 4) = 0xFFFFFFFF#32 ∧
    loadHdrOk (rdBulkN ready 0 0 64) = false ∧ loadHdrOk (rdBulkN s 0 0 64) = true ∧
    loadLen (rdBulkN s 0 0 64) = 84 ∧ 0 + 84 ≤ bulkSize s 0 ∧
    bulkSize s 0 < 64 * (s.put (fldOf 0 F.jigLoadSrcOffset) 65535).get (fldOf 0 F.jigLoadSrcOffset) + 84 ∧
    loadRefusal s (loadRecord s 0 0 (rdBulkN s 0 0 64)) = none ∧
    (let u := s.put (fldOf 0 F.jigLoadSrcOffset) 0
     (loadRefusal (u.wr (R.ownJig 0) 0#32) (loadRecord u 0 0 (rdBulkN u 0 0 64))).isSome = true) ∧
    findFirst (fun x => x.drawer == 1) busy.jig.loads = some one ∧ coreHeld busy 7 = false := by decide +kernel

/-- The state with context 5 resident. -/
def withCtx (s : State) : State := { s with ncp := { s.ncp with slots := [⟨5, true, false, 0#64⟩] } }
def five : Thread := setG runner 2#4 5#32

theorem test_meets_ContextInstructionsActOnRecords :
    let own := sets (withCtx (holding five (.ldn 1#4 2#4 false true 511#9))) [(F.ownCtxValid 0, 1), (F.ownCtxFirst 0, 5),
      (F.ownCtxLast 0, 5), (F.ownCtxDrawer 0, 0)]
    let none' := sets own ((List.range 16).map fun n => (F.ownCtxValid n, 0))
    let waits : Thread := { runner with state := .waitPage, wait := .page 5 0#32 (some 6#64) }
    (fetches five (.ldn 1#4 2#4 false true 511#9) && fetches five (.ldn 3#4 2#4 true false 510#9) &&
      fetches five (.stn 1#4 2#4 false 64#9) && fetches five (.stn 3#4 2#4 true 320#9) &&
      fetches five (.pref 2#4) && fetches five (.pin 2#4 true) && fetches five (.unpin 2#4)) = true ∧
    (gReg five 2#4).toNat % 16384 = 5 ∧ ownsCtx own 0 5 = true ∧ ownsCtx none' 0 5 = false ∧ resident own 5 = true ∧
    resident ready 5 = false ∧ ctxDead ready 5 = false ∧ ctxBad own 5 511 = false ∧
    ctxBad { own with ncp := { own.ncp with bad := [((512 * 5 + 511) / 4, true)] } } 5 511 = true ∧
    wordClass 20 = .h ∧ wordClass 511 ≠ .h ∧ wordClass 510 ≠ .h ∧ wordClass 0 ≠ .w ∧
    own.ncp.pins.length < 512 ∧ (5, 0) ∉ List.replicate 512 (0, 1) ∧ 512 ≤ (List.replicate 512 (0, 1)).length ∧
    waits.wait = .page 5 0#32 (some 6#64) := by decide +kernel

theorem test_meets_QueueInstructionsMoveDescriptors :
    let own (x : Thread) : State := { inService with jig := (holding x .yield).jig }
    let holds := (own runner).setQueue 2 { Queue.empty with sub := [⟨[qword 1#128], 1⟩] }
    let poor := (own runner).setQueue 3 { Queue.empty with chain := [⟨List.replicate 64 (qword 0#128), 0, 0, 0, 0#64⟩] }
    let rotten := (own runner).setQueue 2 { Queue.empty with sub := [⟨[⟨1#128, true⟩], 1⟩] }
    (fetches runner (.enq 3#6 false 1#4 0#4 3#11) && fetches runner (.enq 0#6 true 1#4 2#4 0#11) &&
      fetches runner (.deq 2#6 false 1#4 0#4 true true 15#4) && fetches runner (.deq 2#6 false 1#4 0#4 false false 3#4)) = true ∧
    ownsQueue (own runner) 0 2 = true ∧ ownsQueue (own runner) 0 3 = true ∧
    ownsQueue ((own runner).wr (R.ownQue 0) 0#32) 0 3 = false ∧
    ((∀ i, i < 16 * 1 → inDwin runner (48 + i) = true) ∧ 48 % 16 = 0 ∧ dmemBad (own runner) 0 48 16 = false) ∧
    queueOn (own runner) 2 = true ∧ queueOn (own runner) 3 = true ∧ queueOn { queued with jig := (own runner).jig } 3 = false ∧
    (own runner).on (F.queueCfgDir 2) = true ∧ (own runner).on (F.queueCfgDir 3) = false ∧ 4 ≤ queueRoom (own runner) 3 ∧
    queueRoom poor 3 < 1 ∧ queueLevel ((own runner).queue 3) = 0 ∧ ((own runner).queue 2).sub = [] ∧
    (holds.queue 2).sub = [⟨[qword 1#128], 1⟩] ∧ (rotten.queue 2).sub = [⟨[⟨1#128, true⟩], 1⟩] ∧
    coreNaps (own runner) 0 = false := by decide +kernel

/-! Actions -/

/-- A thread with t1 one second ahead, its data window 256 bytes, and an FA word that takes the descriptor at 0. -/
def sender : Thread := setT { runner with dlen := 256 } 1#2 0x100000000#64
def fa : FA := ⟨1#2, true, false, false, 0#4, 0#4, 1#2, 0#10⟩

/-- Bytes `l` at address 0 of core 0's data memory, both bands with their first plan, an airtime right for drawer 0, and
the word of `i` before thread 0. -/
def acting (i : GInstr) (l : List Byte) : State :=
  let s := sets (holding sender i) [(F.lphyStatusLowPlan, 1), (F.lphyStatusHighPlan, 1), (F.jigAirLine, 1),
    (F.jigAirRadio, 1), (F.radioChanValid 0, 1), (F.pwrBudgetBudget, 100), (F.radioChanFreqKhz 0, 868300), (F.dcLoEnable 0, 1),
    (F.dcLoLoKhz 0, 863000), (F.dcHiHiKhz 0, 876000), (F.dcLimitLimitPpm 0, 10000)]
  (foldUpto l.length (fun j s => stByte s 0 j (l.getD j 0#8)) s)

/-- Descriptors: a native frame of mode 0 without security, type 1; the same with a reserved bit; one that is too long;
a native window of the low band; a radio frame of mode 1 on channel 0; a window of the same. -/
def txfBytes (len : Nat) : List Byte := leBytes 4 (7 * 2 ^ 10 + 2 ^ 20) ++ leBytes 2 len ++ leBytes 2 9 ++ leBytes 2 64 ++ leBytes 6 0
def rxwBytes : List Byte := leBytes 4 4 ++ leBytes 4 1000 ++ leBytes 8 0
def rtxBytes : List Byte := leBytes 4 (1 + 2 ^ 9 + 2 ^ 22) ++ leBytes 2 8 ++ leBytes 2 9 ++ leBytes 2 64 ++ leBytes 6 0
def rrxBytes : List Byte := leBytes 4 (1 + 2 ^ 12) ++ leBytes 4 1000 ++ leBytes 8 0
def cypBytes : List Byte := leBytes 4 1 ++ leBytes 2 64 ++ leBytes 2 128 ++ leBytes 2 16 ++ leBytes 6 0 ++ leBytes 2 16 ++ leBytes 14 0

theorem test_meets_ActionsPassTheirChecksAndWait :
    let x := acting (.txf fa) (txfBytes 8)
    let w := acting (.rxw fa) rxwBytes
    let r := acting (.rtx fa) rtxBytes
    let v := acting (.rrx fa) rrxBytes
    let lx := ldBytes x 0 0 32
    let d : TxfD := { txfOf lx none with payload := ldBytes x 0 64 8 }
    let e : RtxD := { rtxOf (ldBytes r 0 0 32) none with payload := ldBytes r 0 64 8 }
    let wd := rxwOf (ldBytes w 0 0 16) 0
    let vd := rrxOf (ldBytes v 0 0 16) none
    fa.ctx = false ∧ fa.asap = false ∧
    (fetch x 0 = .word (.txf fa) ∧ fetch w 0 = .word (.rxw fa) ∧ fetch r 0 = .word (.rtx fa) ∧ fetch v 0 = .word (.rrx fa)) ∧
    (mayLine x 0 = true ∧ mayRadio r 0 = true ∧ mayLine (x.put F.jigAirLine 0) 0 = false ∧
      mayRadio (r.put F.jigAirRadio 0) 0 = false) ∧
    ((∀ i, i < 32 → inDwin (x.thr 0) (0 + i) = true) ∧ dmemBad x 0 0 32 = false ∧ (0 : Nat) % 16 = 0) ∧
    ¬ (tReg sender 1#2).toNat < x.tbCopy.toNat + usSteps 2 ∧ (tReg runner 1#2).toNat < x.tbCopy.toNat + usSteps 2 ∧
    (txfOk lx d = true ∧ txfTooLong d 8 = false ∧ txfTooLong d 2018 = false ∧ isPending (x.act 0 1) = false ∧
      linkLost x = false ∧ silenced x = false ∧ planAllowed x d.band 1 = true ∧ bandServes x d.family d.band = true ∧
      txfCheck6 x (txfUnits x d) (2 ^ 32) (nsSteps (txfNs x d (txfPrep x d d.mode))) 0 1 (d.family != 2) = 0 ∧
      lastGasp x = false ∧ givenNow x (txfGrantOf x 0 1 (txfUnits x d) d.atten) = true) ∧
    (txfOk (txfBytes 2019) (txfOf (txfBytes 2019) none) = false ∧ txfTooLong { d with family := 1 } 255 = true) ∧
    (rxwOk (ldBytes w 0 0 16) wd = true ∧ (rxwBands wd).all (fun b => planAllowed w b 1) = true ∧ rxwServed w wd = true ∧
      givenNow w (rxwGrantOf w 0 1 (rxwUnits wd)) = true ∧ rxwOk (List.replicate 16 0#8) (rxwOf (List.replicate 16 0#8) 0) = false) ∧
    (rtxOk r (ldBytes r 0 0 32) e (2 ^ 32) = true ∧ rtxInRegion r e e.channel = true ∧
      rfFree r (2 ^ 32) (2 ^ 32 + nsSteps (rfNs r (psduLength e.secLevel 8) e.fec e.opmode)) 0 1 = true ∧
      dutyUncovered r (accountsOf r e.channel e.opmode) = false ∧
      dutyRefuses r (accountsOf r e.channel e.opmode) (rfMs r (psduLength e.secLevel 8) e.fec e.opmode) true = [] ∧
      givenNow r ⟨.act 0 1, grantDrawer r 0, rtxMw e.level, 0, false⟩ = true ∧
      rtxOk r (List.replicate 32 0#8) (rtxOf (List.replicate 32 0#8) none) (2 ^ 32) = false) ∧
    (rrxOk v (ldBytes v 0 0 16) vd = true ∧
      rxConflict v vd.channel vd (2 ^ 32) (after 0x100000000#64 (usSteps vd.durUs)).toNat = false ∧
      givenNow v ⟨.act 0 1, grantDrawer v 0, 40, 0, false⟩ = true ∧
      rrxOk v (List.replicate 16 0#8) (rrxOf (List.replicate 16 0#8) none) = false) := by decide +kernel

theorem test_meets_ActionsPassTheirChecksAndWait_cyp :
    let f : FA := { fa with tk := 0#2 }
    let s := sets (acting (.cyp f) cypBytes) [(F.keyInfoType 0, 1), (F.keyInfoModes 0, 2)]
    let l := ldBytes s 0 0 32
    let y := cypFields l
    fetch s 0 = .word (.cyp f) ∧ ownsKey s 0 0 = true ∧ ownsKey (s.wr (R.ownKey 0) 0#32) 0 0 = false ∧
    isPending (s.act 0 1) = false ∧ isPending ((s.setAct 0 1 { Act.empty with status := 1 }).act 0 1) = true ∧
    cypOk s 0 l = true ∧ cypOk s 0 (List.replicate 32 0#8) = false ∧ s.get (F.keyInfoType 0) ≠ 0 ∧
    (s.put (F.keyInfoType 0) 0).get (F.keyInfoType 0) = 0 ∧ typeSuits s 0 y.mode = true ∧ modesAllow s 0 y.mode = true ∧
    modesAllow (s.put (F.keyInfoModes 0) 0) 0 y.mode = false ∧ keyUse s 0 + aesCharge y ≤ keyLimit s 0 ∧
    cypBad s 0 l = false ∧ keyUse s 0 + aesCharge y < 2 ^ 48 ∧
    givenNow s ⟨.act 0 1, grantDrawer s 0, 250, 0, false⟩ = true := by decide +kernel

/-- Slot 1 of thread 0 holds `a`, under the rights of `acting`. -/
def slotted (i : GInstr) (a : Act) : State := (acting i []).setAct 0 1 a
def aTxf : TxfD := { txfOf (txfBytes 8) none with payload := List.replicate 8 0#8 }
def aRtx : RtxD := { rtxOf rtxBytes none with payload := List.replicate 8 0#8 }
def aRxw : RxwD := rxwOf rxwBytes 0
def aRrx : RrxD := rrxOf rrxBytes none
/-- A pending action at one second, prepared, made at zero. -/
def act1 (b : Body) (st : Stage) (units : Nat) : Act :=
  { Act.empty with status := 1, body := b, stage := st, instant := 0x100000000#64, openAt := 0x100000000#64
                   endAt := 0x110000000#64, prep := true, units := units, emissions := 1 }

theorem test_meets_CancelsJobEndsGrantsAndCrossings :
    let c : GInstr := .cancel 1#2
    let aCyp : CypD := ⟨[], 1, false, 0, 0, 128, 0, 0, [], List.replicate 16 0#8, [], [], []⟩
    let g : Grant := ⟨.job 3, 0, 10, 0, true⟩
    let n : Grant := ⟨.nand 1, 0, 10, 0, true⟩
    let given (g : Grant) : State := { acting c [] with pwr := { (acting c []).pwr with waiting := [g] } }
    fetch (slotted c Act.empty) 0 = .word c ∧ isPending ((slotted c Act.empty).act 0 1) = false ∧
    ([act1 (.rxw aRxw) .waiting 1, act1 (.rrx aRrx) .waiting 0, act1 (.txf aTxf) .waiting 1, act1 (.txf aTxf) .emitting 1,
        act1 (.txf aTxf) .ackWait 1].all fun a =>
      isPending ((slotted c a).act 0 1) && mayCancel (slotted c a) 0 ((slotted c a).act 0 1)) = true ∧
    isPending (act1 (.cyp aCyp) .running 0) = true ∧ hasTag 1 = false ∧ islandHeld (acting c []) 1 = false ∧
    nextGrant (given g) = some g ∧ nextGrant (given n) = some n ∧ nextGrant (acting c []) = none ∧
    (fetches sender (.zxw 1#2 2#4 3#4 1#2 true) && fetches sender (.zxw 1#2 2#4 3#4 1#2 false)) = true ∧
    (acting c []).tbCopy.toNat < (zxInstant (acting c []) 1 5 0).toNat ∧
    (zxInstant (acting c []) 1 0 0).toNat ≤ ({ acting c [] with tbCopy := 0xF000000000000000#64 }).tbCopy.toNat := by
  decide +kernel

/-- A thread that waits for the grant of an action, given now: a window; a frame on a transmitter that another frame has
taken; a `CYP` on a key that suits, and on an empty slot. -/
theorem test_meets_CancelsJobEndsGrantsAndCrossings_given :
    let f : FA := { fa with tk := 0#2 }
    let s := sets (acting (.cyp f) cypBytes) [(F.keyInfoType 0, 1), (F.keyInfoModes 0, 2)]
    let l := ldBytes s 0 0 32
    let y := cypFields l
    let job : CypD := ⟨l, y.mode, y.dec, y.pad, y.tagLen, 128, 0, 0, [], [], [], [], []⟩
    let g : Grant := ⟨.act 0 1, 0, 10, 0, true⟩
    let waits (b : Act) : State :=
      let u := s.setThr 0 { s.thr 0 with state := .waitGrant, wait := .grant 1 b }
      { u with pwr := { u.pwr with waiting := [g] } }
    let w := act1 (.rxw aRxw) .waiting 1
    let x := act1 (.txf aTxf) .waiting 1
    let taken : State := (waits x).setAct 0 0 (act1 (.txf aTxf) .emitting 1)
    let c := { act1 (.cyp job) .waiting 0 with charge := 1 }
    (nextGrant (waits w) = some g ∧ ((waits w).thr 0).wait = .grant 1 w ∧ actCtx w = none ∧
      grantClash (giveGrant g (waits w)) 0 1 w = false ∧
      (waits w).tbCopy.toNat < (grantAct 0 1 w (giveGrant g (waits w))).instant.toNat) ∧
    grantClash (giveGrant g taken) 0 1 x = true ∧
    (islandHeld (waits c) 1 = false ∧ cypKeyCause (waits c) 0 (cypFields l) = 0 ∧ cypBad (waits c) 0 l = false ∧
      cypKeyCause ((waits c).put (F.keyInfoType 0) 0) 0 (cypFields l) = 0x2B) := by decide +kernel

/-- An ECB job without padding ends with output, whatever the cipher function; padding and tags rest on it. -/
theorem test_meets_aesRun_ok : ∃ out tag, aesRun ⟨1, false, 0, 0, 16, 0, 0⟩ [] [] [] [] [] = .ok out tag := ⟨_, _, rfl⟩

theorem test_meets_ActionsStartEmitAndEnd :
    let txf := slotted .yield (act1 (.txf aTxf) .waiting 1)
    let a := txf.act 0 1
    let now := txf.passTo (startAt a)
    let held : State := { now with line := { now.line with xmit := [(0, { Xmit.init with holdOff := some 0x200000000#64 })] } }
    let ack : AckDue := ⟨0x100000000#64, 0x110000000#64, some 0, 0, none, .line 0 0 0 1 0 0 0⟩
    let clash : State := { now with line := { now.line with acks := [ack] } }
    let rtx := slotted .yield (act1 (.rtx aRtx) .waiting 0)
    let rnow := rtx.passTo (startAt (rtx.act 0 1))
    let rx (w : Body) : State := slotted .yield (act1 w .rxOpen 1)
    isPending a = true ∧ a.stage = .waiting ∧ a.made.toNat + leadSteps a ≤ (startAt a).toNat ∧
    { a with prep := false, asap := true }.prep = false ∧
    heldOff now a.units a.instant.toNat = false ∧ heldOff held a.units a.instant.toNat = true ∧
    ackClashes now a.units a.instant.toNat a.endAt.toNat = [] ∧ airHeld txf = false ∧ actSecure a = false ∧
    asapAgain 0 1 a txf.tb.toNat txf = a ∧ (unitList a.units).any (txBusy now) = false ∧
    (unitList a.units).any (txBusy (now.setAct 0 0 (act1 (.txf aTxf) .emitting 1))) = true ∧
    ackClashes clash a.units a.instant.toNat a.endAt.toNat ≠ [] ∧
    (aTxf.family ≠ 2 ∧ aTxf.ctx = none ∧ aTxf.secure = false ∧ aTxf.ackReq = false ∧ aRtx.ctx = none) ∧
    rnow.radio.rx = none ∧ rfAckMeets rnow 0x100000000 0x110000000 = false ∧ now.on F.radioStatusTxBusy = false ∧
    isPending ((rx (.rxw aRxw)).act 0 1) = true ∧ frameInWindow (rx (.rxw aRxw)) ((rx (.rxw aRxw)).act 0 1) = false ∧
    frameInWindow (rx (.rrx aRrx)) ((rx (.rrx aRrx)).act 0 1) = false ∧ aRrx.ctx = none ∧
    frameInWindow { rx (.rrx aRrx) with radio := { ready.radio with rx := some ⟨0, 1, false, false, 0x100000000#64, 0x100000000#64⟩ } }
      ((rx (.rrx aRrx)).act 0 1) = true := by decide +kernel

/-! The line and the radio -/

/-- Every chain enabled, no region lock, the first plan in both bands. -/
def hearing : State :=
  sets ({ ready with opt := { ready.opt with floor := 0 } }.put F.optActive0RegionLock 0)
    ([(F.lphyStatusLowPlan, 1), (F.lphyStatusHighPlan, 1)] ++ (List.range 6).map fun c => (F.lphyRxcfgEnable c, 1))

theorem test_meets_LineControlFollowsItsRegisters_chains :
    let off := sets ready [(F.lphyRxcfgEnable 0, 0)]
    let w := off.wrTyped (R.lphyRxcfg 0) 0#32 15#4
    let win : State := (slotted .yield (act1 (.rxw aRxw) .rxOpen 1)).wrTyped (R.lphyRxcfg 0) 0#32 15#4
    deaf hearing 5 = false ∧ takesWrite hearing 0 (R.lphyRxcfg 5) = true ∧
    (hearing.wrTyped (R.lphyRxcfg 5) 1#32 15#4).on (F.lphyRxcfgEnable 5) = true ∧
    w.on (F.lphyRxcfgEnable 0) = false ∧ chainRuns w 0 = false ∧ chainRuns win 0 = true ∧
    takesWrite ready 0 (R.lphyFirCtl 2) = true ∧ takesWrite ready 0 (R.lmacNmapStat 5) = true ∧
    takesWrite ready 0 R.dlvRingCfg = true ∧ (4#32 &&& byteMask 15#4).getLsbD 2 = true ∧
    (let u := ready.wrTyped R.dlvRingCfg 0xFFFFFFFF#32 15#4
     bulkSize u 0 < 64 * u.get (fldOf 0 F.dlvRingCfgBase) + ringSize u 0) ∧
    (let u := ready.wrTyped R.dlvRingCfg 0#32 15#4
     64 * u.get (fldOf 0 F.dlvRingCfgBase) + ringSize u 0 ≤ bulkSize u 0) := by decide +kernel

theorem test_meets_LineControlFollowsItsRegisters_bands :
    let st (l : List (Fld × Nat)) : State := sets hearing l
    let eu := (st [(F.lphyBandcfgHighPlan, 1)]).put F.optActive0RegionLock 1
    let swept := st [(F.lphyBandcfgLowPlan, 2), (F.swpStatusLowOn, 1)]
    let quiet := sets ready [(pendingFld 0, 1)]
    (1#32 &&& byteMask 15#4).getLsbD 0 = true ∧ (1#32 &&& byteMask 15#4).getLsbD 1 = false ∧
    takesWrite hearing 0 R.lphyApply = true ∧
    stagedPlan (st [(F.lphyBandcfgLowPlan, 3)]) 0 = 3 ∧
    (stagedPlan eu 1 ≠ 3 ∧ planAllowed eu 1 (stagedPlan eu 1) = false) ∧
    ((unmasked 0 1 (2 ^ 17 - 1)).length < 8 ∧ ¬ (unmasked 0 1 (2 ^ 16 - 1)).length < 8 ∧ (unmasked 0 1 0).length = 14) ∧
    (sweepOn swept 0 = true ∧ stagedPlan swept 0 ≠ planOf swept 0) ∧
    planAllowed (st [(F.lphyBandcfgLowPlan, 2)]) 0 2 = true ∧ sweepOn hearing 0 = false ∧
    (quiet.on (pendingFld 0) = true ∧ bandQuiet quiet 0 = true ∧ ready.on (pendingFld 0) = false) ∧
    takesWrite hearing 0 R.lphyCompatCfg = true ∧ takesWrite hearing 0 R.swpCfg = true ∧
    planAllowed eu 1 1 = false ∧ planAllowed hearing 1 1 = true ∧
    hearing.on F.lphyCompatCfgEnable = false ∧ (st [(F.lphyCompatCfgEnable, 1)]).on F.lphyCompatCfgEnable = true ∧
    (hearing.wrTyped R.lphyCompatCfg 1#32 15#4).on F.lphyCompatCfgEnable = true ∧
    ((hearing.wrTyped R.swpCfg 0xFFFFFFFF#32 15#4).on (swpEn 0) = true ∧
      (hearing.wrTyped R.swpCfg 0#32 15#4).on (swpEn 0) = false ∧ hearing.on (swpOnFld 1) = false ∧
      planOf hearing 0 = 0 + 1 ∧ ¬ ((chirpCarriers 0).any (bitAt (maskOf hearing 0)) = true) ∧
      planOf hearing 1 ≠ 1 + 1 ∧ swept.on (swpOnFld 0) = true) := by decide +kernel

/-- A node known to the index with one good direct link, and a route to propose for it. -/
theorem test_meets_LineControlFollowsItsRegisters_routes :
    let s : State := { (ready.put F.lmacRouteCfgEnable 1) with ncp := { ready.ncp with
      slots := [⟨5, true, false, 0#64⟩], idx := [⟨.eui 9, 5, false⟩]
      words := [(512 * 5 + 160, 0x00200032#32), (512 * 5 + 161, 0xFFFFFFFF#32)] } }
    let u := s.passTo (nextPass s)
    let v := ready.passTo (nextPass ready)
    s.on F.lmacRouteCfgEnable = true ∧ (5, 0xFFFFFFFF#32, 0) ∈ proposals { u with line := { u.line with routeAt := u.tb } } ∧
    resident s 5 = true ∧ proposals { v with line := { v.line with routeAt := v.tb } } = [] ∧ ready.on F.lmacRouteCfgEnable = false := by decide +kernel

/-- A radio frame of type 1 from 3 to everyone, unsecured. -/
def rf0 : RfRx :=
  { start := 4#64, refAt := 5#64, endAt := 6#64, chan := 0, opmode := 1, fec := false, whiten := false, phrOk := true
    length := 2047, fcsOk := true, ftype := 1, secLevel := 0, ackReq := false, pending := false, evtValid := false
    fctlTop := 0, seq := 0, dest := 0xFFFF, src := 3, evt := 0, fc := 0, payload := [], mic := [], mismatch := false
    freqOfs := 0#16, rssi := 0#8, snr := 0#8 }

theorem test_meets_AcknowledgementsAndRetries :
    let due : AckDue := ⟨0x100#64, 0#64, none, 3, none, .line 0 0 0 1 0 2 0⟩
    let rf : AckDue := ⟨0x100#64, 0#64, none, 3, none, .radio 0 1 false false false 0 0⟩
    let s : State := { ready with line := { ready.line with acks := [due] } }
    let r : State := { acting .yield [] with line := { ready.line with acks := [rf] } }
    let now := s.passTo due.due
    let h : Held := ⟨.radio rf0 false, 5, 0#64⟩
    s.line.acks[0]? = some due ∧ r.line.acks[0]? = some rf ∧ linkLost s = false ∧ silenced s = false ∧
    lastGasp s = false ∧ linkLost (s.put F.tnlStatusState 0) = true ∧ airHeld s = false ∧ chanInRegion r 0 1 = true ∧
    ackUnit now 1 0 = some 0 ∧ heldOff now (2 ^ 0) due.due.toNat = false ∧
    heldOff { now with line := { now.line with xmit := [(0, { Xmit.init with holdOff := some 0x200#64 })] } } (2 ^ 0)
      due.due.toNat = true ∧
    ackUnit (sets now [(F.lphyTxstatBusy 0, 1)]) 1 0 = ackUnit now 1 0 ∧
    r.on F.radioStatusTxBusy = false ∧ dutyUncovered r (accountsOf r 0 1) = false ∧
    dutyRefuses r (accountsOf r 0 1) (rfMs r 13 false 1) false = [] ∧ dutyUncovered r (accountsOf r 1 1) = true ∧
    ({ ready with line := { ready.line with held := [h] } }).line.held[0]? = some h := by decide +kernel

theorem test_meets_AcknowledgementsAndRetries_slots :
    let wait (b : Body) := slotted .yield (act1 b .ackWait 1)
    let place (b : Body) := slotted .yield { act1 b .place 1 with tries := 63 }
    let d := { aTxf with retry := 1 }
    let p := place (.txf d)
    let a := p.act 0 1
    let b := (slotStart p (placePhase p a) (placeSlot p a).1 (placeSlot p a).2).toNat
    let now := p.passTo (BitVec.ofNat 64 b)
    let dur := nsSteps (txfNs now d (txfPrep now d a.mode))
    let q := place (.rtx aRtx)
    let nq := q.passTo (q.act 0 1).endAt
    let inTime : Nat := 0x110000000 - waitSteps (wait (.txf d)) (act1 (.txf d) .ackWait 1)
    (isPending ((wait (.txf d)).act 0 1) = true ∧ ((wait (.txf d)).act 0 1).stage = .ackWait) ∧
    ackInTime (wait (.txf d)) (act1 (.txf d) .ackWait 1) (inTime + usSteps 950) = true ∧
    ackInTime (wait (.txf d)) (act1 (.txf d) .ackWait 1) (inTime + usSteps 950 - 1) = false ∧
    (let seen : AckSeen := ⟨some (0, 0), 2, 0, 0, 0, false, false⟩
     let start : Time := BitVec.ofNat 64 (inTime + usSteps 950)
     let w := (wait (.txf d)).put (F.lphyRxcfgEnable 0) 1
     hears w 0 = true ∧ chainBand 0 = d.band ∧ seen.seq = (w.act 0 1).seq ∧ ackInTime w (w.act 0 1) start.toNat = true ∧
      d.family ≠ 2) ∧
    (airHeld p = false ∧ actSecure a = false ∧ airHeld q = false) ∧
    (1 < d.retry + 1 ∧ ¬ 1 < aTxf.retry + 1 ∧ outage (wait (.txf d)) 0 = false) ∧
    (slotKind now (placePhase p a) (placeSlot p a).1 (placeSlot p a).2 ≠ 2 ∧ quietHit now a.units b dur = none ∧
      heldOff now a.units b = false ∧ txFree now a.units b (b + dur) 0 1 = true ∧
      grantNow now 0 (txfGrantOf now 0 1 a.units d.atten) = true ∧ 63 ≤ a.tries ∧ ({ a with tries := 62 }).tries < 63) ∧
    (nq.radio.rx = none ∧ rfFree nq nq.tb.toNat (nq.tb.toNat + nsSteps (rfNs nq (psduLength 0 8) false 1)) 0 1 = true ∧
      dutyUncovered nq (accountsOf nq 0 1) = false ∧
      dutyRefuses nq (accountsOf nq 0 1) (rfMs nq (psduLength 0 8) false 1) true = [] ∧
      grantNow nq 0 ⟨.act 0 1, grantDrawer nq 0, rtxMw (rtxLevel nq aRtx), 0, false⟩ = true) := by decide +kernel

theorem test_meets_DriverFaultsAndMainsTrackers :
    let fl : State := { sets ready [(F.lphyTxstatBusy 0, 1), (F.lphyLdfltFltNow 0, 1)] with
      line := { ready.line with xmit := [(0, { Xmit.init with flt := some 1#64, holdOff := some 9#64 })] } }
    let mains (t : Trk) (st : Nat) : State :=
      ({ ready with plmb := { ready.plmb with started := true }, line := { ready.line with trk := [(0, t)] } }).put
        (F.zxStatState 0) st
    let on : Trk := ⟨true, 7, 0x100000000#64, 85899346, 85899346, [], 2, [], 0#64, none⟩
    let lost : Trk := ⟨false, 0, 0#64, 0, 0, [], 0, [171798692#64, 85899346#64], 0#64, none⟩
    ((xmit fl 0).flt.isSome = true ∧ fl.on (F.lphyTxstatBusy 0) = true ∧ fl.on (F.lphyLdfltFltNow 0) = true ∧
      (xmit fl 0).holdOff = some 9#64 ∧ (xmit ready 0).holdOff = none ∧ ready.on (F.lphyTxstatBusy 0) = false) ∧
    ready.plmb.started = false ∧ (mains on 0).plmb.started = true ∧ zxState (mains on 0) 0 = 0 ∧
    nearPrediction (mains on 0) 0 (BitVec.ofNat 64 (0x100000000 + 85899346)) = true ∧
    nearPrediction (mains on 0) 0 (BitVec.ofNat 64 (0x100000000 + 85899346 - 85899346 / 8)) = true ∧
    nearPrediction (mains on 0) 0 (BitVec.ofNat 64 (0x100000000 + 85899346 - 85899346 / 8 - 1)) = false ∧
    3 ≤ on.missed + 1 ∧ ({ on with missed := 1 }).missed + 1 < 3 ∧ zxState (mains on 1) 0 = 1 ∧
    2 ≤ lost.edges.length ∧ on.edges.length < 2 ∧ zxState (mains lost 2) 0 = 2 ∧
    relocks (257698038 - 171798692) (171798692 - 85899346) = true ∧ relocks 1 1 = false ∧ lost.run = false := by
  decide +kernel

/-- A decoder's reception on chain 0 as member of set 4. -/
def det0 : Det := ⟨0, 0, 100, 50, 0, 0#64, 1#64⟩
def head0 : LineHdr := ⟨0, 0, 16, 15, 0, false, false, 0, 1#24⟩
def listening (r : Option Recv) (fam : Nat) : State := setChain 0 (withDec fam ⟨r, []⟩ Chain.init) hearing
def recv0 (v : Bool) : Recv := ⟨det0, 4, 0#64, v, head0, false, false, false, none⟩
def lineRx0 (fc : Nat) : LineRx :=
  ⟨9#64, true, 0xFFFF, 3, 3, fc, [1#8], [], false, List.replicate 6 0#16, List.replicate 6 0#8⟩
def compat0 : CompatRx :=
  ⟨9#64, true, 0, some 5, none, none, true, true, 7, 0, [1#8], List.replicate 6 0#16, List.replicate 6 0#8⟩

theorem test_meets_LineReceptionFollowsItsTables :
    let now (d : Det) := hearing.passTo d.seen
    let held := listening (some (recv0 true)) 0
    let two := setChain 2 (withDec 0 ⟨some (recv0 false), []⟩ Chain.init) (listening (some (recv0 false)) 0)
    let c5 := sets (listening (some (recv0 true)) 2) [(F.lphyCompatAddrShort, 5), (F.lphyCompatAddrPan, 0)]
    (∀ e : Fin 6, chainEnabled hearing e.val = true) ∧
    (deaf (now det0) 0 = false ∧ correlates (now det0) 0 det0 = true ∧ meetsThr (now det0) 0 det0 = true ∧
      ownEcho (now det0) 0 det0 = false ∧ meetsThr (now det0) 0 { det0 with metric := 0 } = false) ∧
    suspended hearing 0 = false ∧ suspended (sets hearing [(F.lphyRxstatSuspended 0, 1)]) 0 = true ∧
    (decOf (chain hearing 0) 0).current = none ∧ current held 0 0 = some (recv0 true) ∧
    (recv0 true).det.metric + 4 * hearing.get F.lphyDetcfgResyncMargin ≤
      100 + 4 * hearing.get F.lphyDetcfgResyncMargin ∧
    (hearing.get F.lphyDetcfgCaptureMargin < 15) ∧
    (headerOk 0 head0 = true ∧ head0.fc.toNat % 16 ≤ 8 ∧ headerOk 0 { head0 with version := 1 } = false ∧
      headerOk 0 { head0 with length := 9 } = false) ∧
    setMembers (listening (some (recv0 false)) 0) 0 4 = [(0, 0)] ∧ setMembers two 0 4 = [(0, 0), (2, 0)] ∧
    (compat0.fcsOk = true ∧ current c5 0 2 = some (recv0 true) ∧ compatOurs c5 compat0 = true ∧
      fullFit (compatFit c5 compat0) = false ∧ deaf (now det0) 0 = false) := by decide +kernel

/-- A line frame verifies that carries the MIC which the key of position `p` gives over it. -/
theorem verifies_own_mic (s : State) (c p : Nat) (g : LineGot) :
    let f := mframe (.line g)
    let mic := frameMic (posKey s c p) (rxNonce s c f) f.auth f.level (plainOf s c p f)
    verifies s c p (mframe (.line { g with rx := { g.rx with mic := mic } })) = true := beq_self_eq_true _

/-- So such a frame has a verifying position when that one is the only position in use. -/
theorem verifyPos_own_mic (s : State) (c p : Nat) (g : LineGot)
    (h : [roleCurrent, roleNext, roleRetired].filterMap (keyPosOf s c) = [p]) :
    let f := mframe (.line g)
    let mic := frameMic (posKey s c p) (rxNonce s c f) f.auth f.level (plainOf s c p f)
    verifyPos s c (mframe (.line { g with rx := { g.rx with mic := mic } })) = some p := by
  intro f mic
  unfold verifyPos
  rw [h]
  simp [List.find?, verifies_own_mic, mic, f]

/-- The judgement of a frame: of an unknown sender, below the required level, and verified under `CURRENT`. -/
theorem test_meets_LineReceptionFollowsItsTables_judged :
    let h (fc : BitVec 24) : LineHdr := { head0 with fc := fc }
    let s (fc : BitVec 24) : State := listening (some { recv0 true with hdr := h fc }) 0
    let knows (s : State) (role : Word) : State :=
      { (sets s [(F.ownCtxValid 0, 1), (F.ownCtxFirst 0, 5), (F.ownCtxLast 0, 5), (F.ownCtxDrawer 0, 0)]).wr
        R.ciphFcLimit 100#32 with ncp := { s.ncp with
          slots := [⟨5, true, false, 0#64⟩], idx := [⟨.short 3, 5, false⟩]
          words := [(512 * 5 + 4, 1#32), (512 * 5 + 31, role)] } }
    let g (fc : BitVec 24) := setGot (s fc) 0 (setMembers (s fc) 0 4) { recv0 true with hdr := h fc } (lineRx0 1)
    let f (fc : BitVec 24) := mframe (.line (g fc))
    -- type 5, security level 1
    (f 0x15#24).ftype = 5 ∧ (f 0x15#24).level = 1 ∧ (g 0x15#24).hdr.length ≠ 0 ∧ (f 0x15#24).dest = 0xFFFF ∧
    idxFind (s 0x15#24) (.short (f 0x15#24).far) = none ∧
    idxFind (knows (s 0x15#24) 0#32) (.short (f 0x15#24).far) = some 5 ∧ resident (knows (s 0x15#24) 0#32) 5 = true ∧
    (f 0x15#24).crcOk = true ∧ (g 0x15#24).step = false ∧
    ctxBits (knows (s 0x15#24) 0#32) 5 4 2 0 ≤ (f 0x15#24).level ∧ levelAllowed true 5 1 = true ∧
    (f 0x05#24).level < ctxBits (knows (s 0x05#24) 0#32) 5 4 2 0 ∧ (f 0x03#24).ftype = 3 ∧ (f 0x03#24).level = 0 ∧
    verifyPos (knows (s 0x15#24) 0#32) 5 (f 0x15#24) = none ∧
    [roleCurrent, roleNext, roleRetired].filterMap (keyPosOf (knows (s 0x15#24) 1#32) 5) = [0] ∧ keyRole (knows (s 0x15#24) 1#32) 5 0 = roleCurrent ∧
    fcValid (knows (s 0x15#24) 1#32) 1 = true ∧ isDup (knows (s 0x15#24) 1#32) 5 (f 0x15#24) (some 0) = false ∧
    isDup (knows (s 0x15#24) 0x41#32) 5 { f 0x15#24 with counter := 0 } (some 0) = true ∧
    keptBack (f 0x15#24) = false ∧ ownerCtx (knows (s 0x15#24) 1#32) 5 = some 0 ∧
    fits (sets ready [(F.queueCfgDir 0, 0), (F.queueCfgEndpoint 0, 5), (F.queueCfgDepthLog2 0, 8), (F.queueCfgEnable 0, 1),
      (fldOf 0 F.dlvRingCfgEnable, 1)]) 0 0 1 = .ok := by decide +kernel

/-- Access to the line for a compatibility frame. -/
theorem test_meets_LineReceptionFollowsItsTables_access :
    let d : TxfD := { aTxf with family := 2, tmap := 7 }
    let s := slotted .yield (act1 (.txf d) .place 1)
    let t := s.passTo 5#64
    isPending (s.act 0 1) = true ∧ (s.act 0 1).stage = .place ∧ (unitList 1).any (txBusy t) = false ∧
    heldOff t 1 t.tb.toNat = false ∧ ackClashes t 1 t.tb.toNat (t.tb.toNat + 7) = [] ∧ d.ctx = none := by decide +kernel

theorem test_meets_RadioControlAndReception :
    let on := sets (acting .yield []) [(F.radioCfgEnable, 1)]
    let r : RfRecv := ⟨0, 1, false, false, 0x100000000#64, 0x100000010#64⟩
    let w : State := (on.setAct 0 1 (act1 (.rrx aRrx) .rxOpen 0))
    let rx : State := { on with radio := { on.radio with rx := some r } }
    let f : RfRx := rf0
    let conn (res : List Slot) : State := { ready with
      ncp := { ready.ncp with slots := res, words := [(512 * 5 + 256, 1#32), (512 * 5 + 258, 1#32)] }
      radio := { ready.radio with sup := [(5, 10)] } }
    takesWrite ready 0 R.radioCfg = true ∧
    (let u := ready.wrTyped R.radioCfg 1#32 15#4
     u.on F.radioCfgEnable = true ∧ bandAllowed u = true ∧ channelOutside u = false) ∧
    (bandAllowed ((ready.put F.radioCfgBand 1)) = false ∧ channelOutside (ready.put (F.radioChanValid 63) 1) = true) ∧
    (isPending (w.act 0 1) = true ∧ (w.act 0 1).stage = .rxOpen ∧ rrxHits (w.act 0 1) aRrx 0 1 false false r.start = true ∧
      w.on F.radioCfgEnable = true ∧ linkLost w = false ∧ w.on F.radioStatusTxBusy = false ∧ w.radio.rx = none) ∧
    (rx.radio.rx = some r ∧ f.phrOk = true ∧ f.length ≤ 2047 ∧ f.fcsOk = true ∧ f.ftype ≠ 2 ∧ rfTypeOk f.ftype = true ∧
      f.secLevel ≠ 4 ∧ rfTypeOk 3 = true ∧ idxFind rx (.short f.src) = none) ∧
    (connState (conn [⟨5, true, false, 0#64⟩]) 5 = 1 ∧ wakeNext (conn [⟨5, true, false, 0#64⟩]) 5 ≠ 0 ∧
      (conn []).line.upds = [] ∧ resident (conn [⟨5, true, false, 0#64⟩]) 5 = true ∧ (conn []).radio.frozen = none ∧
      tabGet (fun _ => 0) (conn []).radio.sup 5 = 9 + 1 ∧ connState ready 5 = 0) ∧
    ready.on F.storStatusMounted = false ∧ (ready.put F.storStatusMounted 1).on F.storStatusMounted = true := by
  decide +kernel

/-! Cipher, contexts, storage -/

/-- A job of drawer 0 from queue 2 with pair 3: unit, phase, words; and a state with it alone. -/
def jobIn (u : QUnit) (phase : Nat) (ws : List Nat) : Job :=
  { id := 4, unit := u, drawer := 0, queue := 2, pair := 3, epoch := 0
    words := ws.map fun w => qword (BitVec.ofNat 128 w), phase := phase, status := 0, result := 0#64, key := [] }
def busyWith (s : State) (j : Job) : State := { s with fab := { s.fab with jobs := [j] } }
/-- Word 0 of a job: words, opcode, and the fields from bit 32 on. -/
def head (words op rest : Nat) : Nat := (words - 1) + op * 16 + rest * 2 ^ 32
/-- `AES` in ECB on one block with key slot 0; and the context job of context 5. -/
def aesWords (len : Nat) : List Nat := [head 3 0x010 (2 ^ 16), len + 16 * 2 ^ 48, 0]

theorem test_meets_CipherJobsAndKeys :
    let keyed := sets ready [(F.pwrBudgetBudget, 100), (F.keyInfoType 0, 1), (F.keyInfoModes 0, 2)]
    let j := jobIn .cipher 0 (aesWords 16)
    let big := jobIn .cipher 0 (aesWords 4112)
    let node (s : State) (role : Word) : State := { (withCtx s) with ncp := { (withCtx s).ncp with
      words := [(512 * 5 + 31, 1#32), (512 * 5 + 43, role)] } }
    let er := jobIn .cipher 3 [head 1 0x031 (5 + 2 ^ 14)]
    let spent := keyed.wr (R.keyLimitLo 0) 0#32
    jobOf (busyWith keyed j) 4 = some j ∧ jOp j = 0x010 ∧ j.phase = 0 ∧ jNode j = false ∧
    ciphRefusal (busyWith keyed j) j = 0 ∧ jobCharge j = 1 ∧ keyUse keyed 0 + jobCharge j < 2 ^ 48 ∧
    needsBurst j = false ∧ needsBurst big = true ∧ givenNow keyed (burstOf big) = true ∧
    givenNow { keyed with pwr := { keyed.pwr with waiting := [⟨.job 9, 0, 250, 0, true⟩] } } (burstOf big) = false ∧
    ciphRefusal (busyWith ready j) j = 0x12 ∧
    ciphRefusal { (busyWith spent j) with ciph := { spent.ciph with limHi := [(0, 0)] } } j = 0x13 ∧
    jOp (jobIn .cipher 3 [head 2 0x020 0, 5]) = 0x020 ∧
    (jobOf (busyWith (node ready 3#32) er) 4 = some er ∧ jNode er = true ∧ jTarget er = 5 ∧
      resident (node ready 3#32) 5 = true ∧ keyPosOf (node ready 3#32) 5 roleCurrent = some 0 ∧
      keyRole (node ready 3#32) 5 1 ≠ 0 ∧ keyPosOf (node ready 2#32) 5 roleNext = some 1 ∧
      keyPosOf (node ready 0#32) 5 roleNext = none ∧ resident ready 5 = false) ∧
    bulkPoisoned ready 0 0 16 = false ∧ ready.on F.ciphStatusRngFail = false ∧
    (ready.put F.ciphStatusRngFail 1).on F.ciphStatusRngFail = true ∧
    takesWrite ready 0 (R.keyLimitLo 255) = true ∧
    (keyed.get (F.keyInfoType 0) ≠ 0 ∧ keyLimit spent 0 < keyLimit keyed 0) := by decide +kernel

/-- A key record for slot 0 whose fields hold; what it unwraps to is the configuration's. -/
theorem test_meets_CipherJobsAndKeys_import :
    let record := leBytes 4 0x4B57584F ++ leBytes 2 1 ++ [1#8, 0#8] ++ leBytes 8 0 ++ leBytes 4 1 ++ List.replicate 108 0#8
    let s := wrBulkL ready 0 0 record
    let h := rdBulkN s 0 0 128
    let part (o k : Nat) : Nat := leNat ((h.drop o).take k)
    (part 0 4 = 0x4B57584F ∧ part 4 2 = 1 ∧ part 7 1 = 0 ∧ part 20 12 = 0 ∧ part 6 1 = 1 ∧ part 16 4 = 1) ∧
    (s.rd (R.keyGen 0)).toNat < part 16 4 ∧ 1 ≤ ((s.wr (R.keyGen 0) 1#32).rd (R.keyGen 0)).toNat ∧
    leNat (((rdBulkN ready 0 0 128).drop 0).take 4) ≠ 0x4B57584F := by decide +kernel

theorem test_meets_ContextJobsAndIndex :
    let own := sets ready [(F.ownCtxValid 0, 1), (F.ownCtxFirst 0, 5), (F.ownCtxLast 0, 5), (F.ownCtxDrawer 0, 0)]
    let s := withCtx own
    let valid : State := { s with ncp := { s.ncp with words := [(512 * 5 + 2, 0x10007#32)] } }
    let rd := jobIn .pager 0 [head 1 0x010 5]
    let wr (a b : Nat) := jobIn .pager 3 [head 1 0x011 (5 + a * 2 ^ 14 + b * 2 ^ 23)]
    let missing : State := { (own.put F.storStatusMounted 1) with ncp := { own.ncp with misses := [⟨5, 0, 0#64, 9#64, some (0, 2)⟩] } }
    let dirty : State := { own with ncp := { own.ncp with slots := [⟨5, true, true, 0#64⟩] } }
    jobOf (busyWith s rd) 4 = some rd ∧ jOp rd = 0x010 ∧ jTarget rd = 5 ∧ ownerCtx s 5 = some 0 ∧
    ownerCtx (own.put (F.ownCtxValid 0) 0) 5 ≠ some 1 ∧ pagerFieldsOk rd = true ∧
    pagerFieldsOk (jobIn .pager 0 [head 1 0x010 (5 + 2 ^ 14)]) = false ∧ resident s 5 = true ∧ resident own 5 = false ∧
    ctxDead own 5 = false ∧ ctxDead { own with ncp := { own.ncp with dead := [5] } } 5 = true ∧
    (jFirst (wr 320 511) = 320 ∧ jLast (wr 320 511) = 511 ∧ wordClass 320 = .w ∧ wordClass 319 ≠ .w ∧
      wordClass 511 = .w ∧ bulkPoisoned s 0 0 (4 * (511 + 1 - 320)) = false) ∧
    ctxValid s 5 = false ∧ ctxValid valid 5 = true ∧ ctxShort valid 5 = 7 ∧ isHeld valid 5 = false ∧
    isHeld { valid with ncp := { valid.ncp with holds := [5] } } 5 = true ∧ idxFind s (.short 7) = none ∧
    shortExcluded s 7 = false ∧ shortExcluded s 0xFFFF = true ∧
    idxFind { s with ncp := { s.ncp with idx := [⟨.short 7, 6, false⟩] } } (.short 7) = some 6 ∧
    ((∃ m ∈ missing.ncp.misses, m.ctx = 5) ∧ missing.on F.storStatusMounted = true ∧
      mayFill missing ⟨5, 0, 0#64, 9#64, some (0, 2)⟩ = true ∧ missing.on F.storStatusUnsupported = false ∧
      islandHeld missing 2 = false ∧ mayFill missing ⟨5, 0, 0#64, 9#64, none⟩ = false) ∧
    (∃ e ∈ dirty.ncp.slots, e.ctx = 5 ∧ e.dirty = true) ∧ takesWrite ready 0 R.ncpCfg = true ∧ (2#4).getLsbD 1 = true ∧
    (0x100#32).getLsbD 8 = true ∧ ready.on F.ncpStatusRebuilding = false ∧
    (ready.put F.ncpStatusRebuilding 1).on F.ncpStatusRebuilding = true := by decide +kernel

/-- Two keys enter an empty index, whatever buckets the hash gives them. -/
theorem test_meets_idxAdd (g : Nat) (k m : IdxKey) (c : Nat) :
    ∃ l l', idxAdd g [] k c = some l ∧ idxAdd g l m c = some l' := by
  refine ⟨[⟨k, c, false⟩], [⟨k, c, false⟩, ⟨m, c, false⟩], rfl, if_pos ?_⟩
  exact Nat.lt_of_le_of_lt (List.length_filter_le _ _) (show 1 < 2 by decide)

theorem test_meets_StorageJobsAndCompletions :
    let made (m : Bool) (size : Nat) : State :=
      { ((ready.put F.pwrBudgetBudget 100).wr R.ownNs0 8#32).wr R.storCap 0x20000#32 with stor := { ready.stor with ns := if m then [(0, ⟨true, size, 0⟩)] else [] } }
    let rd (phase g k : Nat) := jobIn .storage phase [head 2 0x010 0, g + (k - 1) * 2 ^ 32]
    let st (op : Nat) := jobIn .storage 0 [head 2 op 0, 0]
    let done := jobIn .cipher 4 (aesWords 16)
    let pair : State := (busyWith inService done).setQueue 3 { Queue.empty with reserved := 1 }
    jobOf (busyWith (made true 9) (rd 0 0 1)) 4 = some (rd 0 0 1) ∧ jOp (rd 0 0 1) = 0x010 ∧ jNs (rd 0 0 1) = 0 ∧
    jGran (rd 0 8 2) = 8 ∧ jCount (rd 0 8 2) = 2 ∧
    storOwned (made true 9) (rd 0 0 1) = true ∧ storOwned ((made true 9).wr R.ownNs0 0#32) (rd 0 0 1) = false ∧
    lastGasp (made true 9) = false ∧ lastGasp ((made true 9).put F.pwrStatusLastGasp 1) = true ∧
    givenNow (made true 9) (burstOf (rd 0 0 1)) = true ∧
    (nsOf (made true 9) 0).made = true ∧ (nsOf (made false 9) 0).made = false ∧ (nsOf (made true 9) 0).size = 9 ∧
    (made true 9).on F.storStatusReadOnly = false ∧
    ((made true 9).put F.storStatusReadOnly 1).on F.storStatusReadOnly = true ∧
    4096 * 2 ≤ bulkSize (made true 9) 0 ∧ granMap (made true 9) 0 8 = 0 ∧ bulkPoisoned (made true 9) 0 0 4096 = false ∧
    ([0x011, 0x012, 0x013, 0x020, 0x021].all fun o => jOp (st o) == o && storOwned (made true 9) (st o)) = true ∧
    freeGranules (made true 9) = 0x20000 - 65536 - 9 ∧
    (jobOf pair 4 = some done ∧ done.phase = 4 ∧ ownerQueue pair 3 = some 0 ∧ queueOn pair 3 = true ∧
      drawerInReset pair 0 = false ∧ 0 < (pair.queue 3).reserved ∧ (pair.queue 3).chain = [] ∧ done.pair ≠ done.queue) ∧
    ¬ 0 < (inService.queue 3).reserved := by decide +kernel

theorem test_meets_StorageManagement :
    let op : NandOp := ⟨1, 3, false, false, 0, false, 0⟩
    let s : State := { (sets ready [(F.storStatusMounted, 1), (F.storNsStatErasing 14, 1)]) with
      stor := { ready.stor with ops := [op], retry := 128 } }
    let nine : State := { ready with rst := { ready.rst with seq := 9 } }
    let part : NandPart := ⟨16384, 2080, true, true, 30, 80, true, some 3000, 16 * 10 ^ 9, 15#4, 15#4, 40⟩
    (s.stor.ops.any fun o => o.ch == 1 && o.target == 3 && !o.susp) = true ∧ (ready.stor.ops.any fun _ => true) = false ∧
    bitAt s.stor.retry 7 = true ∧ s.stor.retry - 2 ^ 7 = 0 ∧ bitAt s.stor.retry 6 = false ∧
    s.on (F.storNsStatErasing 14) = true ∧ s.on (F.storNsStatErasing 0) = false ∧
    (s.on F.storStatusMounted = true ∧ s.stor.flushing = false ∧ lastGasp s = false) ∧
    ({ s.stor with flushing := true }).flushing = true ∧
    (nine.rst.seq = 9 ∧ nine.on F.storStatusUnsupported = false ∧ bitAt (nine.get F.rstStatusIslandHeld) 2 = false) ∧
    partAdmitted part = true ∧ partAdmitted { part with trUs := 81 } = false ∧ partAdmitted { part with rated := none } = false ∧ ready.rst.seq ≠ 9 ∧
    nine.nand.committed = false := by decide +kernel

/-! References, time, serial ports -/

/-- Reference `r` in state `st` as `x`, the Plumb started, time at two seconds and `frac` steps. -/
def refd (r st : Nat) (x : RefIn) (frac : Nat) : State :=
  setRef r x ({ ready with
    plmb := { ready.plmb with started := true }, tb := BitVec.ofNat 64 (2 ^ 33 + frac),
    tbCopy := BitVec.ofNat 64 (2 ^ 33 + frac) }.put (refFld r) st)
/-- Two pulses one second apart, three good judgements. -/
def twice : RefIn := { RefIn.init with times := [0x200000000#64, 0x100000000#64], errs := [0, 0], good := 3 }

theorem test_meets_ReferencesQualifyAndFail :
    let late := (refd 2 4 twice 0).put F.plmbStatusTcxoFallback 1
    (refState (refd 0 1 twice 0) 0 = 1 ∧ refState (refd 0 2 twice 0) 0 = 2 ∧ refState (refd 2 5 twice 0) 2 = 5) ∧
    ready.plmb.started = false ∧ (refd 0 2 twice 0).plmb.started = true ∧ RefIn.init.times.length < 2 ∧
    ((apartInt 0x300000000 (2 * 0x200000000 - 0x100000000)) * 1000000000 ≤ 100 * 2 ^ 32 ∧
      ¬ (apartInt (0x300000000 + 430) (2 * 0x200000000 - 0x100000000)) * 1000000000 ≤ 100 * 2 ^ 32 ∧
      (apartInt (0x300000000 + 429) (2 * 0x200000000 - 0x100000000)) * 1000000000 ≤ 100 * 2 ^ 32 ∧
      (apartInt (0x300000000 + 4294) (2 * 0x200000000 - 0x100000000)) * 1000000000 ≤ 1000 * 2 ^ 32 ∧
      1000 * 2 ^ 32 < (apartInt (0x300000000 + 4295) (2 * 0x200000000 - 0x100000000)) * 1000000000) ∧
    (4 ≤ twice.good + 1 ∧ ({ twice with good := 2 }).good + 1 < 4 ∧ twice.once = false ∧ 2 ≤ ({ twice with misses := 1 }).misses + 1 ∧
      4 ≤ ({ twice with bad := 3 }).bad + 1) ∧
    late.on F.plmbStatusTcxoFallback = true ∧ selected ready = none ∧
    selected (ready.put F.plmbStatusSelected 1) = some 0 ∧ ranksBefore ready 0 1 = true ∧ ranksBefore ready 2 1 = false ∧
    (takesWrite (refd 2 4 twice 0) (BitVec.ofNat 2 (ready.get F.plmbCfgHostDrawer)).toNat R.plmbHostSample = true ∧
      regsCut ready = false ∧ regsCut (ready.put F.tnlStatusState 0) = true ∧
      ¬ 9 * 2 ^ 32 < 10 * ((refd 2 4 twice 3865470566).tb.toNat % 2 ^ 32) ∧
      9 * 2 ^ 32 < 10 * ((refd 2 4 twice 3865470567).tb.toNat % 2 ^ 32)) ∧
    (hostPred 0x200000000#64 0x100000000#64 0x300000000#64 10 0 = 20) ∧
    (refd 0 3 { twice with timer := some 9#64 } 0).plmb.refs ≠ [] ∧
    (refIn (refd 0 3 { twice with timer := some 9#64 } 0) 0).timer = some 9#64 ∧
    refState (refd 0 3 { twice with timer := some 9#64 } 0) 0 = 3 := by decide +kernel

theorem test_meets_PlumbTimeAndOutputs :
    let slew : State := { (sets ready [(F.plmbStatusSelected, 1)]) with plmb := { ready.plmb with dir := -1 } }
    let locked := ready.put F.plmbStatusState 2
    let tod : State := { ready with plmb := { ready.plmb with tod := some (7, 0x100000000#64) } }
    let g : OutGen := ⟨some 0, some 0x100000000#64, none, none, none⟩
    let gen (n : Nat) (o : OutGen) : State := setOut n o (ready.put (F.plmbOutCfgEnable n) 1)
    selected slew = some 0 ∧ slew.plmb.dir ≠ 0 ∧ (locked.get F.plmbStatusState = 2 ∧ locked.on F.plmbStatusHoldoverReady = false) ∧
    takesWrite ready 0 R.plmbSteer = true ∧ takesWrite ready 0 R.plmbTodSet = true ∧ takesWrite ready 0 R.plmbAlign = true ∧
    takesWrite ready 0 (R.plmbOutCfg 3) = true ∧
    (let u := ready.wrTyped R.plmbSteer 0x7FFFFFFF#32 15#4
     freqPpt u = loopPpt u + steerPpt u) ∧
    (let u := ready.wrTyped R.plmbSteer 0x80000000#32 15#4
     freqPpt u ≠ loopPpt u + steerPpt u) ∧
    ready.on F.plmbStatusTbValid = false ∧ (ready.put F.plmbStatusTbValid 1).on F.plmbStatusTbValid = true ∧
    tod.plmb.tod = some (7, 0x100000000#64) ∧ alignDue (gen 0 g) = some 0x100000000#64 ∧ alignDue ready = none ∧
    ((gen 0 g).on (F.plmbOutCfgEnable 0) = true ∧ (outGen (gen 0 g) 0).pulse = none ∧ (outGen (gen 0 g) 0).base = some 0 ∧
      (outGen (gen 0 g) 0).edge = none ∧ (outGen (gen 0 { g with edge := some 5 }) 0).edge = some 5 ∧
      (outGen (gen 0 { g with pulse := some 3#64 }) 0).pulse = some 3#64 ∧
      (outGen (gen 1 { g with due := some 3#64 }) 1).due = some 3#64 ∧ ready.on (F.plmbOutCfgEnable 0) = false) ∧
    (ready.get F.tnlStatusState = 1 ∧ ({ ready with plmb := { ready.plmb with started := true } }).plmb.started = true) := by
  decide +kernel

/-- UART 1 enabled with `l` set as well, its port as `p`; queue 3 takes its entries. -/
def uart (l : List (Fld × Nat)) (p : Port) : State :=
  setPort 1 p (sets inService ([(F.uartCfgEnable 1, 1), (F.queueCfgEndpoint 3, 4), (F.uartCfgRxq 1, 3)] ++ l))
def port0 : Port := Port.init

theorem test_meets_UartCharactersAndBreaks :
    let s := uart [] port0
    let q := uart [(F.uartCfgRxqEn 1, 1)] { port0 with rx := [65, 66, 67, 68, 69, 70] }
    let hd := uart [(F.uartCfgHalfDuplex 1, 1)] { port0 with rise := 5#64, fall := 9#64 }
    let tx := uart [(F.uartStatusDe 1, 1)] { port0 with cur := some 65, curEnd := 7#64, tx := [66], tail := some 9#64 }
    let j := { jobIn .serial 3 [head 1 0x010 1] with drawer := 0 }
    let frm := busyWith (uart [(F.uartCfgFrameMode 1, 1)] { port0 with cur := some 65, job := some 4 }) j
    takesWrite ready 0 (R.uartCfg 1) = true ∧ ready.on (F.uartCfgEnable 1) = false ∧ s.on (F.uartCfgEnable 1) = true ∧
    (bitsOf (0x11#32).toNat 4 1 = 8 ∧ bitsOf (0x07#32).toNat 4 1 < 5 ∧ (0x11#32).getLsbD 0 = true ∧ (1#4).getLsbD 0 = true) ∧
    (s.on (F.uartStatusLineStuck 1) = false ∧ (uart [(F.uartStatusLineStuck 1, 1)] port0).on (F.uartStatusLineStuck 1) = true) ∧
    (hd.on (F.uartCfgHalfDuplex 1) = true ∧ (4#64).toNat < (port hd 1).rise.toNat ∧
      (port hd 1).rise.toNat ≤ (hd.passTo 6#64).tbCopy.toNat ∧ (7#64).toNat < (port hd 1).fall.toNat) ∧
    frameMode s 1 = false ∧ s.on (F.uartCfgRxqEn 1) = false ∧ (port s 1).rx.length < 64 ∧
    64 ≤ (port (uart [] { port0 with rx := List.replicate 64 0 }) 1).rx.length ∧
    s.on (F.uartCfgErrPolicy 1) = false ∧
    (q.on (F.uartCfgRxqEn 1) = true ∧ (port q 1).rx.length = 6 ∧ rxqTakes q 1 = true ∧
      rxqTakes (q.put (F.queueCfgEnable 3) 0) 1 = false) ∧
    (port (uart [] { port0 with sat := true }) 1).sat = true ∧ (port s 1).sat = false ∧
    takesRead ready 0 (R.uartRxdata 1) = true ∧ takesWrite ready 0 (R.uartTxdata 1) = true ∧
    ((port s 1).cur = none ∧ (port s 1).tx = [] ∧ (port s 1).left = [] ∧ (port s 1).job = none) ∧
    ((port tx 1).cur = some 65 ∧ (refillTx (port tx 1)).tx = [66] ∧ tx.on (F.uartStatusDe 1) = true ∧
      (port tx 1).tail = some 9#64) ∧
    (frameMode frm 1 = true ∧ (port frm 1).job.isSome = true ∧ (66#9).toNat ≠ 65 ∧ jobOf frm 4 = some j ∧ j.phase < 4) ∧
    islandState ready 5 ≠ 3 ∧ islandState ((ready.put F.pwrStatusStandby 1)) 5 = 3 := by decide +kernel

theorem test_meets_SerialJobsAndFrames :
    let job (op fields : Nat) : Job := jobIn .serial 0 [head 1 op fields]
    let frm := uart [(F.uartCfgFrameMode 1, 1), (F.uartCfgRole 1, 1)] port0
    let aw (sub : Bool) (got : List Byte) : State :=
      busyWith (uart [(F.uartCfgFrameMode 1, 1), (F.uartCfgRxqEn 1, 1), (fldOf 0 F.dlvRingCfgEnable, 1)]
        { port0 with await := some ⟨0x92, 1, 0, got, 9#64, sub⟩, job := some 4 }) { job 0x012 1 with phase := 3 }
    serOwned (uart [] port0) (job 0x010 (1 + 1 * 2 ^ 4)) = true ∧ sPort (job 0x010 (1 + 1 * 2 ^ 4)) = 1 ∧ serEnabled (uart [] port0) 1 = true ∧
    serFieldsOk (uart [] port0) (job 0x010 (1 + 1 * 2 ^ 4)) = true ∧ (uart [] port0).on (F.uartStatusLineStuck 1) = false ∧
    bulkPoisoned (uart [] port0) 0 0 4 = false ∧
    ownerUart (sets ready [(⟨R.ownMisc, 31, 0⟩, 0)]) 1 ≠ some 0 ∧ ready.on (F.uartCfgEnable 1) = false ∧
    frameMode frm 1 = true ∧ (aw false []).on (F.uartCfgEnable 1) = true ∧
    (port (aw false []) 1).await = some ⟨0x92, 1, 0, [], 9#64, false⟩ ∧ (port (aw false []) 1).job = some 4 ∧
    jobOf (aw false []) 4 = some { job 0x012 1 with phase := 3 } ∧
    ¬ ([5#8].length = 1 + if 2 ≤ 0 then 2 else 1) ∧ [5#8, 0#8].length = 1 + 1 ∧
    [0xFA#8] = linCheck 0 0x92 [5#8] ∧ frameTakes (aw true []) 0 3 1 = true ∧
    ownerUart (aw true []) 1 = some 0 ∧
    (frm.on (F.uartCfgRole 1) = true ∧ islandState (frm.passTo 5#64) 5 = 0 ∧ protect 0x12 = 0x92 ∧
      protect 0x13 ≠ 0x13 ∧ frm.get (F.uartRespAction 1 0x12) = 0 ∧
      (frm.put (F.uartRespAction 1 0x12) 1).get (F.uartRespAction 1 0x12) = 1) := by decide +kernel

/-! Ring, check units, power, Tenon -/

/-- The ring port in service for drawer 0 as node 5, queue 3 its queue, with `l` set as well. -/
def ringed (l : List (Fld × Nat)) (x : Ring) : State :=
  let s := sets inService ([(F.ringCfgEnable, 1), (F.ringStatusBypassClosed, 0), (F.ringCfgAddr, 5), (F.ringCfg2RingRxq, 3),
    (F.queueCfgEndpoint 3, 4), (fldOf 0 F.dlvRingCfgEnable, 1), (bitFld (R.ringFilter 0) 18, 1)] ++ l)
  { s with ser := { s.ser with ring := x } }
def ring0 : Ring := ⟨false, none, none, 0, none, 0#64⟩
/-- `TX_FRAME` on the ring: port 4, identifier 0x12, one byte, CRC. -/
def ringJob : Job := jobIn .serial 0 [head 1 0x012 (4 + 0x12 * 2 ^ 4 + 2 * 2 ^ 11 + 1 * 2 ^ 13)]

theorem test_meets_RingPortBehaves :
    let s := ringed [] ring0
    let opening : State := ringed [] { ring0 with opening := true }
    let j := { ringJob with phase := 3 }
    let waits := busyWith (ringed [] { ring0 with job := some 4 }) j
    let sent := busyWith (ringed [] { ring0 with job := some 4, due := some 9#64, insEnd := some 0x100000000#64 }) j
    let f : RingFrame := ⟨7, 0, 0x92, [1#8], true, true⟩
    takesWrite ready 0 R.ringCfg = true ∧ (1#4).getLsbD 0 = true ∧ (1#32).getLsbD 0 = true ∧
    regsCut s = false ∧ regsCut (s.put F.tnlStatusState 0) = true ∧ ready.on F.ringCfgEnable = false ∧
    (ready.put F.optActive0RingAllow 0).on F.optActive0RingAllow = false ∧
    (ready.put F.optActive0RingAllow 1).on F.optActive0RingAllow = true ∧
    (opening.ser.ring.opening = true ∧ opening.on F.ringCfgEnable = true ∧ islandHeld opening 3 = false) ∧
    ringActive s = true ∧ ringActive ready = false ∧ f.src ≠ s.get F.ringCfgAddr ∧ s.on F.ringCfgMaster = false ∧
    (s.put F.ringCfgMaster 1).on F.ringCfgMaster = true ∧
    bitAt (s.rd (R.ringFilter (f.pid % 64 / 32))).toNat (f.pid % 64 % 32) = true ∧
    s.on F.ringStatusAutonomous = false ∧
    frameTakes s (s.get F.ringCfgRingDrawer) (s.get F.ringCfg2RingRxq) f.data.length = true ∧
    frameTakes (s.put (F.queueCfgEnable 3) 0) 0 3 1 = false ∧
    (waits.ser.ring.job = some 4 ∧ jobOf waits 4 = some j ∧ j.phase < 4 ∧ waits.ser.ring.due = none) ∧
    (sent.ser.ring.due = some 9#64 ∧ (s.passTo 5#64).tb.toNat < (0x100000000#64).toNat) ∧
    s.on F.ringStatusStuck = false ∧ s.on F.ringStatusSilent = false ∧
    (s.put F.ringStatusStuck 1).on F.ringStatusStuck = true ∧
    serOwned (busyWith s ringJob) ringJob = true ∧ serEnabled s 4 = true ∧
    serFieldsOk (busyWith s ringJob) ringJob = true := by decide +kernel

theorem test_meets_CheckUnitsFeedAndRestart :
    let c : Check := { Check.init with cap := 3, ncap := 4 }
    let full : State := setChk 2 { Check.init with busy := List.replicate 8 9#64 } ready
    let s : State := setChk 2 c (sets ready [(F.chkAliveAliveEn 2, 1), (F.chkAliveLastValid 2, 1), (F.chkAliveLast 2, 1)])
    takesWrite ready 2 (R.chkFeed8 2) = true ∧ takesWrite ready 3 (R.chkFeed16 3) = true ∧
    takesWrite ready 0 (R.chkFeed32 0) = true ∧ takesRead ready 2 (R.chkResult 2) = true ∧
    takesWrite ready 2 (R.chkCtl 2) = true ∧ takesWrite ready 2 (R.chkCfg 2) = true ∧
    takesWrite ready 2 (R.chkExpected 2) = true ∧
    (8 ≤ ((chkUnit full 2).busy.filter fun e => decide ((full.passTo 5#64).tbCopy.toNat < e.toNat)).length ∧
      ((chkUnit ready 2).busy.filter fun e => decide ((ready.passTo 5#64).tbCopy.toNat < e.toNat)).length < 8) ∧
    (s.on (F.chkAliveAliveEn 2) = true ∧ 4 ≤ (chkUnit s 2).ncap ∧ s.on (F.chkAliveLastValid 2) = true) ∧
    ((3 + 16 - s.get (F.chkAliveLast 2)) % 16 = 2 ∧ max 1 (s.get (F.chkAliveAliveDelta 2)) < 2) ∧
    (3 + 16 - (s.put (F.chkAliveLast 2) 3).get (F.chkAliveLast 2)) % 16 = 0 ∧
    ready.on (F.chkAliveAliveEn 2) = false := by decide +kernel

/-- Of ExpectedWriteCompares: a matching and another value. -/
theorem test_meets_ExpectedWriteCompares :
    let result := (if ready.on (F.chkCfgRefout 2) = true then reflect (polyOf (ready.get (F.chkCfgPoly 2))).1 (chkUnit ready 2).reg
      else (chkUnit ready 2).reg) ^^^ ((ready.rd (R.chkXorout 2)).toNat % 2 ^ (polyOf (ready.get (F.chkCfgPoly 2))).1)
    takesWrite ready 2 (R.chkExpected 2) = true ∧
    result = ((ready.wrTyped (R.chkExpected 2) (BitVec.ofNat 32 result) 15#4).rd (R.chkExpected 2)).toNat ∧
    result ≠ ((ready.wrTyped (R.chkExpected 2) (BitVec.ofNat 32 (result + 1)) 15#4).rd (R.chkExpected 2)).toNat ∧
    (ready.put (bitFld (R.chkStatus 2) 8) 1).on (bitFld (R.chkStatus 2) 8) = true := by decide +kernel

theorem test_meets_PowerModesAndShares :
    let zxOut (v : Nat) (s : State) : State := sets s [(F.zxStatState 0, v), (F.zxStatState 1, v), (F.zxStatState 2, v)]
    let s : State := { (zxOut 2 ready) with pwr := { ready.pwr with armed := true } }
    let gasp := ready.put F.pwrStatusLastGasp 1
    let auto (s : State) : Bool := s.get F.tnlStatusState != 2 && s.on F.pwrLgCfgLgAuto
    let lost : State := { (ready.put F.tnlStatusState 2) with tnl := { ready.tnl with logicLost := some 5#64 } }
    let r : State := { s with jig := { s.jig with threads := [(0, { runner with wait := .grant 0 (act1 (.txf aTxf) .waiting 1) })] } }
    takesWrite ready 0 R.pwrCmd = true ∧ takesWrite ready 0 R.pwrShare = true ∧ takesWrite ready 0 R.pwrLtrA = true ∧
    takesWrite ready 0 R.pwrLtrB = true ∧ lastGasp ready = false ∧ lastGasp gasp = true ∧
    standby ready = false ∧ standby (ready.put F.pwrStatusStandby 1) = true ∧
    standbyRefused (ready.put F.ringCfgEnable 0) = false ∧ standbyRefused gasp = true ∧ standbyRefused r = true ∧
    (auto s = true ∧ lastGasp s = false ∧ s.pwr.armed = true ∧ mainsOut s = true) ∧
    (auto gasp = true ∧ mainsOut (zxOut 0 gasp) = false) ∧
    (lost.tnl.logicLost = some 5#64 ∧ lost.get F.tnlStatusState = 2 ∧ lost.on F.pwrLgCfgLgAuto = true) ∧
    (bitAt (s.rd R.pwrLgThreads).toNat 0 = false ∧
      (r.thr 0).wait = .grant 0 (act1 (.txf aTxf) .waiting 1)) ∧
    (let w := ((ready.wrTyped R.pwrShare 0x19191919#32 15#4).rd R.pwrShare).toNat
     w % 128 + w / 2 ^ 8 % 128 + w / 2 ^ 16 % 128 + w / 2 ^ 24 % 128 ≤ 100) ∧
    (let w := ((ready.wrTyped R.pwrShare 0x1A191919#32 15#4).rd R.pwrShare).toNat
     100 < w % 128 + w / 2 ^ 8 % 128 + w / 2 ^ 16 % 128 + w / 2 ^ 24 % 128) := by decide +kernel

theorem test_meets_TenonLinkBehaves :
    let f : Flit := ⟨2, 3, true, true, 1, none, false⟩
    let expecting (n naks : Nat) : State := { ready with tnl := { ready.tnl with
      expect := [(0, n)], naks := [(0, naks)], nakSeq := [(0, (n + 7) % 8)], kept := [⟨1, 2, 0#64⟩, ⟨1, 3, 0#64⟩] } }
    let s := slotted .yield (act1 (.txf aTxf) .waiting 1)
    let busy : State := { (ready.put (F.lphyTxstatBusy 1) 1) with line := { ready.line with
      acks := [⟨0x100#64, 0#64, some 1, 3, none, .line 0 0 0 1 0 2 0⟩] } }
    let muted := ready.put F.tnlStatusState 3
    ready.get F.tnlStatusState = 1 ∧ ready.tnl.lineLost = false ∧
    (f.parOk = true ∧ f.ecc.val ≠ 2 ∧ f.ecc.val = 1 ∧ f.lossMsg = false) ∧
    tabGet (fun _ => 0) (expecting 3 0).tnl.expect 0 = f.seq.val ∧ tabGet (fun _ => 0) (expecting 4 0).tnl.expect 0 ≠ f.seq.val ∧
    (let e := expecting 4 15
     tabGet (fun _ => 0) e.tnl.naks 0 = 15 ∧ tabGet (fun _ => 0) e.tnl.nakSeq 0 = (4 + 7) % 8) ∧
    (afterSeq 2 (keptFlits (expecting 3 0) 1 0) = [⟨1, 3, 0#64⟩] ∧
      afterSeq 7 (keptFlits (expecting 3 0) 1 0) = [⟨1, 2, 0#64⟩, ⟨1, 3, 0#64⟩]) ∧
    (∀ k, k < 4 → isPending (s.act 0 k) = true → (s.act 0 k).stage ≠ .closing) ∧
    (isPending (s.act 0 1) = true ∧ airBody (s.act 0 1) = true) ∧
    (busy.on (F.lphyTxstatBusy 1) = true ∧ ready.on (F.lphyTxstatBusy 1) = false ∧
      findIdxFrom (fun a => a.sent == some 1) 0 busy.line.acks = some 0) ∧
    (ready.put F.tnlStatusState 2).get F.tnlStatusState = 2 ∧
    ((ready.put F.tnlStatusState 0).get F.tnlStatusState = 0 ∧ ready.rst.level = .none ∧
      ready.on F.bootStatusLinkDown = false ∧ (ready.put F.bootStatusLinkDown 1).on F.bootStatusLinkDown = true) ∧
    takesWrite ready 0 R.tnlCmd = true ∧ muted.get F.tnlStatusState = 3 ∧ muted.on F.bootStatusLinkDown = false ∧
    (sets ready [(F.ringCfgEnable, 1), (F.optActive0RingAllow, 1)]).on F.ringCfgEnable = true := by decide +kernel

/-! ### Checks of well-formedness refuse -/

def goodRx : LineRx := lineRx0 1
def goodRf : RfRx := { rf0 with length := 20 }

/-- Every check accepts a term and refuses one that breaks it. -/
theorem test_wellFormed_values :
    goodImage.wf = false ∧ ({ goodImage with header := List.replicate 256 0#8 }).wf = true ∧
    det0.wf = true ∧ ({ det0 with fam := 3 }).wf = false ∧ ({ det0 with fam := 1, sf := 6 }).wf = false ∧
    ({ det0 with fam := 1, sf := 13 }).wf = false ∧ ({ det0 with start := 2#64 }).wf = false ∧
    head0.wf = true ∧ ({ head0 with version := 4 }).wf = false ∧ ({ head0 with mode := 32 }).wf = false ∧
    ({ head0 with length := 4096 }).wf = false ∧ ({ head0 with tmapId := 16 }).wf = false ∧
    ({ head0 with phaseCode := 4 }).wf = false ∧
    (RxAddr.mk 0#64 1 1 1).wf = true ∧ (RxAddr.mk 0#64 65536 1 1).wf = false ∧ (RxAddr.mk 0#64 1 65536 1).wf = false ∧
    (RxAddr.mk 0#64 1 1 (2 ^ 64)).wf = false ∧
    goodRx.wf = true ∧ ({ goodRx with dest := 65536 }).wf = false ∧ ({ goodRx with src := 65536 }).wf = false ∧
    ({ goodRx with far := 65536 }).wf = false ∧ ({ goodRx with fc := 2 ^ 32 }).wf = false ∧
    ({ goodRx with payload := List.replicate 2049 0#8 }).wf = false ∧
    ({ goodRx with mic := List.replicate 17 0#8 }).wf = false ∧ ({ goodRx with snr := [] }).wf = false ∧
    ({ goodRx with freqOfs := [] }).wf = false := by decide +kernel

theorem test_wellFormed_frames :
    compat0.wf = true ∧ ({ compat0 with pan := 65536 }).wf = false ∧ ({ compat0 with short := some 65536 }).wf = false ∧
    ({ compat0 with short := none, eui := some (2 ^ 64) }).wf = false ∧ ({ compat0 with src := some 65536 }).wf = false ∧
    ({ compat0 with mode := 8 }).wf = false ∧ ({ compat0 with snr := [] }).wf = false ∧
    ({ compat0 with freqOfs := [] }).wf = false ∧ ({ compat0 with eui := some 1 }).wf = false ∧
    goodRf.wf = true ∧ ({ goodRf with opmode := 0 }).wf = false ∧ ({ goodRf with opmode := 4 }).wf = false ∧
    ({ goodRf with length := 2048 }).wf = false ∧ ({ goodRf with ftype := 16 }).wf = false ∧
    ({ goodRf with secLevel := 8 }).wf = false ∧ ({ goodRf with seq := 256 }).wf = false ∧
    ({ goodRf with dest := 65536 }).wf = false ∧ ({ goodRf with src := 65536 }).wf = false ∧
    ({ goodRf with evt := 65536 }).wf = false ∧ ({ goodRf with fc := 2 ^ 32 }).wf = false ∧
    ({ goodRf with refAt := 7#64 }).wf = false ∧ ({ goodRf with fctlTop := 64 }).wf = false ∧
    ({ goodRf with mic := List.replicate 17 0#8 }).wf = false ∧
    (RingFrame.mk 7 0 0 [] true true).wf = true ∧ (RingFrame.mk 256 0 0 [] true true).wf = false ∧
    (RingFrame.mk 7 256 0 [] true true).wf = false ∧ (RingFrame.mk 7 0 256 [] true true).wf = false ∧
    (RingFrame.mk 7 0 0 (List.replicate 65 0#8) true true).wf = false ∧
    (Flit.mk 5 0 false true 0 (some (0, 8191)) false).wf = true ∧
    (Flit.mk 4 0 false true 0 (some (0, 8191)) false).wf = false ∧
    (Flit.mk 5 0 false true 0 (some (0, 8192)) false).wf = false ∧
    (Flit.mk 5 0 false true 0 (some (6, 256)) false).wf = false ∧
    (EccLoc.bulk 0 (2 ^ 26)).wf = false ∧ (EccLoc.ctx 0 512).wf = false ∧ (EccLoc.imem 0 8192).wf = false ∧
    (EccLoc.dmem 0 16384).wf = false ∧ EccLoc.other.wf = true ∧
    (NandRead.mk 0 none (some 2048) none).wf = false ∧ (NandRead.mk 0 none none (some 2048)).wf = false ∧
    (NandRead.mk 0 none none none).wf = true := by decide +kernel

/-- A command with an operand outside its range is refused; the first entry of each pair is accepted. -/
theorem test_wellFormed_commands :
    let r : NandRead := ⟨0, none, none, none⟩
    let seen : AckSeen := ⟨none, 0, 0, 0, 0, false, false⟩
    let part : NandPart := ⟨16384, 2080, true, true, 30, 80, true, some 3000, 16 * 10 ^ 9, 15#4, 15#4, 40⟩
    ([(.keeperRomBoot ⟨none, none⟩ false, .keeperRomBoot ⟨some goodImage, none⟩ false),
      (.keeperRomBoot ⟨none, none⟩ true, .keeperRomBoot ⟨none, some goodImage⟩ false),
      (.flashTimeout none, .flashTimeout (some goodImage)), (.qspiRead 0 ⟨0#8, 0#32⟩ 1, .qspiRead 0 ⟨0#8, 0#32⟩ 0),
      (.qspiWrite 0 ⟨0#8, 0#32⟩ [0#8], .qspiWrite 0 ⟨0#8, 0#32⟩ []),
      (.registerWrite 0 .ctl 4 0#32 15#4, .registerWrite 0 .ctl 5 0#32 15#4),
      (.registerWrite 0 .ctl 8 0#32 15#4, .registerWrite 0 .ctl (2 ^ 26) 0#32 15#4),
      (.ownershipWrite 0 4 0#32 15#4, .ownershipWrite 0 6 0#32 15#4),
      (.ownershipWrite 0 8 0#32 15#4, .ownershipWrite 0 (2 ^ 23) 0#32 15#4),
      (.queuePop 0 0 2 2, .queuePop 0 0 2 1), (.preambleDetection 0 det0, .preambleDetection 0 { det0 with fam := 3 }),
      (.agcIntervalEnd 0 0#64 (List.replicate 256 0#16), .agcIntervalEnd 0 0#64 []),
      (.frameEnd 0 0 goodRx, .frameEnd 0 2 goodRx), (.frameEnd 0 1 goodRx, .frameEnd 0 0 { goodRx with snr := [] }),
      (.compatFrameRx 0 compat0, .compatFrameRx 0 { compat0 with mode := 8 })] : List (Instr × Instr)).all
      (fun p => p.1.wf && !p.2.wf) = true ∧
    ([(.headerCheck 0 0 0#64 (some head0) [none] [], .headerCheck 0 0 0#64 (some { head0 with mode := 32 }) [] []),
      (.headerCheck 0 0 0#64 none [] [some ⟨0#64, 0, 0, 0⟩], .headerCheck 0 0 0#64 none (List.replicate 7 none) []),
      (.headerCheck 0 0 0#64 none [] [none], .headerCheck 0 0 0#64 none [some { head0 with mode := 32 }] []),
      (.headerCheck 0 0 0#64 none [] [], .headerCheck 0 0 0#64 none [] (List.replicate 7 none)),
      (.headerCheck 1 0 0#64 none [] [], .headerCheck 0 0 0#64 none [] [some ⟨0#64, 65536, 0, 0⟩]),
      (.ackRx 0 0 seen 0 0#64 0#64 0#64, .ackRx 0 0 { seen with seq := 256 } 0 0#64 0#64 0#64),
      (.ackRx 1 0 seen 7 0#64 0#64 0#64, .ackRx 0 0 seen 8 0#64 0#64 0#64),
      (.ackRx 2 0 seen 0 0#64 0#64 0#64, .ackRx 0 0 { seen with ftype := 16 } 0 0#64 0#64 0#64),
      (.mainsCrossing 0 0#64 0#64 1 [], .mainsCrossing 0 0#64 0#64 0 []), (.rfFrameRx goodRf, .rfFrameRx { goodRf with opmode := 0 }),
      (.sfdDetected ⟨0, 1, false, false, 0#64, 0#64⟩, .sfdDetected ⟨0, 4, false, false, 0#64, 0#64⟩),
      (.sfdDetected ⟨0, 3, false, false, 0#64, 0#64⟩, .sfdDetected ⟨0, 0, false, false, 0#64, 0#64⟩),
      (.connEventAdvance 16383, .connEventAdvance 16384), (.supervisionExpire 0, .supervisionExpire 16384),
      (.contextWriteback 1, .contextWriteback 16384)] : List (Instr × Instr)).all (fun p => p.1.wf && !p.2.wf) = true ∧
    ([(.contextFillDone 0 true r, .contextFillDone 16384 true r), (.contextFillDone 1 true r, .contextFillDone 0 true { r with fault := some 2048 }),
      (.read 0 r, .read 0 { r with uncorr := some 2048 }), (.write 0 r [(0, 0)], .write 0 r [(0, 0), (0, 0)]),
      (.write 0 r [], .write 0 { r with uncorr := some 2048 } []),
      (.storageMount part, .storageMount { part with rawBytes := 2 ^ 48 }),
      (.uartCharRx 0 0#9 0 1#64 1#64, .uartCharRx 0 0#9 0 2#64 1#64), (.uartBreakRx 0 1 0#64, .uartBreakRx 0 0 0#64),
      (.ringFrameRx ⟨7, 0, 0, [], true, true⟩ 0#64, .ringFrameRx ⟨256, 0, 0, [], true, true⟩ 0#64),
      (.flitRx 0 ⟨5, 0, false, true, 0, some (0, 1), false⟩ 0#64, .flitRx 0 ⟨4, 0, false, true, 0, some (0, 1), false⟩ 0#64),
      (.linkSilence 0 (some 4), .linkSilence 0 (some 6)), (.linkSilence 1 none, .linkSilence 0 (some (2 ^ 23))),
      (.eccScrubPass [], .eccScrubPass [⟨0, 0, false, .ctx 0 512⟩])] : List (Instr × Instr)).all
      (fun p => p.1.wf && !p.2.wf) = true := by decide +kernel

/-! ### Words and blocks of the spec's tables -/

/-- R163, R164, R173: words of the time and branch formats, written out from the tables, fields from bit 31 down. -/
theorem test_decode_time_and_branches :
    gDecode 0b011001_0000_0000_00000_1111111111111#32 = some (.call 0x1FFF#13) ∧
    gDecode 0b011010_1110_0011_00000_0000000000000#32 = some (.brr 14#4 3#4) ∧
    gDecode 0b011100_0000_0000_00000_0000000000000#32 = some .ret ∧
    gDecode 0b011100_0001_0000_00000_0000000000000#32 = none ∧
    gDecode 0b100011_10_00_0101_0110_01_1_00000000000#32 = some (.zxw 2#2 5#4 6#4 1#2 true) ∧
    gDecode 0b100101_01_10_0111_0000_11_0_00000000000#32 = some (.tadd 1#2 2#2 7#4 3#2) ∧
    gDecode 0b100111_11_00_0001_0010_00_0_00000000000#32 = some (.tpack 3#2 1#4 2#4) ∧
    gDecode 0b100010_0000_0000_00_0000000000001010#32 = some (.afteri 10#16) ∧
    gDecode 0b010110_0011_0100_00_0000000000010000#32 = some (.tld 3#2 4#4 16#16) ∧
    gDecode 0b101001_00_00_0000_0000_00_0_00000000000#32 = none := by decide +kernel

/-- R175, R182, R184, R189, R193: words of the formats `FA`, `FC`, `FQ` and `FS`. -/
theorem test_decode_actions_contexts_queues :
    gDecode 0b101100_11_1_1_1_0_0010_0011_00_0000000101#32 =
      some (.txf ⟨3#2, true, true, true, 2#4, 3#4, 0#2, 5#10⟩) ∧
    gDecode 0b110110_01_0_0_0_0_0100_0101_00_0000000001#32 =
      some (.cyp ⟨1#2, false, false, false, 4#4, 5#4, 0#2, 1#10⟩) ∧
    gDecode 0b101110_10_0_0_0_0_0000_0000_00_0000000000#32 = some (.cancel 2#2) ∧
    gDecode 0b110001_0011_0100_1_0_0000000_000001100#32 = some (.ldn 3#4 4#4 true false 12#9) ∧
    gDecode 0b110001_0011_0100_1_0_0000000_000001101#32 = none ∧
    gDecode 0b110100_0000_0100_0_1_0000000_000000000#32 = some (.pin 4#4 true) ∧
    gDecode 0b110111_001001_0_0110_0000_00000000010#32 = some (.enq 9#6 false 6#4 0#4 2#11) ∧
    gDecode 0b111000_000000_1_0110_0111_1_1_0101_00000#32 = some (.deq 0#6 true 6#4 7#4 true true 5#4) ∧
    gDecode 0b111001_01_000000000000000000000000#32 = some (.evt 1#2) ∧
    gDecode 0b111101_0000_0000_00_0000000000000111#32 = some (.trap 7#16) ∧
    gDecode 0b111111_00000000000000000000000000#32 = none := by decide +kernel

/-- R437: the check values of the polynomials, over the bytes of "123456789". -/
theorem test_check_values :
    let msg : List Byte := (List.range 9).map fun i => BitVec.ofNat 8 (0x31 + i)
    let run (p init : Nat) (refl : Bool) : Nat :=
      let r := crcBytes (polyOf p).1 (polyOf p).2 refl init msg
      if refl then reflect (polyOf p).1 r else r
    run 0 0 false = 0xF4 ∧ run 1 0xFFFF false = 0x29B1 ∧ run 2 0 true = 0xBB3D ∧ run 3 0xB704CE false = 0x21CF02 ∧
    run 4 0xFFFFFFFF true ^^^ 0xFFFFFFFF = 0xCBF43926 ∧ run 5 0xFFFFFFFF true ^^^ 0xFFFFFFFF = 0xE3069283 ∧
    polyOf 6 = polyOf 0 ∧ polyOf 7 = polyOf 0 := by decide +kernel

/-- R356: the blocks of the reading of meter 0x2A31 with EUI-64 02:4F:43:00:00:00:10:15, `FC` 0x00003E9A, level 6,
`SEQ` 0x47, 48 bytes of payload, as the worked example of 11_cipher.md lays them out. -/
theorem test_frame_blocks :
    let nonce := frameNonce 0x024F430000001015 0x00003E9A 6
    nonce = [0x02#8, 0x4F#8, 0x43#8, 0#8, 0#8, 0#8, 0x10#8, 0x15#8, 0#8, 0#8, 0x3E#8, 0x9A#8, 0x06#8] ∧
    lineAuth 1 6 true 0x47 0x2A31 0x00003E9A = [0xE1#8, 0x47#8, 0x31#8, 0x2A#8, 0x9A#8, 0x3E#8, 0#8, 0#8] ∧
    micLen 6 = 8 ∧ levelEncrypts 6 = true ∧
    ccmB0 8 nonce 48 true = [0x59#8] ++ nonce ++ [0#8, 0x30#8] := by decide +kernel

end Sys2Proof.Tests
end

section
/-!
PROOF. What a register write and a write of staging memory leave, by access type and byte enable (R7 to R9, R102, R103,
R493), and what the commands of the option store do (R83 to R86). The first parts serve other proofs too: states that
differ in registers alone, folds, the key of a register, registers written by their access types alone, bytes of staging
memory.
-/

namespace Sys2Proof.Machine

/-! ### States that differ in registers alone -/

/-- The parts queues, jobs, events, ports, staging memory and outward messages are the whole fabric. -/
theorem Agree.fab {s t : State} (h : Agree [.regs] s t) : t.fab = s.fab := by
  have same (p : Part) (hp : p ∉ [Part.regs]) : samePart p s t := h.part p hp
  obtain ⟨hjobs, hnext, hturn⟩ := same .jobs (by decide)
  obtain ⟨hevts, hmsix, hctl⟩ := same .events (by decide)
  obtain ⟨hports, hbars⟩ := same .ports (by decide)
  obtain ⟨hbulk, hpoison⟩ := same .bulk (by decide)
  exact Eq.mpr (Fabric.mk.injEq ..) ⟨same .queues (by decide), hjobs, hnext, hturn, hevts, hmsix, hctl, hbars, hports,
    hbulk, hpoison, same .out (by decide)⟩

/-- The parts of a state are all of it: where they agree but for the registers, only registers differ. -/
theorem Agree.onlyRegs {s t : State} (h : Agree [.regs] s t) : OnlyRegs s t := by
  have same (p : Part) (hp : p ∉ [Part.regs]) : samePart p s t := h.part p hp
  have hjig : t.jig = s.jig := by
    have hmem : t.jig = { s.jig with threads := t.jig.threads } := same .mem (by decide)
    have hthreads : t.jig.threads = s.jig.threads := same .threads (by decide)
    rw [hmem, hthreads]
  have htnl : t.tnl = s.tnl := by
    have hrest : t.tnl = { s.tnl with events := t.tnl.events, overflow := t.tnl.overflow } := same .tnl (by decide)
    obtain ⟨hevents, hoverflow⟩ := same .held (by decide)
    rw [hrest, hevents, hoverflow]
  exact Eq.mpr (State.mk.injEq ..) ⟨same .pending (by decide), same .free (by decide), rfl, same .time (by decide),
    same .copy (by decide), same .opt (by decide), same .rst (by decide), same .att (by decide), h.fab, hjig,
    same .pwr (by decide), same .ciph (by decide), same .ncp (by decide), same .nand (by decide),
    same .stor (by decide), same .line (by decide), same .radio (by decide), same .plmb (by decide),
    same .ser (by decide), htnl, same .caps (by decide)⟩

theorem KeepsAllRegs.refl (s : State) (l : List Nat) : KeepsAllRegs s s l := fun _ _ => rfl

/-- A write of a listed register keeps the others. -/
theorem KeepsAllRegs.wr {s t : State} {l : List Nat} (h : KeepsAllRegs s t l) {k : Nat} (v : Word) (hk : k ∈ l) :
    KeepsAllRegs s (t.wr k v) l := fun j hj => by
  have hjk : j ≠ k := fun e => hj (e ▸ hk)
  rw [State.rd_wr_ne _ _ _ _ hjk, h j hj]

/-- A write of a field of a listed register keeps the others. -/
theorem KeepsAllRegs.put {s t : State} {l : List Nat} (h : KeepsAllRegs s t l) (f : Fld) (n : Nat) (hf : f.off ∈ l) :
    KeepsAllRegs s (t.put f n) l := h.wr _ hf

/-! ### Folds over an index -/

theorem foldUpto_succ (n : Nat) (f : Nat → State → State) (s : State) :
    foldUpto (n + 1) f s = f n (foldUpto n f s) := by
  simp [foldUpto, List.range_succ]

/-! ### Access types, bit by bit (R7 to R9) -/

/-- A bit belongs to the byte enable of its byte. -/
theorem getLsbD_byteMask (be : BitVec 4) (b : Nat) (hb : b < 32) : (byteMask be).getLsbD b = be.getLsbD (b / 8) := by
  revert be b
  decide

/-- A write, bit by bit, to a row without W1S bits and with no bit of two types: nothing without its byte enable, the
value written where the bit is RW, and zero where it is W1C and written one. -/
theorem getLsbD_writeMerge {r : RegRow} (hw1s : r.w1s = 0) (hone : BitVec.ofNat 32 r.rw &&& BitVec.ofNat 32 r.w1c = 0#32)
    (old v : Word) (be : BitVec 4) (b : Nat) (hb : b < 32) :
    (writeMerge r old v be).getLsbD b =
      if be.getLsbD (b / 8) = false then old.getLsbD b
      else if (BitVec.ofNat 32 r.rw).getLsbD b = true then v.getLsbD b
      else old.getLsbD b && !((BitVec.ofNat 32 r.w1c).getLsbD b && v.getLsbD b) := by
  have hbit : ((BitVec.ofNat 32 r.rw).getLsbD b && (BitVec.ofNat 32 r.w1c).getLsbD b) = false := by
    rw [← BitVec.getLsbD_and, hone, BitVec.getLsbD_zero]
  simp only [writeMerge, hw1s, BitVec.getLsbD_or, BitVec.getLsbD_and, BitVec.getLsbD_not, getLsbD_byteMask be b hb, hb]
  generalize (BitVec.ofNat 32 r.rw).getLsbD b = rw at hbit ⊢
  generalize (BitVec.ofNat 32 r.w1c).getLsbD b = w1c at hbit ⊢
  cases be.getLsbD (b / 8) <;> cases rw <;> simp_all

/-! ### The key of a register (R93, R103, R489) -/

/-- No register stands past the `DBG` block. -/
theorem lt_of_findRow {off : Nat} {x : RegRow × Nat × Nat} (h : findRow off = some x) : off < 0x1B0000 := by
  refine Nat.lt_of_not_le fun hge => ?_
  have hnone : regRowsAt off = [] := by
    unfold regRowsAt
    simp (disch := omega) only [if_neg]
  rw [findRow, hnone] at h
  exact absurd h (by simp [findRowIn])

/-- The key of a drawer's own register leads back to the offset, and so to the same row. -/
theorem viewKey_mod {off : Nat} {x : RegRow × Nat × Nat} (h : findRow off = some x) (d : Nat) :
    viewKey d off % drawerStride = off := by
  have hlt := lt_of_findRow h
  unfold viewKey selfKey drawerStride
  rw [h]
  dsimp only
  split <;> omega

/-- A typed write of a register of the list goes by its row. -/
theorem State.wrTyped_viewKey {off i j : Nat} {r : RegRow} (h : findRow off = some (r, i, j)) (d : Nat) (v : Word)
    (be : BitVec 4) (s : State) : s.wrTyped (viewKey d off) v be = s.wrMerge r (viewKey d off) v be := by
  rw [State.wrTyped, viewKey_mod h, h]

/-! ### Registers that a write changes by their access types alone -/

/-- Bits RW, W1C and W1S of the row at an offset, and whether each drawer has such a register of its own. -/
def rowTypes (off : Nat) : Option (Nat × Nat × Nat × Bool) :=
  (findRow off).map fun x => (x.1.rw, x.1.w1c, x.1.w1s, x.1.filt == .self)

/-- The register at `off` has no meaning of its own for a write: it lies on the logic die, a write that the filter has
taken goes by the access types of its bits, and these are RW where `rw` has ones and W1C where `w1c` has ones; `own` says
that each drawer has such a register of its own. -/
structure PlainReg (off rw w1c : Nat) (own : Bool) : Prop where
  types : rowTypes off = some (rw, w1c, 0, own)
  oneType : BitVec.ofNat 32 rw &&& BitVec.ofNat 32 w1c = 0#32
  logicDie : lineDieReg off = false
  plain : ∀ d v be s, writeTaken d off v be s = plainWrite d off v be s

section
variable {off rw w1c : Nat} {own : Bool}

theorem PlainReg.row (h : PlainReg off rw w1c own) :
    ∃ r i j, findRow off = some (r, i, j) ∧ r.rw = rw ∧ r.w1c = w1c ∧ r.w1s = 0 ∧ (r.filt == .self) = own := by
  obtain ⟨⟨r, i, j⟩, hrow, htypes⟩ := Option.map_eq_some_iff.mp h.types
  simp only [Prod.mk.injEq] at htypes
  exact ⟨r, i, j, hrow, htypes⟩

theorem PlainReg.viewKey_eq (h : PlainReg off rw w1c own) (d : Nat) :
    viewKey d off = if own = true then selfKey d off else off := by
  obtain ⟨r, i, j, hrow, -, -, -, hown⟩ := h.row
  simp only [viewKey, hrow, hown]

/-- A write that the filter takes leaves each bit by its type and its byte enable, and all else unchanged. -/
theorem PlainReg.completes (h : PlainReg off rw w1c own) {s : State} {d : Drawer} (ht : takesWrite s d.val off = true)
    (v : Word) (be : BitVec 4) :
    Completes (.registerWrite d .ctl off v be) s fun t =>
      (∀ b, b < 32 → (t.rd (viewKey d.val off)).getLsbD b =
        if be.getLsbD (b / 8) = false then (s.rd (viewKey d.val off)).getLsbD b
        else if (BitVec.ofNat 32 rw).getLsbD b = true then v.getLsbD b
        else (s.rd (viewKey d.val off)).getLsbD b && !((BitVec.ofNat 32 w1c).getLsbD b && v.getLsbD b)) ∧
      KeepsAllRegs s t [viewKey d.val off] ∧ OnlyRegs s t := by
  obtain ⟨r, i, j, hrow, rfl, rfl, hw1s, -⟩ := h.row
  have hwrite : applyWrite d.val .ctl off v be s = s.wrMerge r (viewKey d.val off) v be := by
    rw [applyWrite, filtered_take ht, h.plain, plainWrite, h.logicDie]
    exact State.wrTyped_viewKey hrow ..
  refine ⟨_, congrArg Host.Outcome.next hwrite, fun b hb => ?_, (KeepsAllRegs.refl s _).wr _ List.mem_cons_self, rfl⟩
  rw [State.wrMerge, State.rd_wr_same, getLsbD_writeMerge hw1s h.oneType _ _ _ _ hb]

end

theorem lineDieReg_eq_false {off : Nat}
    (h : off < 0xE0400 ∨ 0xE0504 < off ∧ off < 0x160000 ∨ 0x170000 ≤ off ∧ off < 0x171000 ∨ 0x171030 < off) :
    lineDieReg off = false := by
  simp only [lineDieReg, Bool.or_eq_false_iff, Bool.and_eq_false_iff, decide_eq_false_iff_not]
  omega

/-! ### Which registers of a block have no meaning of their own for a write -/

section
variable {d off : Nat} {v : Word} {be : BitVec 4} {s : State}

/-- `RST` and `ATT`, but for the commands and the staging words. -/
theorem writeTaken_dev (hlo : 0x10000 ≤ off) (hhi : off < 0x20000) (hcmd : off ≠ R.rstCmd ∧ off ≠ R.bootPush ∧ off ≠ R.attCmd)
    (hopt : off < R.optStage0 ∨ R.optCmd < off) : writeTaken d off v be s = plainWrite d off v be s := by
  obtain ⟨hrst, hpush, hatt⟩ := hcmd
  have hown : ownReg off = false := by
    simp only [ownReg, entryWord, ctxWord', evtOwnWord, R.ownBulk, Bool.or_eq_false_iff, Bool.and_eq_false_iff,
      decide_eq_false_iff_not, beq_eq_false_iff_ne]
    omega
  have hcmd : R.optStage0 < R.optCmd := by decide
  simp only [writeTaken, writeDev, hown, hrst, hpush, hatt, if_pos hhi, if_false, Bool.false_eq_true]
  rw [if_neg (by omega), if_neg (by omega)]

/-- `EVT` past the pending bits. -/
theorem writeTaken_evtCause (hlo : R.evtPend 8 < off) (hhi : off < 0x30000) :
    writeTaken d off v be s = plainWrite d off v be s := by
  simp only [R.evtPend] at hlo
  simp only [writeTaken, writeQue, R.evtPend, R.jigLoadCmd]
  simp (disch := omega) only [if_neg, if_pos]

/-- `QUE`, but for `QUEUE_CFG_n` and `QUEUE_CRED_n`. -/
theorem writeTaken_queue (hlo : 0x30000 ≤ off) (hhi : off < 0x40000) (hcfg : off % 32 ≠ 0) (hcred : off % 32 ≠ 4) :
    writeTaken d off v be s = plainWrite d off v be s := by
  simp only [writeTaken, writeQue, R.evtPend]
  simp (disch := omega) only [if_neg, if_pos]

/-- The threads' registers of `JIG`, but for `JT_CTL_n`. -/
theorem writeTaken_thread (hlo : 0x41000 ≤ off) (hhi : off < 0x80000) (hctl : off % 64 ≠ 0) :
    writeTaken d off v be s = plainWrite d off v be s := by
  simp only [writeTaken, writeQue, R.evtPend, R.jigLoadCmd]
  simp (disch := omega) only [if_neg, if_pos]

/-- `STOR`. -/
theorem writeTaken_stor (hlo : 0x140000 ≤ off) (hhi : off < 0x160000) :
    writeTaken d off v be s = plainWrite d off v be s := by
  have hncp : off ≠ R.ncpCfg := by simp only [R.ncpCfg]; omega
  simp only [writeTaken, writeCiph, R.ciphCfg]
  simp (disch := omega) only [if_neg, if_pos]

/-- The UARTs' registers, but for `UART_CFG_n`, `UART_BAUD_n` and `UART_TXDATA_n`. -/
theorem writeTaken_uart (hlo : 0x170000 ≤ off) (hhi : off < 0x170400)
    (hreg : off % 256 ≠ 0x00 ∧ off % 256 ≠ 0x04 ∧ off % 256 ≠ 0x1C) :
    writeTaken d off v be s = plainWrite d off v be s := by
  obtain ⟨hcfg, hbaud, htx⟩ := hreg
  simp only [writeTaken, writeSer]
  simp (disch := omega) only [if_neg, if_pos]
  unfold writeUart
  simp only

/-- `CHK_INIT_k` and `CHK_XOROUT_k`. -/
theorem writeTaken_chk (hlo : 0x172000 ≤ off) (hhi : off < 0x180000) (hreg : off % 64 = 0x04 ∨ off % 64 = 0x08) :
    writeTaken d off v be s = plainWrite d off v be s := by
  simp only [writeTaken, writeSer, R.ringCfg]
  simp (disch := omega) only [if_neg, if_pos]
  unfold writeChk
  rcases hreg with h | h <;> simp only [h]

end

theorem plainReg_queueWm (n : Fin 64) : PlainReg (R.queueWm n.val) 0x9FFF1FFF 0 false where
  types := by revert n; decide
  oneType := by decide
  logicDie := lineDieReg_eq_false (by simp only [R.queueWm]; omega)
  plain _ _ _ _ := by apply writeTaken_queue <;> simp only [R.queueWm] <;> omega

theorem plainReg_queueStat (n : Fin 64) : PlainReg (R.queueStat n.val) 0 0x1C false where
  types := by revert n; decide
  oneType := by decide
  logicDie := lineDieReg_eq_false (by simp only [R.queueStat]; omega)
  plain _ _ _ _ := by apply writeTaken_queue <;> simp only [R.queueStat] <;> omega

theorem plainReg_jtWdog (n : Fin 32) : PlainReg (R.jtWdog n.val) 0xFFFFFFFF 0 false where
  types := by revert n; decide
  oneType := by decide
  logicDie := lineDieReg_eq_false (by simp only [R.jtWdog]; omega)
  plain _ _ _ _ := by apply writeTaken_thread <;> simp only [R.jtWdog] <;> omega

theorem plainReg_attNonce (n : Fin 8) : PlainReg (R.attNonce n.val) 0xFFFFFFFF 0 true where
  types := by revert n; decide
  oneType := by decide
  logicDie := lineDieReg_eq_false (by simp only [R.attNonce]; omega)
  plain _ _ _ _ := by
    apply writeTaken_dev <;> simp only [R.attNonce, R.rstCmd, R.bootPush, R.attCmd, R.optStage0, R.optCmd] <;> omega

theorem plainReg_uartCause (n : Fin 4) : PlainReg (R.uartCause n.val) 0xFF0000 0xFF false where
  types := by revert n; decide
  oneType := by decide
  logicDie := lineDieReg_eq_false (by simp only [R.uartCause]; omega)
  plain _ _ _ _ := by apply writeTaken_uart <;> simp only [R.uartCause] <;> omega

theorem plainReg_chkInit (n : Fin 4) : PlainReg (R.chkInit n.val) 0xFFFFFFFF 0 false where
  types := by revert n; decide
  oneType := by decide
  logicDie := lineDieReg_eq_false (by simp only [R.chkInit]; omega)
  plain _ _ _ _ := by apply writeTaken_chk <;> simp only [R.chkInit] <;> omega

theorem plainReg_resetCause : PlainReg R.resetCause 0 0xFF1FFFF false where
  types := by decide
  oneType := by decide
  logicDie := by decide
  plain _ _ _ _ := by apply writeTaken_dev <;> decide

theorem plainReg_fabricCause : PlainReg R.fabricCause 0 7 false where
  types := by decide
  oneType := by decide
  logicDie := by decide
  plain _ _ _ _ := by apply writeTaken_evtCause <;> decide

theorem plainReg_storCfg : PlainReg R.storCfg 0x7FFFFF 0 false where
  types := by decide
  oneType := by decide
  logicDie := by decide
  plain _ _ _ _ := by apply writeTaken_stor <;> decide

/-! ### Staging memory, byte by byte (R102) -/

theorem bulkKey_wrBulk (s : State) (d off e a : Nat) (b : Byte) : bulkKey (wrBulk s d off b) e a = bulkKey s e a := rfl

/-- A byte written reads back at every offset with its key; the others are unchanged. -/
theorem rdBulk_wrBulk (s : State) (d off e a : Nat) (b : Byte) :
    rdBulk (wrBulk s d off b) e a = if bulkKey s e a = bulkKey s d off then b else rdBulk s e a := by
  rw [rdBulk, bulkKey_wrBulk, wrBulk, tabGet_tabSet, rdBulk]

/-- Offsets less than the smallest `BULK_SIZE` apart have keys of their own. -/
theorem bulkKey_add_inj {s : State} {d off i j : Nat} (hi : i < 4) (hj : j < 4)
    (h : bulkKey s d (off + i) = bulkKey s d (off + j)) : i = j := by
  have hsize : 4 ≤ bulkSize s d := by
    have hpos := Nat.one_le_two_pow (n := s.get ⟨R.ownBulk, 8 * d + 2, 8 * d⟩)
    simp only [bulkSize]; omega
  have hmod : (off + i) % bulkSize s d = (off + j) % bulkSize s d := Nat.add_left_cancel h
  have hle {i j : Nat} (hi : i < 4) (h : (off + i) % bulkSize s d = (off + j) % bulkSize s d) : i ≤ j := by
    have hsub := Nat.sub_mod_eq_zero_of_mod_eq h
    rw [Nat.add_sub_add_left, Nat.mod_eq_of_lt (by omega)] at hsub
    exact Nat.le_of_sub_eq_zero hsub
  exact Nat.le_antisymm (hle hi hmod) (hle hj hmod.symm)

/-- The first `n` bytes of a word written under byte enables. -/
def wrBulkBytes (n d off : Nat) (v : Word) (be : BitVec 4) (s : State) : State :=
  foldUpto n (fun i s => if be.getLsbD i then wrBulk s d (off + i) (v.extractLsb' (8 * i) 8) else s) s

section
variable (n d off : Nat) (v : Word) (be : BitVec 4) (s : State)

theorem wrBulkBytes_succ : wrBulkBytes (n + 1) d off v be s =
    if be.getLsbD n then wrBulk (wrBulkBytes n d off v be s) d (off + n) (v.extractLsb' (8 * n) 8)
    else wrBulkBytes n d off v be s := foldUpto_succ ..

theorem writeBulk_eq_wrBulkBytes (h : reachesBulk s d = true) : writeBulk d off v be s = wrBulkBytes 4 d off v be s := by
  rw [writeBulk, h, if_neg (by simp), wrBulkBytes]

theorem bulkKey_wrBulkBytes (e a : Nat) : bulkKey (wrBulkBytes n d off v be s) e a = bulkKey s e a :=
  foldUpto_keeps (fun x => bulkKey x e a) _ (fun i x => by split <;> rfl) n s

/-- Bytes whose key is none of those written are unchanged. -/
theorem rdBulk_wrBulkBytes_ne {e a : Nat}
    (h : ∀ i, i < n → be.getLsbD i = true → bulkKey s e a ≠ bulkKey s d (off + i)) :
    rdBulk (wrBulkBytes n d off v be s) e a = rdBulk s e a := by
  induction n with
  | zero => rfl
  | succ n ih =>
    have hrest := ih fun i hi => h i (by omega)
    rw [wrBulkBytes_succ]
    split
    · next hen =>
      rw [rdBulk_wrBulk, bulkKey_wrBulkBytes, bulkKey_wrBulkBytes, if_neg (h n (by omega) hen), hrest]
    · exact hrest

/-- Each of the bytes written reads as the word's byte where it is enabled, and as before where it is not. -/
theorem rdBulk_wrBulkBytes {i : Nat} (hn : n ≤ 4) (hi : i < n) :
    rdBulk (wrBulkBytes n d off v be s) d (off + i) =
      if be.getLsbD i = true then v.extractLsb' (8 * i) 8 else rdBulk s d (off + i) := by
  induction n with
  | zero => omega
  | succ n ih =>
    have hkey (j : Nat) (hj : j < n + 1) (hne : i ≠ j) : bulkKey s d (off + i) ≠ bulkKey s d (off + j) :=
      fun h => hne (bulkKey_add_inj (by omega) (by omega) h)
    rw [wrBulkBytes_succ]
    by_cases hlast : i = n
    · subst hlast
      have hbefore := rdBulk_wrBulkBytes_ne i d off v be s fun j hj _ => hkey j (by omega) (by omega)
      split
      · rw [rdBulk_wrBulk, if_pos rfl]
      · exact hbefore
    · have hbefore := ih (by omega) (by omega)
      split
      · rw [rdBulk_wrBulk, bulkKey_wrBulkBytes, bulkKey_wrBulkBytes, if_neg (hkey n (by omega) hlast), hbefore]
      · exact hbefore

end

/-- A write that reaches staging memory stores its enabled bytes and changes no other byte and nothing else. -/
theorem registerWrite_bulk_completes {s : State} {d : Drawer} (h : reachesBulk s d.val = true) (off : Nat) (v : Word)
    (be : BitVec 4) :
    Completes (.registerWrite d .bulk off v be) s fun t =>
      (∀ i : Fin 4, rdBulk t d.val (off + i.val) =
        if be.getLsbD i.val = true then v.extractLsb' (8 * i.val) 8 else rdBulk s d.val (off + i.val)) ∧
      (∀ (e : Drawer) (a : Nat),
        (∀ i : Fin 4, be.getLsbD i.val = true → bulkKey s e.val a ≠ bulkKey s d.val (off + i.val)) →
        rdBulk t e.val a = rdBulk s e.val a) ∧
      Agree [.bulk] s t := by
  refine ⟨writeBulk d.val off v be s, rfl, ?_, ?_, writeBulk_agree⟩ <;> rw [writeBulk_eq_wrBulkBytes _ _ _ _ _ h]
  · exact fun i => rdBulk_wrBulkBytes 4 _ _ _ _ _ (Nat.le_refl 4) i.isLt
  · exact fun e a hne => rdBulk_wrBulkBytes_ne 4 _ _ _ _ _ fun i hi => hne ⟨i, hi⟩

/-! ### Register writes by access type -/

/-- An offset outside the range of `ATT_NONCE_n` is none of them. -/
theorem own_iff_of_not_nonce {off : Nat} (h : off < R.attNonce 0 ∨ R.attNonce 7 < off) :
    false = true ↔ ∃ n : Fin 8, off = R.attNonce n.val := by
  refine ⟨nofun, fun ⟨n, hn⟩ => ?_⟩
  simp only [R.attNonce] at h hn
  omega

/-- Settles O29: a register of the list is written by its row's access types alone (`PlainReg.completes`), a word of
staging memory byte by byte (`registerWrite_bulk_completes`). That a write of `QUEUE_WM_n` changes nothing else is the
model's choice (assumption 37). -/
theorem registerWritesFollowAccessTypes : Obligations.RegisterWritesFollowAccessTypes := by
  refine ⟨fun s d off rw w1c v be hlist ht => ?_, fun s d off v be h => registerWrite_bulk_completes h off v be⟩
  obtain ⟨a, b, own, rfl, rfl, hplain, hown⟩ : ∃ a b own, rw = BitVec.ofNat 32 a ∧ w1c = BitVec.ofNat 32 b ∧
      PlainReg off a b own ∧ (own = true ↔ ∃ n : Fin 8, off = R.attNonce n.val) := by
    rcases hlist with ⟨n, rfl, rfl, rfl⟩ | ⟨n, rfl, rfl, rfl⟩ | ⟨n, rfl, rfl, rfl⟩ | ⟨n, rfl, rfl, rfl⟩ |
      ⟨n, rfl, rfl, rfl⟩ | ⟨n, rfl, rfl, rfl⟩ | ⟨rfl, rfl, rfl⟩ | ⟨rfl, rfl, rfl⟩ | ⟨rfl, rfl, rfl⟩
    · exact ⟨_, _, _, rfl, rfl, plainReg_queueWm n, own_iff_of_not_nonce (by simp only [R.queueWm, R.attNonce]; omega)⟩
    · exact ⟨_, _, _, rfl, rfl, plainReg_queueStat n, own_iff_of_not_nonce (by simp only [R.queueStat, R.attNonce]; omega)⟩
    · exact ⟨_, _, _, rfl, rfl, plainReg_jtWdog n, own_iff_of_not_nonce (by simp only [R.jtWdog, R.attNonce]; omega)⟩
    · exact ⟨_, _, _, rfl, rfl, plainReg_attNonce n, iff_of_true rfl ⟨n, rfl⟩⟩
    · exact ⟨_, _, _, rfl, rfl, plainReg_uartCause n, own_iff_of_not_nonce (by simp only [R.uartCause, R.attNonce]; omega)⟩
    · exact ⟨_, _, _, rfl, rfl, plainReg_chkInit n, own_iff_of_not_nonce (by simp only [R.chkInit, R.attNonce]; omega)⟩
    · exact ⟨_, _, _, rfl, rfl, plainReg_resetCause, own_iff_of_not_nonce (by decide)⟩
    · exact ⟨_, _, _, rfl, rfl, plainReg_fabricCause, own_iff_of_not_nonce (by decide)⟩
    · exact ⟨_, _, _, rfl, rfl, plainReg_storCfg, own_iff_of_not_nonce (by decide)⟩
  have hkey : viewKey d.val off = if ∃ n : Fin 8, off = R.attNonce n.val then selfKey d.val off else off := by
    simp only [hplain.viewKey_eq, hown]
  dsimp only
  rw [← hkey]
  exact hplain.completes ht v be

/-! ### Commands of the option store that the filter takes (R83) -/

/-- `OPT_CMD` written with every byte enabled goes by its `OP`. -/
theorem optCmdWrite_op (v : Word) (s : State) : optCmdWrite v 15#4 s =
    if v.toNat % 16 = 1 then prepareImage s
    else if v.toNat % 16 = 2 then commitImage (v.toNat / 2 ^ 16) s
    else if v.toNat % 16 = 3 then discardImage s else s := by
  have hv := v.isLt
  have hop : bitsOf v.toNat 3 0 = v.toNat % 16 := by simp only [bitsOf]; omega
  have hconfirm : bitsOf v.toNat 31 16 = v.toNat / 2 ^ 16 := by simp only [bitsOf]; omega
  simp only [optCmdWrite, beMerge_full, hop, hconfirm]
  generalize v.toNat % 16 = op
  split
  · rfl
  · rfl
  · rfl
  · next h1 h2 h3 => rw [if_neg h1, if_neg h2, if_neg h3]

section
variable {d : Drawer} {v : Word} {s : State} (ht : takesWrite s d.val R.optCmd = true)
include ht

theorem optCommand_taken {op : Nat} (hop : v.toNat % 16 = op) : optCommand op d v s = optCmdWrite v 15#4 s := by
  rw [optCommand, if_pos hop, filtered_take ht]

theorem exec_prepare_taken (hop : v.toNat % 16 = 1) : exec (.prepare d v) s = .next (prepareImage s) := by
  change Host.Outcome.next (optCommand 1 d v s) = _
  rw [optCommand_taken ht hop, optCmdWrite_op, if_pos hop]

theorem exec_commit_taken (hop : v.toNat % 16 = 2) :
    exec (.commit d v) s = .next (commitImage (v.toNat / 2 ^ 16) s) := by
  change Host.Outcome.next (optCommand 2 d v s) = _
  rw [optCommand_taken ht hop, optCmdWrite_op, if_neg (by omega), if_pos hop]

theorem exec_discard_taken (hop : v.toNat % 16 = 3) : exec (.discard d v) s = .next (discardImage s) := by
  change Host.Outcome.next (optCommand 3 d v s) = _
  rw [optCommand_taken ht hop, optCmdWrite_op, if_neg (by omega), if_neg (by omega), if_pos hop]

end

theorem exec_optStageWrite_taken {d : Drawer} {n : Fin 26} {s : State}
    (ht : takesWrite s d.val (R.optStage0 + 4 * n.val) = true) (v : Word) (be : BitVec 4) :
    exec (.optStageWrite d n v be) s = .next (stageWrite n.val v be s) :=
  congrArg Host.Outcome.next (filtered_take ht _)

/-! ### The state of resets and commits replaced -/

/-- The state with another value of the part that holds resets and the commit. -/
def State.withRst (s : State) (r : RstState) : State := { s with rst := r }

@[simp] theorem State.withRst_rst (s : State) (r : RstState) : (s.withRst r).rst = r := rfl
@[simp] theorem State.withRst_opt (s : State) (r : RstState) : (s.withRst r).opt = s.opt := rfl
@[simp] theorem State.rd_withRst (s : State) (r : RstState) (k : Nat) : (s.withRst r).rd k = s.rd k := rfl
@[simp] theorem State.get_withRst (s : State) (r : RstState) (f : Fld) : (s.withRst r).get f = s.get f := rfl

theorem KeepsAllRegs.withRst {s t : State} {l : List Nat} (h : KeepsAllRegs s t l) (r : RstState) :
    KeepsAllRegs s (t.withRst r) l := fun k hk => (State.rd_withRst ..).trans (h k hk)

theorem KeepsAllRegs.drew {s t : State} {l : List Nat} (h : KeepsAllRegs s t l) : KeepsAllRegs s t.drew l :=
  fun k hk => (State.rd_drew ..).trans (h k hk)

/-! ### `OPT_STATUS` -/

/-- A value of `STATE` that its field holds reads back. -/
theorem get_optState_put (s : State) {n : Nat} (hn : n < 8) : (s.put F.optStatusState n).get F.optStatusState = n :=
  (State.get_put_same s _ n (by decide) (by decide)).trans (Nat.mod_eq_of_lt hn)

theorem get_optReason_put (s : State) {n : Nat} (hn : n < 16) : (s.put F.optStatusReason n).get F.optStatusReason = n :=
  (State.get_put_same s _ n (by decide) (by decide)).trans (Nat.mod_eq_of_lt hn)

theorem get_optState_put_reason (s : State) (n : Nat) :
    (s.put F.optStatusReason n).get F.optStatusState = s.get F.optStatusState :=
  State.get_put_disjoint s _ _ n (by decide) (by decide) (by decide) (by decide)

theorem get_optState_put_stageCrc (s : State) (n : Nat) :
    (s.put F.optStatusStageCrc n).get F.optStatusState = s.get F.optStatusState :=
  State.get_put_disjoint s _ _ n (by decide) (by decide) (by decide) (by decide)

/-- Writes of `STATE` keep every register but `OPT_STATUS`. -/
theorem keepsAllRegs_put_optState (s : State) (n : Nat) : KeepsAllRegs s (s.put F.optStatusState n) [R.optStatus] :=
  (KeepsAllRegs.refl s _).put _ _ List.mem_cons_self

/-- A refusal shows `REFUSED` and its reason, and changes nothing else (R83, R84). -/
theorem optRefusal_shows (s : State) {r : Nat} (hr : r < 16) :
    let t := (s.put F.optStatusState 4).put F.optStatusReason r
    t.get F.optStatusState = 4 ∧ t.get F.optStatusReason = r ∧ KeepsAllRegs s t [R.optStatus] ∧ OnlyRegs s t :=
  ⟨(get_optState_put_reason ..).trans (get_optState_put s (by decide)), get_optReason_put _ hr,
    (keepsAllRegs_put_optState s 4).put _ _ List.mem_cons_self, rfl⟩

/-! ### Staging words and `DISCARD` (R83, R86) -/

theorem stageWrite_locked {s : State} (h : s.rst.stageLocked = true) (n : Nat) (v : Word) (be : BitVec 4) :
    stageWrite n v be s = s := by
  rw [stageWrite, if_pos h]

/-- A staging write that takes effect: the word merged, and `IDLE` unless a copy is being written. -/
theorem stageWrite_unlocked {s : State} (h : s.rst.stageLocked = false) (n : Nat) (v : Word) (be : BitVec 4) :
    let key := R.optStage0 + 4 * n
    let t := s.wr key (beMerge (s.rd key) v be)
    stageWrite n v be s = if s.get F.optStatusState = 2 then t else t.put F.optStatusState 0 := by
  rw [stageWrite, if_neg (by simp [h])]

/-- What a staging write shows: `n` is a staging word, so its register is not `OPT_STATUS`. -/
theorem stageWrite_shows {s : State} (h : s.rst.stageLocked = false) {n : Nat} (hn : n < 26) (v : Word) (be : BitVec 4) :
    let key := R.optStage0 + 4 * n
    let t := stageWrite n v be s
    t.rd key = beMerge (s.rd key) v be ∧
    t.get F.optStatusState = (if s.get F.optStatusState = 2 then 2 else 0) ∧
    KeepsAllRegs s t [key, R.optStatus] ∧ OnlyRegs s t := by
  intro key t
  have hne : R.optStatus ≠ key := by simp only [key, R.optStatus, R.optStage0]; omega
  have hkeeps : KeepsAllRegs s (s.wr key (beMerge (s.rd key) v be)) [key, R.optStatus] :=
    (KeepsAllRegs.refl s _).wr _ List.mem_cons_self
  have hstep : t = _ := stageWrite_unlocked h n v be
  refine ⟨?_, ?_, ?_, stageWrite_agree.onlyRegs⟩ <;> rw [hstep] <;> split
  · exact State.rd_wr_same ..
  · exact (State.rd_put_ne _ _ _ _ hne.symm).trans (State.rd_wr_same ..)
  · next hwriting => exact (State.get_wr_ne _ _ _ _ hne).trans hwriting
  · exact get_optState_put _ (by decide)
  · exact hkeeps
  · exact hkeeps.put _ _ (List.mem_cons_of_mem _ List.mem_cons_self)

/-- Registers written one after the other leave the others alone. -/
theorem rd_foldUpto_wr_ne {dst : Nat → Nat} {n k : Nat} (v : Nat → State → Word) (h : ∀ j, j < n → k ≠ dst j) (s : State) :
    (foldUpto n (fun i s => s.wr (dst i) (v i s)) s).rd k = s.rd k := by
  induction n with
  | zero => rfl
  | succ n ih => rw [foldUpto_succ, State.rd_wr_ne _ _ _ _ (h n (by omega)), ih fun j hj => h j (by omega)]

/-- Registers copied one after the other, no source among them: each reads as its source did. -/
theorem rd_foldUpto_copy {src dst : Nat → Nat} {n : Nat} (hsep : ∀ i j, i < n → j < n → src i ≠ dst j)
    (hinj : ∀ i j, i < n → j < n → dst i = dst j → i = j) (s : State) {i : Nat} (hi : i < n) :
    (foldUpto n (fun i s => s.wr (dst i) (s.rd (src i))) s).rd (dst i) = s.rd (src i) := by
  induction n with
  | zero => omega
  | succ n ih =>
    rw [foldUpto_succ]
    by_cases hlast : i = n
    · subst hlast
      rw [State.rd_wr_same, rd_foldUpto_wr_ne _ fun j hj => hsep i j hi (by omega)]
    · have hne : dst i ≠ dst n := fun h => hlast (hinj i n hi (by omega) h)
      rw [State.rd_wr_ne _ _ _ _ hne]
      exact ih (fun i j hi hj => hsep i j (by omega) (by omega)) (fun i j hi hj => hinj i j (by omega) (by omega))
        (by omega)

/-- `DISCARD` gives the staging words the active image's. -/
theorem rd_stageActive (s : State) {i : Nat} (hi : i < 26) :
    (stageActive s).rd (R.optStage0 + 4 * i) = s.rd (R.optActive0 + 4 * i) := by
  refine rd_foldUpto_copy (src := fun i => R.optActive0 + 4 * i) (dst := fun i => R.optStage0 + 4 * i) ?_ ?_ s hi <;>
    simp only [R.optActive0, R.optStage0] <;> omega

theorem discardImage_closed {s : State} (h : optOpen s = false) : discardImage s = s := by
  rw [discardImage, if_pos (by simp [h])]

/-- What `DISCARD` shows. -/
theorem discardImage_shows {s : State} (h : optOpen s = true) :
    let t := discardImage s
    t.get F.optStatusState = 0 ∧ (∀ i, i < 26 → t.rd (R.optStage0 + 4 * i) = s.rd (R.optActive0 + 4 * i)) ∧
    OnlyRegs s t := by
  have hstep : discardImage s = (stageActive s).put F.optStatusState 0 := by rw [discardImage, if_neg (by simp [h])]
  refine ⟨?_, fun i hi => ?_, discardImage_agree.onlyRegs⟩ <;> rw [hstep]
  · exact get_optState_put _ (by decide)
  · have hne : R.optStage0 + 4 * i ≠ R.optStatus := by simp only [R.optStatus, R.optStage0]; omega
    exact (State.rd_put_ne _ _ _ _ hne).trans (rd_stageActive s hi)

/-! ### `PREPARE` (R84) -/

theorem prepareImage_closed {s : State} (h : optOpen s = false) : prepareImage s = s := by
  rw [prepareImage, if_pos (by simp [h])]

theorem ite_le_of_branches {c : Prop} [Decidable c] {a b n : Nat} (ha : a ≤ n) (hb : b ≤ n) :
    (if c then a else b) ≤ n := by split <;> assumption

/-- The reasons of `PREPARE` are numbered up to 9. -/
theorem prepareReason_le (s : State) (l : List Word) : prepareReason s l ≤ 9 := by
  unfold prepareReason
  dsimp only
  iterate 9 refine ite_le_of_branches (by decide) ?_
  exact Nat.zero_le 9

theorem prepareImage_refused {s : State} (h : optOpen s = true) (hr : prepareReason s (stagedWords s) ≠ 0) :
    prepareImage s = (s.put F.optStatusState 4).put F.optStatusReason (prepareReason s (stagedWords s)) := by
  rw [prepareImage, if_neg (by simp [h])]
  exact if_neg hr

/-- `READY` shown with a CRC. -/
def showReady (s : State) (crc : Nat) : State :=
  ((s.put F.optStatusState 1).put F.optStatusReason 0).put F.optStatusStageCrc crc

theorem showReady_state (s : State) (crc : Nat) : (showReady s crc).get F.optStatusState = 1 :=
  ((get_optState_put_stageCrc ..).trans (get_optState_put_reason ..)).trans (get_optState_put s (by decide))

theorem showReady_stageCrc (s : State) (crc : Nat) : (showReady s crc).get F.optStatusStageCrc = crc % 2 ^ 16 :=
  State.get_put_same _ _ _ (by decide) (by decide)

theorem keepsAllRegs_showReady (s : State) (crc : Nat) : KeepsAllRegs s (showReady s crc) [R.optStatus] :=
  ((keepsAllRegs_put_optState s 1).put _ _ List.mem_cons_self).put _ _ List.mem_cons_self

theorem showReady_rst (s : State) (crc : Nat) : (showReady s crc).rst = s.rst := by
  rw [showReady, State.put_rst, State.put_rst, State.put_rst]

/-- A `PREPARE` that no check refuses draws one free value and keeps the image. -/
theorem prepareImage_accepted {s : State} (h : optOpen s = true) (hr : prepareReason s (stagedWords s) = 0) :
    prepareImage s =
      let t := showReady s (Config.optCrc32 (stagedWords s) (commitGen s)).toNat
      t.drew.withRst { t.rst with prepared := ⟨true, commitGen s, stagedWords s⟩ } := by
  have hopen : ¬ ¬ optOpen s = true := by simp [h]
  rw [prepareImage]
  exact (if_neg hopen).trans (if_pos hr)

/-- What a `PREPARE` shows that no check refuses. -/
theorem prepareImage_shows {s : State} (h : optOpen s = true) (hr : prepareReason s (stagedWords s) = 0) :
    let l := stagedWords s
    let t := prepareImage s
    t.get F.optStatusState = 1 ∧ t.get F.optStatusStageCrc = (Config.optCrc32 l (commitGen s)).toNat % 2 ^ 16 ∧
    t.rst = { s.rst with prepared := ⟨true, commitGen s, l⟩ } ∧ KeepsAllRegs s t [R.optStatus] ∧
    Agree [.free, .regs, .rst] s t := by
  refine ⟨?_, ?_, ?_, ?_, prepareImage_agree⟩ <;> rw [prepareImage_accepted h hr]
  · rw [State.get_withRst, State.get_drew, showReady_state]
  · rw [State.get_withRst, State.get_drew, showReady_stageCrc]
  · rw [State.withRst_rst, showReady_rst]
  · exact KeepsAllRegs.withRst (KeepsAllRegs.drew (keepsAllRegs_showReady _ _)) _

/-! ### `COMMIT` and the writing of the copies (R85) -/

theorem commitImage_writing {s : State} (h : s.get F.optStatusState = 2) (confirm : Nat) : commitImage confirm s = s := by
  rw [commitImage, if_pos h]

theorem commitImage_confirmed {s : State} {confirm : Nat} (h : s.get F.optStatusState = 1)
    (hc : confirm = s.get F.optStatusStageCrc) :
    commitImage confirm s =
      (s.put F.optStatusState 2).withRst { s.rst with commitFirst := firstCopy s.opt } := by
  rw [commitImage, if_neg (by omega), if_pos ⟨h, hc⟩]
  rfl

theorem commitImage_refused {s : State} {confirm : Nat} (hw : s.get F.optStatusState ≠ 2)
    (h : s.get F.optStatusState ≠ 1 ∨ confirm ≠ s.get F.optStatusStageCrc) :
    commitImage confirm s = (s.put F.optStatusState 4).put F.optStatusReason 10 := by
  rw [commitImage, if_neg hw, if_neg fun ⟨hready, hc⟩ => h.elim (· hready) (· hc)]

/-- The copies are 0 and any other number. -/
theorem optCopy_setCopy (k j : Nat) (c : OptCopy) (o : OptStore) :
    optCopy (setCopy k c o) j = if k = 0 ↔ j = 0 then c else optCopy o j := by
  by_cases hk : k = 0 <;> by_cases hj : j = 0 <;> simp [optCopy, setCopy, hk, hj]

theorem setCopy_mfgRow (k : Nat) (c : OptCopy) (o : OptStore) : (setCopy k c o).mfgRow = o.mfgRow := by
  unfold setCopy
  split <;> rfl

theorem exec_commitWriteDone {s : State} (h : s.get F.optStatusState = 2) (first second : Bool) :
    exec (.commitWriteDone first second) s = .next (commitEnd first second s) :=
  (if_pos h : execCommitWriteDone first second s = _)

section
variable {s : State} (ha : s.rst.commitFirst < 2)
include ha

/-- Both copies good: `DONE`, the staging words locked, the image in both. -/
theorem commitEnd_good :
    let t := commitEnd true true s
    t.get F.optStatusState = 3 ∧ t.rst.stageLocked = true ∧ optCopy t.opt 0 = s.rst.prepared ∧
    optCopy t.opt 1 = s.rst.prepared ∧ KeepsAllRegs s t [R.optStatus] ∧ t.opt.mfgRow = s.opt.mfgRow := by
  have hopt : (commitEnd true true s).opt = setCopy (1 - s.rst.commitFirst) s.rst.prepared
    (setCopy s.rst.commitFirst s.rst.prepared s.opt) := rfl
  have hboth (k : Nat) : optCopy (commitEnd true true s).opt k = s.rst.prepared := by
    rw [hopt, optCopy_setCopy, optCopy_setCopy]
    by_cases hk : 1 - s.rst.commitFirst = 0 ↔ k = 0
    · rw [if_pos hk]
    · rw [if_neg hk, if_pos (by omega)]
  exact ⟨get_optState_put s (by decide), rfl, hboth 0, hboth 1, keepsAllRegs_put_optState s 3,
    (setCopy_mfgRow ..).trans (setCopy_mfgRow ..)⟩

/-- The first copy bad: `WRITE_FAIL`, and the other as it was. -/
theorem commitEnd_firstBad (second : Bool) :
    let a := s.rst.commitFirst
    let t := commitEnd false second s
    t.get F.optStatusState = 5 ∧ (optCopy t.opt a).valid = false ∧ optCopy t.opt (1 - a) = optCopy s.opt (1 - a) ∧
    KeepsAllRegs s t [R.optStatus] := by
  have hopt : (commitEnd false second s).opt = setCopy s.rst.commitFirst { s.rst.prepared with valid := false } s.opt := rfl
  refine ⟨get_optState_put s (by decide), ?_, ?_, keepsAllRegs_put_optState s 5⟩ <;> rw [hopt, optCopy_setCopy]
  · rw [if_pos Iff.rfl]
  · rw [if_neg (by omega)]

/-- The second copy bad: `WRITE_FAIL`, and the first written. -/
theorem commitEnd_secondBad :
    let a := s.rst.commitFirst
    let t := commitEnd true false s
    t.get F.optStatusState = 5 ∧ optCopy t.opt a = s.rst.prepared ∧ (optCopy t.opt (1 - a)).valid = false ∧
    KeepsAllRegs s t [R.optStatus] := by
  have hopt : (commitEnd true false s).opt = setCopy (1 - s.rst.commitFirst) { s.rst.prepared with valid := false }
    (setCopy s.rst.commitFirst s.rst.prepared s.opt) := rfl
  refine ⟨get_optState_put s (by decide), ?_, ?_, keepsAllRegs_put_optState s 5⟩ <;> rw [hopt, optCopy_setCopy]
  · rw [if_neg (by omega), optCopy_setCopy, if_pos Iff.rfl]
  · rw [if_pos Iff.rfl]

end

/-! ### The commit of the option store -/

/-- Settles O11, clause by clause: what each of the four commands shows when it takes effect, and that it changes
nothing when it does not; then the three ends of a commit. What commands and staging writes do while a copy is being
written and after `DONE` is the model's choice (assumption 23). -/
theorem optionStoreCommitsCopyByCopy : Obligations.OptionStoreCommitsCopyByCopy := by
  intro s d v be n
  refine ⟨fun ht => ⟨fun hl => ?_, fun hl => ?_⟩, fun ⟨ht, hop⟩ ho => ⟨fun hr => ?_, fun hr => ?_⟩, fun ⟨ht, hop⟩ ho => ?_,
    fun ⟨ht, hop⟩ hw => ?_, fun ⟨ht, hop⟩ hw => ⟨fun h hc => ?_, fun h => ?_⟩, fun hw ha => ⟨?_, fun b => ?_, ?_⟩,
    fun ⟨ht, hop⟩ ho => ?_, fun ⟨ht, hop⟩ ho => ?_⟩
  · exact ⟨_, exec_optStageWrite_taken ht v be, stageWrite_shows hl n.isLt v be⟩
  · exact ⟨_, exec_optStageWrite_taken ht v be, stageWrite_locked hl n v be⟩
  · exact ⟨_, exec_prepare_taken ht hop, prepareImage_shows ho hr⟩
  · exact ⟨_, (exec_prepare_taken ht hop).trans (by rw [prepareImage_refused ho hr]),
      optRefusal_shows s ((Nat.lt_of_le_of_lt (prepareReason_le ..) (by decide : 9 < 16)))⟩
  · exact ⟨_, exec_prepare_taken ht hop, prepareImage_closed ho⟩
  · exact ⟨_, exec_commit_taken ht hop, commitImage_writing hw _⟩
  · exact ⟨_, (exec_commit_taken ht hop).trans (by rw [commitImage_confirmed h hc]),
      (State.get_withRst ..).trans (get_optState_put s (by decide)), rfl, (keepsAllRegs_put_optState s 2).withRst _, rfl⟩
  · exact ⟨_, (exec_commit_taken ht hop).trans (by rw [commitImage_refused hw h]), optRefusal_shows s (by decide)⟩
  · exact ⟨_, exec_commitWriteDone hw true true, commitEnd_good ha⟩
  · exact ⟨_, exec_commitWriteDone hw false b, commitEnd_firstBad ha b⟩
  · exact ⟨_, exec_commitWriteDone hw true false, commitEnd_secondBad ha⟩
  · exact ⟨_, exec_discard_taken ht hop, discardImage_shows ho⟩
  · exact ⟨_, exec_discard_taken ht hop, discardImage_closed ho⟩

end Sys2Proof.Machine
end
